-- ==== Sys2Proof/Word.lean ====
section
/-! DEFINITION. The words the spec treats as bits: octets, 16-byte blocks of a frame (R147),
lane identifiers and marker copies (R91), and the plain range types that number the parts of the
solid (R13, R18, R27). -/

namespace Sys2Proof

/-- An octet. -/
abbrev Byte := BitVec 8

/-- A 16-byte block of a Lamier frame (R147). -/
abbrev Block := BitVec 128

/-- One 256-bit copy of a lane marker (R91). -/
abbrev MarkerCopy := BitVec 256

/-- Ports 0 to 2,047 (R13). -/
abbrev Port := Fin 2048
/-- Facets 0 to 7. -/
abbrev Facet := Fin 8
/-- Vertices 0 to 127. -/
abbrev Vertex := Fin 128
/-- Voltage islands, facet x 8 + island code (R42). -/
abbrev Island := Fin 64
/-- Rings, lane x 2 + side (R85). -/
abbrev Ring := Fin 16384
/-- Lanes, port x 4 + lane-in-port (R13). -/
abbrev Lane := Fin 8192
/-- Lanes of one port. -/
abbrev PortLane := Fin 4
/-- Feed positions, FAU x 4 + position (R83). -/
abbrev Feed := Fin 64
/-- Light source modules (R86). -/
abbrev Cls := Fin 16
/-- Duplex pairs, FAU x 16 + pair (R87). -/
abbrev Pair := Fin 256
/-- Chords (R144). -/
abbrev Chord := Fin 512
/-- Route groups (R209). -/
abbrev Group := Fin 4096
/-- Team contexts (R297). -/
abbrev Team := Fin 16384
/-- Chunk slots of a team (R325). -/
abbrev Slot := Fin 1024
/-- Harness engines, 40f + e (R381). -/
abbrev Engine := Fin 320
/-- Egress queues, port x 72 + VL x 8 + TC (R244). -/
abbrev Queue := Fin 147456
/-- Counter banks, facet x 26 + local index (R447). -/
abbrev Bank := Fin 208

/-- A configured flag that stands for a boolean. -/
def boolBit (b : Bool) : Nat := if b then 1 else 0

end Sys2Proof
end

