-- ==== Sys2Proof/Syntax.lean ====
section
/-! DEFINITION. The commands of the block: one constructor per row of spec/opcode_table.json, with
what each brings from outside. A row names no operands of its own (its "fields" are empty), so the
operands are the model's: the instance the step concerns, and every reading or value that reaches
the part from outside it (log entry 6). A timer's row is the moment the timer falls due. -/

namespace Sys2Proof

/-- The 10-bit symbols that have arrived on each of a port's four lanes since the last flit was taken (R90). -/
abbrev LaneSymbols := List (List (BitVec 10))

/-- A slot of a port's transmitter, and whether a word of the frame it is sending fails its ECC as it is read (R217). -/
abbrev SlotRead := Port × Bool

/-- A strand of a chord and whether it is the drop ring that did not settle, or the add ring (R131). -/
abbrev StrandEnd := Fin 2 × Bool

/-- Frames of a segment whose words failed their ECC, and how many words were corrected (R229). -/
abbrev SegmentRead := List Nat × Nat

/-- A frame, and what fails its ECC as it is read: 0 nothing, 1 its cells, 2 its slot block (R363). -/
abbrev TraceRead := Nat × Fin 3

/-- A slot whose block is read from HBM, and how many words were corrected (R363). -/
abbrev BlockRead := Slot × Nat

/-- A facet whose result sender reads a block, and whether a word of it fails its ECC (R363). -/
abbrev SenderRead := Facet × Bool

/-- A facet whose yoke issues a pass, the frame whose cells fail their ECC (0: none), and whether the pass's first block
does (R363). -/
abbrev PassRead := Facet × Nat × Bool

/-- A management-port packet as the port's IPv6 layer reads it: a datagram, a neighbor solicitation, an echo request, or
anything else (R516). -/
inductive MgmtPacket where
  | udp (dst : Nat) (src : Nat) (srcPort : Nat) (dstPort : Nat) (fragment : Bool)
      (checksumGood : Bool) (payload : List Byte)
  | neighborSolicitation (src : Nat) (target : Nat)
  | echoRequest (dst : Nat) (src : Nat) (payload : List Byte)
  | other
deriving DecidableEq, Repr

/-- A change mirrored by the twin peer (R417). -/
inductive TwinMessage where
  | hello (serial : Nat)
  | teamField (team : Team) (el : Nat) (value : Nat)
  | teamState (team : Team) (state lastGen : Nat)
  | member (entry : Nat) (el : Nat) (value : Nat)
  | chunk (team : Team) (slot : Slot) (state chunk outState outChunk : Nat)
  | epoch (number : Nat) (rootSerial : Nat) (rootPrio : Nat)
  | swap (activeEpoch : Nat) (digestHi digestLo : Nat) (swapState : Nat)
  | failover (index : Fin 64) (state : Nat)
  | complete
deriving DecidableEq, Repr

/-- The commands. -/
inductive Instr where
  -- The Solid
  | paceWindowEnd (island : Island) (hsr : BitVec 16)
  | timebaseRealign (counters : List Nat)
  | refLoss (ref : Fin 4)
  | refPrimaryWrite (ref : BitVec 8)
  | poolRetuneDone (facet : Facet) (group : Fin 5)
  | latticeRequest (frame : Nat)
  | latticeGrant (frame : Nat)
  | latticeReceive (frame : Nat)
  | facetOutOfService (facet : Facet)
  | vertexOutOfService (vertex : Vertex)
  -- Light, Lanes and Feeds
  | ringCountStart (ring : Ring)
  | ringLineReached (ring : Ring) (heater : BitVec 16)
  | ringHeaterFull (ring : Ring)
  | ringLockError (ring : Ring) (err : BitVec 16)
  | busLightLost (ring : Ring)
  | holdLightBack (ring : Ring) (reacquired : Bool)
  | holdTimeout (ring : Ring)
  | marginMeasure (lane : Lane) (margin : BitVec 16)
  | laneIdMismatch (ring : Ring) (usedSlot : Fin 32)
  | relockDone (ring : Ring) (heater : BitVec 16) (idSlot : Fin 32)
  | relockTimeout (ring : Ring)
  | clsPoll (cls : Cls) (id : BitVec 32) (status : BitVec 8) (temp : BitVec 16) (lines : List Int)
  | clsAnswerTimeout (cls : Cls)
  | feedMonitorSample (feed : Feed) (input : Fin 2) (total : Int) (lines : List Int)
  | feedWindowEval (feed : Feed) (input : Fin 2) (rows : List (List Int))
  | migrate (feed : Feed)
  | commissionA (feed : Feed)
  | commissionB (feed : Feed)
  | migrationStandbyChecked (feed : Feed)
  | migrationPartnersAcked (feed : Feed)
  | migrationAckLimit (feed : Feed)
  | migrationDrained (feed : Feed)
  | migrationDrainLimit (feed : Feed)
  | migrationTxLocked (feed : Feed)
  | migrationPortsUp (feed : Feed)
  | clsFaultAssert (cls : Cls)
  | clsEnable (cls : Cls)
  | clsDisable (cls : Cls)
  | clsRiseCheck (cls : Cls) (shortfalls : List Int)
  | lossOfLight (pair : Pair) (dbm : Int)
  | probeTimer (pair : Pair)
  | partnerLightSeen (pair : Pair) (dbm : Int)
  | darkLimitExpired (pair : Pair)
  | opticalStart
  | clsStaggerTimer
  -- Links
  | linkTrainStart (port : Port)
  | markerSend (port : Port)
  | markerReceived (port : Port) (lane : PortLane) (copies : List MarkerCopy)
  | trainAlignDone (port : Port) (laneOk : BitVec 4)
  | trainTimeout (port : Port)
  | trainRetryTimer (port : Port)
  | flitSlot (slot : SlotRead)
  | dataFlitReceived (port : Port) (lanes : LaneSymbols)
  | retryWaitTimer (port : Port)
  | ackTimeout (port : Port)
  | uncorrectableWindow (port : Port) (codewords : Nat)
  | controlFlitReceived (port : Port) (lanes : LaneSymbols)
  | keepaliveTimer (port : Port)
  | kaLost (port : Port)
  | laneExclude (port : Port) (lane : PortLane) (cause : Fin 3)
  | laneRestore (port : Port) (lane : PortLane)
  | sleepIdleTimer (port : Port)
  | settleWindowClose (port : Port)
  | wakeModulationDetected (port : Port)
  | wakeRetrainDone (port : Port)
  | wakeTimeout (port : Port)
  | sleepMaxTimer (port : Port)
  | portDown (port : Port) (reason : Fin 16)
  | adminDown (port : Port)
  | adminUp (port : Port)
  -- Chords
  | chordPendingReady (chord : Chord)
  | chordRingsLocked (chord : Chord) (powerAB powerBA : BitVec 16)
  | chordSettleTimeout (chord : Chord) (strand : StrandEnd)
  | chordAddClear (chord : Chord)
  | chordLocalLocked (chord : Chord)
  | chordFillEnter (chord : Chord) (strand : Fin 2)
  | chordFillExit (chord : Chord) (strand : Fin 2)
  -- Lamier Frames and Forwarding
  | frameHeaderReceived (port : Port)
  | frameBlock1Received (port : Port)
  | frameTailReceived (port : Port)
  | learnInsertion (facet : Facet)
  | learnSweep (entry : Fin 262144)
  | depthPublish (facet : Facet)
  | repinWindowEnd (group : Group) (slot : Fin 256)
  | pinRestoreIdle (group : Group) (slot : Fin 256)
  | holdSet (group : Group)
  | holdClear (group : Group)
  -- Shared Buffers
  | admitRequest (frame : Nat)
  | admissionRetry (facet : Facet)
  | quotaNotifyTimer (frame : Nat)
  | segmentWriteDone (facet : Facet) (segment : Nat)
  | prefetchIssue (queue : Queue)
  | prefetchDone (queue : Queue) (segment : Nat) (read : SegmentRead)
  | hbmCgOut (facet : Facet) (cg : Fin 2)
  | pfStallTimer (queue : Queue)
  | residenceSweep (facet : Facet)
  -- Scheduling, Flow control
  | schedPick (port : Port) (eccBad : Bool)
  | frameTxDone (port : Port)
  | wheelSlotDue (facet : Facet)
  | shaperSwapRefill (queue : Queue)
  | ctrlHeld (port : Port)
  | notifyToken (facet : Facet)
  | stallAlertTimer (port : Port) (vl : Fin 8)
  -- Teams
  | setup (team : Team)
  | retire (team : Team)
  | revise (team : Team)
  | free (team : Team)
  | tracePoolGrant (facet : Facet)
  | traceHomeArrival (frame : TraceRead)
  | chunkTimerExpire (team : Team) (slot : Slot)
  | resultTimerExpire (team : Team) (slot : Slot)
  | resultFromParent (frame : Nat)
  | notifyFromParent (frame : Nat)
  -- Harness and Yoke
  | blockStageDone (team : Team) (slot : BlockRead)
  | blockWriteBackDone (team : Team) (slot : Slot)
  | stintClaim (engine : Engine) (ecc : Fin 3)
  | stintSectionCommit (engine : Engine)
  | resultSenderEmit (facet : SenderRead)
  | stintCheckFail (engine : Engine) (check : Fin 10)
  | suspectDecay (unit : Fin 328)
  | yokePassIssue (facet : PassRead)
  | yokeBandCommit (facet : Facet)
  | yokeBandFail (facet : Facet) (check : Fin 2)
  | engineAdminOut (engine : Engine)
  | engineAdminReturn (engine : Engine)
  | yokeAdminOut (facet : Facet)
  | yokeAdminReturn (facet : Facet)
  -- Epochs, Configuration Sets and Twins
  | epochBoundary
  | epochFrameReceived (frame : Nat)
  | candidateLapse
  | holdElectExpire
  | startingEnd
  | epochInEdge
  | swapArm
  | swapArmComplete
  | swapDisarm
  | swapCopyDone
  | cacheEntryExpire (facet : Facet) (entry : Fin 65536)
  | drainStart (group : Group)
  | echoEmit (facet : Facet)
  | drainEchoReceived (frame : Nat)
  | markTimeout (group : Group)
  | twinMirrorReceived (message : TwinMessage)
  | peerLoss
  -- Tenants, Counters and Telemetry
  | telemetryRequest (frame : Nat)
  | telemetryResponseEmit (facet : Facet)
  | bankClear (bank : Bank)
  | counterProgram (bank : Bank) (counter : Fin 8) (writes : List (Fin 6 × BitVec 16))
  | captureArm (epoch : BitVec 48)
  -- Vet Checks and the Studbook
  | vetRequest (unit : Fin 20480)
  | vetWithdraw (unit : Fin 20480)
  | periodicVetDue (unit : Fin 20480) (overdue : Bool)
  | vetStart (unit : Fin 20480) (scan : Bool) (granted : Bool)
  | vetPointDone (unit : Fin 20480) (passed : Bool) (localised : BitVec 32)
  | vetHeatReached (unit : Fin 20480)
  | vetYieldTimeout (unit : Fin 20480)
  | vetAbortStop (unit : Fin 20480)
  | vetEnd (unit : Fin 20480)
  | vetRetryTimer (unit : Fin 20480)
  | vetRecheckTimer (unit : Fin 20480)
  | packVerify (flashFails : Bool)
  | studbookRecord
  | codeBucketToken (code : BitVec 16)
  | persistProgram
  | studbookClear (key : Fin 2048)
  | alertAck (seq : BitVec 64)
  -- Sirgo Management
  | mgmtPacketReceived (mgmt : Fin 2) (packet : MgmtPacket)
  | getMsg
  | setMsg
  | getRange
  | bulkWrite (flashFails : Bool)
  | bulkRead
  | secretWrite (slot : Fin 2048) (value : BitVec 256) (key : Fin 2048) (counter : BitVec 64)
  | pubkeyWrite (slot : Fin 4) (value : BitVec 776)
  | signkeyRevoke (slot : Fin 4)
  | verify
  | activate
  | confirm
  | restart
  | cancel
  | confirmTimeout
  | groomStart
  | bootsetSave
  | bootsetErase
  | mgmtLinkChange (mgmt : Fin 2) (up : Bool)
  -- Power, Cooling and Bring-Up
  | arbGrantPeriod (demands : List Nat) (inputW lossW : BitVec 16)
  | tempSample (sensor : Fin 89) (temp : BitVec 16)
  | throttleStep (facet : Facet)
  | thermalTrip (sensor : Fin 89) (temp : BitVec 16)
  | groomCooled
  | pwrgdInFall
  | vauxLoss
  | vauxApplied (straps : BitVec 3)
  | resetNFall
  | solidResetCommand
  | effectiveRelease
  | railsInRegulation
  | selfTestDone (failed : BitVec 8)
  | hbmTrainingDone (failed : BitVec 8)
  | bootReady
  | supplyOutOfRange (aux : Bool) (mv : BitVec 16)
  -- Package
  | bmiRead (pointer : BitVec 8) (count : Nat)
  | bmiImageRefresh
  | bmiLineHeldLow (scl : Bool)
  | bypass
  | idcode
  | samplePreload (cells : BitVec 128)
  | extest
  | registerWrite (obj : BitVec 16) (inst : BitVec 24) (el : BitVec 8) (value : Nat)
  | refReappear (ref : Fin 4)
  | probeEnd (pair : Pair)
  | epochOutPulseEnd
  | supplyInRange (aux : Bool) (mv : BitVec 16)
  | clsFltNDeassert (cls : Cls)
  | vetDrainDone (unit : Fin 20480)
  | vetDrainLimit (unit : Fin 20480)
  | slotUntrackedEnd (group : Group) (slot : Fin 256)
deriving DecidableEq, Repr

end Sys2Proof
end

