-- ==== Sys2Proof/Decode.lean ====
section
/-! DEFINITION. Commands spelled by words. The table gives no row any bits (every row's "fields" is empty), so no
word spells a command. -/

namespace Sys2Proof

/-- The command that a word spells: none, since no row of spec/opcode_table.json has an encoding (log entry 41). -/
def decodeTableWord (nbits w : Nat) : Option Instr :=
  match nbits, w with
  | _, _ => none

end Sys2Proof
end

