-- ==== Sys2Proof/Machine/Checks.lean ====
section
/-! DEFINITION. Bytes and bits of longer values, and the check and digest functions the spec
names: CRC-16 T10-DIF (R168), CRC-32C (R98), CRC-64 (Reduction Arithmetic), SHA-256 and SHA-384 of
FIPS 180-4 (R407, R475), and HMAC-SHA-256 of RFC 2104 (R514, R520). -/

namespace Sys2Proof.Machine

/-! ## Bytes -/

/-- `n` bytes of a number, most significant first. -/
def bytesBE : Nat → Nat → List Byte
  | 0, _ => []
  | n + 1, x => BitVec.ofNat 8 (x / 2 ^ (8 * n)) :: bytesBE n x

/-- The number a byte string stands for, most significant byte first. -/
def natBE (bs : List Byte) : Nat := bs.foldl (fun acc b => acc * 256 + b.toNat) 0

/-- The low `w` bits of a number from bit `lo` up: the field [lo+w-1:lo]. -/
def field (x lo w : Nat) : Nat := (x / 2 ^ lo) % 2 ^ w

/-- The number with the field [lo+w-1:lo] replaced by the low `w` bits of `v`. -/
def setField (x lo w v : Nat) : Nat :=
  x - field x lo w * 2 ^ lo + (v % 2 ^ w) * 2 ^ lo

/-- Bit `i` of a number. -/
def bit (x i : Nat) : Bool := x.testBit i

/-- Bits of a number set, counted below `n`. -/
def popcount : Nat → Nat → Nat
  | 0, _ => 0
  | n + 1, x => (if x.testBit n then 1 else 0) + popcount n x

/-- A list cut into pieces of `k`, the last one short (fuel is the list's length). -/
def chunks {α : Type} (k : Nat) : Nat → List α → List (List α)
  | 0, _ => []
  | _, [] => []
  | f + 1, xs => xs.take k :: chunks k f (xs.drop k)

/-- An element put before the first one it does not come after. -/
def insertBy {α : Type} (le : α → α → Bool) (x : α) : List α → List α
  | [] => [x]
  | y :: rest => if le x y then x :: y :: rest else y :: insertBy le x rest

/-- A list sorted by an order; equal elements keep their places. -/
def sortBy {α : Type} (le : α → α → Bool) : List α → List α
  | [] => []
  | x :: rest => insertBy le x (sortBy le rest)

/-! ## Check codes -/

/-- One bit of a CRC register of `w` bits, most significant bit first. -/
def crcStep (w poly reg : Nat) (b : Bool) : Nat :=
  let top := reg.testBit (w - 1) != b
  let sh := (reg * 2) % 2 ^ w
  if top then sh ^^^ poly else sh

/-- A CRC over the bits [n-1:0] of `x`, most significant first, without reflection. -/
def crcBits (w poly : Nat) : Nat → Nat → Nat → Nat
  | 0, _, reg => reg
  | n + 1, x, reg => crcBits w poly n x (crcStep w poly reg (x.testBit n))

/-- CRC-16 T10-DIF: polynomial 0x8BB7, initial 0, no reflection, no final XOR (R168). -/
def crc16 (n x : Nat) : Nat := crcBits 16 0x8BB7 n x 0

/-- Bits [n-1:0] reversed. -/
def reverseBits : Nat → Nat → Nat
  | 0, _ => 0
  | n + 1, x => (if x.testBit n then 1 else 0) + 2 * reverseBits n x

/-- A byte into a reflected CRC register. -/
def crcByteR (polyR reg b : Nat) : Nat :=
  let step := fun (r : Nat) => if r.testBit 0 then (r / 2) ^^^ polyR else r / 2
  step (step (step (step (step (step (step (step (reg ^^^ b))))))))

/-- CRC-32C: polynomial 0x1EDC6F41 reflected, initial and final XOR all ones (R98). -/
def crc32c (bs : List Byte) : Nat :=
  (bs.foldl (fun r b => crcByteR 0x82F63B78 r b.toNat) 0xFFFFFFFF) ^^^ 0xFFFFFFFF

/-! ## SHA-2 -/

/-- The first eighty primes: FIPS 180-4 takes every constant of SHA-2 from their roots. -/
def shaPrimes : List Nat :=
  [2, 3, 5, 7, 11, 13, 17, 19, 23, 29, 31, 37, 41, 43, 47, 53, 59, 61, 67, 71] ++
  [73, 79, 83, 89, 97, 101, 103, 107, 109, 113, 127, 131, 137, 139, 149, 151, 157, 163, 167, 173] ++
  [179, 181, 191, 193, 197, 199, 211, 223, 227, 229, 233, 239, 241, 251, 257, 263, 269, 271, 277, 281] ++
  [283, 293, 307, 311, 313, 317, 331, 337, 347, 349, 353, 359, 367, 373, 379, 383, 389, 397, 401, 409]

/-- The `k`-th root of `n` rounded down, found bit by bit below 2^b. -/
def rootBelow (k n : Nat) : Nat → Nat → Nat
  | 0, r => r
  | b + 1, r => rootBelow k n b (if (r + 2 ^ b) ^ k ≤ n then r + 2 ^ b else r)

/-- The first `w` bits of the fraction of a prime's `k`-th root. -/
def rootFraction (k w p : Nat) : BitVec w := BitVec.ofNat w (rootBelow k (p * 2 ^ (k * w)) (w + 5) 0)

/-- Round constants of a variant: cube roots, one for each round. -/
def shaConstants (w rounds : Nat) : List (BitVec w) := (shaPrimes.take rounds).map (rootFraction 3 w)

/-- First chaining value of a variant: square roots of eight primes, SHA-256 from the first on and SHA-384 from the
ninth. -/
def shaStart (w skip : Nat) : List (BitVec w) := ((shaPrimes.drop skip).take 8).map (rootFraction 2 w)

/-- The rotations and shifts of one SHA-2 variant: big sigma 0 and 1, small sigma 0 and 1. -/
structure ShaSigmas where
  b0 : Nat × Nat × Nat
  b1 : Nat × Nat × Nat
  s0 : Nat × Nat × Nat
  s1 : Nat × Nat × Nat
deriving DecidableEq, Repr

def sigmas256 : ShaSigmas := ⟨(2, 13, 22), (6, 11, 25), (7, 18, 3), (17, 19, 10)⟩
def sigmas512 : ShaSigmas := ⟨(28, 34, 39), (14, 18, 41), (1, 8, 7), (19, 61, 6)⟩

def bigSigma {w : Nat} (r : Nat × Nat × Nat) (x : BitVec w) : BitVec w :=
  x.rotateRight r.1 ^^^ x.rotateRight r.2.1 ^^^ x.rotateRight r.2.2

def smallSigma {w : Nat} (r : Nat × Nat × Nat) (x : BitVec w) : BitVec w :=
  x.rotateRight r.1 ^^^ x.rotateRight r.2.1 ^^^ (x >>> r.2.2)

/-- One round on the eight working words, with the sum of round constant and schedule word. -/
def shaRound {w : Nat} (g : ShaSigmas) (v : List (BitVec w)) (kw : BitVec w) : List (BitVec w) :=
  match v with
  | [a, b, c, d, e, f, h, i] =>
    let t1 := i + bigSigma g.b1 e + ((e &&& f) ^^^ (~~~e &&& h)) + kw
    let t2 := bigSigma g.b0 a + ((a &&& b) ^^^ (a &&& c) ^^^ (b &&& c))
    [t1 + t2, a, b, c, d + t1, e, f, h]
  | v => v

/-- The rounds of one block: the last sixteen schedule words are kept, oldest first. -/
def shaRounds {w : Nat} (g : ShaSigmas) :
    List (BitVec w) → List (BitVec w) → List (BitVec w) → List (BitVec w)
  | [], _, v => v
  | k :: ks, win, v =>
    let w0 := win.getD 0 0
    let next := smallSigma g.s1 (win.getD 14 0) + win.getD 9 0 + smallSigma g.s0 (win.getD 1 0) + w0
    shaRounds g ks (win.drop 1 ++ [next]) (shaRound g v (k + w0))

/-- One message block into the chaining value. -/
def shaBlock {w : Nat} (g : ShaSigmas) (ks : List (BitVec w)) (h : List (BitVec w))
    (block : List Byte) : List (BitVec w) :=
  let ws := (chunks (w / 8) 16 block).map (fun b => BitVec.ofNat w (natBE b))
  List.zipWith (· + ·) h (shaRounds g ks ws h)

/-- Padding of FIPS 180-4: one bit, zeros, the bit length in `lenBytes` bytes. -/
def shaPad (blockBytes lenBytes : Nat) (m : List Byte) : List Byte :=
  let n := m.length
  let z := (2 * blockBytes - 1 - lenBytes - n % blockBytes) % blockBytes
  m ++ [0x80#8] ++ List.replicate z 0#8 ++ bytesBE lenBytes (8 * n)

def sha256 (m : List Byte) : List Byte :=
  let p := shaPad 64 8 m
  ((chunks 64 p.length p).foldl (shaBlock sigmas256 (shaConstants 32 64)) (shaStart 32 0)).flatMap
    (fun x => bytesBE 4 x.toNat)

def sha384 (m : List Byte) : List Byte :=
  let p := shaPad 128 16 m
  (((chunks 128 p.length p).foldl (shaBlock sigmas512 (shaConstants 64 80)) (shaStart 64 8)).take 6).flatMap
    (fun x => bytesBE 8 x.toNat)

/-- HMAC-SHA-256 (RFC 2104) under a 32-byte key. -/
def hmacSha256 (key m : List Byte) : List Byte :=
  let k := key ++ List.replicate (64 - key.length) 0#8
  sha256 (k.map (· ^^^ 0x5C#8) ++ sha256 (k.map (· ^^^ 0x36#8) ++ m))

end Sys2Proof.Machine
end

