-- ==== Sys2Proof/Machine/Ecdsa.lean ====
section
/-! DEFINITION. ECDSA P-384 signature verification of FIPS 186-5 (R475, R477, R536), over affine
points with explicit modular inverses. -/

namespace Sys2Proof.Machine

namespace P384

def p : Nat := 2 ^ 384 - 2 ^ 128 - 2 ^ 96 + 2 ^ 32 - 1
def b : Nat :=
  0xb3312fa7e23ee7e4988e056be3f82d19181d9c6efe8141120314088f5013875ac656398d8a2ed19d2a85c8edd3ec2aef
def order : Nat :=
  0xffffffffffffffffffffffffffffffffffffffffffffffffc7634d81f4372ddf581a0db248b0a77aecec196accc52973
def gx : Nat :=
  0xaa87ca22be8b05378eb1c71ef320ad746e1d3b628ba79b9859f741e082542a385502f25dbf55296c3a545e3872760ab7
def gy : Nat :=
  0x3617de4a96262c6f5d9e98bf9292dc29f8f41dbd289a147ce9da3113b5f0b8c00a60b1ce1d7e819d7a431d7c90ea0e5f

/-- A point of the curve; none is the point at infinity. -/
abbrev Point := Option (Nat × Nat)

/-- `x ^ e mod m`, `bits` bits of `e`. -/
def powMod (m x : Nat) : Nat → Nat → Nat
  | 0, _ => 1 % m
  | bits + 1, e =>
    let half := powMod m x bits (e / 2)
    let sq := half * half % m
    if e % 2 = 1 then sq * x % m else sq

/-- Inverse modulo a prime. -/
def inv (m x : Nat) : Nat := powMod m x 384 (m - 2)

def sub (x y : Nat) : Nat := (x + p - y % p) % p

/-- The sum of two points. -/
def add (P Q : Point) : Point :=
  match P, Q with
  | none, Q => Q
  | P, none => P
  | some (x1, y1), some (x2, y2) =>
    if x1 = x2 ∧ (y1 + y2) % p = 0 then none
    else
      let l := if x1 = x2 then sub (3 * x1 * x1) 3 * inv p (2 * y1 % p) % p
        else sub y2 y1 * inv p (sub x2 x1) % p
      let x3 := sub (sub (l * l % p) x1) x2
      some (x3, sub (l * sub x1 x3 % p) y1)

/-- `k` times a point, `bits` bits of `k`. -/
def mul (P : Point) : Nat → Nat → Point
  | 0, _ => none
  | bits + 1, k =>
    let half := mul P bits (k / 2)
    let dbl := add half half
    if k % 2 = 1 then add dbl P else dbl

/-- The point lies on y^2 = x^3 - 3x + b. -/
def onCurve (x y : Nat) : Bool :=
  decide (x < p ∧ y < p) && y * y % p == (sub (x * x % p * x % p) (3 * x) + b) % p

/-- A 97-byte uncompressed key, as a number, holds a point of the curve (R546). -/
def keyPoint (key : Nat) : Point :=
  let x := key / 2 ^ 384 % 2 ^ 384
  let y := key % 2 ^ 384
  if key / 2 ^ 768 = 4 ∧ onCurve x y = true then some (x, y) else none

/-- The signature (r, s) of a 48-byte digest verifies under the key. -/
def verify (key digest r s : Nat) : Bool :=
  match keyPoint key with
  | none => false
  | some q =>
    if r = 0 ∨ s = 0 ∨ order ≤ r ∨ order ≤ s then false
    else
      let w := inv order s
      match add (mul (some (gx, gy)) 384 (digest * w % order)) (mul (some q) 384 (r * w % order)) with
      | none => false
      | some (x, _) => decide (x % order = r)

end P384

end Sys2Proof.Machine
end

