-- ==== Sys2Proof/Machine/Coding.lean ====
section
/-! DEFINITION. The line coding of a port (R90): the self-synchronising scrambler, the RS(544,514) code over 10-bit
symbols with its correction, and the round-robin dealing of symbols to lanes. The field of the code, the roots of its
generator and the order of bits are those of log entry 100. -/

namespace Sys2Proof.Machine

/-! ## The field of 1,024 elements -/

/-- Twice an element, reduced by x^10 + x^3 + 1. -/
def symDouble (a : Nat) : Nat := if 512 ≤ a then (2 * a) ^^^ 0x409 else 2 * a

/-- The product of two elements: the bits of the second, most significant first. -/
def symMul (a b : Nat) : Nat :=
  (List.range 10).foldl (fun acc i => if b.testBit (9 - i) then symDouble acc ^^^ a else symDouble acc) 0

/-- The inverse of an element other than 0, its 1,022nd power: the product of its powers 2, 4, ..., 512. -/
def symInv (a : Nat) : Nat :=
  ((List.range 9).foldl (fun x _ => (symMul x.1 x.1, symMul x.2 (symMul x.1 x.1))) (a, 1)).2

/-- The powers of the primitive element, from the 0th. -/
def symPowers : Nat → Nat → List Nat
  | 0, _ => []
  | n + 1, x => x :: symPowers n (symDouble x)

/-! ## Polynomials, coefficients from the constant term up -/

def polyAt (p : List Nat) (x : Nat) : Nat := p.foldr (fun c acc => symMul acc x ^^^ c) 0

def polyAdd : List Nat → List Nat → List Nat
  | [], q => q
  | p, [] => p
  | a :: p, b :: q => (a ^^^ b) :: polyAdd p q

def polyScale (c : Nat) (p : List Nat) : List Nat := p.map (symMul c)

def polyMul : List Nat → List Nat → List Nat
  | [], _ => []
  | a :: p, q => polyAdd (polyScale a q) (0 :: polyMul p q)

/-! ## RS(544,514) -/

/-- The generator: the product of x - a^j for j from 0 to 29. -/
def rsGenerator : List Nat := (symPowers 30 1).foldl (fun g r => polyMul g [r, 1]) [1]

/-- Symbols as one number, the first the most significant. -/
def packSymbols (xs : List Nat) : Nat := xs.foldl (fun acc x => acc * 1024 + x % 1024) 0

/-- `n` symbols of a number, the most significant first. -/
def unpackSymbols : Nat → Nat → List Nat
  | 0, _ => []
  | n + 1, x => x / 1024 ^ n % 1024 :: unpackSymbols n x

/-- The generator without its leading term, times each power of the primitive element from 9 down to 0, each as a number
of 300 bits. -/
def rsRows : List Nat :=
  let g := (rsGenerator.take 30).reverse
  (symPowers 10 1).reverse.map (fun c => packSymbols (polyScale c g))

/-- A symbol times the generator, by the symbol's bits. -/
def rsTimes : List Nat → Nat → Nat → Nat
  | [], _, _ => 0
  | row :: rows, i, x => (if x.testBit i then row else 0) ^^^ rsTimes rows (i - 1) x

/-- The 30 parity symbols of a message, as a number: the remainder of its division by the generator. -/
def rsParity (msg : List Nat) : Nat :=
  msg.foldl (fun r m => (r * 1024) % 2 ^ 300 ^^^ rsTimes rsRows 9 (m % 1024 ^^^ r / 2 ^ 290)) 0

/-- The codeword of 514 message symbols: the message, then its parity. -/
def rsEncode (msg : List Nat) : List Nat := msg ++ unpackSymbols 30 (rsParity msg)

/-- The 30 syndromes of a received word. -/
def syndromes (word : List Nat) : List Nat :=
  (symPowers 30 1).map (fun a => word.foldl (fun acc c => symMul acc a ^^^ c) 0)

/-- What the search for the error locator holds: the locator, the one before its last change of length, its length, the
steps since that change, and the discrepancy it was made for. -/
structure Locator where
  now : List Nat := [1]
  before : List Nat := [1]
  length : Nat := 0
  gap : Nat := 1
  last : Nat := 1
deriving DecidableEq, Repr

/-- One step of the search (Berlekamp and Massey): `seen` holds the syndromes up to the present one, newest first. -/
def locatorStep (n : Nat) (seen : List Nat) (x : Locator) : Locator :=
  let d := ((x.now.take (x.length + 1)).zip seen).foldl (fun acc e => acc ^^^ symMul e.1 e.2) 0
  let next := polyAdd x.now (List.replicate x.gap 0 ++ polyScale (symMul d (symInv x.last)) x.before)
  if d = 0 then { x with gap := x.gap + 1 }
  else if 2 * x.length ≤ n then ⟨next, x.now, n + 1 - x.length, 1, d⟩
  else { x with now := next, gap := x.gap + 1 }

def findLocator : Nat → List Nat → List Nat → Locator → Locator
  | _, _, [], x => x
  | n, seen, sy :: rest, x => findLocator (n + 1) (sy :: seen) rest (locatorStep n (sy :: seen) x)

/-- The derivative of a polynomial over a field of characteristic 2: its odd terms, one degree down. -/
def polyDerive : List Nat → List Nat
  | [] => []
  | _ :: p => (List.range p.length).map (fun i => if i % 2 = 0 then p.getD i 0 else 0)

/-- The word with every error that the locator finds taken away, and their number (Chien and Forney); degrees run from 543
down. -/
def correctWord (word : List Nat) (loc : List Nat) (sy : List Nat) : List Nat × Nat :=
  let value := (polyMul sy loc).take 30
  let slope := polyDerive loc
  let fix := ((symPowers 544 1).reverse.zip word).map (fun e =>
    let x := symInv e.1
    if polyAt loc x = 0 then (e.2 ^^^ symMul e.1 (symMul (polyAt value x) (symInv (polyAt slope x))), 1) else (e.2, 0))
  (fix.map (fun e => e.1), (fix.map (fun e => e.2)).foldl (· + ·) 0)

/-- The message of a received word and whether the word decoded: it is a codeword, or at most 15 of its symbols are
wrong. An uncorrectable word leaves its message as received. -/
def rsDecode (word : List Nat) : List Nat × Bool :=
  if rsEncode (word.take 514) = word then (word.take 514, true)
  else
    let sy := syndromes word
    let loc := findLocator 0 [] sy {}
    let fixed := correctWord word loc.now sy
    if loc.length ≤ 15 ∧ fixed.2 = loc.length ∧ rsEncode (fixed.1.take 514) = fixed.1 then (fixed.1.take 514, true)
    else (word.take 514, false)

/-! ## The scrambler -/

/-- What the taps x^39 and x^58 give for the next `w` bits, at most 39, of a register of the last 58 scrambled bits. -/
def scrambleTaps (reg w : Nat) : Nat := reg / 2 ^ (58 - w) ^^^ reg / 2 ^ (39 - w) % 2 ^ w

/-- `w` bits, 39 at a time, through the scrambler: the bits that leave and the register. `back` is whether the register
takes the bits that enter, as a descrambler's does. Fuel is the number of steps. -/
def scrambleBits (back : Bool) : Nat → Nat → Nat → Nat → Nat → Nat × Nat
  | 0, _, _, reg, acc => (acc, reg)
  | n + 1, w, x, reg, acc =>
    let k := min w 39
    let b := x / 2 ^ (w - k) % 2 ^ k
    let y := b ^^^ scrambleTaps reg k
    scrambleBits back n (w - k) x ((reg * 2 ^ k + (if back then b else y)) % 2 ^ 58) (acc * 2 ^ k + y)

def scramble (w x reg : Nat) : Nat × Nat := scrambleBits false (w / 39 + 1) w x reg 0
def descramble (w x reg : Nat) : Nat × Nat := scrambleBits true (w / 39 + 1) w x reg 0

/-! ## Dealing -/

/-- Lanes of a set, ascending. -/
def lanesOf (mask : Nat) : List Nat := (List.range 4).filter (fun k => mask.testBit k)

/-- Symbols dealt round-robin to the lanes of a set from its `at_`-th lane on: the symbols of each of the four lanes. -/
def dealSymbols (mask at_ : Nat) (xs : List Nat) : List (List Nat) :=
  let ls := lanesOf mask
  let n := ls.length
  (List.range 4).map (fun k =>
    match ls.findIdx? (fun l => l = k) with
    | none => []
    | some i => (xs.zipIdx.filter (fun e => decide ((at_ + e.2) % n = i))).map (fun e => e.1))

/-- Symbols taken from the lanes in turn while the next lane has one: fuel is the number of symbols that wait. The answer
holds the symbols taken, newest first, the lanes that are left and the next lane's place. -/
def gatherSymbols (ls : List Nat) : Nat → Nat → List (List Nat) → List Nat → List Nat × List (List Nat) × Nat
  | 0, at_, queues, acc => (acc, queues, at_)
  | n + 1, at_, queues, acc =>
    let k := ls.getD at_ 0
    match queues.getD k [] with
    | [] => (acc, queues, at_)
    | x :: rest => gatherSymbols ls n ((at_ + 1) % max 1 ls.length) (queues.set k rest) (x :: acc)

end Sys2Proof.Machine
end

