-- ==== Sys2Proof/Machine/Operands.lean ====
section
/-! DEFINITION. The operand forms of the block: the fields of a Lamier frame's base header, of its
collective extension, of the ETH_ENCAP and mirror descriptors, of drain markers and notices, and the
fields of a flit (Lamier Frames R147 to R181, R98, R411, R286). -/

namespace Sys2Proof.Machine

/-! ## Building fields -/

/-- Fields laid side by side, first the most significant; each keeps its low bits. -/
def joinFields (fs : List (Nat × Nat)) : Nat :=
  fs.foldl (fun acc x => acc * 2 ^ x.1 + x.2 % 2 ^ x.1) 0

/-- Total width of a list of fields. -/
def widthOf (fs : List (Nat × Nat)) : Nat := fs.foldl (fun n x => n + x.1) 0

/-- Nine zeros, one for each virtual lane. -/
def zeros9 : List Nat := [0, 0, 0, 0, 0, 0, 0, 0, 0]

/-! ## The base header (R148) -/

def hdrVer (h : Block) : Nat := field h.toNat 124 4
def hdrKind (h : Block) : Nat := field h.toNat 120 4
def hdrMsg (h : Block) : Nat := field h.toNat 117 3
def hdrDl (h : Block) : Nat := field h.toNat 116 1
def hdrTc (h : Block) : Nat := field h.toNat 113 3
def hdrOrd (h : Block) : Nat := field h.toNat 112 1
def hdrTen (h : Block) : Nat := field h.toNat 102 10
def hdrDst (h : Block) : Nat := field h.toNat 82 20
def hdrSrc (h : Block) : Nat := field h.toNat 62 20
def hdrChan (h : Block) : Nat := field h.toNat 54 8
def hdrSeq (h : Block) : Nat := field h.toNat 38 16
def hdrLen (h : Block) : Nat := field h.toNat 28 10
def hdrHop (h : Block) : Nat := field h.toNat 24 4
def hdrEcn (h : Block) : Nat := field h.toNat 22 2
def hdrPoison (h : Block) : Nat := field h.toNat 21 1
def hdrMirr (h : Block) : Nat := field h.toNat 20 1
def hdrArith (h : Block) : Nat := field h.toNat 19 1
def hdrRepin (h : Block) : Nat := field h.toNat 18 1
def hdrHcrc (h : Block) : Nat := field h.toNat 0 16

/-- KIND codes (R150). -/
abbrev KindCode.UNICAST : Nat := 0
abbrev KindCode.MULTICAST : Nat := 1
abbrev KindCode.TRACE : Nat := 2
abbrev KindCode.RESULT : Nat := 3
abbrev KindCode.NOTIFY : Nat := 4
abbrev KindCode.CONTROL : Nat := 5
abbrev KindCode.TELEMETRY : Nat := 6
abbrev KindCode.EPOCH : Nat := 7
abbrev KindCode.DRAIN_MARK : Nat := 8
abbrev KindCode.ETH_ENCAP : Nat := 9
abbrev KindCode.MIRROR : Nat := 10

/-- HCRC of bits [127:16] of a header (R168). -/
def hcrcOf (h : Block) : Nat := crc16 112 (h.toNat / 2 ^ 16)

/-- The header's check is good (R168). -/
def hcrcGood (h : Block) : Bool := decide (hcrcOf h = hdrHcrc h)

/-- A header with one field changed; HCRC is updated arithmetically from the value it held, never
computed anew, so a bad check stays bad (R159). -/
def hdrSet (h : Block) (lo w v : Nat) : Block :=
  let x := h.toNat / 2 ^ 16
  let y := setField h.toNat lo w v / 2 ^ 16
  BitVec.ofNat 128 (y * 2 ^ 16 + (hdrHcrc h ^^^ crc16 112 (x ^^^ y)))

def setTen (h : Block) (t : Nat) : Block := hdrSet h 102 10 t
def setDl (h : Block) : Block := hdrSet h 116 1 1
/-- MSG OPEN is sent with DL 0 (R153). -/
def openDl (h : Block) : Block := if hdrMsg h = 4 ∧ hdrDl h = 1 then hdrSet h 116 1 0 else h
def setHop (h : Block) (n : Nat) : Block := hdrSet h 24 4 n
def setCe (h : Block) : Block := hdrSet h 22 2 3
def setRepin (h : Block) : Block := hdrSet h 18 1 1

/-- The fields an originator chooses (R148, R155, R158). -/
structure HdrFields where
  kind : Nat
  msg : Nat
  dl : Nat := 0
  tc : Nat
  ord : Nat := 0
  ten : Nat
  dst : Nat
  src : Nat
  chan : Nat := 0
  seq : Nat := 0
  len : Nat
  hop : Nat := 1
  ecn : Nat := 0
  mirr : Nat := 0
  arith : Nat := 0
deriving DecidableEq, Repr

/-- The header of a frame a V2048 originates, with its check (R149, R168). -/
def mkHdr (f : HdrFields) : Block :=
  let hi := joinFields [(4, 1), (4, f.kind), (3, f.msg), (1, f.dl), (3, f.tc), (1, f.ord), (10, f.ten),
    (20, f.dst), (20, f.src), (8, f.chan), (16, f.seq), (10, f.len), (4, f.hop), (2, f.ecn), (1, 0),
    (1, f.mirr), (1, f.arith), (1, 0), (2, 0)]
  BitVec.ofNat 128 (hi * 2 ^ 16 + crc16 112 hi)

/-- The virtual lane of a message class (R152); the classes 5 to 7 have none and are counted here
with OPEN. -/
def vlOf (msg dl : Nat) : Nat := if 4 ≤ msg then 8 else 2 * msg + dl

/-- Lane on which a frame with this header travels. -/
def hdrVl (h : Block) : Nat := vlOf (hdrMsg h) (hdrDl h)

/-- Blocks of the frame, header included (R147). -/
def hdrBlocks (h : Block) : Nat := 1 + hdrLen h
/-- Bytes of the frame on the link (R254, R450). -/
def hdrBytes (h : Block) : Nat := 16 * (1 + hdrLen h)
/-- Link credits of the frame (R103). -/
def hdrCredits (h : Block) : Nat := (hdrBlocks h + 3) / 4
/-- Cells of the frame (R215). -/
def hdrCells (h : Block) : Nat := (hdrBlocks h + 15) / 16

/-- The poison tail block of a header (R173). -/
def poisonTail (h : Block) : Block :=
  let hi := setField h.toNat 21 1 1 / 2 ^ 16
  BitVec.ofNat 128 (hi * 2 ^ 16 + (0xFFFF - crc16 112 hi))

/-! ## The collective extension (R160) -/

def extTeam (b : Block) : Nat := field b.toNat 112 16
def extGen (b : Block) : Nat := field b.toNat 102 10
def extOpc (b : Block) : Nat := field b.toNat 97 5
def extFmt (b : Block) : Nat := field b.toNat 93 4
def extMode (b : Block) : Nat := field b.toNat 91 2
def extSlot (b : Block) : Nat := field b.toNat 89 2
def extLast (b : Block) : Nat := field b.toNat 88 1
def extPart (b : Block) : Nat := field b.toNat 87 1
def extDgv (b : Block) : Nat := field b.toNat 86 1
def extChunk (b : Block) : Nat := field b.toNat 70 16
def extWeight (b : Block) : Nat := field b.toNat 54 16
def extNcontrib (b : Block) : Nat := field b.toNat 34 20

/-- The fields of an extension the solid sends. -/
structure ExtFields where
  team : Nat
  gen : Nat
  opc : Nat
  fmt : Nat
  mode : Nat
  slot : Nat := 0
  last : Nat := 0
  part : Nat := 0
  dgv : Nat := 0
  chunk : Nat
  weight : Nat := 0
  ncontrib : Nat
deriving DecidableEq, Repr

def mkExt (e : ExtFields) : Block :=
  BitVec.ofNat 128 (joinFields [(16, e.team), (10, e.gen), (5, e.opc), (4, e.fmt), (2, e.mode),
    (2, e.slot), (1, e.last), (1, e.part), (1, e.dgv), (16, e.chunk), (16, e.weight), (20, e.ncontrib),
    (34, 0)])

/-- The extension breaks R163 (EXT_INVALID). -/
def extInvalid (kind : Nat) (endpoint : Bool) (b : Block) : Bool :=
  decide (10 < extFmt b) || decide (1 < extMode b) || decide (5 < extOpc b) ||
    (decide (extDgv b = 1) && !(decide (kind = 3) || (decide (kind = 2) && decide (extPart b = 1)))) ||
    (endpoint && decide (kind = 2) && !(decide (extPart b = 0) && decide (extNcontrib b = 1))) ||
    decide (extNcontrib b = 0)

/-! ## Other descriptors -/

/-- ELEN of an ETH_ENCAP descriptor (R178). -/
def ethElen (b : Block) : Nat := field b.toNat 114 14

/-- The descriptor disagrees with LEN (R179). -/
def ethBad (len : Nat) (b : Block) : Bool :=
  let n := ethElen b
  !(decide (64 ≤ n) && decide (n ≤ 8176) && decide (len = 1 + (n + 15) / 16))

/-- Destination and source MAC of the inner Ethernet frame, from the block after the descriptor
(R178, R203). -/
def ethDst (b : Block) : Nat := field b.toNat 80 48
def ethSrc (b : Block) : Nat := field b.toNat 32 48

/-- Bit 0 of the first byte marks a group address (R203). -/
def macGroup (mac : Nat) : Bool := mac.testBit 40

/-- Descriptor of a mirror copy (R180). -/
def mirrorDescriptor (session dir trunc port olen ticks : Nat) : Block :=
  BitVec.ofNat 128 (joinFields [(4, session), (1, dir), (1, trunc), (12, port), (10, olen), (48, ticks),
    (52, 0)])

/-- Data block of a DRAIN_MARK (R411). -/
def markBlock (origin mark echo echoer : Nat) : Block :=
  BitVec.ofNat 128 (joinFields [(20, origin), (32, mark), (1, echo), (20, echoer), (55, 0)])

def markOrigin (b : Block) : Nat := field b.toNat 108 20
def markNumber (b : Block) : Nat := field b.toNat 76 32
def markEcho (b : Block) : Nat := field b.toNat 75 1

/-- Data block of a QUOTA NOTIFY (R286). -/
def quotaBlock (port vl tc facet wait used quota : Nat) : Block :=
  BitVec.ofNat 128 (joinFields [(12, port), (4, vl), (3, tc), (3, facet), (32, wait),
    (20, min used 0xFFFFF), (32, quota), (22, 0)])

/-! ## What a KIND allows (R151) -/

/-- The MSG codes a KIND may carry (R151). -/
def msgAllowed (kind msg : Nat) : Bool :=
  match kind with
  | 0 => decide (msg = 0 ∨ msg = 1)
  | 1 => decide (msg = 0 ∨ msg = 1)
  | 2 => decide (msg = 2)
  | 3 => decide (msg = 2)
  | 4 => decide (msg = 3)
  | 5 => decide (msg = 3)
  | 6 => decide (msg = 3)
  | 7 => decide (msg = 3)
  | 8 => decide (msg = 0 ∨ msg = 1)
  | 9 => decide (msg = 4)
  | 10 => decide (msg = 4)
  | _ => false

/-- The KINDs an endpoint may send (R151). -/
def kindFromEndpoint (kind : Nat) : Bool :=
  decide (kind = 0 ∨ kind = 1 ∨ kind = 2 ∨ kind = 5 ∨ kind = 6 ∨ kind = 9)

/-- The ARITH values a KIND may carry (R151). -/
def arithAllowed (kind arith : Nat) : Bool :=
  match kind with
  | 2 => decide (arith = 1)
  | 3 => decide (arith = 1)
  | 4 => true
  | _ => decide (arith = 0)

/-- The least LEN the base header decides (R151, R165). -/
def minLen (kind arith : Nat) : Nat :=
  match kind with
  | 2 => 2
  | 3 => 2
  | 4 => arith
  | 5 => 1
  | 6 => 1
  | 7 => 1
  | 9 => 5
  | 10 => 2
  | _ => 0

/-- Block 1 is the extension or the ETH_ENCAP descriptor, so stage 3 waits for it (R170). -/
def needsBlock1 (h : Block) : Bool := decide (hdrArith h = 1) || decide (hdrKind h = 9)

/-- The header checks 0x01 to 0x0A in the order of their codes: the first that fails (R170, R171). -/
def headerCheck (h : Block) (endpoint : Bool) (hopLimit : Nat) : Option Nat :=
  let k := hdrKind h
  if hcrcGood h = false then some 0x01
  else if hdrVer h ≠ 1 then some 0x02
  else if 10 < k then some 0x03
  else if 4 < hdrMsg h then some 0x04
  else if msgAllowed k (hdrMsg h) = false then some 0x05
  else if endpoint ∧ kindFromEndpoint k = false then some 0x06
  else if 512 < hdrLen h then some 0x07
  else if hdrLen h < minLen k (hdrArith h) then some 0x08
  else if hdrPoison h = 1 ∨ (hdrMirr h = 1) ≠ (k = 10) ∨ arithAllowed k (hdrArith h) = false ∨
      (endpoint ∧ (hdrRepin h = 1 ∨ hdrDl h = 1)) then some 0x09
  else if hopLimit ≤ hdrHop h then some 0x0A
  else none

/-- The checks block 1 decides, in order: the DGV part of UNDERSIZE, EXT_INVALID, ETH_LENGTH (R170). -/
def block1Check (h b : Block) (endpoint : Bool) : Option Nat :=
  let k := hdrKind h
  if hdrArith h = 1 then
    if (k = 2 ∨ k = 3) ∧ extDgv b = 1 ∧ hdrLen h < 3 then some 0x08
    else if extInvalid k endpoint b then some 0x0B
    else none
  else if k = 9 ∧ ethBad (hdrLen h) b = true then some 0x0C
  else none

end Sys2Proof.Machine
end

