-- ==== Sys2Proof/Config.lean ====
section
/-! DEFINITION. What is fixed for one part or one board and not stated by the spec, and the free
values: constants without a body, of which nothing can be proved (log entries 2 and 4). -/

namespace Sys2Proof

/-- IDENTITY SERIAL, unique per chip (R8). -/
opaque Config.serial : BitVec 64

/-- The secret slot 0 leaves manufacture with, unique to the chip (R513), as a 32-byte number. -/
opaque Config.slot0Secret : Nat

/-- Kenzaril's public key in signing slot 0, "per chip" (R546), as a 97-byte number. -/
opaque Config.vendorKey : Nat

/-- The boundary-scan input cells' levels sampled by SAMPLE/PRELOAD (R593). -/
opaque Config.boundarySample : Nat → Nat

/-- The n-th mirror copy finds its facet's copy rate exceeded (R238): the rate is stated, how it is
measured is not (log entry 23). -/
opaque Config.mirrorOverRate : Nat → Bool

/-- The cell in which a frame's uncorrectable word lay (R217): the spec gives no cell allocation. -/
opaque Config.badCell : Nat → Nat

/-- SEQ of the n-th drain marker a V2048 originates (R411 names no SEQ; log entry 25). -/
opaque Config.markSeq : Nat → BitVec 16

/-- HBM address of a spill segment (R226; log entry 110). -/
opaque Config.segmentAddress : Nat → BitVec 40

/-- TELEMETRY and NOTIFY frames that a facet's local memory holds: the spec gives no size (R272; log entry 109). -/
opaque Config.localFrames : Nat

/-- Which of the eight taps of a facet lights the n-th lattice transfer (R51; log entry 26). -/
opaque Config.transferTap : Nat → Fin 8

/-- HBM channel group that holds a slot block placed in HBM, by team and slot (R361, R363): the spec does
not say how blocks are spread over the two groups (log entry 29). -/
opaque Config.blockGroup : Nat → Nat → Fin 2

/-- CHUNK of a TEAM_RETIRED notice that answers no frame, by team (R163 gives the extension's meaning and
R313 names no chunk; log entry 30). -/
opaque Config.retiredChunk : Nat → BitVec 16

/-- A byte of a flash region that manufacture fills: the firmware image of slot A and the calibration (R531,
R536; log entry 31). -/
opaque Config.factoryFlash : Nat → BitVec 8

/-- Minimum grant of a facet and a class in mW, at the voltage floors of the islands it feeds (R554, R558, R575;
log entry 32). -/
opaque Config.minimumMw : Nat → Nat → List Nat → Nat

/-- Voltage in mV at which an island takes its part of a grant in mW to its facet and class: its power per
handshake, characterised at manufacture (R557; log entry 32). -/
opaque Config.grantVcore : Nat → Nat → Nat

/-- Claim duty in sixteenths at which the islands of a facet and class at their floors take a grant in mW (R557;
log entry 32). -/
opaque Config.grantDuty : Nat → Nat → Nat → Nat

/-- Predicted change of an island's power in mW between two lists of its facet's six grants (R58; log entry 32). -/
opaque Config.islandDelta : Nat → List Nat → List Nat → Int

/-- Island of a ring's facet that lies over the ring (R58; log entry 85). -/
opaque Config.ringIsland : Nat → Fin 8

/-- Heater codes that a ring's K makes of a change of power in mW (R58; log entry 85). -/
opaque Config.ringGain : Nat → Int → Int

/-- Calibrated offset in heater codes between a chord ring and the local ring that seeds it, by seed key (R130; log
entry 86). -/
opaque Config.chordOffset : Nat → Int

/-- Heater codes that the temperature coefficient of a chord ring's group makes of a change in tenths of a degree (R130;
log entry 86). -/
opaque Config.chordTempco : Nat → Int → Int

/-- STATE of the twin peer's solid at a tick: 0 ACTIVE, 1 DEGRADED, 2 OUT_OF_SERVICE (R16; no mirrored field
carries it, log entry 33). -/
opaque Config.peerState : Nat → Fin 3

/-- Ports of the twin peer that are up at a tick (R16; log entry 33). -/
opaque Config.peerPortsUp : Nat → Fin 2049

/-- Ticks that a change takes to reach the twin's peer, at the tick of the change; R417 bounds it by 20 µs (log entry 113). -/
opaque Config.mirrorDelay : Nat → Nat

/-- Level of the EPOCH_IN pin at a tick (R600; log entry 33). -/
opaque Config.epochInLevel : Nat → Fin 2

/-- Key slot under which a REGISTER_WRITE at a tick was sent: the row names none (log entry 36). -/
opaque Config.writerKey : Nat → Fin 2048

end Sys2Proof
end

