-- ==== Sys2Proof/Machine/Dictionary.lean ====
section
/-! DEFINITION. The Sirgo object dictionary as data: the address of every element (R504), the
value each element holds after reset (the Default columns of the chapters' object tables, R508)
and the row of the table that says its width, access, least role, kind and legal values
(R506, R507, R509, R511). -/

namespace Sys2Proof.Machine

/-- An element of the dictionary: index, instance, element (R504). -/
structure Addr where
  obj : Nat
  inst : Nat
  el : Nat
deriving DecidableEq, Repr

/-- Ascending order of index, then instance, then element (R407). -/
def Addr.lt (a b : Addr) : Bool :=
  decide (a.obj < b.obj) || (a.obj == b.obj &&
    (decide (a.inst < b.inst) || (a.inst == b.inst && decide (a.el < b.el))))

/-! ## Names of the elements -/

abbrev Reg.IDENTITY_VENDOR : Addr := ⟨0x0000, 0, 0⟩
abbrev Reg.IDENTITY_PART : Addr := ⟨0x0000, 0, 1⟩
abbrev Reg.IDENTITY_STEPPING : Addr := ⟨0x0000, 0, 2⟩
abbrev Reg.IDENTITY_MINOR : Addr := ⟨0x0000, 0, 3⟩
abbrev Reg.IDENTITY_SERIAL : Addr := ⟨0x0000, 0, 4⟩

abbrev Reg.SOLID_OWN_EID : Addr := ⟨0x0001, 0, 0⟩

abbrev Reg.UNIT_LEVEL (i : Nat) : Addr := ⟨0x0100, i, 0⟩
abbrev Reg.UNIT_INDEX (i : Nat) : Addr := ⟨0x0100, i, 1⟩
abbrev Reg.UNIT_PARENT (i : Nat) : Addr := ⟨0x0100, i, 2⟩
abbrev Reg.UNIT_FIRST_PORT (i : Nat) : Addr := ⟨0x0100, i, 3⟩
abbrev Reg.UNIT_PORT_COUNT (i : Nat) : Addr := ⟨0x0100, i, 4⟩
abbrev Reg.UNIT_PORTS_UP (i : Nat) : Addr := ⟨0x0100, i, 5⟩
abbrev Reg.UNIT_STATE (i : Nat) : Addr := ⟨0x0100, i, 6⟩
abbrev Reg.UNIT_REASON (i : Nat) : Addr := ⟨0x0100, i, 7⟩

abbrev Reg.ISLAND_KIND (i : Nat) : Addr := ⟨0x0101, i, 0⟩
abbrev Reg.ISLAND_VCORE (i : Nat) : Addr := ⟨0x0101, i, 1⟩
abbrev Reg.ISLAND_VFLOOR (i : Nat) : Addr := ⟨0x0101, i, 2⟩
abbrev Reg.ISLAND_HSR (i : Nat) : Addr := ⟨0x0101, i, 3⟩
abbrev Reg.ISLAND_HSR_LOW (i : Nat) : Addr := ⟨0x0101, i, 4⟩
abbrev Reg.ISLAND_TJ (i : Nat) : Addr := ⟨0x0101, i, 5⟩
abbrev Reg.ISLAND_STATE (i : Nat) : Addr := ⟨0x0101, i, 6⟩

abbrev Reg.TIMEBASE_TICKS : Addr := ⟨0x0102, 0, 0⟩
abbrev Reg.TIMEBASE_REF_PRIMARY : Addr := ⟨0x0102, 0, 1⟩
abbrev Reg.TIMEBASE_REF_PRESENT : Addr := ⟨0x0102, 0, 2⟩
abbrev Reg.TIMEBASE_REF_ACTIVE : Addr := ⟨0x0102, 0, 3⟩
abbrev Reg.TIMEBASE_SKEW_MAX : Addr := ⟨0x0102, 0, 4⟩

abbrev Reg.LATTICE_BASE_WL (i : Nat) : Addr := ⟨0x0103, i, 0⟩
abbrev Reg.LATTICE_POOL_GROUPS (i : Nat) : Addr := ⟨0x0103, i, 1⟩
abbrev Reg.LATTICE_POOL_PIN (i : Nat) : Addr := ⟨0x0103, i, 2⟩
abbrev Reg.LATTICE_STATE (i : Nat) : Addr := ⟨0x0103, i, 3⟩

abbrev Reg.FAU_FACET (i : Nat) : Addr := ⟨0x0200, i, 0⟩
abbrev Reg.FAU_FIRST_PORT (i : Nat) : Addr := ⟨0x0200, i, 1⟩
abbrev Reg.FAU_STATE (i : Nat) : Addr := ⟨0x0200, i, 2⟩
abbrev Reg.FAU_PAIRS_SHUT (i : Nat) : Addr := ⟨0x0200, i, 3⟩
abbrev Reg.FAU_TJ_PHOTONIC (i : Nat) : Addr := ⟨0x0200, i, 4⟩

abbrev Reg.FEED_SELECTED (i : Nat) : Addr := ⟨0x0201, i, 0⟩
abbrev Reg.FEED_MODE (i : Nat) : Addr := ⟨0x0201, i, 1⟩
abbrev Reg.FEED_STATE (i : Nat) : Addr := ⟨0x0201, i, 2⟩
abbrev Reg.FEED_STANDBY (i : Nat) : Addr := ⟨0x0201, i, 3⟩
abbrev Reg.FEED_WORST (i : Nat) : Addr := ⟨0x0201, i, 4⟩
abbrev Reg.FEED_COMMAND (i : Nat) : Addr := ⟨0x0201, i, 5⟩
abbrev Reg.FEED_RESULT (i : Nat) : Addr := ⟨0x0201, i, 6⟩
abbrev Reg.FEED_MIGRATIONS (i : Nat) : Addr := ⟨0x0201, i, 7⟩
abbrev Reg.FEED_COMMISSIONED (i : Nat) : Addr := ⟨0x0201, i, 8⟩

abbrev Reg.LINE_SEL_DBM (i : Nat) : Addr := ⟨0x0202, i, 0⟩
abbrev Reg.LINE_STBY_DBM (i : Nat) : Addr := ⟨0x0202, i, 1⟩
abbrev Reg.LINE_REF_A (i : Nat) : Addr := ⟨0x0202, i, 2⟩
abbrev Reg.LINE_REF_B (i : Nat) : Addr := ⟨0x0202, i, 3⟩
abbrev Reg.LINE_STATE (i : Nat) : Addr := ⟨0x0202, i, 4⟩
abbrev Reg.LINE_SPREAD (i : Nat) : Addr := ⟨0x0202, i, 5⟩

abbrev Reg.RING_STATE (i : Nat) : Addr := ⟨0x0203, i, 0⟩
abbrev Reg.RING_HEATER (i : Nat) : Addr := ⟨0x0203, i, 1⟩
abbrev Reg.RING_OFFSET (i : Nat) : Addr := ⟨0x0203, i, 2⟩
abbrev Reg.RING_LOCK_ERR (i : Nat) : Addr := ⟨0x0203, i, 3⟩
abbrev Reg.RING_MARGIN (i : Nat) : Addr := ⟨0x0203, i, 4⟩
abbrev Reg.RING_RELOCKS (i : Nat) : Addr := ⟨0x0203, i, 5⟩

abbrev Reg.CLS_ENABLE (i : Nat) : Addr := ⟨0x0204, i, 0⟩
abbrev Reg.CLS_EN_STATE (i : Nat) : Addr := ⟨0x0204, i, 1⟩
abbrev Reg.CLS_FLT (i : Nat) : Addr := ⟨0x0204, i, 2⟩
abbrev Reg.CLS_LATCH (i : Nat) : Addr := ⟨0x0204, i, 3⟩
abbrev Reg.CLS_MODULE_ID (i : Nat) : Addr := ⟨0x0204, i, 4⟩
abbrev Reg.CLS_TEMP (i : Nat) : Addr := ⟨0x0204, i, 5⟩
abbrev Reg.CLS_SETPOINT (i : Nat) : Addr := ⟨0x0204, i, 6⟩

abbrev Reg.EYE_STATE (i : Nat) : Addr := ⟨0x0205, i, 0⟩
abbrev Reg.EYE_RX_DBM (i : Nat) : Addr := ⟨0x0205, i, 1⟩
abbrev Reg.EYE_SHUTS (i : Nat) : Addr := ⟨0x0205, i, 2⟩

abbrev Reg.OPTICS_FF_ENABLE : Addr := ⟨0x0206, 0, 0⟩
abbrev Reg.OPTICS_FF_TAU : Addr := ⟨0x0206, 0, 1⟩
abbrev Reg.OPTICS_SWEEP_MAX : Addr := ⟨0x0206, 0, 2⟩
abbrev Reg.OPTICS_DARK_MAX : Addr := ⟨0x0206, 0, 3⟩

abbrev Reg.PORT_STATE (i : Nat) : Addr := ⟨0x0300, i, 0⟩
abbrev Reg.PORT_ADMIN (i : Nat) : Addr := ⟨0x0300, i, 1⟩
abbrev Reg.PORT_LONG (i : Nat) : Addr := ⟨0x0300, i, 2⟩
abbrev Reg.PORT_SLEEP_EN (i : Nat) : Addr := ⟨0x0300, i, 3⟩
abbrev Reg.PORT_TXMASK (i : Nat) : Addr := ⟨0x0300, i, 4⟩
abbrev Reg.PORT_RXMASK (i : Nat) : Addr := ⟨0x0300, i, 5⟩
abbrev Reg.PORT_MASTER (i : Nat) : Addr := ⟨0x0300, i, 6⟩
abbrev Reg.PORT_PEER_SERIAL (i : Nat) : Addr := ⟨0x0300, i, 7⟩
abbrev Reg.PORT_PEER_PORT (i : Nat) : Addr := ⟨0x0300, i, 8⟩
abbrev Reg.PORT_PEER_ROLE (i : Nat) : Addr := ⟨0x0300, i, 9⟩
abbrev Reg.PORT_RTT (i : Nat) : Addr := ⟨0x0300, i, 10⟩
abbrev Reg.PORT_DOWN_REASON (i : Nat) : Addr := ⟨0x0300, i, 11⟩
abbrev Reg.PORT_DOWNS (i : Nat) : Addr := ⟨0x0300, i, 12⟩
abbrev Reg.PORT_FLIT_RATE (i : Nat) : Addr := ⟨0x0300, i, 13⟩

abbrev Reg.LINK_KA_PERIOD : Addr := ⟨0x0301, 0, 0⟩
abbrev Reg.LINK_SLEEP_IDLE : Addr := ⟨0x0301, 0, 1⟩
abbrev Reg.LINK_SLEEP_MAX : Addr := ⟨0x0301, 0, 2⟩
abbrev Reg.LINK_SHARE_CAP : Addr := ⟨0x0301, 0, 3⟩
abbrev Reg.LINK_LOOPBACK_TEST : Addr := ⟨0x0301, 0, 4⟩

abbrev Reg.CREDIT_RX_DED (i : Nat) : Addr := ⟨0x0302, i, 0⟩
abbrev Reg.CREDIT_TX_DED (i : Nat) : Addr := ⟨0x0302, i, 1⟩
abbrev Reg.CREDIT_TX_HELD_DED (i : Nat) : Addr := ⟨0x0302, i, 2⟩
abbrev Reg.CREDIT_TX_HELD_SHARED (i : Nat) : Addr := ⟨0x0302, i, 3⟩

abbrev Reg.CHORD_PORT_A (i : Nat) : Addr := ⟨0x0400, i, 0⟩
abbrev Reg.CHORD_PORT_B (i : Nat) : Addr := ⟨0x0400, i, 1⟩
abbrev Reg.CHORD_AUTO_RESTORE (i : Nat) : Addr := ⟨0x0400, i, 2⟩
abbrev Reg.CHORD_TENANT (i : Nat) : Addr := ⟨0x0400, i, 3⟩
abbrev Reg.CHORD_STATE (i : Nat) : Addr := ⟨0x0400, i, 4⟩
abbrev Reg.CHORD_PWR_AB (i : Nat) : Addr := ⟨0x0400, i, 5⟩
abbrev Reg.CHORD_PWR_BA (i : Nat) : Addr := ⟨0x0400, i, 6⟩
abbrev Reg.CHORD_BREAKS (i : Nat) : Addr := ⟨0x0400, i, 7⟩
abbrev Reg.CHORD_FILL (i : Nat) : Addr := ⟨0x0400, i, 8⟩

abbrev Reg.CHORDS_MAX : Addr := ⟨0x0401, 0, 0⟩
abbrev Reg.CHORDS_IN_USE : Addr := ⟨0x0401, 0, 1⟩
abbrev Reg.CHORDS_LIT : Addr := ⟨0x0401, 0, 2⟩
abbrev Reg.CHORDS_SETTLE_US : Addr := ⟨0x0401, 0, 3⟩

abbrev Reg.FRAME_VERSION : Addr := ⟨0x0500, 0, 0⟩
abbrev Reg.FRAME_HOP_LIMIT : Addr := ⟨0x0500, 0, 1⟩
abbrev Reg.FRAME_MAX_LEN : Addr := ⟨0x0500, 0, 2⟩

abbrev Reg.DEST_ACTION (i : Nat) : Addr := ⟨0x0600, i, 0⟩
abbrev Reg.DEST_TENCHK (i : Nat) : Addr := ⟨0x0600, i, 1⟩
abbrev Reg.DEST_TEN (i : Nat) : Addr := ⟨0x0600, i, 2⟩
abbrev Reg.DEST_TARGET (i : Nat) : Addr := ⟨0x0600, i, 3⟩
abbrev Reg.DEST_ENTRY (i : Nat) : Addr := ⟨0x0600, i, 4⟩

abbrev Reg.RGROUP_COUNT (i : Nat) : Addr := ⟨0x0601, i, 0⟩
abbrev Reg.RGROUP_LIVE_COUNT (i : Nat) : Addr := ⟨0x0601, i, 1⟩
abbrev Reg.RGROUP_HOLD (i : Nat) : Addr := ⟨0x0601, i, 2⟩
abbrev Reg.RGROUP_HELD_CELLS (i : Nat) : Addr := ⟨0x0601, i, 3⟩
abbrev Reg.RGROUP_PIN_RESTORE (i : Nat) : Addr := ⟨0x0601, i, 4⟩
abbrev Reg.RGROUP_STATE (i : Nat) : Addr := ⟨0x0601, i, 5⟩
abbrev Reg.RGROUP_MEMBERS (i k : Nat) : Addr := ⟨0x0601, i, 32 + k⟩
abbrev Reg.RGROUP_LIVE (i k : Nat) : Addr := ⟨0x0601, i, 64 + k⟩

abbrev Reg.PINSLOT_HOME (i : Nat) : Addr := ⟨0x0602, i, 0⟩
abbrev Reg.PINSLOT_CURRENT (i : Nat) : Addr := ⟨0x0602, i, 1⟩
abbrev Reg.PINSLOT_REPIN_LEFT (i : Nat) : Addr := ⟨0x0602, i, 2⟩
abbrev Reg.PINSLOT_HELD (i : Nat) : Addr := ⟨0x0602, i, 3⟩
abbrev Reg.PINSLOT_LAST_USE (i : Nat) : Addr := ⟨0x0602, i, 4⟩

abbrev Reg.MCAST_GTEN (i : Nat) : Addr := ⟨0x0603, i, 0⟩
abbrev Reg.MCAST_UP_RG (i : Nat) : Addr := ⟨0x0603, i, 1⟩
abbrev Reg.MCAST_FACETS (i : Nat) : Addr := ⟨0x0603, i, 2⟩
abbrev Reg.MCAST_PORTS (i k : Nat) : Addr := ⟨0x0603, i, 32 + k⟩

abbrev Reg.LEARN_STATE (i : Nat) : Addr := ⟨0x0604, i, 0⟩
abbrev Reg.LEARN_TEN (i : Nat) : Addr := ⟨0x0604, i, 1⟩
abbrev Reg.LEARN_MAC (i : Nat) : Addr := ⟨0x0604, i, 2⟩
abbrev Reg.LEARN_EID (i : Nat) : Addr := ⟨0x0604, i, 3⟩
abbrev Reg.LEARN_HIT (i : Nat) : Addr := ⟨0x0604, i, 4⟩
abbrev Reg.LEARN_CLEAR_SWEEPS (i : Nat) : Addr := ⟨0x0604, i, 5⟩

abbrev Reg.FORWARD_HASH_SEED : Addr := ⟨0x0605, 0, 0⟩
abbrev Reg.FORWARD_REPIN_WINDOW : Addr := ⟨0x0605, 0, 1⟩
abbrev Reg.FORWARD_LEARN_EN : Addr := ⟨0x0605, 0, 2⟩
abbrev Reg.FORWARD_SWEEP_PERIOD : Addr := ⟨0x0605, 0, 3⟩
abbrev Reg.FORWARD_LEARNED : Addr := ⟨0x0605, 0, 4⟩
abbrev Reg.FORWARD_HOLD_FREE : Addr := ⟨0x0605, 0, 5⟩

abbrev Reg.BUFCFG_HEADROOM : Addr := ⟨0x0700, 0, 0⟩
abbrev Reg.BUFCFG_PF_POOL : Addr := ⟨0x0700, 0, 1⟩
abbrev Reg.BUFCFG_SPILL_ON : Addr := ⟨0x0700, 0, 2⟩
abbrev Reg.BUFCFG_SPILL_KEEP : Addr := ⟨0x0700, 0, 3⟩
abbrev Reg.BUFCFG_PF_LOW : Addr := ⟨0x0700, 0, 4⟩
abbrev Reg.BUFCFG_SPILL_GIB : Addr := ⟨0x0700, 0, 5⟩
abbrev Reg.BUFCFG_SPILL_QMAX : Addr := ⟨0x0700, 0, 6⟩
abbrev Reg.BUFCFG_RES_LIMIT : Addr := ⟨0x0700, 0, 7⟩
abbrev Reg.BUFCFG_OPEN_MAX : Addr := ⟨0x0700, 0, 8⟩
abbrev Reg.BUFCFG_MIRROR_RESERVE : Addr := ⟨0x0700, 0, 9⟩
abbrev Reg.BUFCFG_MIRROR_MAX : Addr := ⟨0x0700, 0, 10⟩
abbrev Reg.BUFCFG_QUOTA_NOTIFY : Addr := ⟨0x0700, 0, 11⟩

abbrev Reg.QCLASS_MIN_CELLS (i : Nat) : Addr := ⟨0x0701, i, 0⟩
abbrev Reg.QCLASS_ALPHA_SHIFT (i : Nat) : Addr := ⟨0x0701, i, 1⟩
abbrev Reg.QCLASS_SPILL_EN (i : Nat) : Addr := ⟨0x0701, i, 2⟩

abbrev Reg.TENBUF_QUOTA (i : Nat) : Addr := ⟨0x0702, i, 0⟩
abbrev Reg.TENBUF_TSPILL (i : Nat) : Addr := ⟨0x0702, i, 1⟩
abbrev Reg.TENBUF_SHARED_USED (i : Nat) : Addr := ⟨0x0702, i, 2⟩
abbrev Reg.TENBUF_SPILLED (i : Nat) : Addr := ⟨0x0702, i, 3⟩
abbrev Reg.TENBUF_QUOTA_WAITS (i : Nat) : Addr := ⟨0x0702, i, 4⟩

abbrev Reg.FACETBUF_SHARED_TOTAL (i : Nat) : Addr := ⟨0x0703, i, 0⟩
abbrev Reg.FACETBUF_SHARED_FREE (i : Nat) : Addr := ⟨0x0703, i, 1⟩
abbrev Reg.FACETBUF_SHARED_FREE_LOW (i : Nat) : Addr := ⟨0x0703, i, 2⟩
abbrev Reg.FACETBUF_HEADROOM_USED (i : Nat) : Addr := ⟨0x0703, i, 3⟩
abbrev Reg.FACETBUF_PF_USED (i : Nat) : Addr := ⟨0x0703, i, 4⟩
abbrev Reg.FACETBUF_OPEN_USED (i : Nat) : Addr := ⟨0x0703, i, 5⟩
abbrev Reg.FACETBUF_MIRROR_USED (i : Nat) : Addr := ⟨0x0703, i, 6⟩
abbrev Reg.FACETBUF_SPILL_USED (i : Nat) : Addr := ⟨0x0703, i, 7⟩
abbrev Reg.FACETBUF_SPILLING (i : Nat) : Addr := ⟨0x0703, i, 8⟩

abbrev Reg.QUEUE_DIE_CELLS (i : Nat) : Addr := ⟨0x0704, i, 0⟩
abbrev Reg.QUEUE_SPILL_CELLS (i : Nat) : Addr := ⟨0x0704, i, 1⟩
abbrev Reg.QUEUE_BYTES (i : Nat) : Addr := ⟨0x0704, i, 2⟩
abbrev Reg.QUEUE_STATE (i : Nat) : Addr := ⟨0x0704, i, 3⟩
abbrev Reg.QUEUE_PEAK_CELLS (i : Nat) : Addr := ⟨0x0704, i, 4⟩

abbrev Reg.MIRROR_TYPE (i : Nat) : Addr := ⟨0x0705, i, 0⟩
abbrev Reg.MIRROR_PORT (i : Nat) : Addr := ⟨0x0705, i, 1⟩
abbrev Reg.MIRROR_M_TEN (i : Nat) : Addr := ⟨0x0705, i, 2⟩
abbrev Reg.MIRROR_M_DST (i : Nat) : Addr := ⟨0x0705, i, 3⟩
abbrev Reg.MIRROR_M_CHAN (i : Nat) : Addr := ⟨0x0705, i, 4⟩
abbrev Reg.MIRROR_C_TEN (i : Nat) : Addr := ⟨0x0705, i, 5⟩
abbrev Reg.MIRROR_C_DST (i : Nat) : Addr := ⟨0x0705, i, 6⟩
abbrev Reg.MIRROR_C_TC (i : Nat) : Addr := ⟨0x0705, i, 7⟩
abbrev Reg.MIRROR_TRUNC (i : Nat) : Addr := ⟨0x0705, i, 8⟩
abbrev Reg.MIRROR_COPIES (i : Nat) : Addr := ⟨0x0705, i, 9⟩

abbrev Reg.PORTSCHED_OVERHEAD (i : Nat) : Addr := ⟨0x0800, i, 0⟩
abbrev Reg.PORTSCHED_CTRL_RATE (i : Nat) : Addr := ⟨0x0800, i, 1⟩
abbrev Reg.PORTSCHED_CTRL_BURST (i : Nat) : Addr := ⟨0x0800, i, 2⟩
abbrev Reg.PORTSCHED_CTRL_CREDIT (i : Nat) : Addr := ⟨0x0800, i, 3⟩
abbrev Reg.PORTSCHED_CTRL_HELD (i : Nat) : Addr := ⟨0x0800, i, 4⟩
abbrev Reg.PORTSCHED_WAIT_HEAD (i : Nat) : Addr := ⟨0x0800, i, 5⟩

abbrev Reg.SCHEDCLASS_QUANTUM (i : Nat) : Addr := ⟨0x0801, i, 0⟩
abbrev Reg.SCHEDCLASS_PRIV (i : Nat) : Addr := ⟨0x0801, i, 1⟩

abbrev Reg.SHAPER_RATE (i : Nat) : Addr := ⟨0x0802, i, 0⟩
abbrev Reg.SHAPER_BURST (i : Nat) : Addr := ⟨0x0802, i, 1⟩
abbrev Reg.SHAPER_CREDIT (i : Nat) : Addr := ⟨0x0802, i, 2⟩
abbrev Reg.SHAPER_NEXT_ELIGIBLE (i : Nat) : Addr := ⟨0x0802, i, 3⟩
abbrev Reg.SHAPER_DEFICIT (i : Nat) : Addr := ⟨0x0802, i, 4⟩
abbrev Reg.SHAPER_STATE (i : Nat) : Addr := ⟨0x0802, i, 5⟩

abbrev Reg.POLICER_RATE (i : Nat) : Addr := ⟨0x0803, i, 0⟩
abbrev Reg.POLICER_BURST (i : Nat) : Addr := ⟨0x0803, i, 1⟩
abbrev Reg.POLICER_ACTION (i : Nat) : Addr := ⟨0x0803, i, 2⟩
abbrev Reg.POLICER_TOKENS_LOW (i : Nat) : Addr := ⟨0x0803, i, 3⟩
abbrev Reg.POLICER_MARKED (i : Nat) : Addr := ⟨0x0803, i, 4⟩

abbrev Reg.SCHED_SLOT_TICKS : Addr := ⟨0x0804, 0, 0⟩
abbrev Reg.SCHED_SLOTS : Addr := ⟨0x0804, 0, 1⟩
abbrev Reg.SCHED_LATE_MAX : Addr := ⟨0x0804, 0, 2⟩
abbrev Reg.SCHED_SWAP_REFILL : Addr := ⟨0x0804, 0, 3⟩

abbrev Reg.FLOWPORT_ORIENT (i : Nat) : Addr := ⟨0x0900, i, 0⟩
abbrev Reg.FLOWPORT_DATELINE (i : Nat) : Addr := ⟨0x0900, i, 1⟩

abbrev Reg.ECNCLASS_MARK_LO (i : Nat) : Addr := ⟨0x0901, i, 0⟩
abbrev Reg.ECNCLASS_MARK_HI (i : Nat) : Addr := ⟨0x0901, i, 1⟩
abbrev Reg.ECNCLASS_PMAX (i : Nat) : Addr := ⟨0x0901, i, 2⟩

abbrev Reg.FLOWCFG_NOTIFY_TC : Addr := ⟨0x0902, 0, 0⟩
abbrev Reg.FLOWCFG_NOTIFY_GAP : Addr := ⟨0x0902, 0, 1⟩
abbrev Reg.FLOWCFG_NOTIFY_RATE : Addr := ⟨0x0902, 0, 2⟩
abbrev Reg.FLOWCFG_PF_STALL : Addr := ⟨0x0902, 0, 3⟩
abbrev Reg.FLOWCFG_STALL_ALERT : Addr := ⟨0x0902, 0, 4⟩
abbrev Reg.FLOWCFG_NOTIFY_SENT : Addr := ⟨0x0902, 0, 5⟩
abbrev Reg.FLOWCFG_NOTIFY_SUPPRESSED : Addr := ⟨0x0902, 0, 6⟩

abbrev Reg.STALL_STALL_TICKS (i : Nat) : Addr := ⟨0x0903, i, 0⟩
abbrev Reg.STALL_WAIT_TICKS (i : Nat) : Addr := ⟨0x0903, i, 1⟩
abbrev Reg.STALL_CURRENT (i : Nat) : Addr := ⟨0x0903, i, 2⟩
abbrev Reg.STALL_LONGEST (i : Nat) : Addr := ⟨0x0903, i, 3⟩

abbrev Reg.TEAM_COMMAND (i : Nat) : Addr := ⟨0x0A00, i, 0⟩
abbrev Reg.TEAM_ERROR (i : Nat) : Addr := ⟨0x0A00, i, 1⟩
abbrev Reg.TEAM_STATE (i : Nat) : Addr := ⟨0x0A00, i, 2⟩
abbrev Reg.TEAM_TEN (i : Nat) : Addr := ⟨0x0A00, i, 3⟩
abbrev Reg.TEAM_GEN (i : Nat) : Addr := ⟨0x0A00, i, 4⟩
abbrev Reg.TEAM_LAST_GEN (i : Nat) : Addr := ⟨0x0A00, i, 5⟩
abbrev Reg.TEAM_OPC (i : Nat) : Addr := ⟨0x0A00, i, 6⟩
abbrev Reg.TEAM_FMT (i : Nat) : Addr := ⟨0x0A00, i, 7⟩
abbrev Reg.TEAM_MODE (i : Nat) : Addr := ⟨0x0A00, i, 8⟩
abbrev Reg.TEAM_ROUND (i : Nat) : Addr := ⟨0x0A00, i, 9⟩
abbrev Reg.TEAM_SEED (i : Nat) : Addr := ⟨0x0A00, i, 10⟩
abbrev Reg.TEAM_TC (i : Nat) : Addr := ⟨0x0A00, i, 11⟩
abbrev Reg.TEAM_PRIORITY (i : Nat) : Addr := ⟨0x0A00, i, 12⟩
abbrev Reg.TEAM_POSITION (i : Nat) : Addr := ⟨0x0A00, i, 13⟩
abbrev Reg.TEAM_PARENT (i : Nat) : Addr := ⟨0x0A00, i, 14⟩
abbrev Reg.TEAM_CHUNK_BLOCKS (i : Nat) : Addr := ⟨0x0A00, i, 15⟩
abbrev Reg.TEAM_WINDOW (i : Nat) : Addr := ⟨0x0A00, i, 16⟩
abbrev Reg.TEAM_FIRST_CHUNK (i : Nat) : Addr := ⟨0x0A00, i, 17⟩
abbrev Reg.TEAM_TEAM_SIZE (i : Nat) : Addr := ⟨0x0A00, i, 18⟩
abbrev Reg.TEAM_FIRST_MEMBER (i : Nat) : Addr := ⟨0x0A00, i, 19⟩
abbrev Reg.TEAM_MEMBERS (i : Nat) : Addr := ⟨0x0A00, i, 20⟩
abbrev Reg.TEAM_CHILDREN (i : Nat) : Addr := ⟨0x0A00, i, 21⟩
abbrev Reg.TEAM_TIMEOUT (i : Nat) : Addr := ⟨0x0A00, i, 22⟩
abbrev Reg.TEAM_RESULT_TIMEOUT (i : Nat) : Addr := ⟨0x0A00, i, 23⟩
abbrev Reg.TEAM_MISS_TRIES (i : Nat) : Addr := ⟨0x0A00, i, 24⟩
abbrev Reg.TEAM_DIGEST_EN (i : Nat) : Addr := ⟨0x0A00, i, 25⟩
abbrev Reg.TEAM_REV (i : Nat) : Addr := ⟨0x0A00, i, 26⟩
abbrev Reg.TEAM_EXPECT (i : Nat) : Addr := ⟨0x0A00, i, 27⟩
abbrev Reg.TEAM_BASE (i : Nat) : Addr := ⟨0x0A00, i, 28⟩
abbrev Reg.TEAM_OPEN (i : Nat) : Addr := ⟨0x0A00, i, 29⟩
abbrev Reg.TEAM_CONFIG_DIGEST (i : Nat) : Addr := ⟨0x0A00, i, 30⟩
abbrev Reg.TEAM_CHUNKS_DONE (i : Nat) : Addr := ⟨0x0A00, i, 31⟩
abbrev Reg.TEAM_COLLECTIVES (i : Nat) : Addr := ⟨0x0A00, i, 32⟩
abbrev Reg.TEAM_LATE (i : Nat) : Addr := ⟨0x0A00, i, 33⟩
abbrev Reg.TEAM_NOTIFIES (i : Nat) : Addr := ⟨0x0A00, i, 34⟩
abbrev Reg.TEAM_REOPENS (i : Nat) : Addr := ⟨0x0A00, i, 35⟩

abbrev Reg.MEMBER_SRC (i : Nat) : Addr := ⟨0x0A01, i, 0⟩
abbrev Reg.MEMBER_CHILD (i : Nat) : Addr := ⟨0x0A01, i, 1⟩
abbrev Reg.MEMBER_SLOT (i : Nat) : Addr := ⟨0x0A01, i, 2⟩
abbrev Reg.MEMBER_PART (i : Nat) : Addr := ⟨0x0A01, i, 3⟩
abbrev Reg.MEMBER_NCONTRIB (i : Nat) : Addr := ⟨0x0A01, i, 4⟩
abbrev Reg.MEMBER_RESULT_EN (i : Nat) : Addr := ⟨0x0A01, i, 5⟩
abbrev Reg.MEMBER_PENDING (i : Nat) : Addr := ⟨0x0A01, i, 6⟩

abbrev Reg.CHUNK_STATE (i : Nat) : Addr := ⟨0x0A02, i, 0⟩
abbrev Reg.CHUNK_CHUNK (i : Nat) : Addr := ⟨0x0A02, i, 1⟩
abbrev Reg.CHUNK_CHILDREN_IN (i : Nat) : Addr := ⟨0x0A02, i, 2⟩
abbrev Reg.CHUNK_TRIES (i : Nat) : Addr := ⟨0x0A02, i, 3⟩
abbrev Reg.CHUNK_HOME (i : Nat) : Addr := ⟨0x0A02, i, 4⟩
abbrev Reg.CHUNK_AGE (i : Nat) : Addr := ⟨0x0A02, i, 5⟩
abbrev Reg.CHUNK_REOPENED (i : Nat) : Addr := ⟨0x0A02, i, 6⟩
abbrev Reg.CHUNK_OUT_STATE (i : Nat) : Addr := ⟨0x0A02, i, 7⟩
abbrev Reg.CHUNK_OUT_CHUNK (i : Nat) : Addr := ⟨0x0A02, i, 8⟩

abbrev Reg.TEAMS_ACTIVE : Addr := ⟨0x0A03, 0, 0⟩
abbrev Reg.TEAMS_REUSE_GAP : Addr := ⟨0x0A03, 0, 1⟩
abbrev Reg.TEAMS_SLOTS_FREE : Addr := ⟨0x0A03, 0, 2⟩
abbrev Reg.TEAMS_ROOM_FREE : Addr := ⟨0x0A03, 0, 3⟩
abbrev Reg.TEAMS_MEMBERS_FREE : Addr := ⟨0x0A03, 0, 4⟩

abbrev Reg.TEAMARITH_NAN_OUT (i : Nat) : Addr := ⟨0x0B00, i, 0⟩
abbrev Reg.TEAMARITH_INF_OUT (i : Nat) : Addr := ⟨0x0B00, i, 1⟩
abbrev Reg.TEAMARITH_SAT_OUT (i : Nat) : Addr := ⟨0x0B00, i, 2⟩
abbrev Reg.TEAMARITH_OVF_OUT (i : Nat) : Addr := ⟨0x0B00, i, 3⟩
abbrev Reg.TEAMARITH_LAST_DIGEST (i : Nat) : Addr := ⟨0x0B00, i, 4⟩
abbrev Reg.TEAMARITH_LAST_DIGEST_CHUNK (i : Nat) : Addr := ⟨0x0B00, i, 5⟩

abbrev Reg.HENGINE_STATE (i : Nat) : Addr := ⟨0x0C00, i, 0⟩
abbrev Reg.HENGINE_ADMIN (i : Nat) : Addr := ⟨0x0C00, i, 1⟩
abbrev Reg.HENGINE_STRING (i : Nat) : Addr := ⟨0x0C00, i, 2⟩
abbrev Reg.HENGINE_SUSPECT (i : Nat) : Addr := ⟨0x0C00, i, 3⟩
abbrev Reg.HENGINE_STINTS (i : Nat) : Addr := ⟨0x0C00, i, 4⟩
abbrev Reg.HENGINE_CHECK_FAILS (i : Nat) : Addr := ⟨0x0C00, i, 5⟩
abbrev Reg.HENGINE_REPLAYS (i : Nat) : Addr := ⟨0x0C00, i, 6⟩
abbrev Reg.HENGINE_REMOUNTS (i : Nat) : Addr := ⟨0x0C00, i, 7⟩
abbrev Reg.HENGINE_QUEUED (i : Nat) : Addr := ⟨0x0C00, i, 8⟩

abbrev Reg.YOKE_STATE (i : Nat) : Addr := ⟨0x0C01, i, 0⟩
abbrev Reg.YOKE_ADMIN (i : Nat) : Addr := ⟨0x0C01, i, 1⟩
abbrev Reg.YOKE_SUSPECT (i : Nat) : Addr := ⟨0x0C01, i, 2⟩
abbrev Reg.YOKE_PASSES (i : Nat) : Addr := ⟨0x0C01, i, 3⟩
abbrev Reg.YOKE_FILL (i : Nat) : Addr := ⟨0x0C01, i, 4⟩
abbrev Reg.YOKE_CHECK_FAILS (i : Nat) : Addr := ⟨0x0C01, i, 5⟩
abbrev Reg.YOKE_FALLBACK_TRACES (i : Nat) : Addr := ⟨0x0C01, i, 6⟩

abbrev Reg.ARITHCFG_TRACE_POOL : Addr := ⟨0x0C02, 0, 0⟩
abbrev Reg.ARITHCFG_STAGE_AREA : Addr := ⟨0x0C02, 0, 1⟩
abbrev Reg.ARITHCFG_ACC_GIB : Addr := ⟨0x0C02, 0, 2⟩
abbrev Reg.ARITHCFG_SUSPECT_LIMIT : Addr := ⟨0x0C02, 0, 3⟩
abbrev Reg.ARITHCFG_SUSPECT_DECAY : Addr := ⟨0x0C02, 0, 4⟩
abbrev Reg.ARITHCFG_RESIDENT_KIB : Addr := ⟨0x0C02, 0, 5⟩

abbrev Reg.FACETARITH_RESIDENT_FREE (i : Nat) : Addr := ⟨0x0C03, i, 0⟩
abbrev Reg.FACETARITH_HBM_ACC_FREE (i : Nat) : Addr := ⟨0x0C03, i, 1⟩
abbrev Reg.FACETARITH_POOL_FREE (i : Nat) : Addr := ⟨0x0C03, i, 2⟩
abbrev Reg.FACETARITH_STAGED (i : Nat) : Addr := ⟨0x0C03, i, 3⟩
abbrev Reg.FACETARITH_ENGINES_IN (i : Nat) : Addr := ⟨0x0C03, i, 4⟩
abbrev Reg.FACETARITH_HOME (i : Nat) : Addr := ⟨0x0C03, i, 5⟩
abbrev Reg.FACETARITH_POOL_WAIT_TICKS (i : Nat) : Addr := ⟨0x0C03, i, 6⟩

abbrev Reg.TEAMHOME_HASH (i : Nat) : Addr := ⟨0x0C04, i, 0⟩
abbrev Reg.TEAMHOME_PLACE (i : Nat) : Addr := ⟨0x0C04, i, 1⟩
abbrev Reg.TEAMHOME_SLOTS_F (i k : Nat) : Addr := ⟨0x0C04, i, 8 + k⟩

abbrev Reg.EPOCH_NUMBER : Addr := ⟨0x0D00, 0, 0⟩
abbrev Reg.EPOCH_BOUNDARY : Addr := ⟨0x0D00, 0, 1⟩
abbrev Reg.EPOCH_PRIO : Addr := ⟨0x0D00, 0, 2⟩
abbrev Reg.EPOCH_PERIOD_LOG2 : Addr := ⟨0x0D00, 0, 3⟩
abbrev Reg.EPOCH_STATE : Addr := ⟨0x0D00, 0, 4⟩
abbrev Reg.EPOCH_SLEWING : Addr := ⟨0x0D00, 0, 5⟩
abbrev Reg.EPOCH_SOURCE : Addr := ⟨0x0D00, 0, 6⟩
abbrev Reg.EPOCH_ROOT_SERIAL : Addr := ⟨0x0D00, 0, 7⟩
abbrev Reg.EPOCH_ROOT_PRIO : Addr := ⟨0x0D00, 0, 8⟩
abbrev Reg.EPOCH_DIST : Addr := ⟨0x0D00, 0, 9⟩
abbrev Reg.EPOCH_OFFSET : Addr := ⟨0x0D00, 0, 10⟩
abbrev Reg.EPOCH_HOLD_ELECT : Addr := ⟨0x0D00, 0, 11⟩
abbrev Reg.EPOCH_SLEW_EPOCHS : Addr := ⟨0x0D00, 0, 12⟩
abbrev Reg.EPOCH_EPOCH_IN_EN : Addr := ⟨0x0D00, 0, 13⟩
abbrev Reg.EPOCH_EPIN_REJECTS : Addr := ⟨0x0D00, 0, 14⟩
abbrev Reg.EPOCH_JUMPS : Addr := ⟨0x0D00, 0, 15⟩

abbrev Reg.SWAP_COMMAND : Addr := ⟨0x0D01, 0, 0⟩
abbrev Reg.SWAP_TARGET : Addr := ⟨0x0D01, 0, 1⟩
abbrev Reg.SWAP_FORCE : Addr := ⟨0x0D01, 0, 2⟩
abbrev Reg.SWAP_TRIGGER_GROUP : Addr := ⟨0x0D01, 0, 3⟩
abbrev Reg.SWAP_EXPECT_HI : Addr := ⟨0x0D01, 0, 4⟩
abbrev Reg.SWAP_EXPECT_LO : Addr := ⟨0x0D01, 0, 5⟩
abbrev Reg.SWAP_STATE : Addr := ⟨0x0D01, 0, 6⟩
abbrev Reg.SWAP_ERROR : Addr := ⟨0x0D01, 0, 7⟩
abbrev Reg.SWAP_DETAIL : Addr := ⟨0x0D01, 0, 8⟩
abbrev Reg.SWAP_APPLIED_EPOCH : Addr := ⟨0x0D01, 0, 9⟩
abbrev Reg.SWAP_APPLIED_TICK : Addr := ⟨0x0D01, 0, 10⟩
abbrev Reg.SWAP_SWAPS : Addr := ⟨0x0D01, 0, 11⟩

abbrev Reg.CONFSET_ROLE : Addr := ⟨0x0D02, 0, 0⟩
abbrev Reg.CONFSET_ACTIVE_EPOCH : Addr := ⟨0x0D02, 0, 1⟩
abbrev Reg.CONFSET_DIGEST_HI : Addr := ⟨0x0D02, 0, 2⟩
abbrev Reg.CONFSET_DIGEST_LO : Addr := ⟨0x0D02, 0, 3⟩
abbrev Reg.CONFSET_SHADOW_HI : Addr := ⟨0x0D02, 0, 4⟩
abbrev Reg.CONFSET_SHADOW_LO : Addr := ⟨0x0D02, 0, 5⟩
abbrev Reg.CONFSET_PEERS_MISMATCH : Addr := ⟨0x0D02, 0, 6⟩
abbrev Reg.CONFSET_MARK_TIMEOUT : Addr := ⟨0x0D02, 0, 7⟩
abbrev Reg.CONFSET_CACHE_FREE : Addr := ⟨0x0D02, 0, 8⟩

abbrev Reg.LINKSET_EXP_EPOCH (i : Nat) : Addr := ⟨0x0D03, i, 0⟩
abbrev Reg.LINKSET_EXP_HI (i : Nat) : Addr := ⟨0x0D03, i, 1⟩
abbrev Reg.LINKSET_EXP_LO (i : Nat) : Addr := ⟨0x0D03, i, 2⟩
abbrev Reg.LINKSET_PEER_EPOCH (i : Nat) : Addr := ⟨0x0D03, i, 3⟩
abbrev Reg.LINKSET_PEER_HI (i : Nat) : Addr := ⟨0x0D03, i, 4⟩
abbrev Reg.LINKSET_PEER_LO (i : Nat) : Addr := ⟨0x0D03, i, 5⟩
abbrev Reg.LINKSET_PEER_SWAP (i : Nat) : Addr := ⟨0x0D03, i, 6⟩
abbrev Reg.LINKSET_STATE (i : Nat) : Addr := ⟨0x0D03, i, 7⟩
abbrev Reg.LINKSET_EMPTY_VLS (i : Nat) : Addr := ⟨0x0D03, i, 8⟩
abbrev Reg.LINKSET_PEER_EMPTY (i : Nat) : Addr := ⟨0x0D03, i, 9⟩

abbrev Reg.DRAIN_COMMAND (i : Nat) : Addr := ⟨0x0D04, i, 0⟩
abbrev Reg.DRAIN_STATE (i : Nat) : Addr := ⟨0x0D04, i, 1⟩
abbrev Reg.DRAIN_MARKS_SENT (i : Nat) : Addr := ⟨0x0D04, i, 2⟩
abbrev Reg.DRAIN_MARKS_ECHOED (i : Nat) : Addr := ⟨0x0D04, i, 3⟩
abbrev Reg.DRAIN_UNTRACKED (i : Nat) : Addr := ⟨0x0D04, i, 4⟩

abbrev Reg.TWIN_ENABLE : Addr := ⟨0x0D05, 0, 0⟩
abbrev Reg.TWIN_PEER_EID : Addr := ⟨0x0D05, 0, 1⟩
abbrev Reg.TWIN_STATE : Addr := ⟨0x0D05, 0, 2⟩
abbrev Reg.TWIN_POSITION : Addr := ⟨0x0D05, 0, 3⟩
abbrev Reg.TWIN_PEER_SERIAL : Addr := ⟨0x0D05, 0, 4⟩
abbrev Reg.TWIN_MIRROR_LAG : Addr := ⟨0x0D05, 0, 5⟩
abbrev Reg.TWIN_TAKEOVERS : Addr := ⟨0x0D05, 0, 6⟩
abbrev Reg.TWIN_PAIR (k : Nat) : Addr := ⟨0x0D05, 0, 32 + k⟩

abbrev Reg.TWINTEAM_OWNER (i : Nat) : Addr := ⟨0x0D06, i, 0⟩
abbrev Reg.TWINTEAM_ADOPTED (i : Nat) : Addr := ⟨0x0D06, i, 1⟩

abbrev Reg.FAILOVER_DST (i : Nat) : Addr := ⟨0x0D07, i, 0⟩
abbrev Reg.FAILOVER_ALT_RG (i : Nat) : Addr := ⟨0x0D07, i, 1⟩
abbrev Reg.FAILOVER_STATE (i : Nat) : Addr := ⟨0x0D07, i, 2⟩
abbrev Reg.FAILOVER_SINCE (i : Nat) : Addr := ⟨0x0D07, i, 3⟩

abbrev Reg.PORTTEN_ALL (i : Nat) : Addr := ⟨0x0E00, i, 0⟩
abbrev Reg.PORTTEN_STAMP (i : Nat) : Addr := ⟨0x0E00, i, 1⟩
abbrev Reg.PORTTEN_SINGLE (i : Nat) : Addr := ⟨0x0E00, i, 2⟩
abbrev Reg.PORTTEN_COUNT (i : Nat) : Addr := ⟨0x0E00, i, 3⟩
abbrev Reg.PORTTEN_PERMIT (i k : Nat) : Addr := ⟨0x0E00, i, 32 + k⟩

abbrev Reg.TENANT_TEAM_QUOTA (i : Nat) : Addr := ⟨0x0E01, i, 0⟩
abbrev Reg.TENANT_TEAMS_ACTIVE (i : Nat) : Addr := ⟨0x0E01, i, 1⟩
abbrev Reg.TENANT_TELEM_EN (i : Nat) : Addr := ⟨0x0E01, i, 2⟩
abbrev Reg.TENANT_TELEM_RATE (i : Nat) : Addr := ⟨0x0E01, i, 3⟩
abbrev Reg.TENANT_ANALYSIS (i : Nat) : Addr := ⟨0x0E01, i, 4⟩
abbrev Reg.TENANT_PORTS (i : Nat) : Addr := ⟨0x0E01, i, 5⟩
abbrev Reg.TENANT_STAMPED (i : Nat) : Addr := ⟨0x0E01, i, 6⟩
abbrev Reg.TENANT_TELEM_SERVED (i : Nat) : Addr := ⟨0x0E01, i, 7⟩
abbrev Reg.TENANT_TELEM_REFUSED (i : Nat) : Addr := ⟨0x0E01, i, 8⟩

abbrev Reg.CBANK_TYPE (i : Nat) : Addr := ⟨0x0F00, i, 0⟩
abbrev Reg.CBANK_TICK (i : Nat) : Addr := ⟨0x0F00, i, 1⟩
abbrev Reg.CBANK_VALUE (i k : Nat) : Addr := ⟨0x0F00, i, 2 + k⟩
abbrev Reg.CBANK_OVF (i : Nat) : Addr := ⟨0x0F00, i, 10⟩
abbrev Reg.CBANK_CFG_GEN (i : Nat) : Addr := ⟨0x0F00, i, 11⟩
abbrev Reg.CBANK_CLEAR (i : Nat) : Addr := ⟨0x0F00, i, 12⟩

abbrev Reg.CCOUNTER_SELECT (i : Nat) : Addr := ⟨0x0F01, i, 0⟩
abbrev Reg.CCOUNTER_UNIT (i : Nat) : Addr := ⟨0x0F01, i, 1⟩
abbrev Reg.CCOUNTER_PORTMASK (i : Nat) : Addr := ⟨0x0F01, i, 2⟩
abbrev Reg.CCOUNTER_VLMASK (i : Nat) : Addr := ⟨0x0F01, i, 3⟩
abbrev Reg.CCOUNTER_TCMASK (i : Nat) : Addr := ⟨0x0F01, i, 4⟩
abbrev Reg.CCOUNTER_TENFILT (i : Nat) : Addr := ⟨0x0F01, i, 5⟩

abbrev Reg.CMIRROR_EPOCH (i : Nat) : Addr := ⟨0x0F02, i, 0⟩
abbrev Reg.CMIRROR_FLAGS (i : Nat) : Addr := ⟨0x0F02, i, 1⟩
abbrev Reg.CMIRROR_CFG_GEN (i : Nat) : Addr := ⟨0x0F02, i, 2⟩
abbrev Reg.CMIRROR_TICK (i : Nat) : Addr := ⟨0x0F02, i, 3⟩
abbrev Reg.CMIRROR_OVF (i : Nat) : Addr := ⟨0x0F02, i, 4⟩
abbrev Reg.CMIRROR_VALUE (i k : Nat) : Addr := ⟨0x0F02, i, 8 + k⟩

abbrev Reg.CAPTURE_EPOCH : Addr := ⟨0x0F03, 0, 0⟩
abbrev Reg.CAPTURE_STATE : Addr := ⟨0x0F03, 0, 1⟩
abbrev Reg.CAPTURE_TAKEN_EPOCH : Addr := ⟨0x0F03, 0, 2⟩

abbrev Reg.PORTSTAT_RX_FRAMES (i : Nat) : Addr := ⟨0x0F04, i, 0⟩
abbrev Reg.PORTSTAT_RX_BYTES (i : Nat) : Addr := ⟨0x0F04, i, 1⟩
abbrev Reg.PORTSTAT_TX_FRAMES (i : Nat) : Addr := ⟨0x0F04, i, 2⟩
abbrev Reg.PORTSTAT_TX_BYTES (i : Nat) : Addr := ⟨0x0F04, i, 3⟩
abbrev Reg.PORTSTAT_DISCARDS (i : Nat) : Addr := ⟨0x0F04, i, 4⟩
abbrev Reg.PORTSTAT_ECN_MARKED (i : Nat) : Addr := ⟨0x0F04, i, 5⟩

abbrev Reg.VETCFG_PERIOD_STRING : Addr := ⟨0x1000, 0, 0⟩
abbrev Reg.VETCFG_PERIOD_YOKE : Addr := ⟨0x1000, 0, 1⟩
abbrev Reg.VETCFG_PERIOD_VERTEX : Addr := ⟨0x1000, 0, 2⟩
abbrev Reg.VETCFG_MAX_CONCURRENT : Addr := ⟨0x1000, 0, 3⟩
abbrev Reg.VETCFG_LOAD_MAX : Addr := ⟨0x1000, 0, 4⟩
abbrev Reg.VETCFG_YIELD : Addr := ⟨0x1000, 0, 5⟩
abbrev Reg.VETCFG_RETRY_S : Addr := ⟨0x1000, 0, 6⟩
abbrev Reg.VETCFG_RECHECK : Addr := ⟨0x1000, 0, 7⟩
abbrev Reg.VETCFG_AUTO_FACET : Addr := ⟨0x1000, 0, 8⟩

abbrev Reg.VET_COMMAND (i : Nat) : Addr := ⟨0x1001, i, 0⟩
abbrev Reg.VET_STATE (i : Nat) : Addr := ⟨0x1001, i, 1⟩
abbrev Reg.VET_LAST_RESULT (i : Nat) : Addr := ⟨0x1001, i, 2⟩
abbrev Reg.VET_LAST_POINTS (i : Nat) : Addr := ⟨0x1001, i, 3⟩
abbrev Reg.VET_LAST_SEQ (i : Nat) : Addr := ⟨0x1001, i, 4⟩
abbrev Reg.VET_RUNS (i : Nat) : Addr := ⟨0x1001, i, 5⟩
abbrev Reg.VET_FAILS (i : Nat) : Addr := ⟨0x1001, i, 6⟩
abbrev Reg.VET_MARGINAL_RUN (i : Nat) : Addr := ⟨0x1001, i, 7⟩

abbrev Reg.VETPACK_COMMAND : Addr := ⟨0x1002, 0, 0⟩
abbrev Reg.VETPACK_RESULT : Addr := ⟨0x1002, 0, 1⟩
abbrev Reg.VETPACK_ACTIVE_SLOT : Addr := ⟨0x1002, 0, 2⟩
abbrev Reg.VETPACK_PACK_SEQ : Addr := ⟨0x1002, 0, 3⟩
abbrev Reg.VETPACK_MIN_SEQ : Addr := ⟨0x1002, 0, 4⟩
abbrev Reg.VETPACK_KINDS : Addr := ⟨0x1002, 0, 5⟩

abbrev Reg.STUDBOOK_OLDEST : Addr := ⟨0x1003, 0, 0⟩
abbrev Reg.STUDBOOK_NEXT_SEQ : Addr := ⟨0x1003, 0, 1⟩
abbrev Reg.STUDBOOK_FLASH_OLDEST : Addr := ⟨0x1003, 0, 2⟩
abbrev Reg.STUDBOOK_FLASH_NEXT : Addr := ⟨0x1003, 0, 3⟩
abbrev Reg.STUDBOOK_MARK_EPOCH : Addr := ⟨0x1003, 0, 4⟩
abbrev Reg.STUDBOOK_MARK_SEQ : Addr := ⟨0x1003, 0, 5⟩
abbrev Reg.STUDBOOK_CLEAR : Addr := ⟨0x1003, 0, 6⟩
abbrev Reg.STUDBOOK_LAST_CLEARED : Addr := ⟨0x1003, 0, 7⟩
abbrev Reg.STUDBOOK_ALERT_ACK : Addr := ⟨0x1003, 0, 8⟩
abbrev Reg.STUDBOOK_LAG_MAX : Addr := ⟨0x1003, 0, 9⟩

abbrev Reg.STUDREC_W0 (i : Nat) : Addr := ⟨0x1004, i, 0⟩
abbrev Reg.STUDREC_W1 (i : Nat) : Addr := ⟨0x1004, i, 1⟩
abbrev Reg.STUDREC_W2 (i : Nat) : Addr := ⟨0x1004, i, 2⟩
abbrev Reg.STUDREC_W3 (i : Nat) : Addr := ⟨0x1004, i, 3⟩

abbrev Reg.STUDFLASH_W0 (i : Nat) : Addr := ⟨0x1005, i, 0⟩
abbrev Reg.STUDFLASH_W1 (i : Nat) : Addr := ⟨0x1005, i, 1⟩
abbrev Reg.STUDFLASH_W2 (i : Nat) : Addr := ⟨0x1005, i, 2⟩
abbrev Reg.STUDFLASH_W3 (i : Nat) : Addr := ⟨0x1005, i, 3⟩

abbrev Reg.CODECFG_BURST (i : Nat) : Addr := ⟨0x1006, i, 0⟩
abbrev Reg.CODECFG_PERIOD_MS (i : Nat) : Addr := ⟨0x1006, i, 1⟩
abbrev Reg.CODECFG_ALERT (i : Nat) : Addr := ⟨0x1006, i, 2⟩
abbrev Reg.CODECFG_SUPPRESSED (i : Nat) : Addr := ⟨0x1006, i, 3⟩
abbrev Reg.CODECFG_WRITTEN (i : Nat) : Addr := ⟨0x1006, i, 4⟩

abbrev Reg.SIRGO_INBAND_MAX_ROLE : Addr := ⟨0x1100, 0, 0⟩
abbrev Reg.SIRGO_ACCEPTED : Addr := ⟨0x1100, 0, 1⟩
abbrev Reg.SIRGO_REFUSED : Addr := ⟨0x1100, 0, 2⟩
abbrev Reg.SIRGO_REPLAYS : Addr := ⟨0x1100, 0, 3⟩
abbrev Reg.SIRGO_DROP_AUTH : Addr := ⟨0x1100, 0, 4⟩
abbrev Reg.SIRGO_DROP_FORMAT : Addr := ⟨0x1100, 0, 5⟩
abbrev Reg.SIRGO_DROP_QUEUE : Addr := ⟨0x1100, 0, 6⟩
abbrev Reg.SIRGO_QUEUE_PEAK : Addr := ⟨0x1100, 0, 7⟩

abbrev Reg.MGMTPORT_ENABLE (i : Nat) : Addr := ⟨0x1101, i, 0⟩
abbrev Reg.MGMTPORT_MODE (i : Nat) : Addr := ⟨0x1101, i, 1⟩
abbrev Reg.MGMTPORT_ADDR_HI (i : Nat) : Addr := ⟨0x1101, i, 2⟩
abbrev Reg.MGMTPORT_ADDR_LO (i : Nat) : Addr := ⟨0x1101, i, 3⟩
abbrev Reg.MGMTPORT_PREFIX (i : Nat) : Addr := ⟨0x1101, i, 4⟩
abbrev Reg.MGMTPORT_MTU (i : Nat) : Addr := ⟨0x1101, i, 5⟩
abbrev Reg.MGMTPORT_LINK (i : Nat) : Addr := ⟨0x1101, i, 6⟩
abbrev Reg.MGMTPORT_DISCARDS (i : Nat) : Addr := ⟨0x1101, i, 7⟩

abbrev Reg.KEY_STATE (i : Nat) : Addr := ⟨0x1102, i, 0⟩
abbrev Reg.KEY_ROLE (i : Nat) : Addr := ⟨0x1102, i, 1⟩
abbrev Reg.KEY_TEN (i : Nat) : Addr := ⟨0x1102, i, 2⟩
abbrev Reg.KEY_SECRET (i : Nat) : Addr := ⟨0x1102, i, 3⟩
abbrev Reg.KEY_FLOOR (i : Nat) : Addr := ⟨0x1102, i, 4⟩
abbrev Reg.KEY_CEILING (i : Nat) : Addr := ⟨0x1102, i, 5⟩
abbrev Reg.KEY_LAST_EPOCH (i : Nat) : Addr := ⟨0x1102, i, 6⟩

abbrev Reg.SIGNKEY_STATE (i : Nat) : Addr := ⟨0x1103, i, 0⟩
abbrev Reg.SIGNKEY_PUBKEY (i : Nat) : Addr := ⟨0x1103, i, 1⟩

abbrev Reg.FIRMWARE_COMMAND : Addr := ⟨0x1104, 0, 0⟩
abbrev Reg.FIRMWARE_RESULT : Addr := ⟨0x1104, 0, 1⟩
abbrev Reg.FIRMWARE_RUNNING_SLOT : Addr := ⟨0x1104, 0, 2⟩
abbrev Reg.FIRMWARE_EXEC_BANK : Addr := ⟨0x1104, 0, 3⟩
abbrev Reg.FIRMWARE_RUNNING_SEQ : Addr := ⟨0x1104, 0, 4⟩
abbrev Reg.FIRMWARE_RUNNING_VERSION : Addr := ⟨0x1104, 0, 5⟩
abbrev Reg.FIRMWARE_NEXT_SLOT : Addr := ⟨0x1104, 0, 6⟩
abbrev Reg.FIRMWARE_TRIAL : Addr := ⟨0x1104, 0, 7⟩
abbrev Reg.FIRMWARE_MIN_SEQ : Addr := ⟨0x1104, 0, 8⟩
abbrev Reg.FIRMWARE_CONFIRM_S : Addr := ⟨0x1104, 0, 9⟩

abbrev Reg.BOOTSET_COMMAND : Addr := ⟨0x1106, 0, 0⟩
abbrev Reg.BOOTSET_STATE : Addr := ⟨0x1106, 0, 1⟩
abbrev Reg.BOOTSET_SAVED_HI : Addr := ⟨0x1106, 0, 2⟩
abbrev Reg.BOOTSET_SAVED_LO : Addr := ⟨0x1106, 0, 3⟩
abbrev Reg.BOOTSET_SAVED_EPOCH : Addr := ⟨0x1106, 0, 4⟩

abbrev Reg.POWER_LIMIT : Addr := ⟨0x1200, 0, 0⟩
abbrev Reg.POWER_SWITCH_VCORE : Addr := ⟨0x1200, 0, 1⟩
abbrev Reg.POWER_INPUT_W : Addr := ⟨0x1200, 0, 2⟩
abbrev Reg.POWER_LOSS_W : Addr := ⟨0x1200, 0, 3⟩
abbrev Reg.POWER_VIN_MV : Addr := ⟨0x1200, 0, 4⟩
abbrev Reg.POWER_VAUX_MV : Addr := ⟨0x1200, 0, 5⟩
abbrev Reg.POWER_OVER_LIMIT : Addr := ⟨0x1200, 0, 6⟩
abbrev Reg.POWER_OVER_TICKS : Addr := ⟨0x1200, 0, 7⟩
abbrev Reg.POWER_COMMAND : Addr := ⟨0x1200, 0, 8⟩
abbrev Reg.POWER_RESET_CAUSE : Addr := ⟨0x1200, 0, 9⟩
abbrev Reg.POWER_READY : Addr := ⟨0x1200, 0, 10⟩

abbrev Reg.ARBCLASS_DEMAND_MW (i : Nat) : Addr := ⟨0x1201, i, 0⟩
abbrev Reg.ARBCLASS_GRANT_MW (i : Nat) : Addr := ⟨0x1201, i, 1⟩
abbrev Reg.ARBCLASS_MIN_MW (i : Nat) : Addr := ⟨0x1201, i, 2⟩
abbrev Reg.ARBCLASS_DUTY (i : Nat) : Addr := ⟨0x1201, i, 3⟩
abbrev Reg.ARBCLASS_THROTTLED_TICKS (i : Nat) : Addr := ⟨0x1201, i, 4⟩

abbrev Reg.THERMAL_TEMP (i : Nat) : Addr := ⟨0x1202, i, 0⟩
abbrev Reg.THERMAL_PEAK (i : Nat) : Addr := ⟨0x1202, i, 1⟩
abbrev Reg.THERMAL_STATE (i : Nat) : Addr := ⟨0x1202, i, 2⟩
abbrev Reg.THERMAL_TRIPS (i : Nat) : Addr := ⟨0x1202, i, 3⟩

abbrev Reg.PACKAGE_BMI_ADDR : Addr := ⟨0x1300, 0, 0⟩
abbrev Reg.PACKAGE_PINS_IN : Addr := ⟨0x1300, 0, 1⟩
abbrev Reg.PACKAGE_PINS_OUT : Addr := ⟨0x1300, 0, 2⟩
abbrev Reg.PACKAGE_BMI_EN : Addr := ⟨0x1300, 0, 3⟩
abbrev Reg.PACKAGE_BMI_FAULTS : Addr := ⟨0x1300, 0, 4⟩
abbrev Reg.PACKAGE_BMI_READS : Addr := ⟨0x1300, 0, 5⟩

/-! ## Values after reset -/

/-- Two's complement of a (possibly negative) value in `w` bits, as the dictionary carries it (R506). -/
def toRaw (w : Nat) (x : Int) : Nat := (x % ((2 : Int) ^ w)).toNat

/-- The signed value a `w`-bit pattern stands for (R506). -/
def ofRaw (w n : Nat) : Int := if n < 2 ^ (w - 1) then (n : Int) else (n : Int) - (2 : Int) ^ w

/-- UNIT elements fixed by the instance number: level x 65,536 + index (R41). -/
def unitDefault (inst el : Nat) : Nat :=
  let level := inst / 65536
  let idx := inst % 65536
  match el with
  | 0 => level
  | 1 => idx
  | 2 => match level with
    | 0 => 65536 + idx / 4
    | 1 => 131072 + idx / 16
    | 2 => 196608 + idx / 16
    | 3 => 262144
    | _ => 0xFFFFFFFF
  | 3 => match level with
    | 0 => idx / 4
    | 1 => idx
    | 2 => idx * 16
    | 3 => idx * 256
    | _ => 0
  | 4 => match level with
    | 2 => 16
    | 3 => 256
    | 4 => 2048
    | 5 => 4096
    | _ => 1
  | 6 => if level = 5 then 3 else 2
  | _ => 0

/-- The bank type of a local bank index (R447). -/
def bankType (loc : Nat) : Nat :=
  if loc < 16 then 0 else if loc < 21 then 1 else if loc = 21 then 2
  else if loc < 24 then 3 else if loc = 24 then 4 else 5

/-! Studbook codes. -/
abbrev Code.HSR_LOW : Nat := 0x0101
abbrev Code.ISLAND_DEGRADED : Nat := 0x0102
abbrev Code.REF_CHANGE : Nat := 0x0103
abbrev Code.TIMEBASE_SKEW : Nat := 0x0104
abbrev Code.UNIT_STATE : Nat := 0x0105
abbrev Code.LATTICE_DOWN : Nat := 0x0106
abbrev Code.RING_WRONG_WL : Nat := 0x0201
abbrev Code.RING_FAULT : Nat := 0x0202
abbrev Code.FADE_WARN : Nat := 0x0203
abbrev Code.FADE_MIGRATE : Nat := 0x0204
abbrev Code.FEED_MIGRATED : Nat := 0x0205
abbrev Code.MIGRATE_BLOCKED : Nat := 0x0206
abbrev Code.FADE_FAIL : Nat := 0x0207
abbrev Code.FEED_BREAK : Nat := 0x0208
abbrev Code.CLS_LATCH : Nat := 0x0209
abbrev Code.TAP_SPREAD : Nat := 0x020A
abbrev Code.EYE_SHUT : Nat := 0x020B
abbrev Code.EYE_OPEN : Nat := 0x020C
abbrev Code.DARK_EXPIRED : Nat := 0x020D
abbrev Code.PORT_UP : Nat := 0x0301
abbrev Code.PORT_DOWN : Nat := 0x0302
abbrev Code.TRAIN_FAIL : Nat := 0x0303
abbrev Code.FAVOUR_ENTER : Nat := 0x0304
abbrev Code.FAVOUR_EXIT : Nat := 0x0305
abbrev Code.CREDIT_AUDIT : Nat := 0x0306
abbrev Code.LOOPBACK : Nat := 0x0307
abbrev Code.RTT_BEYOND : Nat := 0x0308
abbrev Code.CHORD_LIT : Nat := 0x0401
abbrev Code.CHORD_DOWN : Nat := 0x0402
abbrev Code.CHORD_BROKEN : Nat := 0x0403
abbrev Code.CHORD_RESTORED : Nat := 0x0404
abbrev Code.CHORD_FAULT : Nat := 0x0405
abbrev Code.CHORD_INVALID : Nat := 0x0406
abbrev Code.FRAME_OVERSIZE : Nat := 0x0501
abbrev Code.HCRC_BAD : Nat := 0x0502
abbrev Code.POISON_SENT : Nat := 0x0503
abbrev Code.REPIN : Nat := 0x0601
abbrev Code.RG_NONE_LIVE : Nat := 0x0602
abbrev Code.RG_INVALID : Nat := 0x0603
abbrev Code.LEARN_FULL : Nat := 0x0604
abbrev Code.HOLD_OVERFLOW : Nat := 0x0605
abbrev Code.SPILL_FULL : Nat := 0x0701
abbrev Code.RESIDENCE_EXPIRED : Nat := 0x0702
abbrev Code.BUF_ECC : Nat := 0x0703
abbrev Code.SPILL_ECC : Nat := 0x0704
abbrev Code.SPILL_LOST : Nat := 0x0705
abbrev Code.BUF_INVALID : Nat := 0x0706
abbrev Code.WHEEL_LATE : Nat := 0x0801
abbrev Code.POLICED : Nat := 0x0802
abbrev Code.CTRL_HELD : Nat := 0x0803
abbrev Code.CREDIT_STARVED : Nat := 0x0901
abbrev Code.TURN_UP : Nat := 0x0902
abbrev Code.DATELINE_TWICE : Nat := 0x0903
abbrev Code.TEAM_REFUSED : Nat := 0x0A01
abbrev Code.TEAM_SETUP : Nat := 0x0A02
abbrev Code.TEAM_RETIRED : Nat := 0x0A03
abbrev Code.CHUNK_STALLED : Nat := 0x0A04
abbrev Code.TEAM_REOPENED : Nat := 0x0A05
abbrev Code.TEAM_FAILED : Nat := 0x0A06
abbrev Code.TEAM_ORPHANED : Nat := 0x0A07
abbrev Code.ARITH_NAN : Nat := 0x0B01
abbrev Code.INT_OVERFLOW : Nat := 0x0B02
abbrev Code.SATURATED : Nat := 0x0B03
abbrev Code.STINT_CHECK : Nat := 0x0C01
abbrev Code.ENGINE_QUARANTINED : Nat := 0x0C02
abbrev Code.ENGINE_RETURNED : Nat := 0x0C03
abbrev Code.STINT_FAILED : Nat := 0x0C04
abbrev Code.YOKE_FALLBACK : Nat := 0x0C05
abbrev Code.YOKE_RESTORED : Nat := 0x0C06
abbrev Code.ACC_ECC : Nat := 0x0C07
abbrev Code.HOME_MOVED : Nat := 0x0C08
abbrev Code.ARITH_INVALID : Nat := 0x0C09
abbrev Code.EPOCH_ROOT : Nat := 0x0D01
abbrev Code.EPOCH_SOURCE : Nat := 0x0D02
abbrev Code.HOLDOVER_ENTER : Nat := 0x0D03
abbrev Code.HOLDOVER_EXIT : Nat := 0x0D04
abbrev Code.EPOCH_JUMP : Nat := 0x0D05
abbrev Code.SWAP_APPLIED : Nat := 0x0D06
abbrev Code.SWAP_REFUSED : Nat := 0x0D07
abbrev Code.SWAP_DEFERRED : Nat := 0x0D08
abbrev Code.SWAP_SKEW : Nat := 0x0D09
abbrev Code.DIGEST_MISMATCH : Nat := 0x0D0A
abbrev Code.DRAIN_TIMEOUT : Nat := 0x0D0B
abbrev Code.TWIN_PAIRED : Nat := 0x0D0C
abbrev Code.TWIN_PEER_LOST : Nat := 0x0D0D
abbrev Code.TWIN_SPLIT : Nat := 0x0D0E
abbrev Code.FAILOVER : Nat := 0x0D0F
abbrev Code.TELEM_DENIED : Nat := 0x0E01
abbrev Code.MIRROR_TEN : Nat := 0x0E02
abbrev Code.CAPTURE_TAKEN : Nat := 0x0F01
abbrev Code.TELEM_FORMAT : Nat := 0x0F02
abbrev Code.VET_RESULT : Nat := 0x1001
abbrev Code.VET_ABORTED : Nat := 0x1002
abbrev Code.VET_OVERDUE : Nat := 0x1003
abbrev Code.VETPACK_LOADED : Nat := 0x1004
abbrev Code.VETPACK_REJECTED : Nat := 0x1005
abbrev Code.STUDBOOK_START : Nat := 0x1006
abbrev Code.CLEARED : Nat := 0x1007
abbrev Code.PERSIST_GAP : Nat := 0x1008
abbrev Code.SIRGO_AUTH : Nat := 0x1101
abbrev Code.KEY_CHANGED : Nat := 0x1102
abbrev Code.SIGNKEY_CHANGED : Nat := 0x1103
abbrev Code.FW_VERIFIED : Nat := 0x1104
abbrev Code.FW_ACTIVATED : Nat := 0x1105
abbrev Code.FW_CONFIRMED : Nat := 0x1106
abbrev Code.FW_REVERTED : Nat := 0x1107
abbrev Code.GROOM_RECOVERY : Nat := 0x1108
abbrev Code.BANK_XIP_STUB : Nat := 0x1109
abbrev Code.MGMT_LINK : Nat := 0x110A
abbrev Code.BOOTSET_LOADED : Nat := 0x110B
abbrev Code.BOOTSET_BAD : Nat := 0x110C
abbrev Code.POWER_OVER_LIMIT : Nat := 0x1201
abbrev Code.THERM_WARN : Nat := 0x1202
abbrev Code.THERM_THROTTLE : Nat := 0x1203
abbrev Code.THERM_OVER : Nat := 0x1204
abbrev Code.THERMTRIP : Nat := 0x1205
abbrev Code.GROOM_TRIP : Nat := 0x1206
abbrev Code.ERASE_RESUMED : Nat := 0x1207
abbrev Code.SOLID_RESET : Nat := 0x1208
abbrev Code.SUPPLY_FAULT : Nat := 0x1209
abbrev Code.BMI_BUS_FAULT : Nat := 0x1301

/-! Discard reason codes. -/
abbrev Why.HCRC_BAD : Nat := 0x01
abbrev Why.VER_UNKNOWN : Nat := 0x02
abbrev Why.KIND_RESERVED : Nat := 0x03
abbrev Why.MSG_RESERVED : Nat := 0x04
abbrev Why.KIND_MSG : Nat := 0x05
abbrev Why.KIND_SOURCE : Nat := 0x06
abbrev Why.OVERSIZE : Nat := 0x07
abbrev Why.UNDERSIZE : Nat := 0x08
abbrev Why.FIELD_INVALID : Nat := 0x09
abbrev Why.HOP_EXCEEDED : Nat := 0x0A
abbrev Why.EXT_INVALID : Nat := 0x0B
abbrev Why.ETH_LENGTH : Nat := 0x0C
abbrev Why.TRUNCATED : Nat := 0x0D
abbrev Why.POISONED : Nat := 0x0E
abbrev Why.TEN_DENIED : Nat := 0x10
abbrev Why.TEN_DST : Nat := 0x11
abbrev Why.DST_INVALID : Nat := 0x12
abbrev Why.ACTION_KIND : Nat := 0x13
abbrev Why.LOCAL_KIND : Nat := 0x14
abbrev Why.NO_LIVE_MEMBER : Nat := 0x15
abbrev Why.U_TURN : Nat := 0x16
abbrev Why.MCAST_TEN : Nat := 0x17
abbrev Why.MCAST_EMPTY : Nat := 0x18
abbrev Why.HOLD_OVERFLOW : Nat := 0x19
abbrev Why.OPEN_NO_ROOM : Nat := 0x20
abbrev Why.OPEN_QUOTA : Nat := 0x21
abbrev Why.PUSHED_OUT : Nat := 0x22
abbrev Why.MIRROR_NO_ROOM : Nat := 0x23
abbrev Why.MIRROR_RATE : Nat := 0x24
abbrev Why.RESIDENCE : Nat := 0x25
abbrev Why.FLUSH_PORT_DOWN : Nat := 0x26
abbrev Why.BUF_ECC : Nat := 0x27
abbrev Why.SPILL_ECC : Nat := 0x28
abbrev Why.SPILL_LOST : Nat := 0x29
abbrev Why.POLICED : Nat := 0x30
abbrev Why.TURN_UP : Nat := 0x40
abbrev Why.DATELINE_TWICE : Nat := 0x41
abbrev Why.LOCAL_BUSY : Nat := 0x42
abbrev Why.TEAM_UNKNOWN : Nat := 0x50
abbrev Why.TEN_TEAM : Nat := 0x51
abbrev Why.STALE_GEN : Nat := 0x52
abbrev Why.GEN_AHEAD : Nat := 0x53
abbrev Why.NOT_MEMBER : Nat := 0x54
abbrev Why.NCONTRIB_BAD : Nat := 0x55
abbrev Why.TEAM_MISMATCH : Nat := 0x56
abbrev Why.CHUNK_SHAPE : Nat := 0x57
abbrev Why.OUTSIDE_WINDOW : Nat := 0x58
abbrev Why.BEHIND_WINDOW : Nat := 0x59
abbrev Why.DUPLICATE : Nat := 0x5A
abbrev Why.REPLICA_LATE : Nat := 0x5B
abbrev Why.AFTER_DONE : Nat := 0x5C
abbrev Why.OUTPUT_LOST : Nat := 0x5D
abbrev Why.FROM_PARENT_BAD : Nat := 0x5E
abbrev Why.RESULT_DUP : Nat := 0x5F
abbrev Why.STINT_FAILED : Nat := 0x60
abbrev Why.EPOCH_BAD : Nat := 0x70
abbrev Why.MARK_STRAY : Nat := 0x71
abbrev Why.ECHO_DROPPED : Nat := 0x72
abbrev Why.TELEM_DENIED : Nat := 0x80
abbrev Why.TELEM_RATE : Nat := 0x81
abbrev Why.MIRROR_TEN : Nat := 0x82
abbrev Why.TELEM_FORMAT : Nat := 0x90

/-- Codes that their chapters mark "rate-limited per code" (R490). -/
def rateLimitedCodes : List Nat := [0x0501, 0x0502, 0x0604, 0x0605, 0x0701, 0x0702, 0x0802, 0x0902, 0x0903, 0x0A04, 0x0B01, 0x0B02,
    0x0B03, 0x0C01, 0x0E01, 0x0E02, 0x0F02, 0x1101, 0x1201, 0x1301]

/-- The defined studbook codes (R45 and the code tables of every chapter). -/
def definedCodes : List Nat :=
  [0x0101, 0x0102, 0x0103, 0x0104, 0x0105, 0x0106, 0x0201, 0x0202, 0x0203, 0x0204, 0x0205, 0x0206,
    0x0207, 0x0208, 0x0209, 0x020A, 0x020B, 0x020C, 0x020D, 0x0301, 0x0302, 0x0303, 0x0304, 0x0305,
    0x0306, 0x0307, 0x0308, 0x0401, 0x0402, 0x0403, 0x0404, 0x0405, 0x0406, 0x0501, 0x0502, 0x0503,
    0x0601, 0x0602, 0x0603, 0x0604, 0x0605, 0x0701, 0x0702, 0x0703, 0x0704, 0x0705, 0x0706, 0x0801,
    0x0802, 0x0803, 0x0901, 0x0902, 0x0903, 0x0A01, 0x0A02, 0x0A03, 0x0A04, 0x0A05, 0x0A06, 0x0A07,
    0x0B01, 0x0B02, 0x0B03, 0x0C01, 0x0C02, 0x0C03, 0x0C04, 0x0C05, 0x0C06, 0x0C07, 0x0C08, 0x0C09,
    0x0D01, 0x0D02, 0x0D03, 0x0D04, 0x0D05, 0x0D06, 0x0D07, 0x0D08, 0x0D09, 0x0D0A, 0x0D0B, 0x0D0C,
    0x0D0D, 0x0D0E, 0x0D0F, 0x0E01, 0x0E02, 0x0F01, 0x0F02, 0x1001, 0x1002, 0x1003, 0x1004, 0x1005,
    0x1006, 0x1007, 0x1008, 0x1101, 0x1102, 0x1103, 0x1104, 0x1105, 0x1106, 0x1107, 0x1108, 0x1109,
    0x110A, 0x110B, 0x110C, 0x1201, 0x1202, 0x1203, 0x1204, 0x1205, 0x1206, 0x1207, 0x1208, 0x1209,
    0x1301]

/-- Codes whose ALERT defaults to 1 (R495). -/
def alertCodes : List Nat := [0x0203, 0x0207, 0x0102, 0x0C02, 0x0D0D, 0x1003]

/-- The value an element holds after reset (R508). Entries the tables give as "per unit", "per chip"
or as a measured value are marked in the assumption log (entry 3). -/
def regDefault (a : Addr) : Nat :=
  match a.obj with
  | 0x0000 => match a.el with
    | 0 => 19290
    | 1 => 8264
    | 2 => 160
    | 4 => Config.serial.toNat
    | _ => 0
  | 0x0001 => match a.el with
    | 0 => 1048575
    | _ => 0
  | 0x0100 => unitDefault a.inst a.el
  | 0x0101 => match a.el with
    | 0 => a.inst % 8
    | 2 => if a.inst % 8 < 2 then 700 else 620
    | 4 => 65535
    | _ => 0
  | 0x0102 => match a.el with
    | 2 => 0x0F
    | _ => 0
  | 0x0103 => match a.el with
    | 0 => 40
    | 3 => if a.inst / 8 = a.inst % 8 then 3 else 0
    | _ => 0
  | 0x0200 => match a.el with
    | 0 => a.inst / 2
    | 1 => 128 * a.inst
    | 2 => 2
    | _ => 0
  | 0x0201 => match a.el with
    | 0 => 255
    | 2 => 5
    | 3 => 2
    | _ => 0
  | 0x0202 => match a.el with
    | 0 => 32768
    | 1 => 32768
    | 2 => 32768
    | 3 => 32768
    | _ => 0
  | 0x0203 => match a.el with
    | 4 => 32767
    | _ => 0
  | 0x0204 => match a.el with
    | 0 => 1
    | 6 => 1200
    | _ => 0
  | 0x0205 => match a.el with
    | 0 => 1
    | 1 => 32768
    | _ => 0
  | 0x0206 => match a.el with
    | 0 => 1
    | 1 => 12
    | 2 => 4096
    | 3 => 20
    | _ => 0
  | 0x0300 => match a.el with
    | 3 => 1
    | 9 => 255
    | _ => 0
  | 0x0301 => match a.el with
    | 0 => 1000
    | 1 => 100
    | 2 => 100
    | 3 => 100
    | _ => 0
  | 0x0302 => match a.el with
    | 0 => if a.inst % 16 < 9 then 132 else 0
    | _ => 0
  | 0x0400 => match a.el with
    | 0 => 65535
    | 1 => 65535
    | 2 => 1
    | 3 => 65535
    | 5 => 32768
    | 6 => 32768
    | _ => 0
  | 0x0401 => match a.el with
    | 0 => 512
    | 3 => 25
    | _ => 0
  | 0x0500 => match a.el with
    | 0 => 1
    | 1 => 8
    | 2 => 512
    | _ => 0
  | 0x0601 => match a.el with
    | 4 => 1
    | _ => 0
  | 0x0602 => match a.el with
    | 0 => 65535
    | 1 => 65535
    | _ => 0
  | 0x0603 => match a.el with
    | 0 => 65535
    | 1 => 65535
    | _ => 0
  | 0x0605 => match a.el with
    | 1 => 32000000
    | 2 => 1
    | 3 => 150
    | 5 => 8192
    | _ => 0
  | 0x0700 => match a.el with
    | 0 => 33
    | 1 => 16384
    | 2 => 8192
    | 3 => 512
    | 4 => 256
    | 5 => 12
    | 6 => 64
    | 7 => 4000
    | 8 => 250880
    | 9 => 8192
    | 10 => 16384
    | 11 => 2000
    | _ => 0
  | 0x0701 => match a.el with
    | 0 => if a.inst / 8 = 8 then 2 else 4
    | 1 => if a.inst / 8 = 8 then 0xFF else 0
    | 2 => if a.inst / 8 = 6 ∨ a.inst / 8 = 7 then 0 else 1
    | _ => 0
  | 0x0702 => match a.el with
    | 0 => 501760
    | 1 => 20480
    | _ => 0
  | 0x0703 => match a.el with
    | 0 => 501760
    | 1 => 501760
    | 2 => 501760
    | _ => 0
  | 0x0705 => match a.el with
    | 3 => 4294967295
    | 4 => 65535
    | 8 => 1
    | _ => 0
  | 0x0800 => match a.el with
    | 0 => 16
    | 1 => 10000
    | 2 => 65536
    | _ => 0
  | 0x0801 => match a.el with
    | 0 => if a.inst / 8 = 6 ∨ a.inst / 8 = 7 then 0 else 9216
    | 1 => if a.inst / 8 = 6 ∨ a.inst / 8 = 7 ∨ a.inst = 39 ∨ a.inst = 47 then 1 else 0
    | _ => 0
  | 0x0802 => match a.el with
    | 1 => 16384
    | _ => 0
  | 0x0803 => match a.el with
    | 1 => 1048576
    | _ => 0
  | 0x0804 => match a.el with
    | 0 => 32
    | 1 => 65536
    | 3 => 20
    | _ => 0
  | 0x0901 => match a.el with
    | 0 => 6
    | 1 => 10
    | 2 => 64
    | _ => 0
  | 0x0902 => match a.el with
    | 0 => 6
    | 1 => 10000
    | 2 => 1024
    | 3 => 8192
    | 4 => 1000
    | _ => 0
  | 0x0A00 => match a.el with
    | 5 => 65535
    | 13 => 1
    | 14 => 4294967295
    | 15 => 256
    | 16 => 64
    | 18 => 1
    | 22 => 1000
    | 23 => 2000
    | 24 => 8
    | _ => 0
  | 0x0A01 => match a.el with
    | 4 => 1
    | 5 => 1
    | _ => 0
  | 0x0A03 => match a.el with
    | 1 => 32000
    | 2 => 8192
    | 4 => 2097152
    | _ => 0
  | 0x0C00 => match a.el with
    | 2 => 5 * (a.inst / 40) + a.inst % 40 / 8
    | _ => 0
  | 0x0C02 => match a.el with
    | 0 => 8
    | 1 => 8
    | 2 => 12
    | 3 => 3
    | 4 => 3600
    | 5 => 32768
    | _ => 0
  | 0x0C03 => match a.el with
    | 0 => 32768
    | 1 => 12224
    | 2 => 32768
    | 4 => 40
    | 5 => 1
    | _ => 0
  | 0x0D00 => match a.el with
    | 2 => 128
    | 3 => 20
    | 4 => 3
    | 6 => 65535
    | 8 => 255
    | 9 => 15
    | 11 => 3000
    | 12 => 64
    | _ => 0
  | 0x0D01 => match a.el with
    | 3 => 65535
    | _ => 0
  | 0x0D02 => match a.el with
    | 2 => 0x17bda3864b8025ac
    | 3 => 0x5dcea9e9da788d26
    | 7 => 25000
    | 8 => 65536
    | _ => 0
  | 0x0D03 => match a.el with
    | 8 => 511
    | _ => 0
  | 0x0D05 => match a.el with
    | 3 => 255
    | _ => 0
  | 0x0D06 => match a.el with
    | 0 => 255
    | _ => 0
  | 0x0D07 => match a.el with
    | 0 => 4294967295
    | 1 => 65535
    | _ => 0
  | 0x0E00 => match a.el with
    | 1 => 65535
    | 2 => 65535
    | _ => 0
  | 0x0E01 => match a.el with
    | 0 => 16384
    | 3 => 64
    | _ => 0
  | 0x0F00 => match a.el with
    | 0 => bankType (a.inst % 26)
    | _ => 0
  | 0x0F01 => match a.el with
    | 2 => 65535
    | 3 => 511
    | 4 => 255
    | 5 => 65535
    | _ => 0
  | 0x0F02 => match a.el with
    | 0 => 18446744073709551615
    | _ => 0
  | 0x1000 => match a.el with
    | 0 => 168
    | 1 => 168
    | 3 => 2
    | 4 => 700
    | 5 => 50
    | 6 => 60
    | 7 => 24
    | _ => 0
  | 0x1002 => match a.el with
    | 2 => 255
    | _ => 0
  | 0x1004 => match a.el with
    | 0 => 18446744073709551615
    | 1 => 18446744073709551615
    | 2 => 18446744073709551615
    | 3 => 18446744073709551615
    | _ => 0
  | 0x1005 => match a.el with
    | 0 => 18446744073709551615
    | 1 => 18446744073709551615
    | 2 => 18446744073709551615
    | 3 => 18446744073709551615
    | _ => 0
  | 0x1006 => match a.el with
    | 0 => if a.inst ∈ rateLimitedCodes then 8 else 64
    | 1 => if a.inst ∈ rateLimitedCodes then 1000 else 10
    | 2 => if a.inst ∈ alertCodes then 1 else 0
    | _ => 0
  | 0x1100 => match a.el with
    | 0 => 2
    | _ => 0
  | 0x1101 => match a.el with
    | 0 => 1
    | 4 => 64
    | 5 => 1500
    | _ => 0
  | 0x1102 => match a.el with
    | 0 => if a.inst = 0 then 3 else 0
    | 1 => if a.inst = 0 then 3 else 0
    | _ => 0
  | 0x1103 => match a.el with
    | 0 => if a.inst = 0 then 1 else 0
    | 1 => if a.inst = 0 then Config.vendorKey else 0
    | _ => 0
  | 0x1104 => match a.el with
    | 9 => 600
    | _ => 0
  | 0x1200 => match a.el with
    | 0 => 1900
    | 1 => 750
    | _ => 0
  | 0x1201 => match a.el with
    | 3 => 16
    | _ => 0
  | 0x1202 => match a.el with
    | 1 => 62806
    | _ => 0
  | 0x1300 => match a.el with
    | 3 => 1
    | _ => 0
  | _ => 0

/-! ## Rows of the object tables -/

/-- Access codes (R507). -/
inductive Access where
  | RO | RW | WO
deriving DecidableEq, Repr

/-- The kinds of element (R509); a command element starts an action when it is written (R524). -/
inductive Kind where
  | readOnly | configSet | staged | immediate | command
deriving DecidableEq, Repr

/-- One row of an object's table: the elements `lo` to `hi`, `bytes` wide, with the least and
greatest legal value and one further legal value where the row names one (R506). -/
structure Row where
  lo : Nat
  hi : Nat
  bytes : Nat
  signed : Bool
  access : Access
  role : Nat
  kind : Kind
  least : Int
  most : Int
  extra : Option Nat
deriving DecidableEq, Repr

/-- An object: its index, how many instances it has, and its rows (R504, R505). -/
structure Obj where
  index : Nat
  count : Nat
  rows : List Row
deriving DecidableEq, Repr

/-- IDENTITY (R8). -/
def rows0000 : List Row :=
  [ ⟨0, 0, 2, false, .RO, 0, .readOnly, 0, 65535, none⟩,
    ⟨1, 1, 2, false, .RO, 0, .readOnly, 0, 65535, none⟩,
    ⟨2, 2, 1, false, .RO, 0, .readOnly, 0, 255, none⟩,
    ⟨3, 3, 1, false, .RO, 0, .readOnly, 0, 255, none⟩,
    ⟨4, 4, 8, false, .RO, 0, .readOnly, 0, 18446744073709551615, none⟩ ]

/-- SOLID (R542). -/
def rows0001 : List Row :=
  [ ⟨0, 0, 4, false, .RW, 2, .configSet, 0, 1048575, none⟩ ]

/-- UNIT (R41). -/
def rows0100 : List Row :=
  [ ⟨0, 0, 1, false, .RO, 0, .readOnly, 0, 255, none⟩,
    ⟨1, 1, 2, false, .RO, 0, .readOnly, 0, 65535, none⟩,
    ⟨2, 2, 4, false, .RO, 0, .readOnly, 0, 4294967295, none⟩,
    ⟨3, 3, 2, false, .RO, 0, .readOnly, 0, 65535, none⟩,
    ⟨4, 4, 2, false, .RO, 0, .readOnly, 0, 65535, none⟩,
    ⟨5, 5, 2, false, .RO, 0, .readOnly, 0, 65535, none⟩,
    ⟨6, 6, 1, false, .RO, 0, .readOnly, 0, 255, none⟩,
    ⟨7, 7, 1, false, .RO, 0, .readOnly, 0, 255, none⟩ ]

/-- ISLAND (R42). -/
def rows0101 : List Row :=
  [ ⟨0, 0, 1, false, .RO, 0, .readOnly, 0, 255, none⟩,
    ⟨1, 1, 2, false, .RO, 0, .readOnly, 0, 65535, none⟩,
    ⟨2, 2, 2, false, .RO, 0, .readOnly, 0, 65535, none⟩,
    ⟨3, 3, 2, false, .RO, 0, .readOnly, 0, 65535, none⟩,
    ⟨4, 4, 2, false, .RO, 0, .readOnly, 0, 65535, none⟩,
    ⟨5, 5, 2, true, .RO, 0, .readOnly, -32768, 32767, none⟩,
    ⟨6, 6, 1, false, .RO, 0, .readOnly, 0, 255, none⟩ ]

/-- TIMEBASE (R43). -/
def rows0102 : List Row :=
  [ ⟨0, 0, 8, false, .RO, 0, .readOnly, 0, 18446744073709551615, none⟩,
    ⟨1, 1, 1, false, .RW, 2, .immediate, 0, 3, none⟩,
    ⟨2, 2, 1, false, .RO, 0, .readOnly, 0, 255, none⟩,
    ⟨3, 3, 1, false, .RO, 0, .readOnly, 0, 255, none⟩,
    ⟨4, 4, 1, false, .RO, 0, .readOnly, 0, 255, none⟩ ]

/-- LATTICE (R44). -/
def rows0103 : List Row :=
  [ ⟨0, 0, 2, false, .RO, 0, .readOnly, 0, 65535, none⟩,
    ⟨1, 1, 1, false, .RO, 0, .readOnly, 0, 255, none⟩,
    ⟨2, 2, 1, false, .RW, 2, .configSet, 0, 5, none⟩,
    ⟨3, 3, 1, false, .RO, 0, .readOnly, 0, 255, none⟩ ]

/-- FAU (R82). -/
def rows0200 : List Row :=
  [ ⟨0, 0, 1, false, .RO, 0, .readOnly, 0, 255, none⟩,
    ⟨1, 1, 2, false, .RO, 0, .readOnly, 0, 65535, none⟩,
    ⟨2, 2, 1, false, .RO, 0, .readOnly, 0, 255, none⟩,
    ⟨3, 3, 1, false, .RO, 0, .readOnly, 0, 255, none⟩,
    ⟨4, 4, 2, true, .RO, 0, .readOnly, -32768, 32767, none⟩ ]

/-- FEED (R83). -/
def rows0201 : List Row :=
  [ ⟨0, 0, 1, false, .RO, 0, .readOnly, 0, 255, none⟩,
    ⟨1, 1, 1, false, .RW, 2, .configSet, 0, 1, none⟩,
    ⟨2, 2, 1, false, .RO, 0, .readOnly, 0, 255, none⟩,
    ⟨3, 3, 1, false, .RO, 0, .readOnly, 0, 255, none⟩,
    ⟨4, 4, 2, true, .RO, 0, .readOnly, -32768, 32767, none⟩,
    ⟨5, 5, 1, false, .RW, 2, .command, 0, 3, none⟩,
    ⟨6, 6, 1, false, .RO, 0, .readOnly, 0, 255, none⟩,
    ⟨7, 7, 4, false, .RO, 0, .readOnly, 0, 4294967295, none⟩,
    ⟨8, 8, 1, false, .RO, 0, .readOnly, 0, 255, none⟩ ]

/-- LINE (R84). -/
def rows0202 : List Row :=
  [ ⟨0, 0, 2, true, .RO, 0, .readOnly, -32768, 32767, none⟩,
    ⟨1, 1, 2, true, .RO, 0, .readOnly, -32768, 32767, none⟩,
    ⟨2, 2, 2, true, .RO, 0, .readOnly, -32768, 32767, none⟩,
    ⟨3, 3, 2, true, .RO, 0, .readOnly, -32768, 32767, none⟩,
    ⟨4, 4, 1, false, .RO, 0, .readOnly, 0, 255, none⟩,
    ⟨5, 5, 2, false, .RO, 0, .readOnly, 0, 65535, none⟩ ]

/-- RING (R85). -/
def rows0203 : List Row :=
  [ ⟨0, 0, 1, false, .RO, 0, .readOnly, 0, 255, none⟩,
    ⟨1, 1, 2, false, .RO, 0, .readOnly, 0, 65535, none⟩,
    ⟨2, 2, 1, true, .RO, 0, .readOnly, -128, 127, none⟩,
    ⟨3, 3, 2, true, .RO, 0, .readOnly, -32768, 32767, none⟩,
    ⟨4, 4, 2, true, .RO, 0, .readOnly, -32768, 32767, none⟩,
    ⟨5, 5, 2, false, .RO, 0, .readOnly, 0, 65535, none⟩ ]

/-- CLS (R86). -/
def rows0204 : List Row :=
  [ ⟨0, 0, 1, false, .RW, 2, .immediate, 0, 1, none⟩,
    ⟨1, 1, 1, false, .RO, 0, .readOnly, 0, 255, none⟩,
    ⟨2, 2, 1, false, .RO, 0, .readOnly, 0, 255, none⟩,
    ⟨3, 3, 1, false, .RO, 0, .readOnly, 0, 255, none⟩,
    ⟨4, 4, 4, false, .RO, 0, .readOnly, 0, 4294967295, none⟩,
    ⟨5, 5, 2, true, .RO, 0, .readOnly, -32768, 32767, none⟩,
    ⟨6, 6, 2, true, .RW, 2, .immediate, 1100, 1300, none⟩ ]

/-- EYE (R87). -/
def rows0205 : List Row :=
  [ ⟨0, 0, 1, false, .RO, 0, .readOnly, 0, 255, none⟩,
    ⟨1, 1, 2, true, .RO, 0, .readOnly, -32768, 32767, none⟩,
    ⟨2, 2, 4, false, .RO, 0, .readOnly, 0, 4294967295, none⟩ ]

/-- OPTICS (R88). -/
def rows0206 : List Row :=
  [ ⟨0, 0, 1, false, .RW, 2, .immediate, 0, 1, none⟩,
    ⟨1, 1, 2, false, .RW, 2, .immediate, 4, 64, none⟩,
    ⟨2, 2, 2, false, .RW, 2, .immediate, 256, 4096, none⟩,
    ⟨3, 3, 1, false, .RO, 0, .readOnly, 0, 255, none⟩ ]

/-- PORT (R120). -/
def rows0300 : List Row :=
  [ ⟨0, 0, 1, false, .RO, 0, .readOnly, 0, 255, none⟩,
    ⟨1, 1, 1, false, .RW, 2, .immediate, 0, 1, none⟩,
    ⟨2, 2, 1, false, .RW, 2, .configSet, 0, 1, none⟩,
    ⟨3, 3, 1, false, .RW, 2, .immediate, 0, 1, none⟩,
    ⟨4, 4, 1, false, .RO, 0, .readOnly, 0, 255, none⟩,
    ⟨5, 5, 1, false, .RO, 0, .readOnly, 0, 255, none⟩,
    ⟨6, 6, 1, false, .RO, 0, .readOnly, 0, 255, none⟩,
    ⟨7, 7, 8, false, .RO, 0, .readOnly, 0, 18446744073709551615, none⟩,
    ⟨8, 8, 2, false, .RO, 0, .readOnly, 0, 65535, none⟩,
    ⟨9, 9, 1, false, .RO, 0, .readOnly, 0, 255, none⟩,
    ⟨10, 10, 4, false, .RO, 0, .readOnly, 0, 4294967295, none⟩,
    ⟨11, 11, 1, false, .RO, 0, .readOnly, 0, 255, none⟩,
    ⟨12, 12, 4, false, .RO, 0, .readOnly, 0, 4294967295, none⟩,
    ⟨13, 13, 2, false, .RO, 0, .readOnly, 0, 65535, none⟩ ]

/-- LINK (R121). -/
def rows0301 : List Row :=
  [ ⟨0, 0, 2, false, .RO, 0, .readOnly, 0, 65535, none⟩,
    ⟨1, 1, 2, false, .RW, 2, .immediate, 10, 10000, none⟩,
    ⟨2, 2, 2, false, .RW, 2, .immediate, 1, 900, none⟩,
    ⟨3, 3, 1, false, .RW, 2, .immediate, 1, 100, none⟩,
    ⟨4, 4, 1, false, .RW, 2, .immediate, 0, 1, none⟩ ]

/-- CREDIT (R122). -/
def rows0302 : List Row :=
  [ ⟨0, 0, 2, false, .RO, 0, .readOnly, 0, 65535, none⟩,
    ⟨1, 1, 2, false, .RO, 0, .readOnly, 0, 65535, none⟩,
    ⟨2, 2, 2, false, .RO, 0, .readOnly, 0, 65535, none⟩,
    ⟨3, 3, 4, false, .RO, 0, .readOnly, 0, 4294967295, none⟩ ]

/-- CHORD (R144). -/
def rows0400 : List Row :=
  [ ⟨0, 0, 2, false, .RW, 2, .configSet, 0, 2047, some 0xffff⟩,
    ⟨1, 1, 2, false, .RW, 2, .configSet, 0, 2047, some 0xffff⟩,
    ⟨2, 2, 1, false, .RW, 2, .configSet, 0, 1, none⟩,
    ⟨3, 3, 2, false, .RO, 0, .readOnly, 0, 65535, none⟩,
    ⟨4, 4, 1, false, .RO, 0, .readOnly, 0, 255, none⟩,
    ⟨5, 5, 2, true, .RO, 0, .readOnly, -32768, 32767, none⟩,
    ⟨6, 6, 2, true, .RO, 0, .readOnly, -32768, 32767, none⟩,
    ⟨7, 7, 4, false, .RO, 0, .readOnly, 0, 4294967295, none⟩,
    ⟨8, 8, 1, false, .RO, 0, .readOnly, 0, 255, none⟩ ]

/-- CHORDS (R145). -/
def rows0401 : List Row :=
  [ ⟨0, 0, 2, false, .RO, 0, .readOnly, 0, 65535, none⟩,
    ⟨1, 1, 2, false, .RO, 0, .readOnly, 0, 65535, none⟩,
    ⟨2, 2, 2, false, .RO, 0, .readOnly, 0, 65535, none⟩,
    ⟨3, 3, 1, false, .RO, 0, .readOnly, 0, 255, none⟩ ]

/-- FRAME (R182). -/
def rows0500 : List Row :=
  [ ⟨0, 0, 1, false, .RO, 0, .readOnly, 0, 255, none⟩,
    ⟨1, 1, 1, false, .RW, 2, .configSet, 2, 15, none⟩,
    ⟨2, 2, 2, false, .RO, 0, .readOnly, 0, 65535, none⟩ ]

/-- DEST (R208). -/
def rows0600 : List Row :=
  [ ⟨0, 0, 1, false, .RW, 2, .configSet, 0, 7, none⟩,
    ⟨1, 1, 1, false, .RW, 2, .configSet, 0, 1, none⟩,
    ⟨2, 2, 2, false, .RW, 2, .configSet, 0, 1023, none⟩,
    ⟨3, 3, 2, false, .RW, 2, .configSet, 0, 65535, none⟩,
    ⟨4, 4, 4, false, .RW, 2, .configSet, 0, 4294967295, none⟩ ]

/-- RGROUP (R209). -/
def rows0601 : List Row :=
  [ ⟨0, 0, 2, false, .RO, 0, .readOnly, 0, 65535, none⟩,
    ⟨1, 1, 2, false, .RO, 0, .readOnly, 0, 65535, none⟩,
    ⟨2, 2, 1, false, .RW, 2, .immediate, 0, 1, none⟩,
    ⟨3, 3, 4, false, .RO, 0, .readOnly, 0, 4294967295, none⟩,
    ⟨4, 4, 1, false, .RW, 2, .configSet, 0, 1, none⟩,
    ⟨5, 5, 1, false, .RO, 0, .readOnly, 0, 255, none⟩,
    ⟨32, 63, 8, false, .RW, 2, .configSet, 0, 18446744073709551615, none⟩,
    ⟨64, 95, 8, false, .RO, 0, .readOnly, 0, 18446744073709551615, none⟩ ]

/-- PINSLOT (R210). -/
def rows0602 : List Row :=
  [ ⟨0, 0, 2, false, .RO, 0, .readOnly, 0, 65535, none⟩,
    ⟨1, 1, 2, false, .RO, 0, .readOnly, 0, 65535, none⟩,
    ⟨2, 2, 4, false, .RO, 0, .readOnly, 0, 4294967295, none⟩,
    ⟨3, 3, 1, false, .RO, 0, .readOnly, 0, 255, none⟩,
    ⟨4, 4, 8, false, .RO, 0, .readOnly, 0, 18446744073709551615, none⟩ ]

/-- MCAST (R211). -/
def rows0603 : List Row :=
  [ ⟨0, 0, 2, false, .RW, 2, .configSet, 0, 1024, some 0xffff⟩,
    ⟨1, 1, 2, false, .RW, 2, .configSet, 0, 4095, some 0xffff⟩,
    ⟨2, 2, 1, false, .RO, 0, .readOnly, 0, 255, none⟩,
    ⟨32, 63, 8, false, .RW, 2, .configSet, 0, 18446744073709551615, none⟩ ]

/-- LEARN (R212). -/
def rows0604 : List Row :=
  [ ⟨0, 0, 1, false, .RW, 2, .configSet, 0, 2, none⟩,
    ⟨1, 1, 2, false, .RW, 2, .configSet, 0, 1023, none⟩,
    ⟨2, 2, 8, false, .RW, 2, .configSet, 0, 281474976710655, none⟩,
    ⟨3, 3, 4, false, .RW, 2, .configSet, 0, 1048575, none⟩,
    ⟨4, 4, 1, false, .RO, 0, .readOnly, 0, 255, none⟩,
    ⟨5, 5, 1, false, .RO, 0, .readOnly, 0, 255, none⟩ ]

/-- FORWARD (R213). -/
def rows0605 : List Row :=
  [ ⟨0, 0, 4, false, .RW, 2, .configSet, 0, 4294967295, none⟩,
    ⟨1, 1, 4, false, .RO, 0, .readOnly, 0, 4294967295, none⟩,
    ⟨2, 2, 1, false, .RW, 2, .immediate, 0, 1, none⟩,
    ⟨3, 3, 2, false, .RW, 2, .immediate, 1, 3600, none⟩,
    ⟨4, 4, 4, false, .RO, 0, .readOnly, 0, 4294967295, none⟩,
    ⟨5, 5, 2, false, .RO, 0, .readOnly, 0, 65535, none⟩ ]

/-- BUFCFG (R240). -/
def rows0700 : List Row :=
  [ ⟨0, 0, 2, false, .RW, 2, .configSet, 33, 1024, none⟩,
    ⟨1, 1, 4, false, .RW, 2, .configSet, 4096, 65536, none⟩,
    ⟨2, 2, 4, false, .RW, 2, .configSet, 256, 262144, none⟩,
    ⟨3, 3, 2, false, .RW, 2, .configSet, 64, 4096, none⟩,
    ⟨4, 4, 2, false, .RW, 2, .configSet, 64, 4096, none⟩,
    ⟨5, 5, 1, false, .RW, 2, .configSet, 0, 20, none⟩,
    ⟨6, 6, 4, false, .RW, 2, .configSet, 1, 20480, none⟩,
    ⟨7, 7, 4, false, .RW, 2, .configSet, 500, 64000, none⟩,
    ⟨8, 8, 4, false, .RW, 2, .configSet, 0, 4294967295, none⟩,
    ⟨9, 9, 4, false, .RW, 2, .configSet, 0, 4294967295, none⟩,
    ⟨10, 10, 4, false, .RW, 2, .configSet, 0, 4294967295, none⟩,
    ⟨11, 11, 4, false, .RW, 2, .configSet, 0, 4294967295, none⟩ ]

/-- QCLASS (R241). -/
def rows0701 : List Row :=
  [ ⟨0, 0, 2, false, .RW, 2, .configSet, 0, 256, none⟩,
    ⟨1, 1, 1, true, .RW, 2, .configSet, -4, 3, none⟩,
    ⟨2, 2, 1, false, .RW, 2, .configSet, 0, 1, none⟩ ]

/-- TENBUF (R242). -/
def rows0702 : List Row :=
  [ ⟨0, 0, 4, false, .RW, 2, .configSet, 0, 4294967295, none⟩,
    ⟨1, 1, 4, false, .RW, 2, .configSet, 0, 4294967295, none⟩,
    ⟨2, 2, 4, false, .RO, 0, .readOnly, 0, 4294967295, none⟩,
    ⟨3, 3, 4, false, .RO, 0, .readOnly, 0, 4294967295, none⟩,
    ⟨4, 4, 4, false, .RO, 0, .readOnly, 0, 4294967295, none⟩ ]

/-- FACETBUF (R243). -/
def rows0703 : List Row :=
  [ ⟨0, 0, 4, false, .RO, 0, .readOnly, 0, 4294967295, none⟩,
    ⟨1, 1, 4, false, .RO, 0, .readOnly, 0, 4294967295, none⟩,
    ⟨2, 2, 4, false, .RO, 0, .readOnly, 0, 4294967295, none⟩,
    ⟨3, 3, 4, false, .RO, 0, .readOnly, 0, 4294967295, none⟩,
    ⟨4, 4, 4, false, .RO, 0, .readOnly, 0, 4294967295, none⟩,
    ⟨5, 5, 4, false, .RO, 0, .readOnly, 0, 4294967295, none⟩,
    ⟨6, 6, 4, false, .RO, 0, .readOnly, 0, 4294967295, none⟩,
    ⟨7, 7, 4, false, .RO, 0, .readOnly, 0, 4294967295, none⟩,
    ⟨8, 8, 2, false, .RO, 0, .readOnly, 0, 65535, none⟩ ]

/-- QUEUE (R244). -/
def rows0704 : List Row :=
  [ ⟨0, 0, 4, false, .RO, 0, .readOnly, 0, 4294967295, none⟩,
    ⟨1, 1, 4, false, .RO, 0, .readOnly, 0, 4294967295, none⟩,
    ⟨2, 2, 8, false, .RO, 0, .readOnly, 0, 18446744073709551615, none⟩,
    ⟨3, 3, 1, false, .RO, 0, .readOnly, 0, 255, none⟩,
    ⟨4, 4, 4, false, .RO, 0, .readOnly, 0, 4294967295, none⟩ ]

/-- MIRROR (R245). -/
def rows0705 : List Row :=
  [ ⟨0, 0, 1, false, .RW, 2, .configSet, 0, 3, none⟩,
    ⟨1, 1, 2, false, .RW, 2, .configSet, 0, 2047, none⟩,
    ⟨2, 2, 2, false, .RW, 2, .configSet, 0, 1023, none⟩,
    ⟨3, 3, 4, false, .RW, 2, .configSet, 0, 1048575, some 0xffffffff⟩,
    ⟨4, 4, 2, false, .RW, 2, .configSet, 0, 255, some 0xffff⟩,
    ⟨5, 5, 2, false, .RW, 2, .configSet, 0, 1023, none⟩,
    ⟨6, 6, 4, false, .RW, 2, .configSet, 0, 1048575, none⟩,
    ⟨7, 7, 1, false, .RW, 2, .configSet, 0, 7, none⟩,
    ⟨8, 8, 1, false, .RW, 2, .configSet, 0, 1, none⟩,
    ⟨9, 9, 8, false, .RO, 0, .readOnly, 0, 18446744073709551615, none⟩ ]

/-- PORTSCHED (R265). -/
def rows0800 : List Row :=
  [ ⟨0, 0, 1, false, .RW, 2, .configSet, 0, 255, none⟩,
    ⟨1, 1, 4, false, .RW, 2, .configSet, 1000, 50000, none⟩,
    ⟨2, 2, 4, false, .RW, 2, .configSet, 8224, 1048576, none⟩,
    ⟨3, 3, 8, true, .RO, 0, .readOnly, -9223372036854775808, 9223372036854775807, none⟩,
    ⟨4, 4, 8, false, .RO, 0, .readOnly, 0, 18446744073709551615, none⟩,
    ⟨5, 5, 2, false, .RO, 0, .readOnly, 0, 65535, none⟩ ]

/-- SCHEDCLASS (R266). -/
def rows0801 : List Row :=
  [ ⟨0, 0, 4, false, .RW, 2, .configSet, 256, 1048576, none⟩,
    ⟨1, 1, 1, false, .RW, 2, .configSet, 0, 1, none⟩ ]

/-- SHAPER (R267). -/
def rows0802 : List Row :=
  [ ⟨0, 0, 4, false, .RW, 2, .configSet, 0, 200000, none⟩,
    ⟨1, 1, 4, false, .RW, 2, .configSet, 0, 16777216, none⟩,
    ⟨2, 2, 8, true, .RO, 0, .readOnly, -9223372036854775808, 9223372036854775807, none⟩,
    ⟨3, 3, 8, false, .RO, 0, .readOnly, 0, 18446744073709551615, none⟩,
    ⟨4, 4, 4, false, .RO, 0, .readOnly, 0, 4294967295, none⟩,
    ⟨5, 5, 1, false, .RO, 0, .readOnly, 0, 255, none⟩ ]

/-- POLICER (R268). -/
def rows0803 : List Row :=
  [ ⟨0, 0, 4, false, .RW, 2, .configSet, 0, 409600, none⟩,
    ⟨1, 1, 4, false, .RW, 2, .configSet, 8208, 67108864, none⟩,
    ⟨2, 2, 1, false, .RW, 2, .configSet, 0, 1, none⟩,
    ⟨3, 3, 8, true, .RO, 0, .readOnly, -9223372036854775808, 9223372036854775807, none⟩,
    ⟨4, 4, 8, false, .RO, 0, .readOnly, 0, 18446744073709551615, none⟩ ]

/-- SCHED (R269). -/
def rows0804 : List Row :=
  [ ⟨0, 0, 1, false, .RO, 0, .readOnly, 0, 255, none⟩,
    ⟨1, 1, 4, false, .RO, 0, .readOnly, 0, 4294967295, none⟩,
    ⟨2, 2, 4, false, .RO, 0, .readOnly, 0, 4294967295, none⟩,
    ⟨3, 3, 2, false, .RO, 0, .readOnly, 0, 65535, none⟩ ]

/-- FLOWPORT (R292). -/
def rows0900 : List Row :=
  [ ⟨0, 0, 1, false, .RW, 2, .configSet, 0, 3, none⟩,
    ⟨1, 1, 1, false, .RW, 2, .configSet, 0, 1, none⟩ ]

/-- ECNCLASS (R293). -/
def rows0901 : List Row :=
  [ ⟨0, 0, 1, false, .RW, 2, .configSet, 0, 15, none⟩,
    ⟨1, 1, 1, false, .RW, 2, .configSet, 1, 15, none⟩,
    ⟨2, 2, 1, false, .RW, 2, .configSet, 0, 255, none⟩ ]

/-- FLOWCFG (R294). -/
def rows0902 : List Row :=
  [ ⟨0, 0, 1, false, .RW, 2, .immediate, 0, 7, none⟩,
    ⟨1, 1, 4, false, .RW, 2, .immediate, 1000, 10000000, none⟩,
    ⟨2, 2, 2, false, .RW, 2, .immediate, 64, 65535, none⟩,
    ⟨3, 3, 4, false, .RW, 2, .immediate, 1024, 1048576, none⟩,
    ⟨4, 4, 4, false, .RW, 2, .immediate, 10, 64000, none⟩,
    ⟨5, 5, 8, false, .RO, 0, .readOnly, 0, 18446744073709551615, none⟩,
    ⟨6, 6, 8, false, .RO, 0, .readOnly, 0, 18446744073709551615, none⟩ ]

/-- STALL (R295). -/
def rows0903 : List Row :=
  [ ⟨0, 0, 8, false, .RO, 0, .readOnly, 0, 18446744073709551615, none⟩,
    ⟨1, 1, 8, false, .RO, 0, .readOnly, 0, 18446744073709551615, none⟩,
    ⟨2, 2, 4, false, .RO, 0, .readOnly, 0, 4294967295, none⟩,
    ⟨3, 3, 4, false, .RO, 0, .readOnly, 0, 4294967295, none⟩ ]

/-- TEAM (R323). -/
def rows0A00 : List Row :=
  [ ⟨0, 0, 1, false, .RW, 2, .command, 0, 4, none⟩,
    ⟨1, 1, 1, false, .RO, 0, .readOnly, 0, 255, none⟩,
    ⟨2, 2, 1, false, .RO, 0, .readOnly, 0, 255, none⟩,
    ⟨3, 3, 2, false, .RW, 2, .staged, 0, 1023, none⟩,
    ⟨4, 4, 2, false, .RW, 2, .staged, 0, 1023, none⟩,
    ⟨5, 5, 2, false, .RO, 0, .readOnly, 0, 65535, none⟩,
    ⟨6, 6, 1, false, .RW, 2, .staged, 0, 255, none⟩,
    ⟨7, 7, 1, false, .RW, 2, .staged, 0, 255, none⟩,
    ⟨8, 8, 1, false, .RW, 2, .staged, 0, 255, none⟩,
    ⟨9, 9, 1, false, .RW, 2, .staged, 0, 255, none⟩,
    ⟨10, 10, 8, false, .RW, 2, .staged, 0, 18446744073709551615, none⟩,
    ⟨11, 11, 1, false, .RW, 2, .staged, 0, 7, none⟩,
    ⟨12, 12, 1, false, .RW, 2, .staged, 0, 1, none⟩,
    ⟨13, 13, 1, false, .RW, 2, .staged, 0, 1, none⟩,
    ⟨14, 14, 4, false, .RW, 2, .staged, 0, 1048575, some 0xffffffff⟩,
    ⟨15, 15, 2, false, .RW, 2, .staged, 0, 65535, none⟩,
    ⟨16, 16, 2, false, .RW, 2, .staged, 1, 1024, none⟩,
    ⟨17, 17, 2, false, .RW, 2, .staged, 0, 65535, none⟩,
    ⟨18, 18, 4, false, .RW, 2, .staged, 0, 4294967295, none⟩,
    ⟨19, 19, 4, false, .RW, 2, .staged, 0, 4294967295, none⟩,
    ⟨20, 20, 2, false, .RW, 2, .staged, 1, 16384, none⟩,
    ⟨21, 21, 2, false, .RW, 2, .staged, 1, 4096, none⟩,
    ⟨22, 22, 4, false, .RW, 2, .staged, 10, 1000000, none⟩,
    ⟨23, 23, 4, false, .RW, 2, .staged, 10, 1000000, none⟩,
    ⟨24, 24, 1, false, .RW, 2, .staged, 1, 255, none⟩,
    ⟨25, 25, 1, false, .RW, 2, .staged, 0, 1, none⟩,
    ⟨26, 26, 2, false, .RW, 2, .staged, 0, 65535, none⟩,
    ⟨27, 27, 4, false, .RO, 0, .readOnly, 0, 4294967295, none⟩,
    ⟨28, 28, 2, false, .RO, 0, .readOnly, 0, 65535, none⟩,
    ⟨29, 29, 2, false, .RO, 0, .readOnly, 0, 65535, none⟩,
    ⟨30, 30, 8, false, .RO, 0, .readOnly, 0, 18446744073709551615, none⟩,
    ⟨31, 31, 8, false, .RO, 0, .readOnly, 0, 18446744073709551615, none⟩,
    ⟨32, 32, 4, false, .RO, 0, .readOnly, 0, 4294967295, none⟩,
    ⟨33, 33, 8, false, .RO, 0, .readOnly, 0, 18446744073709551615, none⟩,
    ⟨34, 34, 8, false, .RO, 0, .readOnly, 0, 18446744073709551615, none⟩,
    ⟨35, 35, 4, false, .RO, 0, .readOnly, 0, 4294967295, none⟩ ]

/-- MEMBER (R324). -/
def rows0A01 : List Row :=
  [ ⟨0, 0, 4, false, .RW, 2, .staged, 0, 1048575, none⟩,
    ⟨1, 1, 2, false, .RW, 2, .staged, 0, 4095, none⟩,
    ⟨2, 2, 1, false, .RW, 2, .staged, 0, 3, none⟩,
    ⟨3, 3, 1, false, .RW, 2, .staged, 0, 1, none⟩,
    ⟨4, 4, 4, false, .RW, 2, .staged, 0, 4294967295, none⟩,
    ⟨5, 5, 1, false, .RW, 2, .staged, 0, 1, none⟩,
    ⟨6, 6, 1, false, .RO, 0, .readOnly, 0, 255, none⟩ ]

/-- CHUNK (R325). -/
def rows0A02 : List Row :=
  [ ⟨0, 0, 1, false, .RO, 0, .readOnly, 0, 255, none⟩,
    ⟨1, 1, 2, false, .RO, 0, .readOnly, 0, 65535, none⟩,
    ⟨2, 2, 2, false, .RO, 0, .readOnly, 0, 65535, none⟩,
    ⟨3, 3, 1, false, .RO, 0, .readOnly, 0, 255, none⟩,
    ⟨4, 4, 1, false, .RO, 0, .readOnly, 0, 255, none⟩,
    ⟨5, 5, 4, false, .RO, 0, .readOnly, 0, 4294967295, none⟩,
    ⟨6, 6, 1, false, .RO, 0, .readOnly, 0, 255, none⟩,
    ⟨7, 7, 1, false, .RO, 0, .readOnly, 0, 255, none⟩,
    ⟨8, 8, 2, false, .RO, 0, .readOnly, 0, 65535, none⟩ ]

/-- TEAMS (R326). -/
def rows0A03 : List Row :=
  [ ⟨0, 0, 2, false, .RO, 0, .readOnly, 0, 65535, none⟩,
    ⟨1, 1, 4, false, .RO, 0, .readOnly, 0, 4294967295, none⟩,
    ⟨2, 2, 2, false, .RO, 0, .readOnly, 0, 65535, none⟩,
    ⟨3, 3, 4, false, .RO, 0, .readOnly, 0, 4294967295, none⟩,
    ⟨4, 4, 4, false, .RO, 0, .readOnly, 0, 4294967295, none⟩ ]

/-- TEAMARITH (R352). -/
def rows0B00 : List Row :=
  [ ⟨0, 0, 8, false, .RO, 0, .readOnly, 0, 18446744073709551615, none⟩,
    ⟨1, 1, 8, false, .RO, 0, .readOnly, 0, 18446744073709551615, none⟩,
    ⟨2, 2, 8, false, .RO, 0, .readOnly, 0, 18446744073709551615, none⟩,
    ⟨3, 3, 8, false, .RO, 0, .readOnly, 0, 18446744073709551615, none⟩,
    ⟨4, 4, 8, false, .RO, 0, .readOnly, 0, 18446744073709551615, none⟩,
    ⟨5, 5, 2, false, .RO, 0, .readOnly, 0, 65535, none⟩ ]

/-- HENGINE (R381). -/
def rows0C00 : List Row :=
  [ ⟨0, 0, 1, false, .RO, 0, .readOnly, 0, 255, none⟩,
    ⟨1, 1, 1, false, .RW, 2, .immediate, 0, 1, none⟩,
    ⟨2, 2, 2, false, .RO, 0, .readOnly, 0, 65535, none⟩,
    ⟨3, 3, 1, false, .RO, 0, .readOnly, 0, 255, none⟩,
    ⟨4, 4, 8, false, .RO, 0, .readOnly, 0, 18446744073709551615, none⟩,
    ⟨5, 5, 4, false, .RO, 0, .readOnly, 0, 4294967295, none⟩,
    ⟨6, 6, 4, false, .RO, 0, .readOnly, 0, 4294967295, none⟩,
    ⟨7, 7, 8, false, .RO, 0, .readOnly, 0, 18446744073709551615, none⟩,
    ⟨8, 8, 2, false, .RO, 0, .readOnly, 0, 65535, none⟩ ]

/-- YOKE (R382). -/
def rows0C01 : List Row :=
  [ ⟨0, 0, 1, false, .RO, 0, .readOnly, 0, 255, none⟩,
    ⟨1, 1, 1, false, .RW, 2, .immediate, 0, 1, none⟩,
    ⟨2, 2, 1, false, .RO, 0, .readOnly, 0, 255, none⟩,
    ⟨3, 3, 8, false, .RO, 0, .readOnly, 0, 18446744073709551615, none⟩,
    ⟨4, 4, 2, false, .RO, 0, .readOnly, 0, 65535, none⟩,
    ⟨5, 5, 4, false, .RO, 0, .readOnly, 0, 4294967295, none⟩,
    ⟨6, 6, 8, false, .RO, 0, .readOnly, 0, 18446744073709551615, none⟩ ]

/-- ARITHCFG (R383). -/
def rows0C02 : List Row :=
  [ ⟨0, 0, 1, false, .RW, 2, .configSet, 4, 16, none⟩,
    ⟨1, 1, 1, false, .RW, 2, .configSet, 4, 16, none⟩,
    ⟨2, 2, 1, false, .RW, 2, .configSet, 0, 24, none⟩,
    ⟨3, 3, 1, false, .RW, 2, .immediate, 1, 15, none⟩,
    ⟨4, 4, 4, false, .RW, 2, .immediate, 60, 86400, none⟩,
    ⟨5, 5, 4, false, .RO, 0, .readOnly, 0, 4294967295, none⟩ ]

/-- FACETARITH (R384). -/
def rows0C03 : List Row :=
  [ ⟨0, 0, 4, false, .RO, 0, .readOnly, 0, 4294967295, none⟩,
    ⟨1, 1, 4, false, .RO, 0, .readOnly, 0, 4294967295, none⟩,
    ⟨2, 2, 4, false, .RO, 0, .readOnly, 0, 4294967295, none⟩,
    ⟨3, 3, 4, false, .RO, 0, .readOnly, 0, 4294967295, none⟩,
    ⟨4, 4, 1, false, .RO, 0, .readOnly, 0, 255, none⟩,
    ⟨5, 5, 1, false, .RO, 0, .readOnly, 0, 255, none⟩,
    ⟨6, 6, 8, false, .RO, 0, .readOnly, 0, 18446744073709551615, none⟩ ]

/-- TEAMHOME (R385). -/
def rows0C04 : List Row :=
  [ ⟨0, 0, 2, false, .RO, 0, .readOnly, 0, 65535, none⟩,
    ⟨1, 1, 1, false, .RO, 0, .readOnly, 0, 255, none⟩,
    ⟨8, 15, 2, false, .RO, 0, .readOnly, 0, 65535, none⟩ ]

/-- EPOCH (R422). -/
def rows0D00 : List Row :=
  [ ⟨0, 0, 8, false, .RO, 0, .readOnly, 0, 18446744073709551615, none⟩,
    ⟨1, 1, 8, false, .RO, 0, .readOnly, 0, 18446744073709551615, none⟩,
    ⟨2, 2, 1, false, .RW, 2, .immediate, 0, 255, none⟩,
    ⟨3, 3, 1, false, .RW, 2, .immediate, 16, 24, none⟩,
    ⟨4, 4, 1, false, .RO, 0, .readOnly, 0, 255, none⟩,
    ⟨5, 5, 1, false, .RO, 0, .readOnly, 0, 255, none⟩,
    ⟨6, 6, 2, false, .RO, 0, .readOnly, 0, 65535, none⟩,
    ⟨7, 7, 8, false, .RO, 0, .readOnly, 0, 18446744073709551615, none⟩,
    ⟨8, 8, 1, false, .RO, 0, .readOnly, 0, 255, none⟩,
    ⟨9, 9, 1, false, .RO, 0, .readOnly, 0, 255, none⟩,
    ⟨10, 10, 8, true, .RO, 0, .readOnly, -9223372036854775808, 9223372036854775807, none⟩,
    ⟨11, 11, 4, false, .RW, 2, .immediate, 100, 60000, none⟩,
    ⟨12, 12, 2, false, .RW, 2, .immediate, 1, 4096, none⟩,
    ⟨13, 13, 1, false, .RW, 2, .immediate, 0, 1, none⟩,
    ⟨14, 14, 4, false, .RO, 0, .readOnly, 0, 4294967295, none⟩,
    ⟨15, 15, 4, false, .RO, 0, .readOnly, 0, 4294967295, none⟩ ]

/-- SWAP (R423). -/
def rows0D01 : List Row :=
  [ ⟨0, 0, 1, false, .RW, 2, .command, 0, 2, none⟩,
    ⟨1, 1, 8, false, .RW, 2, .immediate, 0, 281474976710655, none⟩,
    ⟨2, 2, 1, false, .RW, 2, .immediate, 0, 1, none⟩,
    ⟨3, 3, 2, false, .RW, 2, .immediate, 0, 4095, some 0xffff⟩,
    ⟨4, 4, 8, false, .RW, 2, .immediate, 0, 18446744073709551615, none⟩,
    ⟨5, 5, 8, false, .RW, 2, .immediate, 0, 18446744073709551615, none⟩,
    ⟨6, 6, 1, false, .RO, 0, .readOnly, 0, 255, none⟩,
    ⟨7, 7, 1, false, .RO, 0, .readOnly, 0, 255, none⟩,
    ⟨8, 8, 2, false, .RO, 0, .readOnly, 0, 65535, none⟩,
    ⟨9, 9, 8, false, .RO, 0, .readOnly, 0, 18446744073709551615, none⟩,
    ⟨10, 10, 8, false, .RO, 0, .readOnly, 0, 18446744073709551615, none⟩,
    ⟨11, 11, 4, false, .RO, 0, .readOnly, 0, 4294967295, none⟩ ]

/-- CONFSET (R424). -/
def rows0D02 : List Row :=
  [ ⟨0, 0, 1, false, .RW, 2, .configSet, 0, 1, none⟩,
    ⟨1, 1, 8, false, .RO, 0, .readOnly, 0, 18446744073709551615, none⟩,
    ⟨2, 2, 8, false, .RO, 0, .readOnly, 0, 18446744073709551615, none⟩,
    ⟨3, 3, 8, false, .RO, 0, .readOnly, 0, 18446744073709551615, none⟩,
    ⟨4, 4, 8, false, .RO, 0, .readOnly, 0, 18446744073709551615, none⟩,
    ⟨5, 5, 8, false, .RO, 0, .readOnly, 0, 18446744073709551615, none⟩,
    ⟨6, 6, 2, false, .RO, 0, .readOnly, 0, 65535, none⟩,
    ⟨7, 7, 4, false, .RW, 2, .immediate, 1000, 64000, none⟩,
    ⟨8, 8, 4, false, .RO, 0, .readOnly, 0, 4294967295, none⟩ ]

/-- LINKSET (R425). -/
def rows0D03 : List Row :=
  [ ⟨0, 0, 8, false, .RW, 2, .immediate, 0, 18446744073709551615, none⟩,
    ⟨1, 1, 8, false, .RW, 2, .immediate, 0, 18446744073709551615, none⟩,
    ⟨2, 2, 8, false, .RW, 2, .immediate, 0, 18446744073709551615, none⟩,
    ⟨3, 3, 8, false, .RO, 0, .readOnly, 0, 18446744073709551615, none⟩,
    ⟨4, 4, 8, false, .RO, 0, .readOnly, 0, 18446744073709551615, none⟩,
    ⟨5, 5, 8, false, .RO, 0, .readOnly, 0, 18446744073709551615, none⟩,
    ⟨6, 6, 8, false, .RO, 0, .readOnly, 0, 18446744073709551615, none⟩,
    ⟨7, 7, 1, false, .RO, 0, .readOnly, 0, 255, none⟩,
    ⟨8, 8, 2, false, .RO, 0, .readOnly, 0, 65535, none⟩,
    ⟨9, 9, 1, false, .RO, 0, .readOnly, 0, 255, none⟩ ]

/-- DRAIN (R426). -/
def rows0D04 : List Row :=
  [ ⟨0, 0, 1, false, .RW, 2, .command, 0, 1, none⟩,
    ⟨1, 1, 1, false, .RO, 0, .readOnly, 0, 255, none⟩,
    ⟨2, 2, 4, false, .RO, 0, .readOnly, 0, 4294967295, none⟩,
    ⟨3, 3, 4, false, .RO, 0, .readOnly, 0, 4294967295, none⟩,
    ⟨4, 4, 2, false, .RO, 0, .readOnly, 0, 65535, none⟩ ]

/-- TWIN (R427). -/
def rows0D05 : List Row :=
  [ ⟨0, 0, 1, false, .RW, 2, .configSet, 0, 1, none⟩,
    ⟨1, 1, 4, false, .RW, 2, .configSet, 0, 1048575, none⟩,
    ⟨2, 2, 1, false, .RO, 0, .readOnly, 0, 255, none⟩,
    ⟨3, 3, 1, false, .RO, 0, .readOnly, 0, 255, none⟩,
    ⟨4, 4, 8, false, .RO, 0, .readOnly, 0, 18446744073709551615, none⟩,
    ⟨5, 5, 4, false, .RO, 0, .readOnly, 0, 4294967295, none⟩,
    ⟨6, 6, 4, false, .RO, 0, .readOnly, 0, 4294967295, none⟩,
    ⟨32, 63, 8, false, .RW, 2, .configSet, 0, 18446744073709551615, none⟩ ]

/-- TWINTEAM (R428). -/
def rows0D06 : List Row :=
  [ ⟨0, 0, 1, false, .RO, 0, .readOnly, 0, 255, none⟩,
    ⟨1, 1, 1, false, .RO, 0, .readOnly, 0, 255, none⟩ ]

/-- FAILOVER (R429). -/
def rows0D07 : List Row :=
  [ ⟨0, 0, 4, false, .RW, 2, .configSet, 0, 1048575, some 0xffffffff⟩,
    ⟨1, 1, 2, false, .RW, 2, .configSet, 0, 4095, some 0xffff⟩,
    ⟨2, 2, 1, false, .RO, 0, .readOnly, 0, 255, none⟩,
    ⟨3, 3, 8, false, .RO, 0, .readOnly, 0, 18446744073709551615, none⟩ ]

/-- PORTTEN (R444). -/
def rows0E00 : List Row :=
  [ ⟨0, 0, 1, false, .RW, 2, .configSet, 0, 1, none⟩,
    ⟨1, 1, 2, false, .RW, 2, .configSet, 0, 65535, none⟩,
    ⟨2, 2, 2, false, .RO, 0, .readOnly, 0, 65535, none⟩,
    ⟨3, 3, 2, false, .RO, 0, .readOnly, 0, 65535, none⟩,
    ⟨32, 47, 8, false, .RW, 2, .configSet, 0, 18446744073709551615, none⟩ ]

/-- TENANT (R445). -/
def rows0E01 : List Row :=
  [ ⟨0, 0, 2, false, .RW, 2, .configSet, 0, 16384, none⟩,
    ⟨1, 1, 2, false, .RO, 0, .readOnly, 0, 65535, none⟩,
    ⟨2, 2, 1, false, .RW, 2, .immediate, 0, 1, none⟩,
    ⟨3, 3, 2, false, .RW, 2, .immediate, 1, 4096, none⟩,
    ⟨4, 4, 1, false, .RW, 2, .configSet, 0, 1, none⟩,
    ⟨5, 5, 2, false, .RO, 0, .readOnly, 0, 65535, none⟩,
    ⟨6, 6, 2, false, .RO, 0, .readOnly, 0, 65535, none⟩,
    ⟨7, 7, 8, false, .RO, 0, .readOnly, 0, 18446744073709551615, none⟩,
    ⟨8, 8, 8, false, .RO, 0, .readOnly, 0, 18446744073709551615, none⟩ ]

/-- CBANK (R464). -/
def rows0F00 : List Row :=
  [ ⟨0, 0, 1, false, .RO, 0, .readOnly, 0, 255, none⟩,
    ⟨1, 1, 8, false, .RO, 0, .readOnly, 0, 18446744073709551615, none⟩,
    ⟨2, 9, 8, false, .RO, 0, .readOnly, 0, 18446744073709551615, none⟩,
    ⟨10, 10, 1, false, .RO, 0, .readOnly, 0, 255, none⟩,
    ⟨11, 11, 4, false, .RO, 0, .readOnly, 0, 4294967295, none⟩,
    ⟨12, 12, 1, false, .RW, 2, .command, 0, 1, none⟩ ]

/-- CCOUNTER (R465). -/
def rows0F01 : List Row :=
  [ ⟨0, 0, 2, false, .RW, 2, .immediate, 0, 65535, none⟩,
    ⟨1, 1, 1, false, .RW, 2, .immediate, 0, 2, none⟩,
    ⟨2, 2, 2, false, .RW, 2, .immediate, 0, 65535, none⟩,
    ⟨3, 3, 2, false, .RW, 2, .immediate, 0, 511, none⟩,
    ⟨4, 4, 1, false, .RW, 2, .immediate, 0, 255, none⟩,
    ⟨5, 5, 2, false, .RW, 2, .immediate, 0, 1023, some 0xffff⟩ ]

/-- CMIRROR (R466). -/
def rows0F02 : List Row :=
  [ ⟨0, 0, 8, false, .RO, 0, .readOnly, 0, 18446744073709551615, none⟩,
    ⟨1, 1, 1, false, .RO, 0, .readOnly, 0, 255, none⟩,
    ⟨2, 2, 4, false, .RO, 0, .readOnly, 0, 4294967295, none⟩,
    ⟨3, 3, 8, false, .RO, 0, .readOnly, 0, 18446744073709551615, none⟩,
    ⟨4, 4, 1, false, .RO, 0, .readOnly, 0, 255, none⟩,
    ⟨8, 15, 8, false, .RO, 0, .readOnly, 0, 18446744073709551615, none⟩ ]

/-- CAPTURE (R467). -/
def rows0F03 : List Row :=
  [ ⟨0, 0, 8, false, .RW, 2, .immediate, 0, 281474976710655, none⟩,
    ⟨1, 1, 1, false, .RO, 0, .readOnly, 0, 255, none⟩,
    ⟨2, 2, 8, false, .RO, 0, .readOnly, 0, 18446744073709551615, none⟩ ]

/-- PORTSTAT (R468). -/
def rows0F04 : List Row :=
  [ ⟨0, 0, 8, false, .RO, 0, .readOnly, 0, 18446744073709551615, none⟩,
    ⟨1, 1, 8, false, .RO, 0, .readOnly, 0, 18446744073709551615, none⟩,
    ⟨2, 2, 8, false, .RO, 0, .readOnly, 0, 18446744073709551615, none⟩,
    ⟨3, 3, 8, false, .RO, 0, .readOnly, 0, 18446744073709551615, none⟩,
    ⟨4, 4, 8, false, .RO, 0, .readOnly, 0, 18446744073709551615, none⟩,
    ⟨5, 5, 8, false, .RO, 0, .readOnly, 0, 18446744073709551615, none⟩ ]

/-- VETCFG (R497). -/
def rows1000 : List Row :=
  [ ⟨0, 0, 2, false, .RW, 2, .immediate, 0, 8760, none⟩,
    ⟨1, 1, 2, false, .RW, 2, .immediate, 0, 8760, none⟩,
    ⟨2, 2, 2, false, .RW, 2, .immediate, 0, 8760, none⟩,
    ⟨3, 3, 1, false, .RW, 2, .immediate, 1, 8, none⟩,
    ⟨4, 4, 2, false, .RW, 2, .immediate, 100, 1000, none⟩,
    ⟨5, 5, 2, false, .RW, 2, .immediate, 5, 10000, none⟩,
    ⟨6, 6, 2, false, .RW, 2, .immediate, 1, 3600, none⟩,
    ⟨7, 7, 2, false, .RW, 2, .immediate, 1, 720, none⟩,
    ⟨8, 8, 1, false, .RW, 2, .immediate, 0, 1, none⟩ ]

/-- VET (R498). -/
def rows1001 : List Row :=
  [ ⟨0, 0, 1, false, .RW, 2, .command, 0, 2, none⟩,
    ⟨1, 1, 1, false, .RO, 0, .readOnly, 0, 255, none⟩,
    ⟨2, 2, 1, false, .RO, 0, .readOnly, 0, 255, none⟩,
    ⟨3, 3, 1, false, .RO, 0, .readOnly, 0, 255, none⟩,
    ⟨4, 4, 8, false, .RO, 0, .readOnly, 0, 18446744073709551615, none⟩,
    ⟨5, 5, 4, false, .RO, 0, .readOnly, 0, 4294967295, none⟩,
    ⟨6, 6, 4, false, .RO, 0, .readOnly, 0, 4294967295, none⟩,
    ⟨7, 7, 1, false, .RO, 0, .readOnly, 0, 255, none⟩ ]

/-- VETPACK (R499). -/
def rows1002 : List Row :=
  [ ⟨0, 0, 1, false, .RW, 2, .command, 0, 1, none⟩,
    ⟨1, 1, 1, false, .RO, 0, .readOnly, 0, 255, none⟩,
    ⟨2, 2, 1, false, .RO, 0, .readOnly, 0, 255, none⟩,
    ⟨3, 3, 8, false, .RO, 0, .readOnly, 0, 18446744073709551615, none⟩,
    ⟨4, 4, 8, false, .RO, 0, .readOnly, 0, 18446744073709551615, none⟩,
    ⟨5, 5, 2, false, .RO, 0, .readOnly, 0, 65535, none⟩ ]

/-- STUDBOOK (R500). -/
def rows1003 : List Row :=
  [ ⟨0, 0, 8, false, .RO, 0, .readOnly, 0, 18446744073709551615, none⟩,
    ⟨1, 1, 8, false, .RO, 0, .readOnly, 0, 18446744073709551615, none⟩,
    ⟨2, 2, 8, false, .RO, 0, .readOnly, 0, 18446744073709551615, none⟩,
    ⟨3, 3, 8, false, .RO, 0, .readOnly, 0, 18446744073709551615, none⟩,
    ⟨4, 4, 8, false, .RO, 0, .readOnly, 0, 18446744073709551615, none⟩,
    ⟨5, 5, 8, false, .RO, 0, .readOnly, 0, 18446744073709551615, none⟩,
    ⟨6, 6, 1, false, .RW, 3, .command, 0, 1, none⟩,
    ⟨7, 7, 8, false, .RO, 0, .readOnly, 0, 18446744073709551615, none⟩,
    ⟨8, 8, 8, false, .RW, 2, .immediate, 0, 18446744073709551615, none⟩,
    ⟨9, 9, 4, false, .RO, 0, .readOnly, 0, 4294967295, none⟩ ]

/-- STUDREC (R501). -/
def rows1004 : List Row :=
  [ ⟨0, 0, 8, false, .RO, 0, .readOnly, 0, 18446744073709551615, none⟩,
    ⟨1, 1, 8, false, .RO, 0, .readOnly, 0, 18446744073709551615, none⟩,
    ⟨2, 2, 8, false, .RO, 0, .readOnly, 0, 18446744073709551615, none⟩,
    ⟨3, 3, 8, false, .RO, 0, .readOnly, 0, 18446744073709551615, none⟩ ]

/-- STUDFLASH (R501). -/
def rows1005 : List Row :=
  [ ⟨0, 0, 8, false, .RO, 0, .readOnly, 0, 18446744073709551615, none⟩,
    ⟨1, 1, 8, false, .RO, 0, .readOnly, 0, 18446744073709551615, none⟩,
    ⟨2, 2, 8, false, .RO, 0, .readOnly, 0, 18446744073709551615, none⟩,
    ⟨3, 3, 8, false, .RO, 0, .readOnly, 0, 18446744073709551615, none⟩ ]

/-- CODECFG (R502). -/
def rows1006 : List Row :=
  [ ⟨0, 0, 2, false, .RW, 2, .immediate, 1, 4096, none⟩,
    ⟨1, 1, 4, false, .RW, 2, .immediate, 1, 3600000, none⟩,
    ⟨2, 2, 1, false, .RW, 2, .immediate, 0, 1, none⟩,
    ⟨3, 3, 4, false, .RO, 0, .readOnly, 0, 4294967295, none⟩,
    ⟨4, 4, 8, false, .RO, 0, .readOnly, 0, 18446744073709551615, none⟩ ]

/-- SIRGO (R543). -/
def rows1100 : List Row :=
  [ ⟨0, 0, 1, false, .RW, 3, .immediate, 0, 3, none⟩,
    ⟨1, 1, 8, false, .RO, 0, .readOnly, 0, 18446744073709551615, none⟩,
    ⟨2, 2, 8, false, .RO, 0, .readOnly, 0, 18446744073709551615, none⟩,
    ⟨3, 3, 8, false, .RO, 0, .readOnly, 0, 18446744073709551615, none⟩,
    ⟨4, 4, 8, false, .RO, 0, .readOnly, 0, 18446744073709551615, none⟩,
    ⟨5, 5, 8, false, .RO, 0, .readOnly, 0, 18446744073709551615, none⟩,
    ⟨6, 6, 8, false, .RO, 0, .readOnly, 0, 18446744073709551615, none⟩,
    ⟨7, 7, 1, false, .RO, 0, .readOnly, 0, 255, none⟩ ]

/-- MGMTPORT (R544). -/
def rows1101 : List Row :=
  [ ⟨0, 0, 1, false, .RW, 3, .immediate, 0, 1, none⟩,
    ⟨1, 1, 1, false, .RW, 3, .immediate, 0, 1, none⟩,
    ⟨2, 2, 8, false, .RW, 3, .immediate, 0, 18446744073709551615, none⟩,
    ⟨3, 3, 8, false, .RW, 3, .immediate, 0, 18446744073709551615, none⟩,
    ⟨4, 4, 1, false, .RW, 3, .immediate, 1, 128, none⟩,
    ⟨5, 5, 2, false, .RW, 3, .immediate, 1280, 9000, none⟩,
    ⟨6, 6, 1, false, .RO, 0, .readOnly, 0, 255, none⟩,
    ⟨7, 7, 8, false, .RO, 0, .readOnly, 0, 18446744073709551615, none⟩ ]

/-- KEY (R545). -/
def rows1102 : List Row :=
  [ ⟨0, 0, 1, false, .RW, 3, .immediate, 0, 3, none⟩,
    ⟨1, 1, 1, false, .RW, 3, .immediate, 0, 3, none⟩,
    ⟨2, 2, 2, false, .RW, 3, .immediate, 0, 1023, none⟩,
    ⟨3, 3, 32, false, .WO, 3, .immediate, 0, 115792089237316195423570985008687907853269984665640564039457584007913129639935, none⟩,
    ⟨4, 4, 8, false, .RO, 0, .readOnly, 0, 18446744073709551615, none⟩,
    ⟨5, 5, 8, false, .RO, 0, .readOnly, 0, 18446744073709551615, none⟩,
    ⟨6, 6, 8, false, .RO, 0, .readOnly, 0, 18446744073709551615, none⟩ ]

/-- SIGNKEY (R546). -/
def rows1103 : List Row :=
  [ ⟨0, 0, 1, false, .RW, 3, .immediate, 0, 2, none⟩,
    ⟨1, 1, 97, false, .RW, 3, .immediate, 0, 397444631628981487398138749046400654145762820381874332451597321734669043887712482900704872660133498355324859058465554740779924491293392484209737542410542371636340473861337575820867913121689201875267327793591416000228568794576910811135, none⟩ ]

/-- FIRMWARE (R547). -/
def rows1104 : List Row :=
  [ ⟨0, 0, 1, false, .RW, 3, .command, 0, 5, none⟩,
    ⟨1, 1, 1, false, .RO, 0, .readOnly, 0, 255, none⟩,
    ⟨2, 2, 1, false, .RO, 0, .readOnly, 0, 255, none⟩,
    ⟨3, 3, 1, false, .RO, 0, .readOnly, 0, 255, none⟩,
    ⟨4, 4, 8, false, .RO, 0, .readOnly, 0, 18446744073709551615, none⟩,
    ⟨5, 5, 4, false, .RO, 0, .readOnly, 0, 4294967295, none⟩,
    ⟨6, 6, 1, false, .RO, 0, .readOnly, 0, 255, none⟩,
    ⟨7, 7, 1, false, .RO, 0, .readOnly, 0, 255, none⟩,
    ⟨8, 8, 8, false, .RO, 0, .readOnly, 0, 18446744073709551615, none⟩,
    ⟨9, 9, 2, false, .RW, 3, .immediate, 60, 3600, none⟩ ]

/-- BOOTSET (R548). -/
def rows1106 : List Row :=
  [ ⟨0, 0, 1, false, .RW, 2, .command, 0, 2, none⟩,
    ⟨1, 1, 1, false, .RO, 0, .readOnly, 0, 255, none⟩,
    ⟨2, 2, 8, false, .RO, 0, .readOnly, 0, 18446744073709551615, none⟩,
    ⟨3, 3, 8, false, .RO, 0, .readOnly, 0, 18446744073709551615, none⟩,
    ⟨4, 4, 8, false, .RO, 0, .readOnly, 0, 18446744073709551615, none⟩ ]

/-- POWER (R574). -/
def rows1200 : List Row :=
  [ ⟨0, 0, 2, false, .RW, 2, .immediate, 1200, 2200, none⟩,
    ⟨1, 1, 2, false, .RW, 3, .immediate, 700, 850, none⟩,
    ⟨2, 2, 2, false, .RO, 0, .readOnly, 0, 65535, none⟩,
    ⟨3, 3, 2, false, .RO, 0, .readOnly, 0, 65535, none⟩,
    ⟨4, 4, 2, false, .RO, 0, .readOnly, 0, 65535, none⟩,
    ⟨5, 5, 2, false, .RO, 0, .readOnly, 0, 65535, none⟩,
    ⟨6, 6, 1, false, .RO, 0, .readOnly, 0, 255, none⟩,
    ⟨7, 7, 8, false, .RO, 0, .readOnly, 0, 18446744073709551615, none⟩,
    ⟨8, 8, 1, false, .RW, 3, .command, 0, 1, none⟩,
    ⟨9, 9, 1, false, .RO, 0, .readOnly, 0, 255, none⟩,
    ⟨10, 10, 1, false, .RO, 0, .readOnly, 0, 255, none⟩ ]

/-- ARBCLASS (R575). -/
def rows1201 : List Row :=
  [ ⟨0, 0, 4, false, .RO, 0, .readOnly, 0, 4294967295, none⟩,
    ⟨1, 1, 4, false, .RO, 0, .readOnly, 0, 4294967295, none⟩,
    ⟨2, 2, 4, false, .RO, 0, .readOnly, 0, 4294967295, none⟩,
    ⟨3, 3, 1, false, .RO, 0, .readOnly, 0, 255, none⟩,
    ⟨4, 4, 8, false, .RO, 0, .readOnly, 0, 18446744073709551615, none⟩ ]

/-- THERMAL (R576). -/
def rows1202 : List Row :=
  [ ⟨0, 0, 2, true, .RO, 0, .readOnly, -32768, 32767, none⟩,
    ⟨1, 1, 2, true, .RO, 0, .readOnly, -32768, 32767, none⟩,
    ⟨2, 2, 1, false, .RO, 0, .readOnly, 0, 255, none⟩,
    ⟨3, 3, 4, false, .RO, 0, .readOnly, 0, 4294967295, none⟩ ]

/-- PACKAGE (R600). -/
def rows1300 : List Row :=
  [ ⟨0, 0, 1, false, .RO, 0, .readOnly, 0, 255, none⟩,
    ⟨1, 1, 2, false, .RO, 0, .readOnly, 0, 65535, none⟩,
    ⟨2, 2, 1, false, .RO, 0, .readOnly, 0, 255, none⟩,
    ⟨3, 3, 1, false, .RW, 3, .immediate, 0, 1, none⟩,
    ⟨4, 4, 4, false, .RO, 0, .readOnly, 0, 4294967295, none⟩,
    ⟨5, 5, 8, false, .RO, 0, .readOnly, 0, 18446744073709551615, none⟩ ]

def objects0 : List Obj :=
  [ ⟨0x0000, 1, rows0000⟩,
    ⟨0x0001, 1, rows0001⟩,
    ⟨0x0100, 0, rows0100⟩,
    ⟨0x0101, 64, rows0101⟩,
    ⟨0x0102, 1, rows0102⟩,
    ⟨0x0103, 64, rows0103⟩,
    ⟨0x0200, 16, rows0200⟩,
    ⟨0x0201, 64, rows0201⟩,
    ⟨0x0202, 2048, rows0202⟩,
    ⟨0x0203, 16384, rows0203⟩,
    ⟨0x0204, 16, rows0204⟩,
    ⟨0x0205, 256, rows0205⟩,
    ⟨0x0206, 1, rows0206⟩ ]

def objects1 : List Obj :=
  [ ⟨0x0300, 2048, rows0300⟩,
    ⟨0x0301, 1, rows0301⟩,
    ⟨0x0302, 32768, rows0302⟩,
    ⟨0x0400, 512, rows0400⟩,
    ⟨0x0401, 1, rows0401⟩,
    ⟨0x0500, 1, rows0500⟩,
    ⟨0x0600, 1048576, rows0600⟩,
    ⟨0x0601, 4096, rows0601⟩,
    ⟨0x0602, 1048576, rows0602⟩,
    ⟨0x0603, 65536, rows0603⟩,
    ⟨0x0604, 262144, rows0604⟩,
    ⟨0x0605, 1, rows0605⟩ ]

def objects2 : List Obj :=
  [ ⟨0x0700, 1, rows0700⟩,
    ⟨0x0701, 72, rows0701⟩,
    ⟨0x0702, 1024, rows0702⟩,
    ⟨0x0703, 8, rows0703⟩,
    ⟨0x0704, 147456, rows0704⟩,
    ⟨0x0705, 16, rows0705⟩,
    ⟨0x0800, 2048, rows0800⟩,
    ⟨0x0801, 72, rows0801⟩,
    ⟨0x0802, 147456, rows0802⟩,
    ⟨0x0803, 1024, rows0803⟩,
    ⟨0x0804, 1, rows0804⟩,
    ⟨0x0900, 2048, rows0900⟩,
    ⟨0x0901, 72, rows0901⟩,
    ⟨0x0902, 1, rows0902⟩,
    ⟨0x0903, 32768, rows0903⟩ ]

def objects3 : List Obj :=
  [ ⟨0x0A00, 16384, rows0A00⟩,
    ⟨0x0A01, 2097152, rows0A01⟩,
    ⟨0x0A02, 16777216, rows0A02⟩,
    ⟨0x0A03, 1, rows0A03⟩,
    ⟨0x0B00, 16384, rows0B00⟩,
    ⟨0x0C00, 320, rows0C00⟩,
    ⟨0x0C01, 8, rows0C01⟩,
    ⟨0x0C02, 1, rows0C02⟩,
    ⟨0x0C03, 8, rows0C03⟩,
    ⟨0x0C04, 16384, rows0C04⟩,
    ⟨0x0D00, 1, rows0D00⟩,
    ⟨0x0D01, 1, rows0D01⟩,
    ⟨0x0D02, 1, rows0D02⟩,
    ⟨0x0D03, 2048, rows0D03⟩,
    ⟨0x0D04, 4096, rows0D04⟩,
    ⟨0x0D05, 1, rows0D05⟩,
    ⟨0x0D06, 16384, rows0D06⟩,
    ⟨0x0D07, 64, rows0D07⟩ ]

def objects4 : List Obj :=
  [ ⟨0x0E00, 2048, rows0E00⟩,
    ⟨0x0E01, 1024, rows0E01⟩,
    ⟨0x0F00, 208, rows0F00⟩,
    ⟨0x0F01, 1664, rows0F01⟩,
    ⟨0x0F02, 1040, rows0F02⟩,
    ⟨0x0F03, 1, rows0F03⟩,
    ⟨0x0F04, 2048, rows0F04⟩,
    ⟨0x1000, 1, rows1000⟩,
    ⟨0x1001, 20480, rows1001⟩,
    ⟨0x1002, 1, rows1002⟩,
    ⟨0x1003, 1, rows1003⟩,
    ⟨0x1004, 65536, rows1004⟩,
    ⟨0x1005, 524288, rows1005⟩,
    ⟨0x1006, 65536, rows1006⟩ ]

def objects5 : List Obj :=
  [ ⟨0x1100, 1, rows1100⟩,
    ⟨0x1101, 2, rows1101⟩,
    ⟨0x1102, 2048, rows1102⟩,
    ⟨0x1103, 4, rows1103⟩,
    ⟨0x1104, 1, rows1104⟩,
    ⟨0x1106, 1, rows1106⟩,
    ⟨0x1200, 1, rows1200⟩,
    ⟨0x1201, 48, rows1201⟩,
    ⟨0x1202, 33, rows1202⟩,
    ⟨0x1300, 1, rows1300⟩ ]

/-- Every object of the dictionary. -/
def objects : List Obj :=
  objects0 ++ objects1 ++ objects2 ++ objects3 ++ objects4 ++ objects5

/-- The UNIT instances that exist: level x 65,536 + index, with the index within its level (R41). -/
def unitInstance (i : Nat) : Bool :=
  match i / 65536 with
  | 0 => decide (i % 65536 < 8192)
  | 1 => decide (i % 65536 < 2048)
  | 2 => decide (i % 65536 < 128)
  | 3 => decide (i % 65536 < 8)
  | 4 => decide (i % 65536 = 0)
  | 5 => decide (i % 65536 = 0)
  | _ => false

/-- The row of an element, or none where the address is answered NO_OBJECT (R504). -/
def rowOf (a : Addr) : Option Row :=
  match objects.find? (fun o => o.index == a.obj) with
  | none => none
  | some o =>
    if (if a.obj = 0x0100 then unitInstance a.inst else decide (a.inst < o.count)) then
      o.rows.find? (fun r => decide (r.lo ≤ a.el) && decide (a.el ≤ r.hi))
    else none

/-- Width of an element in bits; 0 for an address that does not exist. -/
def bitsOf (a : Addr) : Nat :=
  match rowOf a with
  | none => 0
  | some r => 8 * r.bytes

/-- The element belongs to the configuration set (R398). -/
def inSet (a : Addr) : Bool :=
  match rowOf a with
  | none => false
  | some r => decide (r.kind = .configSet)

/-- The raw value `v` lies in the element's stated range (R506, R526 code 0x08). -/
def Row.inRange (r : Row) (v : Nat) : Bool :=
  decide (r.extra = some v) ||
    (let x : Int := if r.signed then ofRaw (8 * r.bytes) v else (v : Int)
     decide (r.least ≤ x) && decide (x ≤ r.most))

end Sys2Proof.Machine
end

