-- ==== Sys2Proof/Machine/Store.lean ====
section
/-! DEFINITION. Sparse maps in canonical form: a list of key and value pairs whose keys strictly
rise and which lists no entry equal to what an unlisted key reads as. The dictionary's values, the
flash (INVENTORY.md, "Memory and ordering") and every indexed table of the machine are held so,
and equal maps are equal lists. -/

namespace Sys2Proof.Machine

namespace Store

/-- What the map holds at a key; a key it does not list reads as the default. -/
def get {κ α : Type} [DecidableEq κ] (dflt : κ → α) : List (κ × α) → κ → α
  | [], k => dflt k
  | (k', v) :: rest, k => if k' = k then v else get dflt rest k

/-- The map without a key. -/
def erase {κ α : Type} [DecidableEq κ] : List (κ × α) → κ → List (κ × α)
  | [], _ => []
  | (k', v) :: rest, k => if k' = k then erase rest k else (k', v) :: erase rest k

/-- A pair put in front of the first larger key. -/
def insert {κ α : Type} (lt : κ → κ → Bool) (k : κ) (v : α) : List (κ × α) → List (κ × α)
  | [] => [(k, v)]
  | (k', v') :: rest =>
    if lt k k' then (k, v) :: (k', v') :: rest else (k', v') :: insert lt k v rest

/-- The map with one key rewritten; writing the default removes the key. -/
def put {κ α : Type} [DecidableEq κ] [DecidableEq α] (lt : κ → κ → Bool) (dflt : κ → α)
    (m : List (κ × α)) (k : κ) (v : α) : List (κ × α) :=
  if v = dflt k then erase m k else insert lt k v (erase m k)

/-- Keys strictly rise from `k` on. -/
def risesFrom {κ α : Type} (lt : κ → κ → Bool) : κ → List (κ × α) → Bool
  | _, [] => true
  | k, (k', _) :: rest => lt k k' && risesFrom lt k' rest

/-- Keys strictly rise. -/
def rises {κ α : Type} (lt : κ → κ → Bool) : List (κ × α) → Bool
  | [] => true
  | (k, _) :: rest => risesFrom lt k rest

/-- No entry equals the default of its key. -/
def noDefault {κ α : Type} [DecidableEq α] (dflt : κ → α) : List (κ × α) → Bool
  | [] => true
  | (k, v) :: rest => decide (v ≠ dflt k) && noDefault dflt rest

/-- The canonical form. -/
def wf {κ α : Type} [DecidableEq α] (lt : κ → κ → Bool) (dflt : κ → α) (m : List (κ × α)) : Bool :=
  rises lt m && noDefault dflt m

end Store

/-- Order of numbers as a Bool. -/
def natLt (a b : Nat) : Bool := decide (a < b)

/-! ## The dictionary's values -/

/-- Values of dictionary elements, raw bits as numbers (R506). -/
abbrev Regs := List (Addr × Nat)

def Regs.get (m : Regs) (a : Addr) : Nat := Store.get regDefault m a
def Regs.put (m : Regs) (a : Addr) (v : Nat) : Regs := Store.put Addr.lt regDefault m a v
def Regs.wf (m : Regs) : Bool := Store.wf Addr.lt regDefault m

/-! ## Typed tables -/

/-- A table indexed by a number; the default record is named at each use. -/
abbrev Tab (α : Type) := List (Nat × α)

def Tab.get {α : Type} (d : α) (m : Tab α) (k : Nat) : α := Store.get (fun _ => d) m k
def Tab.put {α : Type} [DecidableEq α] (d : α) (m : Tab α) (k : Nat) (v : α) : Tab α :=
  Store.put natLt (fun _ => d) m k v
def Tab.wf {α : Type} [DecidableEq α] (d : α) (m : Tab α) : Bool := Store.wf natLt (fun _ => d) m

/-- A table whose entries may be absent: present entries only. -/
def Tab.find {α : Type} (m : Tab α) (k : Nat) : Option α :=
  match m with
  | [] => none
  | (k', v) :: rest => if k' = k then some v else Tab.find rest k

/-- Put an entry into a table of present entries. -/
def Tab.set {α : Type} (m : Tab α) (k : Nat) (v : α) : Tab α :=
  Store.insert natLt k v (Store.erase m k)

/-- Remove an entry from a table of present entries. -/
def Tab.del {α : Type} (m : Tab α) (k : Nat) : Tab α := Store.erase m k

/-! ## The flash as bytes -/

/-- What a flash byte that nothing has programmed reads as: erased NOR reads all ones
(DESIGN CHOICE, log entry 5). -/
def Memory.blank (_ : Nat) : Byte := 0xFF#8

/-- The groom's flash, 2 x 128 MiB, addressed bank x 0x8000000 + offset (R530, R531). -/
abbrev Memory := List Host.Cell

def Memory.read (m : Memory) (a : Nat) : Byte := Store.get Memory.blank m a
def Memory.write (m : Memory) (a : Nat) (b : Byte) : Memory := Store.put natLt Memory.blank m a b
def Memory.wf (m : Memory) : Bool := Store.wf natLt Memory.blank m

/-- Consecutive bytes written from an address up. -/
def Memory.writeBytes (m : Memory) (a : Nat) : List Byte → Memory
  | [] => m
  | b :: rest => Memory.writeBytes (m.write a b) (a + 1) rest

/-- `n` consecutive bytes from an address up. -/
def Memory.readBytes (m : Memory) (a : Nat) : Nat → List Byte
  | 0 => []
  | n + 1 => m.read a :: Memory.readBytes m (a + 1) n

/-- The bytes from `a` to `a + n - 1` made blank: the erase of a sector (R530). -/
def Memory.eraseRange (m : Memory) (a n : Nat) : Memory :=
  m.filter (fun c => decide (c.1 < a) || decide (a + n ≤ c.1))

end Sys2Proof.Machine
end

