-- ==== Sys2Proof/Machine/State.lean ====
section
/-! DEFINITION. The state of the block as plain data (INVENTORY.md, "State"): the dictionary's values,
and everything the spec gives the machine that no element shows. -/

namespace Sys2Proof.Machine

/-! ## Frames, flits and markers -/

/-- A flit: its 96-bit header, 63 payload blocks, and the CRC-32C as stored (R98). `decoded` says
that every codeword it overlapped decoded (R100). -/
structure Flit where
  hdr : BitVec 96
  payload : List Block
  crc : BitVec 32
  decoded : Bool
deriving DecidableEq, Repr

/-- Where a frame stands (R30, R216, R198, R358). -/
inductive Place where
  | staging        -- receive staging, before its stage 3 decision
  | request        -- its lattice request is to be sent (R30)
  | asked          -- its request stands at the egress facet, not yet tested (R220)
  | waiting        -- its request waits at the egress facet (R221)
  | granted        -- admitted; the lattice grant is to be acted on (R30)
  | lattice        -- sent as light (R30)
  | held           -- in a hold pool (R198)
  | queued         -- in an egress queue, on die or spilled (R216, R226)
  | sending        -- begun to leave its egress port
  | poolWait       -- a trace that waits for a trace-pool grant (R358)
  | pool           -- a trace in its home facet's trace pool
  | localTo        -- delivered under LOCAL, not yet taken by its owner (R185)
  | learning       -- waits for its source's learned insertion (R203)
  | parent         -- a replicated frame whose copies are on their way (R201)
deriving DecidableEq, Repr

/-- The buffer region a frame's cells are charged to (R216 to R220). -/
inductive Region where
  | none | minimum | shared | headroom | prefetch
deriving DecidableEq, Repr

/-- Cause for which an admission request waits (R221). -/
inductive WaitCause where
  | none | room | quota
deriving DecidableEq, Repr

/-- A Lamier frame inside the solid. `hdr` is the base header as it stands now, `rxHdr` as it was
received or originated; `blocks` are the blocks after it that have arrived (R147). -/
structure Frame where
  hdr : Block := 0
  rxHdr : Block := 0
  blocks : List Block := []
  ingress : Nat := 0xFFFF          -- ingress port; 0xFFFF for a frame the solid originated
  facet : Nat := 0                 -- ingress or originating facet
  egress : Nat := 0xFFFF           -- egress port chosen at stage 3
  outVl : Nat := 0                 -- VL on which it leaves
  arrival : Nat := 0               -- tick its header was accepted, for the residence limit
  stamp : Nat := 0                 -- the set it is processed under (R402)
  place : Place := .staging
  whole : Bool := false            -- its final block has arrived
  poison : Bool := false           -- its extent ended early or by a poison tail (R174, R175)
  credits : Nat := 0               -- credits its ingress link still holds for it (R106)
  region : Region := .none
  cells : Nat := 0                 -- cells charged on die
  cause : WaitCause := .none
  waitSince : Nat := 0             -- tick at which its wait began (R221)
  causeSince : Nat := 0            -- tick at which it began to wait with its present cause (R222)
  quotaWaited : Bool := false      -- it has waited with cause QUOTA (R242)
  roomWaited : Bool := false       -- waited with cause ROOM (R282)
  cutThrough : Bool := false       -- joined an empty queue and may cut through (R34)
  segment : Nat := 0               -- spill segment that holds it; 0 none (R226)
  eccBad : Bool := false           -- a word of it failed in HBM (R231)
  admitted : Nat := 0              -- tick of admission
  notified : Bool := false         -- a QUOTA NOTIFY has been asked for (R222)
  parentId : Nat := 0              -- frame it is a copy of; 0 none
  copiesLeft : Nat := 0            -- copies of this frame not yet admitted or dropped (R201)
  mirror : Nat := 0xFF             -- mirror session of a copy; 0xFF none
  markOwner : Nat := 0xFFFFFFFF    -- drain a marker belongs to
  group : Nat := 0xFFFF            -- route group it was pinned through
  slot : Nat := 0xFFFF             -- pin slot; 0xFFFF for a frame not pinned
  heldRepin : Bool := false        -- held on a slot that was reassigned (R196)
  flood : Nat := 0xFFFF            -- flood group of its BRIDGE entry, while it is being bridged
  macWait : Bool := false          -- the block with its MAC addresses has not arrived (R203)
  policed : Bool := false          -- its policer check has been made (R262)
  pairSeq : Nat := 0               -- lattice sequence number of its pair (R31)
  arrived : Bool := false          -- the light has arrived, delivery in order to follow (R31)
  tap : Nat := 0xFF                -- feed whose tap lights its transfer (R51)
  crossed : Bool := false          -- the light that carries it has been counted (R453)
  repinHere : Bool := false        -- REPIN was set here (R196)
  team : Nat := 0xFFFF             -- team of a trace whose home facet is chosen
  home : Nat := 0xFF               -- home facet of a trace
  priority : Bool := false         -- a trace of a PRIORITY team (R358)
deriving DecidableEq, Repr

/-- A frame being sent by a port, with the blocks already sent (R99). -/
structure Sending where
  frame : Nat
  sent : Nat
deriving DecidableEq, Repr

/-! ## Links -/

/-- A change of one direction's lane set, to take effect at a marker (R112). -/
structure LaneSwitch where
  mask : Nat
  at_ : Nat
  cause : Nat
deriving DecidableEq, Repr

/-- Sleep handshake of a port (R114 to R116). -/
inductive SleepState where
  | none | requested | settling | quiet | waking
deriving DecidableEq, Repr

/-- The transmit side of a port's line coding (R90): the scrambler's register, message bits that do not fill a codeword
yet, with their number, and the place in the lane set of the next symbol. -/
structure LineTx where
  reg : Nat := 0
  bits : Nat := 0
  len : Nat := 0
  lane : Nat := 0
deriving DecidableEq, Repr

/-- The receive side: the descrambler's register, the symbols that wait on each lane, the place of the next one in the lane
set, the symbols of the codeword under way, newest first, and descrambled message bits not yet taken: value, number of
bits, and whether their codeword decoded. -/
structure LineRx where
  reg : Nat := 0
  lanes : List (List Nat) := [[], [], [], []]
  lane : Nat := 0
  word : List Nat := []
  bits : List (Nat × Nat × Bool) := []
deriving DecidableEq, Repr

/-- What a port's link logic holds beside its PORT and CREDIT objects. -/
structure Link where
  attempt : Bool := false              -- a training attempt is under way (R96)
  fails : Nat := 0                     -- consecutive failed attempts
  looped : Bool := false               -- LOOPBACK has been written since reset or since last UP (R94)
  peerDownSeen : Bool := false         -- the partner's markers read LSTATE DOWN (R109)
  markNo : Nat := 0                    -- MARKNO of the next marker sent
  peerMark : Nat := 0                  -- last MARKNO received
  good : List Nat := [0, 0, 0, 0]      -- consecutive good markers per receive lane
  bad : List Nat := [0, 0, 0, 0]       -- consecutive bad markers per receive lane
  rxReq : Nat := 15                    -- lanes this end asks to receive (R91)
  rxSwitch : Option LaneSwitch := none -- pending change of RXMASK
  txSwitch : Option LaneSwitch := none -- pending change of TXMASK
  seq : Nat := 0                       -- FSEQ of the next new DATA flit
  expect : Nat := 0                    -- FSEQ expected next
  acked : Nat := 0xFFFF                -- last FSEQ the partner acknowledged
  ackValid : Bool := false             -- a DATA flit has been accepted
  retry : List Flit := []              -- unacknowledged DATA flits, oldest first (R102)
  unacked : List (Nat × Nat × Block) := []  -- FSEQ, frame and header of each frame they carry (R118)
  resend : List Flit := []             -- flits to be resent after a NAK (R101)
  retryWait : Bool := false
  nak : Bool := false                  -- NAK goes out in the next flit
  naks : Nat := 0                      -- NAKs sent for the same expected FSEQ
  nakUsed : Bool := false              -- the one NAK of a pending lane exclusion has been set (R101)
  slots : Nat := 0                     -- flit slots sent, modulo 17 (R92)
  rxBlocks : List Block := []          -- accepted blocks not yet taken by stage 2
  flitRemain : Nat := 0                -- blocks of the frame in progress still to come by flit
  rxFrame : Nat := 0                   -- frame whose blocks are arriving; 0 none
  rxRemain : Nat := 0                  -- its blocks still to be taken
  rxHdr : Block := 0                   -- its header as received
  block1 : Bool := false               -- its block 1 has been judged (R170)
  sending : List Sending := []         -- frames begun and not finished, oldest first
  txSharedFree : Nat := 0              -- shared credits free toward the partner (R105)
  advShared : Nat := 0                 -- shared credits the partner advertised
  advCap : Nat := 100                  -- the partner's SHARE_CAP
  freed : List Nat := [0, 0, 0, 0, 0, 0, 0, 0, 0]    -- CRTOT sent: credits freed per VL (R108)
  peerFreed : List Nat := [0, 0, 0, 0, 0, 0, 0, 0, 0] -- last CRTOT received
  charged : List Nat := [0, 0, 0, 0, 0, 0, 0, 0, 0]  -- cumulative credits charged, sent (R107)
  rxCharged : List Nat := [0, 0, 0, 0, 0, 0, 0, 0, 0] -- cumulative credits charged, received
  cmd : Nat := 0                       -- CMD levels sent (R109)
  peerCmd : Nat := 0                   -- CMD levels received
  kaSeq : Nat := 0                     -- KASEQ sent
  kaSample : List (Nat × Nat) := []    -- bytes 56 to 163 of a CONTROL flit as sampled with it: widths and values (R110)
  peerKa : Nat := 0xFFFF               -- last KASEQ received
  kaSeen : Nat := 0                    -- keepalives received since INIT
  liveKa : Bool := false               -- a keepalive has been received since UP (R187)
  peerTs : Nat := 0                    -- last TS received and the tick of its receipt
  peerTsAt : Nat := 0
  rtts : List Nat := []                -- exchanges measured, newest first (R97)
  rttInit : Nat := 0                   -- RTT recorded at INIT
  peerCaps : Nat := 0
  peerAdv : Bool := false              -- the partner's advertisement has been received
  txReq : Nat := 15                    -- lanes the partner asks this end to transmit on
  lastData : Nat := 0                  -- tick of the last DATA flit in either direction (R114)
  sleep : SleepState := .none
  wakeSeen : Bool := false
  sleepBlocked : Bool := false         -- no request before SLEEP_IDLE after a NAK (R114)
  darkUntil : Bool := false            -- the partner has announced dark (R80)
  shareCap : Nat := 100                -- share cap this end advertises, as of INIT (R121)
  lineTx : LineTx := {}
  lineRx : LineRx := {}
  fillDue : Nat := 0                   -- part of a fill word that flit slots have left room for (R92)
  badWords : Nat := 0                  -- uncorrectable codewords of the present 1 ms window (R117)
  retiring : Bool := false             -- RETIRE has been sent for a migration or a vet (R71)
  retired : Bool := false              -- the partner has sent RETIRE and this end diverts
deriving DecidableEq, Repr

/-! ## Light -/

/-- One feed input of a position, by feed x 2 + input: the last totals of its monitor and the runs
that confirm or clear the thresholds of R68. -/
structure FeedInput where
  totals : List Int := []               -- feed-monitor totals, newest first, at most 11
  lines : List Int := []                -- last 1 ms mean of each line
  warnRun : List Nat := []              -- consecutive windows below WARN, per line
  migRun : List Nat := []
  failRun : List Nat := []              -- consecutive 10 microsecond samples below FAIL
  warnClear : List Nat := []
  migClear : List Nat := []
  level : List Nat := []                -- 0 OK, 1 WARN, 2 MIGRATE, 3 FAIL, per line
  at_ : Nat := 0                        -- tick of the newest total (R75)
deriving DecidableEq, Repr

/-- The sequence of R71 at one position. -/
structure Migration where
  step : Nat := 0            -- 0 none; otherwise the step of R71 that waits to complete
  t0 : Nat := 0
  flushed : Bool := false    -- R72: RESULT 4
  drained : Bool := true     -- false where FAIL broke in, so no drain was made
deriving DecidableEq, Repr

/-- A light source module's hidden state. -/
structure ClsState where
  answered : Bool := false     -- it answers at 0x58 since CLS_EN was last asserted
  lines : List Int := []       -- line powers last read over the sideband (R66)
  status : Nat := 0
deriving DecidableEq, Repr

/-- A duplex pair's transmit. -/
structure PairState where
  closed : Bool := true        -- attenuator closed to at least 35 dB
  opened : Bool := false       -- it has been opened since the start of the optical layer (R81)
  probe : Bool := false        -- at the probe level
  lowRun : Nat := 0
deriving DecidableEq, Repr

/-- A seed record of a chord ring: heater code and photonic temperature (R130). -/
structure Seed where
  heater : Nat
  temp : Int
deriving DecidableEq, Repr

/-- One chord's hidden state; strand 0 runs from A to B. -/
structure ChordState where
  portA : Nat := 0xFFFF         -- the ports it was set up with
  portB : Nat := 0xFFFF
  locked : Bool := false        -- every chord ring of it is LOCKED
  retried : List Bool := [false, false]   -- a strand has been reseeded once (R131)
  dumped : List Bool := [false, false]    -- add rings of a strand detuned to the dump
  removing : Bool := false      -- the teardown of R134 runs: UNUSED at its end
  leaving : List Nat := []      -- ports a teardown or a move frees, until their local rings are LOCKED (R134, R135)
  localStep : Bool := false     -- their add rings are clear and their local rings count (R134 step 3)
  restoring : Bool := false     -- the dumped strand is being restored (R140)
  fillOn : List Bool := [false, false]
deriving DecidableEq, Repr

/-- Feed-forward of one island: the sum of the changes of power warned of, and that sum after the first-order step of
FF_TAU, both in mW (R58). -/
structure FeedForward where
  target : Int := 0
  power : Int := 0
deriving DecidableEq, Repr

/-- The photonic layer beside its objects. -/
structure Light where
  started : Bool := false             -- R81 has begun
  stagger : Nat := 0                  -- modules whose CLS_EN R81 has asserted
  recount : Tab Bool := []            -- a ring was parked out of LOCKED, HOLD or RELOCK
  relocks : Tab Nat := []             -- steps a ring has taken under R59
  usedSlot : Tab Nat := []            -- slot s' that a mismatched lane used
  fullRange : Tab Bool := []
  inputs : Tab FeedInput := []        -- feed x 2 + input
  migrations : Tab Migration := []
  modules : Tab ClsState := []
  pairs : Tab PairState := []
  chords : Tab ChordState := []
  seeds : Tab Seed := []              -- chord rings' seed records, port x 8 + lane x 2 + side
  chordHeaters : Tab Nat := []        -- chord rings' heater codes, by the same key (R130)
  forward : Tab FeedForward := []     -- by ISLAND instance (R58)
  latticeLit : List Nat := []         -- facets both of whose FAUs have had a lit position (R81)
deriving DecidableEq, Repr

/-! ## Outputs -/

/-- What leaves the block. -/
inductive Output where
  | marker (port lane : Nat) (bits : BitVec 1360)
  | flit (port : Nat) (f : Flit)
  | fill (port : Nat)
  | symbols (port : Nat) (lanes : List (List Nat))   -- what the coding of the stream puts on each lane (R90)
  | clsWrite (cls reg value : Nat)
  | sirgo (mgmt addr udpPort : Nat) (bytes : List Byte)
  | packet (mgmt addr : Nat) (bytes : List Byte)
  | advertisement (mgmt addr target : Nat)
  | twin (m : TwinMessage)
  | bmi (bytes : List Nat)
  | jtag (name : String) (bits value : Nat)
deriving DecidableEq, Repr

/-- A studbook record raised and not yet accepted by the groom (R488, R540). -/
structure Raised where
  code : Nat
  source : Nat
  data : Nat
deriving DecidableEq, Repr

/-! ## The solid -/

/-- The timebase counters (R24, R25). -/
structure Timebase where
  running : Bool := false
  groom : Nat := 0
  facets : List Nat := [0, 0, 0, 0, 0, 0, 0, 0]
deriving DecidableEq, Repr

/-- A pool group of eight wavelengths (R28, R29). -/
structure PoolGroup where
  peer : Nat := 0
  target : Option Nat := none       -- peer toward which it is moving
deriving DecidableEq, Repr

/-- The lattice endpoints beside their objects. -/
structure Lattice where
  pools : List PoolGroup := []      -- facet x 5 + group
  wait : Tab Nat := []              -- grant-wait ticks of the epoch, facet x 8 + peer (R29)
  seq : Tab Nat := []               -- next per-pair sequence number (R31)
  outFacets : List Nat := []        -- facets OUT_OF_SERVICE (R38)
  outVertices : List Nat := []      -- vertices out of service on their own account (R39)
  vetUnits : List Nat := []         -- UNIT instances out with REASON 4 (R484)
deriving DecidableEq, Repr

/-! ## Buffers, scheduling, congestion -/

/-- Where a spill segment stands (R227, R228). -/
inductive SegPlace where
  | writing | held | reading | read
deriving DecidableEq, Repr

/-- A spill segment and its descriptor (R226). -/
structure Segment where
  id : Nat
  group : Nat                -- HBM channel group
  addr : Nat                 -- HBM address
  frames : List Nat          -- frames it holds, in queue order
  cells : Nat
  bytes : Nat
  youngest : Nat             -- arrival tick of its youngest frame
  place : SegPlace
deriving DecidableEq, Repr

/-- An egress queue (R215, R227). -/
structure EQueue where
  order : List Nat := []     -- its frames in order, on die and spilled
  spill : Bool := false      -- in spill state
  segments : List Segment := []
  visited : Bool := false    -- DRR mark (R252)
  stallSince : Option Nat := none  -- in spill state, its head has lacked link credit since (R281)
  gaveBack : Bool := false   -- prefetched cells were returned to the pool; reads wait for link credit (R281)
deriving DecidableEq, Repr

/-- A shaper (R255 to R258). -/
structure Shaper where
  credit : Int := 0          -- millibits
  last : Nat := 0            -- tick of the last refill
  slot : Nat := 0            -- tick of its wheel slot; 0 when not on the wheel
  swapOld : Option (Nat × Nat) := none   -- old RATE and BURST while it awaits its swap refill
  swapAt : Nat := 0
deriving DecidableEq, Repr

/-- A port's scheduler (R247 to R252). -/
structure PortSched where
  ptr : Nat := 0             -- place in the DRR ring
  lastCtrl : Nat := 7        -- VL of the CTRL level served last
  waitQueue : List Nat := [] -- queues whose head is the waiting head of its VL (R248)
  heldSince : Option Nat := none   -- CTRL queues have waited on the CTRL shaper since (R270)
  heldTold : Bool := false   -- that wait has its CTRL_HELD record (R270)
  stalls : List (Nat × Nat) := []  -- VLs in a stall episode, and the tick it began (R289, R290)
  starved : List Nat := []   -- VLs whose present stall has been recorded (R290)
deriving DecidableEq, Repr

/-- A token bucket of an OPEN policer (R262). -/
structure Policer where
  tokens : Int := 0
  last : Nat := 0
deriving DecidableEq, Repr

/-- NOTIFY limits of a facet (R287). -/
structure NotifyBucket where
  tokens : Nat := 64
  last : Nat := 0            -- tick up to which tokens have accrued
  frac : Nat := 0            -- part of the next token, in millionths
  seq : Nat := 0             -- NOTIFY count (R284)
  gap : List (Nat × Nat) := []   -- DST and tick of the last QUOTA NOTIFY sent to it
deriving DecidableEq, Repr

/-- A learned entry of the OPEN lane (R202). -/
structure Learned where
  ten : Nat
  mac : Nat
  eid : Nat
  hit : Bool
  sweeps : Nat
deriving DecidableEq, Repr

/-- An insertion on its way to the bucket's owner facet (R203). -/
structure Insertion where
  frame : Nat                -- frame whose forwarding waits for it
  group : Nat                -- flood group of its BRIDGE entry
  ten : Nat
  mac : Nat
  eid : Nat
  bucket : Nat
deriving DecidableEq, Repr

/-- An entry of an ordered-channel cache (R410). -/
structure CacheEntry where
  key : Nat                  -- TEN, SRC, DST, CHAN, MSG, TC as 64 bits
  group : Nat
  slot : Nat
  last : Nat
deriving DecidableEq, Repr

/-- The markers of one drain: of a route group, or of a retiring port at 4,096 + port (R413). -/
structure DrainRun where
  waiting : List (Nat × Nat) := []   -- cache entries, facet x 65,536 + entry and key, yet to be marked
  out : List (Nat × Nat) := []       -- marker number and facet of each marker not echoed
  started : Nat := 0
deriving DecidableEq, Repr

/-- An echo that waits for output staging (R412). -/
structure Echo where
  facet : Nat
  ten : Nat
  tc : Nat
  dst : Nat
  seq : Nat
  block : Block
deriving DecidableEq, Repr

/-- Forwarding beside its objects. -/
structure Forwarding where
  gens : Tab Nat := []               -- xorshift outputs: vertex, 0x100 + facet, 0x200 + facet (R192, R282)
  published : Tab Nat := []          -- depth levels as last published, by queue (R191)
  repinEnd : Tab Nat := []           -- tick at which a slot's repin window ends (R196)
  holds : Tab (List Nat) := []       -- hold lists, (group x 256 + slot) x 8 + facet (R198)
  learned : Tab Learned := []        -- bucket x 4 + way
  staticHits : List Nat := []        -- static ways whose HIT is set (R203)
  insertions : List Insertion := []  -- oldest first
  cache : Tab CacheEntry := []       -- facet x 65,536 + entry
  untracked : Tab Nat := []          -- group x 256 + slot, to the tick it ends
  drains : Tab DrainRun := []
  markNext : Nat := 0
  echoes : List Echo := []
  telem : List (Nat × Block × List Block) := []  -- TELEMETRY responses waiting: facet, header, blocks
  replies : List (Nat × Block × List Block) := []  -- in-band Sirgo responses waiting likewise (R603)
deriving DecidableEq, Repr

/-- Buffers, schedulers and NOTIFY buckets. -/
structure Egress where
  queues : Tab EQueue := []
  scheds : Tab PortSched := []
  shapers : Tab Shaper := []         -- queue; 147,456 + port for a CTRL shaper
  policers : Tab Policer := []       -- tenant x 8 + facet
  buckets : Tab NotifyBucket := []   -- by facet
  nextSegment : Nat := 1
  nextGroup : List Nat := [0, 0, 0, 0, 0, 0, 0, 0]  -- channel group of each stack's next segment (R225)
  hbmOut : List Nat := []            -- channel groups out of service, facet x 2 + group
  spillFull : List Nat := []         -- facets whose full region has been recorded
deriving DecidableEq, Repr

/-! ## Teams and their engines -/

/-- One element's accumulator (R335 to R340). -/
inductive Acc where
  | float (bits : Nat)               -- FP32 or FP64 of FAST mode and WSUM
  | int (value : Int) (mark : Bool)
  | exact (a : Int) (tag : Nat)      -- tag 0 FINITE, 1 PLUS_INF, 2 MINUS_INF, 3 NAN
  | empty                            -- MAX and MIN before the first value
  | raw (bits : Nat)                 -- MAX and MIN
  | pair (p q : Nat)                 -- GFCOMB
deriving DecidableEq, Repr

/-- A running team context (R297 to R306). -/
structure TeamCtx where
  ten : Nat := 0
  gen : Nat := 0
  opc : Nat := 0
  fmt : Nat := 0
  mode : Nat := 0
  round : Nat := 0
  seed : Nat := 0
  tc : Nat := 0
  priority : Nat := 0
  position : Nat := 1
  parent : Nat := 0xFFFFFFFF
  chunkBlocks : Nat := 256
  window : Nat := 64
  firstChunk : Nat := 0
  teamSize : Nat := 1
  firstMember : Nat := 0
  members : Nat := 0
  children : Nat := 0
  timeout : Nat := 1000
  resultTimeout : Nat := 2000
  missTries : Nat := 8
  digestEn : Nat := 0
  rev : Nat := 0
  expect : Nat := 0
  homes : List Nat := []             -- slot map (R356)
  resv : Nat := 0                    -- chunk slots reserved in each of its facets (R303)
  facets : List Nat := []            -- facets in service at SETUP, where it holds its reservation
  place : Nat := 0                   -- bit f: its blocks in facet f are in HBM (R361)
  deadAt : Option Nat := none        -- tick the number last became dead (R304)
  nanDone : Bool := false            -- ARITH_NAN, INT_OVERFLOW, SATURATED written (R353)
  ovfDone : Bool := false
  satDone : Bool := false
deriving DecidableEq, Repr

/-- A slot of a team's window: accumulator side and output side (R309). -/
structure ChunkSlot where
  state : Nat := 0                   -- 0 IDLE, 1 OPEN, 2 SENT
  chunk : Nat := 0
  blocks : Option Nat := none        -- b, once fixed
  last : Nat := 0
  bits : List (Nat × Nat) := []      -- child bits set, with the entry that set each
  tries : Nat := 0
  since : Nat := 0                   -- tick its running timer started
  entered : Nat := 0                 -- tick it entered STATE
  reopened : Bool := false
  revised : Bool := false            -- a partial with SLOT 0b01 was combined (R312)
  acc : List Acc := []
  sum : Nat := 0                     -- S of R350
  encoding : Bool := false           -- an encode stint stands for it
  stalled : Bool := false            -- CHUNK_STALLED written
  missing : List Nat := []           -- entries with a MISSING notice pending
  reopen : List Nat := []            -- entries with a REOPEN notice pending
  staged : Bool := false             -- its HBM block is staged (R362)
  outState : Nat := 0                -- 0 empty, 3 DONE, 4 LOST
  outChunk : Nat := 0
  outBlocks : List Block := []       -- extension, data and trailer of the retained RESULT
deriving DecidableEq, Repr

/-- A stint (R355, R364, R367). -/
structure Stint where
  id : Nat
  order : Nat                        -- place of its trace, or of itself, among the admissions
  facet : Nat
  engine : Nat                       -- engine of the solid whose queue holds it
  team : Nat
  slot : Nat
  kind : Nat                         -- 0 apply, 1 encode, 2 fallback
  frame : Nat                        -- its trace; 0 for an encode stint
  entry : Nat                        -- member entry of the trace
  tick : Nat                         -- admission
  made : Nat                         -- tick at which it joined its queue
  section_ : Nat                     -- sections committed
  groups : List Nat                  -- groups of 64 elements it applies; empty for all of them
  failed : List Nat                  -- engines on which it failed
  claimed : Option Nat               -- engine that works on it
deriving DecidableEq, Repr

/-- A trace of a yoke chunk with the element groups still to be applied (R372). -/
structure YokeTrace where
  frame : Nat
  facet : Nat
  team : Nat
  slot : Nat
  entry : Nat
  tick : Nat
  order : Nat                        -- place among the admissions
  left : List Nat                    -- element groups not yet applied
  fell : Bool                        -- a fallback stint has been formed for it (R382)
deriving DecidableEq, Repr

/-- A band (R372). -/
structure Band where
  facet : Nat
  team : Nat
  slot : Nat
  group : Nat
  rows : List Nat                    -- traces, in admission order
  tick : Nat
  issued : Bool
  tries : Nat                        -- attempts that failed
  pass : Nat                         -- pass that carries it
deriving DecidableEq, Repr

/-- A frame that a result sender has yet to originate (R366). -/
structure Outgoing where
  facet : Nat
  team : Nat
  kind : Nat                         -- KIND TRACE for a partial, RESULT otherwise
  dst : Nat
  blocks : List Block                -- extension, data blocks and trailer
deriving DecidableEq, Repr

/-- A TEAM_RETIRED or OUTSIDE_WINDOW notice pending for a member entry, or a REOPEN of a chunk that has left its slot (R311). -/
structure Notice where
  team : Nat
  entry : Nat
  cause : Nat
  gen : Nat
  chunk : Nat
  home : Nat := 0xFF                 -- facet that originates it; 0xFF the lowest in service
deriving DecidableEq, Repr

/-- Teams and the units that combine their chunks, beside their objects. -/
structure Collective where
  teams : Tab TeamCtx := []
  slots : Tab ChunkSlot := []        -- team x 1,024 + slot
  stints : List Stint := []          -- in admission order
  nextStint : Nat := 1
  yoke : List YokeTrace := []
  bands : List Band := []
  outgoing : List Outgoing := []     -- oldest first
  notices : List Notice := []        -- oldest first
  nextPass : Nat := 1
  openPasses : List Nat := []        -- passes of which no band has committed yet
  decays : Tab Nat := []             -- tick from which an engine's SUSPECT, or at 320 + facet a yoke's, next falls (R370)
  fillRows : Tab Nat := []           -- rows used and passes of the epoch, facet x 2 and + 1 (R382)
  load : Tab Nat := []               -- facet f: busy engine ticks of this epoch at f, idle ones at 8 + f; of the
                                     -- epoch before at 16 + f and 24 + f, and its yoke rows at 32 + f (R480)
  writeBack : List (Nat × Nat) := [] -- staged blocks that fell idle: team, slot, oldest first (R362)
deriving DecidableEq, Repr

/-! ## Epochs, sets and twins -/

/-- A candidate of the election, by port (R391). -/
structure Candidate where
  serial : Nat
  prio : Nat
  dist : Nat
  partner : Nat
  at_ : Nat                          -- tick of its last valid frame
  boundary : Int                     -- estimate of the sender's boundary
  number : Nat
  period : Nat
  holdover : Bool
  slewing : Bool
deriving DecidableEq, Repr

/-- The epoch clock beside its object. -/
structure EpochClock where
  candidates : Tab Candidate := []
  claims : Tab (Nat × Nat × Nat) := []   -- PRIO and SERIAL of the root named in keepalives, and tick, by port
  prio : Nat := 128                  -- PRIO in force
  period : Nat := 20                 -- PERIOD_LOG2 in force
  next : Nat := 0                    -- tick at which the next boundary falls
  srcHold : Bool := false            -- the source is in HOLDOVER
  rejoining : Bool := false          -- R394
  lapsed : Option Nat := none        -- tick from which a non-root has had no candidate
  heldSince : Nat := 0               -- tick at which HOLDOVER was entered
  held : Option (Nat × Nat) := none  -- claim of the last root, kept for HOLD_ELECT
  lastEdge : Option Nat := none      -- last accepted EPOCH_IN edge
  edgeD : Option Int := none         -- own boundary less that edge, not yet used
  waitsEdge : Option Nat := none     -- tick from which a root with EPOCH_IN_EN 1 counts (R396)
  jump : Option (Int × Nat × Nat) := none  -- boundary, number and period to jump to (R394)
  jumped : Bool := false             -- the last boundary ended a jump
  out : Bool := false                -- EPOCH_OUT is high
  outLong : Bool := false            -- its pulse lasts 3 µs
deriving DecidableEq, Repr

/-- The configuration sets and an armed swap beside their objects. -/
structure Sets where
  stamp : Nat := 0                   -- counts swaps; frames carry it (R402)
  target : Nat := 0                  -- values of the armed swap
  force : Nat := 0
  trigger : Nat := 0xFFFF
  expectHi : Nat := 0
  expectLo : Nat := 0
  locked : Bool := false
  skew : List (Nat × Nat × Nat) := []      -- port and pair of values already reported (R409)
  agreed : Tab Nat := []             -- epoch that both ends of a port had advertised (R409)
  afterKa : Tab Nat := []            -- keepalives since its own boundary of that epoch
deriving DecidableEq, Repr

/-- The twin beside its objects. -/
structure Twin where
  gotAll : Bool := false             -- the peer's state has been received in full
  sentAll : Bool := false            -- this member's state has been sent in full
  split : Bool := false              -- TWIN_SPLIT written for the present difference
  mirror : Regs := []                -- the peer's elements as last mirrored (R417)
  held : Tab TeamCtx := []           -- contexts the peer owns, with their reservations here
deriving DecidableEq, Repr
/-! ## Vet checks -/

/-- A vet request PENDING (R479). -/
structure VetRequest where
  prio : Nat
  trig : Nat                -- 0 fault, 1 COMMAND 1, 2 recheck, 3 periodic
  order : Nat               -- requests are numbered as they are made
  commanded : Bool          -- COMMAND 1, or a recheck, is part of it
  periodic : Bool           -- a periodic vet of the unit has fallen due and is part of it
  due : Nat := 0            -- tick at which it fell due
  overdue : Bool            -- VET_OVERDUE has been written
  denied : Bool := false    -- the arbiter refused its last start
deriving DecidableEq, Repr

/-- A vet that runs (R471, R480 to R486). -/
structure VetRun where
  prio : Nat
  trig : Nat
  stage : Nat               -- 0 awaits acknowledgements, 1 drains, 2 runs a point, 3 heats, 4 restores
  point : Nat := 0          -- point that runs, or that follows the heating
  trims : Bool := false     -- bundled-data trims one step shorter
  heated : Bool := false
  failed : Nat := 0         -- bit p - 1: point p failed
  localised : Nat := 0      -- engines to which failing patterns localised the fault; failing rings of a row
  passed : Bool := true     -- no point or optical test has failed
  result : Nat := 0         -- decided result (R483)
  cause : Nat := 0          -- cause of an abort (R503)
  packSeq : Nat := 0        -- pack in use since it began (R478)
  packSlot : Nat := 0xFF
  vcores : List Nat := []   -- VCORE of its islands when it began
  quarantined : Nat := 0    -- engines QUARANTINED when it began; 1 for another unit that was out
deriving DecidableEq, Repr

/-- The vets beside their objects, by VET instance. -/
structure Vets where
  requests : Tab VetRequest := []
  order : Nat := 0
  runs : Tab VetRun := []
  retry : Tab (Nat × Nat × Nat) := []    -- priority and trigger of a vet to be requested again, and when (R481)
  recheck : Tab (Nat × Nat × Nat) := []  -- the same of a recheck (R486)
  dues : Tab Nat := []               -- tick after the last due moment of a unit's periodic vet that was taken (R479)
deriving DecidableEq, Repr

/-! ## The studbook -/

/-- The studbook beside its objects (R487 to R496). -/
structure Book where
  ring : Tab Nat := []               -- on-die records, by SEQ mod 65,536
  tokens : Tab Nat := []             -- tokens of a code's bucket; a code not listed is full (R490)
  gained : Tab Nat := []             -- tick to which a code's bucket has gained its tokens (R490)
  last : Tab Nat := []               -- SEQ of a code's last non-summary record
  solid : Nat := 4096                -- tokens of the solid-wide bucket (R488)
  solidAt : Nat := 0                 -- tick to which they are credited
  due : List Nat := []               -- codes whose summary waits for a token, in the order it fell due
  alert : Option Nat := none         -- highest SEQ that asserts ALERT_N and is not acknowledged (R495)
  wrote : Tab Nat := []              -- tick at which a record not yet persisted was written, by SEQ
  erasing : List Nat := []           -- studbook sectors to be erased in the background (R496)
deriving DecidableEq, Repr

/-! ## The groom -/

/-- A kept response (R529). -/
structure Kept where
  req : Nat
  hash : List Byte
  status : Nat
  detail : Nat
  flags : Nat
  items : Nat
  body : List Byte
deriving DecidableEq, Repr

/-- The groom beside its objects (R512, R528 to R541). -/
structure Groom where
  up : Bool := true
  halted : Bool := false             -- by its own trip (R568)
  cold : Bool := false               -- VAUX has been lost since it last ran (R493, R528)
  verified : Bool := false           -- VERIFY gave OK (R538)
  activated : Bool := false          -- an ACTIVATE not yet booted
  startedAt : Nat := 0               -- tick of its last start (R539)
  secrets : Tab Nat := []            -- SECRETs written, by key slot (R512)
  kept : Tab (List Kept) := []       -- last responses of a key slot, oldest first
  worked : List Nat := []            -- flash sectors erased or programmed since manufacture
  pages : List Nat := []             -- pages programmed by BULK_WRITE since their sector was erased (R532)
  suspended : List Nat := []         -- sectors whose erase a trip suspended (R568)
  saved : Option Regs := none        -- the saved set of BOOTSET (R541)
deriving DecidableEq, Repr

/-- A Sirgo message that waits in the request queue (R518). -/
structure Request where
  transport : Nat           -- management port 0 or 1; 2 in-band
  addr : Nat                -- source address of a datagram
  udpPort : Nat             -- its source port
  facet : Nat               -- facet to which an in-band frame was delivered
  hdr : Block               -- its header
  bytes : List Byte
deriving DecidableEq, Repr

/-! ## Power and pins -/

/-- Power, cooling and resets beside their objects. -/
structure Power where
  phase : Nat := 0                   -- step of R571 completed; 0 in reset
  resetN : Bool := false             -- levels of the pins
  pwrgd : Bool := false
  tripped : Option Nat := none       -- THERMAL instance that tripped; latched (R567)
  loaded : Bool := false             -- a boot set was loaded
  vinBad : Bool := false             -- out of range for more than 100 µs (R573)
  vauxBad : Bool := false
  flags : Tab Nat := []              -- thresholds passed by a sensor: bit 0 warning, 1 throttle, 2 over (R562)
  pipe : List (List Nat) := []       -- grants computed and not yet in force, oldest first (R555)
  cut : Tab Nat := []                -- thermal reduction of a facet, in mW (R564)
  noted : Tab Nat := []              -- tick of a facet's last THERM_THROTTLE
  period : Nat := 0                  -- tick at which the present grant period began
  straps : Nat := 0                  -- BMI_ADDR[2:0] as sampled (R590)
deriving DecidableEq, Repr

/-- The board management target and the test access port (R590 to R593). -/
structure Pins where
  image : List Nat := []             -- register image of the last refresh, 0x00 to 0x3F
  age : Nat := 0                     -- ticks since that refresh
  trstN : Bool := false              -- level of TRST_N
  tap : Nat := 0                     -- 0 BYPASS, 1 IDCODE, 2 SAMPLE/PRELOAD, 3 EXTEST
  cells : BitVec 128 := 0            -- boundary register as last loaded
  samples : Nat := 0                 -- samples taken
deriving DecidableEq, Repr

/-! ## Telemetry -/

/-- A tenant's TELEMETRY request bucket (R442); a request takes 1,000,000. -/
structure TelemBucket where
  tokens : Nat := 64000000
  last : Nat := 0
deriving DecidableEq, Repr


/-! ## The state -/

/-- Reasons for which the block would stop. No rule of the spec stops it, so there is none. -/
inductive Fault where
deriving DecidableEq, Repr

/-- Commands without a meaning. -/
inductive Refusal where
  /-- Raised by `exec` for a command whose meaning is not written; safe, since the block stops. -/
  | notModelled (mnemonic : String)
deriving DecidableEq, Repr

/-- Everything the block holds. -/
structure State where
  pending : List Instr := []         -- commands waiting, oldest first
  regs : Regs := []                  -- dictionary elements, active values
  shadow : Regs := []                -- shadow copies of the configuration set (R398)
  old : Regs := []                   -- the set before the last swap, for frames stamped with it (R402)
  flash : Memory := []
  time : Timebase := {}
  lattice : Lattice := {}
  light : Light := {}
  links : Tab Link := []
  frames : Tab Frame := []
  nextFrame : Nat := 1
  forward : Forwarding := {}
  egress : Egress := {}
  coll : Collective := {}
  clock : EpochClock := {}
  sets : Sets := {}
  twin : Twin := {}
  vets : Vets := {}
  book : Book := {}
  groom : Groom := {}
  power : Power := {}
  pins : Pins := {}
  requests : List Request := []      -- Sirgo's request queue, oldest first (R518)
  telem : Tab TelemBucket := []      -- by tenant
  bankBase : Tab Nat := []           -- tick at which a bank was last cleared (R448)
  raised : List Raised := []         -- records raised and not yet accepted, oldest first (R540)
  outputs : List Output := []        -- what has left the block, oldest first
deriving DecidableEq, Repr

/-- The first pool assignment: group g of facet f serves the g-th other facet (DESIGN CHOICE, log
entry 7). -/
def poolsAtReset : List PoolGroup :=
  (List.range 8).flatMap (fun f => (List.range 5).map (fun g =>
    { peer := ((List.range 8).filter (fun x => decide (x ≠ f))).getD g 0 }))

/-- Right after reset, before the release of RESET_N (R508, R569). -/
def State.reset : State := { lattice := { pools := poolsAtReset } }

end Sys2Proof.Machine
end

