-- ==== Sys2Proof/Machine/Ops.lean ====
section
/-! DEFINITION. The named operations over the state: reading and writing dictionary elements, the
tables, outputs, studbook records and counters. -/

namespace Sys2Proof.Machine

/-! ## Elements -/

/-- The groom's timebase counter (R24). -/
def now (s : State) : Nat := s.time.groom

/-- The value an element holds (active, for an element of the configuration set). -/
def rd (s : State) (a : Addr) : Nat := s.regs.get a

/-- An element as a signed value of `w` bits (R506). -/
def rdI (w : Nat) (s : State) (a : Addr) : Int := ofRaw w (rd s a)

/-- An element rewritten. -/
def wr (s : State) (a : Addr) (v : Nat) : State := { s with regs := s.regs.put a v }

/-- A signed element rewritten. -/
def wrI (w : Nat) (s : State) (a : Addr) (x : Int) : State := wr s a (toRaw w x)

/-- The active value of an element of the configuration set (R398). -/
def cfgRd (s : State) (a : Addr) : Nat := rd s a

/-- The value under the set a frame is stamped with: the active set, or the old one (R402). -/
def cfgAt (s : State) (stamp : Nat) (a : Addr) : Nat :=
  if stamp = s.sets.stamp then rd s a
  else if inSet a || decide (a.obj = 0x0602) then Regs.get s.old a
  else rd s a

/-- The shadow copy of a set element (R398). -/
def shadowRd (s : State) (a : Addr) : Nat := Regs.get s.shadow a

/-- A count raised by one, wrapping at its width. -/
def inc (s : State) (a : Addr) (w : Nat) : State := wr s a ((rd s a + 1) % 2 ^ w)

/-- A count raised by `n`, wrapping at its width. -/
def incBy (s : State) (a : Addr) (w n : Nat) : State := wr s a ((rd s a + n) % 2 ^ w)

/-- Instances of an object whose element `el` is listed with a value that passes a test, ascending. -/
def listed (s : State) (obj el : Nat) (p : Nat → Bool) : List Nat :=
  (s.regs.filter (fun e => decide (e.1.obj = obj ∧ e.1.el = el) && p e.2)).map (fun e => e.1.inst)

/-- The maximum a measured element has reached. -/
def raiseTo (s : State) (a : Addr) (v : Nat) : State := if rd s a < v then wr s a v else s

/-! ## Outputs and records -/

/-- Something leaves the block. -/
def emit (s : State) (o : Output) : State := { s with outputs := s.outputs ++ [o] }

/-- The DATA field of a record: its items from the top of 160 bits downward (R489). -/
def recordData (items : List (Nat × Nat)) : Nat := joinFields items * 2 ^ (160 - widthOf items)

/-- A studbook record is raised; the groom accepts it later (R488). -/
def raise (s : State) (code src : Nat) (items : List (Nat × Nat)) : State :=
  { s with raised := s.raised ++ [⟨code, src, recordData items⟩] }

/-! ## Tables -/

def link (s : State) (p : Nat) : Link := Tab.get {} s.links p

def modLink (s : State) (p : Nat) (f : Link → Link) : State :=
  { s with links := Tab.put {} s.links p (f (link s p)) }

def modLight (s : State) (f : Light → Light) : State := { s with light := f s.light }

def modForward (s : State) (f : Forwarding → Forwarding) : State := { s with forward := f s.forward }

def modEgress (s : State) (f : Egress → Egress) : State := { s with egress := f s.egress }

def modColl (s : State) (f : Collective → Collective) : State := { s with coll := f s.coll }

def modLattice (s : State) (f : Lattice → Lattice) : State := { s with lattice := f s.lattice }

def modClock (s : State) (f : EpochClock → EpochClock) : State := { s with clock := f s.clock }

def modSets (s : State) (f : Sets → Sets) : State := { s with sets := f s.sets }

def modTwin (s : State) (f : Twin → Twin) : State := { s with twin := f s.twin }

def modVets (s : State) (f : Vets → Vets) : State := { s with vets := f s.vets }

def modBook (s : State) (f : Book → Book) : State := { s with book := f s.book }

def modGroom (s : State) (f : Groom → Groom) : State := { s with groom := f s.groom }

def modPower (s : State) (f : Power → Power) : State := { s with power := f s.power }

def modPins (s : State) (f : Pins → Pins) : State := { s with pins := f s.pins }

/-- The frame with an identifier, while the solid holds it. -/
def findFrame (s : State) (id : Nat) : Option Frame := Tab.find s.frames id

def putFrame (s : State) (id : Nat) (f : Frame) : State := { s with frames := Tab.set s.frames id f }

def delFrame (s : State) (id : Nat) : State := { s with frames := Tab.del s.frames id }

def modFrame (s : State) (id : Nat) (g : Frame → Frame) : State :=
  match findFrame s id with
  | none => s
  | some f => putFrame s id (g f)

/-- A new frame takes the next identifier. -/
def newFrame (s : State) (f : Frame) : State × Nat :=
  ({ s with frames := Tab.set s.frames s.nextFrame f, nextFrame := s.nextFrame + 1 }, s.nextFrame)

/-- Identifiers of the frames that pass a test, ascending. -/
def framesWhere (s : State) (p : Frame → Bool) : List Nat :=
  (s.frames.filter (fun e => p e.2)).map (fun e => e.1)

def equeue (s : State) (q : Nat) : EQueue := Tab.get {} s.egress.queues q

def modQueue (s : State) (q : Nat) (f : EQueue → EQueue) : State :=
  modEgress s (fun e => { e with queues := Tab.put {} e.queues q (f (equeue s q)) })

def sched (s : State) (p : Nat) : PortSched := Tab.get {} s.egress.scheds p

def modSched (s : State) (p : Nat) (f : PortSched → PortSched) : State :=
  modEgress s (fun e => { e with scheds := Tab.put {} e.scheds p (f (sched s p)) })

def bucket (s : State) (f : Nat) : NotifyBucket := Tab.get {} s.egress.buckets f

def modBucket (s : State) (f : Nat) (g : NotifyBucket → NotifyBucket) : State :=
  modEgress s (fun e => { e with buckets := Tab.put {} e.buckets f (g (bucket s f)) })

def chordOf (s : State) (c : Nat) : ChordState := Tab.get {} s.light.chords c

def setChord (s : State) (c : Nat) (x : ChordState) : State :=
  modLight s (fun l => { l with chords := Tab.put {} l.chords c x })

def team (s : State) (t : Nat) : TeamCtx := Tab.get {} s.coll.teams t

def modTeam (s : State) (t : Nat) (f : TeamCtx → TeamCtx) : State :=
  modColl s (fun c => { c with teams := Tab.put {} c.teams t (f (team s t)) })

def chunkSlot (s : State) (t j : Nat) : ChunkSlot := Tab.get {} s.coll.slots (t * 1024 + j)

def modSlot (s : State) (t j : Nat) (f : ChunkSlot → ChunkSlot) : State :=
  modColl s (fun c => { c with slots := Tab.put {} c.slots (t * 1024 + j) (f (chunkSlot s t j)) })

/-! ## Counters (R447 to R453) -/

/-- What an event brings to the masks of R450; none where the event has no such side. -/
structure Event where
  port : Option Nat := none       -- bit of PORTMASK
  vl : Option Nat := none
  tc : Option Nat := none
  ten : Option Nat := none
  events : Nat := 1
  bytes : Nat := 0
deriving DecidableEq, Repr

/-- A mask admits a side of an event; an event without that side passes. -/
def maskAdmits (mask : Nat) : Option Nat → Bool
  | none => true
  | some i => mask.testBit i

/-- Counter `i` of a bank counts the event (R450). -/
def counterAdmits (s : State) (c sel : Nat) (e : Event) : Bool :=
  decide (rd s (Reg.CCOUNTER_SELECT c) = sel) && maskAdmits (rd s (Reg.CCOUNTER_PORTMASK c)) e.port &&
    maskAdmits (rd s (Reg.CCOUNTER_VLMASK c)) e.vl && maskAdmits (rd s (Reg.CCOUNTER_TCMASK c)) e.tc &&
    (let t := rd s (Reg.CCOUNTER_TENFILT c); decide (t = 0xFFFF) || decide (e.ten = some t))

/-- An amount added to counter `i` of a bank: wrap modulo 2^48 with a sticky overflow bit (R449). -/
def addCounter (s : State) (bank i n : Nat) : State :=
  let v := rd s (Reg.CBANK_VALUE bank i) + n
  let s := wr s (Reg.CBANK_VALUE bank i) (v % 2 ^ 48)
  if 2 ^ 48 ≤ v then wr s (Reg.CBANK_OVF bank) (rd s (Reg.CBANK_OVF bank) ||| 2 ^ i) else s

/-- An event reaches a bank (R448, R450). -/
def countIn (s : State) (bank sel : Nat) (e : Event) : State :=
  (List.range 8).foldl (fun s i =>
    let c := bank * 8 + i
    if counterAdmits s c sel e then
      addCounter s bank i (if rd s (Reg.CCOUNTER_UNIT c) = 1 then e.bytes else e.events)
    else s) s

/-- The bank of a port's vertex (R447). -/
def vertexBank (p : Nat) : Nat := p / 256 * 26 + p % 256 / 16
/-- The other banks of a facet (R447). -/
def stringBank (engine : Nat) : Nat := engine / 40 * 26 + 16 + engine % 40 / 8
def yokeBank (f : Nat) : Nat := f * 26 + 21
def hbmBank (f g : Nat) : Nat := f * 26 + 22 + g
def latticeBank (f : Nat) : Nat := f * 26 + 24
def facetBank (f : Nat) : Nat := f * 26 + 25

/-- An event of a port. -/
def countPortN (s : State) (p sel n : Nat) : State :=
  countIn s (vertexBank p) sel { port := some (p % 16), events := n }

def countPort (s : State) (p sel : Nat) : State := countPortN s p sel 1

/-- A frame as an event; a reserved MSG has no VL (log entry 10). -/
def frameEvent (port : Option Nat) (h : Block) : Event :=
  { port := port, vl := if 4 < hdrMsg h then none else some (hdrVl h), tc := some (hdrTc h),
    ten := some (hdrTen h), bytes := hdrBytes h }

/-- A frame counted at a port. -/
def countFrame (s : State) (p sel : Nat) (h : Block) : State :=
  countIn s (vertexBank p) sel (frameEvent (some (p % 16)) h)

/-- A frame counted in another bank. -/
def countFrameIn (s : State) (bank sel : Nat) (h : Block) : State :=
  countIn s bank sel (frameEvent none h)

/-- A discard counted at a port, under its reason and under every reason (R454, R459). -/
def discardAt (s : State) (p why : Nat) (h : Block) : State :=
  let s := countFrame s p (0x1000 + why) h
  let s := countFrame s p 0x1FFF h
  inc s (Reg.PORTSTAT_DISCARDS p) 64

/-- A discard counted at the ingress port, or in the facet bank of the originating facet (R207). -/
def discardIn (s : State) (f : Frame) (why : Nat) (h : Block) : State :=
  if f.ingress < 2048 then discardAt s f.ingress why h
  else countFrameIn s (facetBank f.facet) (0x1000 + why) h

/-! ## Ports -/

/-- A port as a twin numbers it: those of the member in position 1 follow the 2,048 of the other (R14). Numbers that
name no port stand. -/
def twinPort (s : State) (p : Nat) : Nat :=
  if rd s Reg.TWIN_POSITION = 1 ∧ p < 2048 then 2048 + p else p

/-- First index of this member's units of a level: the units of the member in position 1 follow those of the other
(R14, log entry 54). -/
def unitBase (s : State) (level : Nat) : Nat :=
  if rd s Reg.TWIN_POSITION = 1 then [8192, 2048, 128, 8, 1].getD level 0 else 0

def facetOf (p : Nat) : Nat := p / 256
def vertexOf (p : Nat) : Nat := p / 16
/-- The duplex pair of a port (R47). -/
def pairOf (p : Nat) : Nat := p / 8
/-- The feed position of a port (R51). -/
def feedOf (p : Nat) : Nat := p / 32
/-- Wavelength slot of a lane of a port (R48). -/
def slotOf (p k : Nat) : Nat := 4 * (p % 8) + k
/-- The eight rings of a port: transmit and receive of each lane (R85). -/
def portRings (p : Nat) : List Nat := (List.range 8).map (fun i => p * 8 + i)

/-- The link carries data, sleeps or wakes (R95). -/
def portUp (s : State) (p : Nat) : Bool :=
  let st := rd s (Reg.PORT_STATE p); decide (5 ≤ st) && decide (st ≤ 7)

/-- The partner advertises ROLE 2, an endpoint (R151). -/
def endpointPort (s : State) (p : Nat) : Bool := decide (rd s (Reg.PORT_PEER_ROLE p) = 2)

/-- Bit of a map of 64-bit words. -/
def mapHas (s : State) (a : Nat → Addr) (p : Nat) : Bool := (rd s (a (p / 64))).testBit (p % 64)

/-- A pair port of the twin (R415). -/
def isPairPort (s : State) (p : Nat) : Bool := mapHas s Reg.TWIN_PAIR p

/-- The chord is set up, restored or in fault (R144). -/
def chordActive (s : State) (c : Nat) : Bool := decide (rd s (Reg.CHORD_STATE c) ≠ 0)

/-- Chords that are not UNUSED. -/
def activeChords (s : State) : List Nat := listed s 0x0400 4 (fun v => decide (v ≠ 0))

/-- A port belongs to a chord, or is being freed of it (R129, R134). -/
def ofChord (x : ChordState) (p : Nat) : Bool := decide (x.portA = p) || decide (x.portB = p) || x.leaving.contains p

/-- A chord that is not UNUSED holds the port (R129). -/
def chordHeld (s : State) (p : Nat) : Bool := (activeChords s).any (fun c => ofChord (chordOf s c) p)

/-- A chord holds the port and has taken its slot group: it is neither UNUSED nor PENDING (R132). -/
def chordTakes (s : State) (p : Nat) : Bool :=
  (activeChords s).any (fun c => decide (rd s (Reg.CHORD_STATE c) ≠ 1) && ofChord (chordOf s c) p)

/-- Rate of a lane set in Gb/s (R120). -/
def flitRate (mask : Nat) : Nat :=
  match popcount 4 mask with
  | 4 => 200
  | 3 => 150
  | _ => 0

/-- A ring parked: STATE 1, heater and offset 0 (R56). -/
def parkRing (s : State) (r : Nat) : State :=
  wr (wr (wr s (Reg.RING_STATE r) 1) (Reg.RING_HEATER r) 0) (Reg.RING_OFFSET r) 0

/-- A ring parked to count again, which RELOCKS will count (R85). -/
def parkToRecount (s : State) (r : Nat) : State :=
  modLight (parkRing s r) (fun x => { x with recount := Tab.put false x.recount r true })

/-- Lanes of a port whose two rings are locked. -/
def lanesReady (s : State) (p : Nat) : Nat :=
  (List.range 4).foldl (fun m k =>
    if rd s (Reg.RING_STATE (p * 8 + 2 * k)) = 3 ∧ rd s (Reg.RING_STATE (p * 8 + 2 * k + 1)) = 3 then m + 2 ^ k
    else m) 0

/-- Training may begin: every ring locked, or one lane left out by a ring in FAULT (R96, R485). -/
def ringsReady (s : State) (p : Nat) : Bool :=
  decide (3 ≤ popcount 4 (lanesReady s p)) &&
    (portRings p).all (fun r => let st := rd s (Reg.RING_STATE r); decide (st = 3) || decide (st = 6))

/-- The port's vertex or facet is out of service, or a vet holds its duplex pair (R38, R39, R471). -/
def portUnitOut (s : State) (p : Nat) : Bool :=
  s.lattice.outFacets.contains (facetOf p) || s.lattice.outVertices.contains (vertexOf p) ||
    s.lattice.vetUnits.contains (65536 + p)

/-- The tenant of a port permitted for exactly one (R444 SINGLE). -/
def soleTenant (s : State) (p : Nat) : Nat :=
  if rd s (Reg.PORTTEN_ALL p) = 1 then 0xFFFF
  else
    let ts := (List.range 16).flatMap (fun k =>
      let w := rd s (Reg.PORTTEN_PERMIT p k)
      if w = 0 then [] else ((List.range 64).filter (fun b => w.testBit b)).map (fun b => 64 * k + b))
    match ts with
    | [t] => t
    | _ => 0xFFFF

end Sys2Proof.Machine
end

