-- ==== Sys2Proof/Machine/Flags.lean ====
section
/-! DEFINITION. The status computations of the block: what is derived from the held frames and the
object values rather than stored: queue depths and levels (R191), cell charges (R220), live members
(R187), unit states (R16), and the twin and swap fields a keepalive carries (R408). -/

namespace Sys2Proof.Machine

/-! ## Queues (R215, R244) -/

/-- Queue of a port, VL and TC. -/
def queueOf (p vl tc : Nat) : Nat := p * 72 + vl * 8 + tc
def queuePort (q : Nat) : Nat := q / 72
def queueVl (q : Nat) : Nat := q % 72 / 8
def queueTc (q : Nat) : Nat := q % 8
/-- Class of a queue, the QCLASS, SCHEDCLASS and ECNCLASS instance. -/
def queueClass (q : Nat) : Nat := q % 72
def queueFacet (q : Nat) : Nat := queuePort q / 256

/-- Queue a frame is bound for. -/
def frameQueue (f : Frame) : Nat := queueOf f.egress f.outVl (hdrTc f.hdr)

/-- The frame has been admitted to its queue and has not begun to leave: on its way over the
lattice, or in the queue (log entry 20). -/
def inQueue (f : Frame) : Bool :=
  decide (f.place = .granted) || decide (f.place = .lattice) || decide (f.place = .queued)

/-- Sum of a quantity over the frames that pass a test. -/
def sumFrames (s : State) (p : Frame → Bool) (g : Frame → Nat) : Nat :=
  s.frames.foldl (fun n e => if p e.2 then n + g e.2 else n) 0

/-- Bytes queued, spilled ones included: the depth that spraying reads (R191). -/
def depthBytes (s : State) (q : Nat) : Nat :=
  sumFrames s (fun f => inQueue f && decide (frameQueue f = q)) (fun f => hdrBytes f.hdr)

/-- Depth level of a depth (R191). -/
def depthLevel (d : Nat) : Nat :=
  if d < 1024 then 0 else if 16777216 ≤ d then 15 else Nat.log2 (d / 1024) + 1

def queueEmpty (s : State) (q : Nat) : Bool :=
  s.frames.all (fun e => !(inQueue e.2 && decide (frameQueue e.2 = q)))

/-- Every queue of a port is empty, spilled cells included (R71, R109). -/
def portEmpty (s : State) (p : Nat) : Bool :=
  s.frames.all (fun e => !(inQueue e.2 && decide (e.2.egress = p)))

/-- Every queue of one VL of a port is empty (R425). -/
def vlEmpty (s : State) (p vl : Nat) : Bool :=
  s.frames.all (fun e => !(inQueue e.2 && decide (e.2.egress = p) && decide (e.2.outVl = vl)))

/-! ## Cell charges (R215 to R220) -/

/-- Cells on die charged to a region and passing a test. -/
def charged (s : State) (r : Region) (p : Frame → Bool) : Nat :=
  sumFrames s (fun f => decide (f.region = r) && p f) (fun f => f.cells)

def ofQueue (q : Nat) (f : Frame) : Bool := decide (frameQueue f = q)
def ofFacet (g : Nat) (f : Frame) : Bool := decide (f.egress / 256 = g)

/-- Guaranteed minimums of a facet (R218). -/
def minimumTotal (s : State) : Nat :=
  256 * (List.range 72).foldl (fun n c => n + rd s (Reg.QCLASS_MIN_CELLS c)) 0

/-- Shared region of a facet, in cells (R218). -/
def sharedTotal (s : State) : Nat :=
  655360 - minimumTotal s - rd s Reg.BUFCFG_HEADROOM * 2048 - rd s Reg.BUFCFG_PF_POOL

/-- F: free cells of a facet's shared region (R220). -/
def sharedFree (s : State) (g : Nat) : Nat := sharedTotal s - charged s .shared (ofFacet g)

def headroomUsed (s : State) (g : Nat) : Nat := charged s .headroom (ofFacet g)

/-- Segments of a facet's queues. -/
def facetSegments (s : State) (g : Nat) : List (Nat × Segment) :=
  s.egress.queues.flatMap (fun e => if queueFacet e.1 = g then e.2.segments.map (fun x => (e.1, x)) else [])

/-- Prefetch pool in use: prefetched frames, and the segments being read (R228). -/
def prefetchUsed (s : State) (g : Nat) : Nat :=
  charged s .prefetch (ofFacet g) +
    (facetSegments s g).foldl (fun n x => if x.2.place = .reading then n + x.2.cells else n) 0

def openUsed (s : State) (g : Nat) : Nat :=
  charged s .shared (fun f => ofFacet g f && decide (f.outVl = 8))

def mirrorUsed (s : State) (g : Nat) : Nat :=
  charged s .shared (fun f => ofFacet g f && decide (hdrKind f.hdr = KindCode.MIRROR))

/-- u[t]: shared cells of a tenant in a facet (R220). -/
def tenantShared (s : State) (g t : Nat) : Nat :=
  charged s .shared (fun f => ofFacet g f && decide (hdrTen f.hdr = t))

/-- A segment holds HBM space until its last frame has gone, from the moment its write began (R281). -/
def segmentInHbm (x : Segment) : Bool := decide (x.place ≠ .writing)

/-- Cells of a queue in HBM segments not read back. -/
def spillCells (s : State) (q : Nat) : Nat :=
  (equeue s q).segments.foldl (fun n x =>
    if x.place = .held ∨ x.place = .reading then n + x.cells else n) 0

/-- HBM space of a queue's segments, freed as their last frames go (R281), in cells. -/
def hbmCells (s : State) (q : Nat) : Nat := (equeue s q).segments.foldl (fun n x => n + x.cells) 0

/-- Spill space in use in a facet, in cells. -/
def facetSpill (s : State) (g : Nat) : Nat :=
  (facetSegments s g).foldl (fun n x => n + x.2.cells) 0

/-- Spill space of one tenant in a facet, in cells. -/
def tenantSpill (s : State) (g t : Nat) : Nat :=
  (facetSegments s g).foldl (fun n x => n + (x.2.frames.foldl (fun m id =>
    match findFrame s id with
    | some f => if hdrTen f.hdr = t then m + hdrCells f.hdr else m
    | none => m) 0)) 0

def gibCells (n : Nat) : Nat := n * 4194304
def mibCells (n : Nat) : Nat := n * 4096

/-- The spill region of a facet, in cells; half of it while a channel group is out (R225, R231), and
without the vet window where that lies in it (R473). -/
def spillRegion (s : State) (g : Nat) : Nat :=
  let all := gibCells (rd s Reg.BUFCFG_SPILL_GIB)
  let all := if rd s Reg.ARITHCFG_ACC_GIB = 0 then all - mibCells 64 else all
  let out := [0, 1].filter (fun c => s.egress.hbmOut.contains (g * 2 + c))
  match out.length with
  | 0 => all
  | 1 => all / 2
  | _ => 0

/-- On-die cells of a queue, the prefetch pool included (R244). -/
def dieCells (s : State) (q : Nat) : Nat :=
  sumFrames s (fun f => ofQueue q f && decide (f.region ≠ .none)) (fun f => f.cells)

/-- A queue that spills could write no further segment (R230). -/
def spillStopped (s : State) (q : Nat) (ten : Nat) (cells : Nat) : Bool :=
  let g := queueFacet q
  decide (mibCells (rd s Reg.BUFCFG_SPILL_QMAX) ≤ hbmCells s q) ||
    decide (mibCells (rd s (Reg.TENBUF_TSPILL ten)) ≤ tenantSpill s g ten) ||
    decide (spillRegion s g < facetSpill s g + cells)

/-! ## Route groups (R186, R187) -/

/-- Member map of a route group under a stamp. -/
def groupHas (s : State) (stamp g p : Nat) : Bool :=
  (cfgAt s stamp (Reg.RGROUP_MEMBERS g (p / 64))).testBit (p % 64)

/-- Bits of a 64-bit word. -/
def wordBits (w : Nat) : List Nat := if w = 0 then [] else (List.range 64).filter (fun b => w.testBit b)

/-- Ports of a map of 32 words. -/
def mapPorts (word : Nat → Nat) : List Nat :=
  (List.range 32).flatMap (fun i => (wordBits (word i)).map (fun b => 64 * i + b))

/-- Members of a route group, ascending. -/
def members (s : State) (stamp g : Nat) : List Nat :=
  mapPorts (fun i => cfgAt s stamp (Reg.RGROUP_MEMBERS g i))

/-- Traffic for the port is held: it retires, or its partner does and this end diverts (R187, R109;
log entry 21). -/
def retiring (s : State) (p : Nat) : Bool := (link s p).retiring || (link s p).retired

/-- A port is a live member of the groups that name it (R187). -/
def live (s : State) (p : Nat) : Bool :=
  portUp s p && (link s p).liveKa && !retiring s p && !chordHeld s p && decide (rd s (Reg.PORT_ADMIN p) = 0)

/-- Live members of a route group, ascending. -/
def liveMembers (s : State) (stamp g : Nat) : List Nat := (members s stamp g).filter (live s)

/-- Route groups whose active map names a port, ascending. -/
def groupsWith (s : State) (p : Nat) : List Nat := listed s 0x0601 (32 + p / 64) (fun w => w.testBit (p % 64))

/-- REPIN_WINDOW: HOP_LIMIT times the residence limit (R196), in ticks. -/
def repinWindow (s : State) : Nat := rd s Reg.FRAME_HOP_LIMIT * (rd s Reg.BUFCFG_RES_LIMIT * 1000)

/-- The residence limit in ticks (R232). -/
def resLimit (s : State) : Nat := rd s Reg.BUFCFG_RES_LIMIT * 1000

/-- A frame's age exceeds the limit (R232). -/
def expired (s : State) (f : Frame) : Bool := decide (resLimit s < now s - f.arrival)

/-! ## Unit states (R16) -/

/-- State of a port: 0 ACTIVE, 1 DEGRADED, 2 OUT_OF_SERVICE. -/
def portStateOf (s : State) (p : Nat) : Nat :=
  if portUnitOut s p then 2
  else if portUp s p then
    (if rd s (Reg.PORT_TXMASK p) = 15 ∧ rd s (Reg.PORT_RXMASK p) = 15 then 0 else 1)
  else 2

/-- State of a unit made of others: any contained one that runs, and any that is not ACTIVE. -/
def combine (xs : List Nat) : Nat :=
  if xs.all (fun x => decide (x = 0)) then 0
  else if xs.any (fun x => decide (x = 0 ∨ x = 1)) then 1 else 2

def vertexStateOf (s : State) (v : Nat) : Nat :=
  if s.lattice.outVertices.contains v ∨ s.lattice.outFacets.contains (v / 16) then 2
  else combine ((List.range 16).map (fun i => portStateOf s (v * 16 + i)))

/-- The eight taps of a facet are all dark, which puts it OUT_OF_SERVICE (R51, R81). -/
def facetDark (s : State) (g : Nat) : Bool :=
  (List.range 8).all (fun i => decide (rd s (Reg.FEED_STATE (8 * g + i)) = 5))

def facetStateOf (s : State) (g : Nat) : Nat :=
  if s.lattice.outFacets.contains g || facetDark s g then 2
  else combine ((List.range 16).map (fun i => vertexStateOf s (g * 16 + i)))

def solidStateOf (s : State) : Nat := combine ((List.range 8).map (fun g => facetStateOf s g))

/-- UNIT_STATE for every vertex and facet, and for the solid, whose state an update changes (R17,
R45). -/
def unitRefresh (before after : State) : State :=
  let note := fun (s : State) (inst src old new : Nat) =>
    if old = new then s
    else raise s Code.UNIT_STATE src [(24, inst + unitBase s (inst / 65536)), (8, old), (8, new)]
  let s := (List.range 128).foldl (fun s v =>
    note s (2 * 65536 + v) (v / 16) (vertexStateOf before v) (vertexStateOf after v)) after
  let s := (List.range 8).foldl (fun s g =>
    note s (3 * 65536 + g) g (facetStateOf before g) (facetStateOf after g)) s
  note s (4 * 65536) 0xFF (solidStateOf before) (solidStateOf after)

/-! ## What a keepalive carries of swaps, twins and epochs (R408) -/

/-- HOLDOVER is set: the switch counts in HOLDOVER, or its source does (R396). -/
def epochHoldover (s : State) : Bool := decide (rd s Reg.EPOCH_STATE = 2) || s.clock.srcHold

/-- The swap is ARMED or DEFERRED. -/
def swapWaits (s : State) : Bool := decide (rd s Reg.SWAP_STATE = 2) || decide (rd s Reg.SWAP_STATE = 3)

def advertisedSwap (s : State) : Nat := if swapWaits s then s.sets.target else 0
def advertisedShadowHi (s : State) : Nat := if swapWaits s then rd s Reg.CONFSET_SHADOW_HI else 0
def advertisedShadowLo (s : State) : Nat := if swapWaits s then rd s Reg.CONFSET_SHADOW_LO else 0

/-- Root named in keepalives; in HOLDOVER it stays the last root followed. -/
def rootSerialSent (s : State) : Nat := rd s Reg.EPOCH_ROOT_SERIAL
def rootPrioSent (s : State) : Nat := rd s Reg.EPOCH_ROOT_PRIO

/-- TWIN byte of a keepalive; the position bit reads 0 while no position is assigned. -/
def twinByte (s : State) : Nat :=
  let st := rd s Reg.TWIN_STATE
  if st = 0 then 0
  else 128 + (if rd s Reg.TWIN_POSITION = 1 then 64 else 0) + 16 * (st - 1)

end Sys2Proof.Machine
end

