-- ==== Sys2Proof/Machine/Frames.lean ====
section
/-! DEFINITION. The life of a frame inside the solid: its blocks as they arrive, its link credits, its
end by discard, and truncation and poison (Lamier Frames R164 to R175, R106, R216). -/

namespace Sys2Proof.Machine

/-! ## Credits (R106) -/

/-- The frame has been moved out of receive staging as far as its place goes. -/
def outOfStaging (f : Frame) : Bool :=
  match f.place with
  | .lattice => true
  | .queued => true
  | .sending => true
  | .held => true
  | .pool => true
  | .localTo => true
  | .parent => decide (f.copiesLeft = 0)
  | _ => false

/-- The frame has been admitted, so a VL8 frame gives its credits back. -/
def admittedPlace (f : Frame) : Bool := outOfStaging f || decide (f.place = .granted)

/-- Link credits of a received frame go back to the partner (R106); a frame whose MSG is reserved has
no VL and none (log entry 10). -/
def freeCredits (s : State) (f : Frame) : State :=
  let v := hdrVl f.rxHdr
  if f.credits = 0 ∨ 2048 ≤ f.ingress then s
  else modLink s f.ingress (fun l => { l with
    freed := l.freed.set v ((l.freed.getD v 0 + f.credits) % 2 ^ 32) })

/-- Credits return once the frame has left staging: its final block has moved, to its queue, the lattice, a hold pool, a
trace pool or local memory, or it is on VL8 and is admitted (R106, R198). A replicated frame whose last copy has been admitted
is then gone (R201). -/
def settle (s : State) (id : Nat) : State :=
  match findFrame s id with
  | none => s
  | some f =>
    let ended := f.whole || f.poison
    let free := (outOfStaging f && ended) || (decide (hdrVl f.rxHdr = 8) && admittedPlace f)
    let s := if free then putFrame (freeCredits s f) id { f with credits := 0 } else s
    if f.place = .parent ∧ f.copiesLeft = 0 ∧ free = true then delFrame s id else s

/-! ## Removal -/

/-- A frame leaves its queue and its spill segment; a segment is freed with its last frame (R281). -/
def unqueue (s : State) (q id : Nat) : State :=
  modQueue s q (fun e => { e with
    order := e.order.filter (fun x => decide (x ≠ id)),
    segments := (e.segments.map (fun g => { g with
      frames := g.frames.filter (fun x => decide (x ≠ id)) })).filter (fun g => g.frames ≠ []) })

/-- When a queue becomes empty its deficit is 0 (R252), and a queue with no segment held or in flight
leaves spill state (R227). -/
def queueSettled (s : State) (q : Nat) : State :=
  let e := equeue s q
  let s := if queueEmpty s q then wr s (Reg.SHAPER_DEFICIT q) 0 else s
  if e.spill ∧ e.segments.all (fun g => decide (g.place = .read)) = true then
    modQueue s q (fun e => { e with spill := false })
  else s

/-- A waiting head is released: it has been sent, or it is lost (R248, R259). The stall of its VL ends at the first tick that
finds no other there (R290). -/
def releaseWaiting (s : State) (q : Nat) : State :=
  let p := queuePort q
  if (sched s p).waitQueue.contains q then
    let s := modSched s p (fun x => { x with waitQueue := x.waitQueue.filter (fun y => decide (y ≠ q)) })
    let w := rd s (Reg.PORTSCHED_WAIT_HEAD p)
    wr s (Reg.PORTSCHED_WAIT_HEAD p) (if w.testBit (queueVl q) then w - 2 ^ queueVl q else w)
  else s

/-- The key of a hold list (R198). -/
def holdKey (g slot facet : Nat) : Nat := (g * 256 + slot) * 8 + facet

/-- A frame leaves its hold list. -/
def unhold (s : State) (f : Frame) (id : Nat) : State :=
  let k := holdKey f.group f.slot f.facet
  modForward s (fun w => { w with
    holds := Tab.put [] w.holds k ((Tab.get [] w.holds k).filter (fun x => decide (x ≠ id))) })

/-- One copy fewer is on its way from a replicated frame (R201). -/
def copyDone (s : State) (parent : Nat) : State :=
  if parent = 0 then s
  else settle (modFrame s parent (fun f => { f with copiesLeft := f.copiesLeft - 1 })) parent

/-- The copy had not yet been admitted. -/
def beforeAdmission (f : Frame) : Bool :=
  match f.place with
  | .staging => true
  | .request => true
  | .asked => true
  | .waiting => true
  | _ => false

/-- The frame is taken out of the solid: credits, cells and places are given up. -/
def removeFrame (s : State) (id : Nat) : State :=
  match findFrame s id with
  | none => s
  | some f =>
    let s := freeCredits s f
    let s := if f.place = .held then unhold s f id else s
    let s := if f.place = .sending then
        modLink s f.egress (fun l => { l with sending := l.sending.filter (fun e => decide (e.frame ≠ id)) })
      else s
    let s := delFrame s id
    let q := frameQueue f
    let head := decide (f.place = .queued) && decide ((equeue s q).order.head? = some id)
    let s := if f.place = .queued ∨ f.place = .sending then queueSettled (unqueue s q id) q else s
    let s := if head then releaseWaiting s q else s
    if beforeAdmission f ∧ f.mirror = 0xFF then copyDone s f.parentId else s

/-- Discarded, and counted at the ingress port or in the originating facet (R171, R207, R291). -/
def dropIn (s : State) (id why : Nat) : State :=
  match findFrame s id with
  | none => s
  | some f => removeFrame (discardIn s f why f.hdr) id

/-- Discarded, and counted at the egress port (R239). -/
def dropOut (s : State) (id why : Nat) : State :=
  match findFrame s id with
  | none => s
  | some f => removeFrame (discardAt s f.egress why f.hdr) id

/-! ## Arriving blocks -/

/-- The frame and the copies made from it: blocks that arrive go to each. -/
def family (s : State) (id : Nat) : List Nat :=
  if id = 0 then []
  else (s.frames.filter (fun e => decide (e.1 = id) || decide (e.2.parentId = id))).map (fun e => e.1)

/-- A block joins one frame; a copy that holds fewer blocks than its original is whole once it has
them (R181). -/
def takeBlock (b : Block) (f : Frame) : Frame :=
  if f.poison ∨ hdrLen f.hdr ≤ f.blocks.length then f
  else
    let bs := f.blocks ++ [b]
    { f with blocks := bs,
             whole := f.whole || (decide (f.mirror ≠ 0xFF) && decide (bs.length = hdrLen f.hdr)) }

/-- A block joins a frame and its copies. -/
def addBlock (s : State) (id : Nat) (b : Block) : State :=
  (family s id).foldl (fun s x => modFrame s x (takeBlock b)) s

/-- Stage 2 takes blocks as far as no header, block 1 or final block is due; fuel is the number of
blocks that stand (R170). Blocks of a frame that is gone are let go. -/
def pumpN : Nat → State → Nat → State
  | 0, s, _ => s
  | n + 1, s, p =>
    let l := link s p
    match l.rxBlocks with
    | [] => s
    | b :: rest =>
      let gone := (family s l.rxFrame).isEmpty
      if l.rxRemain = 0 then s
      else if gone = false ∧ (l.rxRemain = 1 ∨ (l.block1 = false ∧ needsBlock1 l.rxHdr = true)) then s
      else
        let s := modLink s p (fun l => { l with rxBlocks := rest, rxRemain := l.rxRemain - 1 })
        pumpN n (if gone then s else addBlock s l.rxFrame b) p

def pumpBlocks (s : State) (p : Nat) : State := pumpN (link s p).rxBlocks.length s p

/-! ## Truncation and poison (R172 to R175) -/

/-- A block of the frame has left its egress port. -/
def hasBegun (s : State) (id : Nat) (f : Frame) : Bool :=
  decide (f.place = .sending) && (link s f.egress).sending.any (fun e =>
    decide (e.frame = id) && decide (0 < e.sent))

/-- An egress ends its copy with a poison tail: cells it did not fill are freed, POISON_SENT is
written with the ingress and egress ports and the discard code of the cause (R174, R216). -/
def poisonOut (cause : Nat) (s : State) (id : Nat) : State :=
  match findFrame s id with
  | none => s
  | some f =>
    let s := putFrame s id { f with poison := true, cells := min f.cells ((f.blocks.length + 16) / 16) }
    let s := countFrame s f.egress 0x200D f.hdr
    let s := raise s Code.POISON_SENT (f.egress / 256)
      [(16, twinPort s f.ingress), (16, twinPort s f.egress), (8, cause)]
    settle s id

/-- A frame whose transmission is under way fails its ECC after `sent` of its blocks: what it still owes is zero blocks and a
poison tail, and blocks that arrive later are discarded (R217, R174). -/
def cutSending (s : State) (id sent : Nat) : State :=
  match findFrame s id with
  | none => s
  | some f =>
    if f.poison then s
    else poisonOut 0x27 (putFrame s id { f with blocks := f.blocks.take (sent - 1) }) id

/-- The end of a frame that stops short or carries a poison tail, and of the copies made from it: those
that have begun to leave end with a poison tail; of the others only a frame none of whose copies has
begun counts as discarded (R172, R174, R181). -/
def endShort (s : State) (id cause : Nat) : State :=
  let fam := family s id
  let begun := fam.filter (fun x => match findFrame s x with
    | some f => hasBegun s x f && !f.whole && !f.poison
    | none => false)
  let rest := fam.filter (fun x => match findFrame s x with
    | some f => !hasBegun s x f && !f.whole
    | none => false)
  let isMirror := fun (x : Nat) => match findFrame s x with
    | some f => decide (f.mirror ≠ 0xFF)
    | none => false
  let counted := (if (begun.filter (fun x => !isMirror x)).isEmpty then
      (rest.filter (fun x => !isMirror x)).take 1 else []) ++ rest.filter isMirror
  let s := begun.foldl (poisonOut cause) s
  rest.foldl (fun s x => if counted.contains x then dropIn s x cause else removeFrame s x) s

/-- A link that no longer carries data ends the frame whose tail has not arrived (R118 step 2). -/
def truncateIfCut (s : State) (p : Nat) : State :=
  let l := link s p
  if portUp s p = false ∧ l.rxBlocks.length < l.rxRemain then
    let s := endShort s l.rxFrame 0x0D
    modLink s p (fun l => { l with rxBlocks := [], rxRemain := 0, rxFrame := 0 })
  else s

end Sys2Proof.Machine
end

