-- ==== Sys2Proof/Machine/Sched.lean ====
section
/-! DEFINITION. Scheduling, Shaping and Policing (R247 to R264): shapers and the timing wheel, the
policers of the OPEN lane, the eligibility of queues, and the choice of the next frame. -/

namespace Sys2Proof.Machine

/-! ## Shapers (R255 to R261) -/

/-- Key of a port's CTRL shaper; a queue shaper has its queue's number. -/
def ctrlKey (p : Nat) : Nat := 147456 + p

def isCtrlKey (k : Nat) : Bool := decide (147456 ≤ k)

/-- RATE of a shaper in force (R255). -/
def shaperRate (s : State) (k : Nat) : Nat :=
  if isCtrlKey k then rd s (Reg.PORTSCHED_CTRL_RATE (k - 147456)) else rd s (Reg.SHAPER_RATE k)

/-- Cap of a shaper in millibits (R255). -/
def shaperCap (s : State) (k : Nat) : Int :=
  8000 * (if isCtrlKey k then rd s (Reg.PORTSCHED_CTRL_BURST (k - 147456)) else rd s (Reg.SHAPER_BURST k) : Nat)

/-- A shaper; before its first use a CTRL shaper holds its cap (R259; its credit at reset is log
entry 22) and a queue shaper 0. -/
def shaper (s : State) (k : Nat) : Shaper :=
  match Tab.find s.egress.shapers k with
  | some x => x
  | none => { credit := if isCtrlKey k then shaperCap s k else 0, last := 0 }

def setShaper (s : State) (k : Nat) (x : Shaper) : State :=
  modEgress s (fun e => { e with shapers := Tab.set e.shapers k x })

/-- The refill of R256. -/
def refilled (rate : Nat) (cap : Int) (t : Nat) (x : Shaper) : Shaper :=
  { x with credit := min (x.credit + rate * ((t - x.last : Nat) : Int)) cap, last := t }

/-- A shaper refilled now; while its swap refill is awaited it is left as it is (R258). -/
def refill (s : State) (k : Nat) : State :=
  let x := shaper s k
  if x.swapOld.isSome ∨ shaperRate s k = 0 then s
  else setShaper s k (refilled (shaperRate s k) (shaperCap s k) (now s) x)

/-- The slot of an eligible time: ⌈e / 32⌉ × 32, at most 65,535 slots ahead (R260). -/
def wheelSlot (t e : Nat) : Nat :=
  let slot := (e + 31) / 32 * 32
  let most := (t / 32 + 65535) * 32
  if most < slot then most else slot

/-- A shaper in debt is entered on the wheel (R256). -/
def enterWheel (rate t : Nat) (x : Shaper) : Shaper :=
  if x.credit < 0 ∧ rate ≠ 0 then
    { x with slot := wheelSlot t (t + ((-x.credit).toNat + rate - 1) / rate) }
  else { x with slot := 0 }

/-- The cost of a frame start is taken (R255, R256). -/
def spend (s : State) (k charge : Nat) : State :=
  if shaperRate s k = 0 then s
  else
    let x := shaper s k
    setShaper s k (enterWheel (shaperRate s k) (now s) { x with credit := x.credit - 8000 * charge })

/-- The shaper allows a frame start once it is refilled: unshaped, or credit of 0 or more and neither
on the wheel nor awaiting its swap refill (R256, R258). -/
def shaperAllows (s : State) (k : Nat) : Bool :=
  let x := shaper s k
  decide (shaperRate s k = 0) && x.swapOld.isNone ||
    (x.swapOld.isNone && decide (x.slot = 0) &&
      decide (0 ≤ (refilled (shaperRate s k) (shaperCap s k) (now s) x).credit))

/-- A queue shaper is privileged (R257). -/
def privileged (s : State) (q : Nat) : Bool := decide (rd s (Reg.SCHEDCLASS_PRIV (queueClass q)) = 1)

/-- The swap refill of one shaper (R258): refilled as of the swap tick at the old rate, then the new
values. -/
def swapRefill (s : State) (k : Nat) : State :=
  let x := shaper s k
  match x.swapOld with
  | none => s
  | some (oldRate, oldBurst) =>
    let rate := shaperRate s k
    let c : Int := if oldRate = 0 then 0
      else min (x.credit + oldRate * ((x.swapAt - x.last : Nat) : Int)) (8000 * oldBurst)
    if rate = 0 then setShaper s k { credit := 0, last := now s }
    else
      -- the new rate runs from the swap tick to this refill
      let y : Shaper := { credit := min c (shaperCap s k), last := x.swapAt }
      let y := if y.credit < 0 then
          { y with slot := wheelSlot x.swapAt (x.swapAt + ((-y.credit).toNat + rate - 1) / rate) }
        else y
      setShaper s k y

/-- A queue wakes: its shaper is refilled, after the swap refill it may await, an ordinary one keeps no surplus, and one out of
debt leaves the wheel (R257, R258). -/
def wakeQueue (s : State) (q : Nat) : State :=
  let s := swapRefill s q
  if shaperRate s q = 0 then s
  else
    let x := refilled (shaperRate s q) (shaperCap s q) (now s) (shaper s q)
    let x := if privileged s q then x else { x with credit := min x.credit 0 }
    setShaper s q (if 0 ≤ x.credit then { x with slot := 0 } else x)

/-- A due entry is refilled and leaves the wheel or is entered again; a later refill than R261 allows
at the floor writes WHEEL_LATE. -/
def wheelEntry (s : State) (k : Nat) : State :=
  let x := shaper s k
  let facet := if isCtrlKey k then (k - 147456) / 256 else queueFacet k
  let late := now s - x.slot
  let s := raiseTo s Reg.SCHED_LATE_MAX late
  let s := if 1344 < late then raise s Code.WHEEL_LATE facet [(8, facet), (64, late)] else s
  let y := refilled (shaperRate s k) (shaperCap s k) (now s) x
  setShaper s k (enterWheel (shaperRate s k) (now s) y)

/-- WHEEL_SLOT_DUE (R260, R261). -/
def doWheelSlotDue (facet : Nat) (s : State) : State :=
  let due := (s.egress.shapers.filter (fun e =>
    decide ((if isCtrlKey e.1 then (e.1 - 147456) / 256 else queueFacet e.1) = facet) &&
      decide (e.2.slot ≠ 0) && decide (e.2.slot ≤ now s) && e.2.swapOld.isNone)).map (fun e => e.1)
  due.foldl wheelEntry s

/-- SHAPER_SWAP_REFILL (R258). -/
def doShaperSwapRefill (q : Nat) (s : State) : State :=
  let s := swapRefill s q
  swapRefill s (ctrlKey (queuePort q))

/-! ## Policers (R262) -/

def policerCap (s : State) (t : Nat) : Int := 8000 * (rd s (Reg.POLICER_BURST t) : Nat)

/-- The policer of a tenant in a facet, refilled now; one not yet used is full. -/
def policer (s : State) (t g : Nat) : Policer :=
  match Tab.find s.egress.policers (t * 8 + g) with
  | some x => { tokens := min (x.tokens + rd s (Reg.POLICER_RATE t) * ((now s - x.last : Nat) : Int)) (policerCap s t),
                last := now s }
  | none => { tokens := policerCap s t, last := now s }

def setPolicer (s : State) (t g : Nat) (x : Policer) : State :=
  modEgress s (fun e => { e with policers := Tab.set e.policers (t * 8 + g) x })

/-- Event at a frame's ingress port, or in its originating facet. -/
def countAtIngress (s : State) (f : Frame) (sel : Nat) : State :=
  if f.ingress < 2048 then countFrame s f.ingress sel f.hdr
  else countFrameIn s (facetBank f.facet) sel f.hdr

/-- The copies of one frame bound for one egress facet, which the policer checks once (R262). -/
def facetCopies (s : State) (id : Nat) (f : Frame) : List Nat :=
  if f.parentId = 0 then [id]
  else (s.frames.filter (fun e => decide (e.2.parentId = f.parentId) && decide (e.2.mirror = 0xFF) &&
    decide (e.2.egress / 256 = f.egress / 256))).map (fun e => e.1)

/-- The policer check of an ETH_ENCAP frame at its egress facet, made once for all its copies there
(R262). -/
def police (s : State) (id : Nat) : State :=
  match findFrame s id with
  | none => s
  | some f =>
    let t := hdrTen f.hdr
    let g := f.egress / 256
    if hdrKind f.hdr ≠ KindCode.ETH_ENCAP ∨ f.policed then s
    else
      let fam := facetCopies s id f
      let mark := fun (s : State) => fam.foldl (fun s x => modFrame s x (fun f => { f with policed := true })) s
      if rd s (Reg.POLICER_RATE t) = 0 then countAtIngress (mark s) f 0x3007
      else
        let x := policer s t g
        let need : Int := 8000 * (hdrBytes f.hdr : Nat)
        if need ≤ x.tokens then
          countAtIngress (mark (setPolicer s t g { x with tokens := x.tokens - need })) f 0x3007
        else
          let s := setPolicer s t g x
          if rd s (Reg.POLICER_ACTION t) = 1 ∧ (hdrEcn f.hdr = 1 ∨ hdrEcn f.hdr = 2) then
            let s := fam.foldl (fun s x => modFrame s x (fun f => { f with policed := true, hdr := setCe f.hdr })) s
            countAtIngress (inc s (Reg.POLICER_MARKED t) 64) f 0x3008
          else
            let s := raise s Code.POLICED g [(16, t), (8, g)]
            let s := discardIn s f 0x30 f.hdr
            fam.foldl removeFrame s

/-! ## CMD (R109, R110) -/

/-- Bytes 56 to 163 of a CONTROL flit, as widths and values, as they stand now (R108, R408). -/
def keepaliveFields (s : State) (p : Nat) : List (Nat × Nat) :=
  let l := link s p
  [(8, rd s Reg.IDENTITY_SERIAL), (2, p), (1, rd s Reg.CONFSET_ROLE), (1, twinByte s),
   (6, rd s Reg.CONFSET_ACTIVE_EPOCH), (8, rd s Reg.CONFSET_DIGEST_HI),
   (8, rd s Reg.CONFSET_DIGEST_LO), (6, advertisedSwap s), (8, advertisedShadowHi s),
   (8, advertisedShadowLo s), (8, rootSerialSent s), (1, rootPrioSent s),
   (1, boolBit (epochHoldover s)), (1, if l.cmd.testBit 29 then rd s Reg.OPTICS_DARK_MAX else 0),
   (1, 0), (2, (l.seq + 0xFFFF) % 2 ^ 16), (2, 0)] ++ l.charged.map (fun x => (4, x))

/-- KASEQ is incremented, with a fresh sample of bytes 56 to 163 (R110). -/
def nextKeepalive (s : State) (p : Nat) : State :=
  modLink s p (fun l => { l with kaSeq := (l.kaSeq + 1) % 2 ^ 16, kaSample := keepaliveFields s p })

/-- CMD levels changed: KASEQ is incremented (R110). -/
def setCmd (p cmd : Nat) (s : State) : State :=
  if (link s p).cmd = cmd then s else nextKeepalive (modLink s p (fun l => { l with cmd := cmd })) p

/-- A CMD bit set or cleared. -/
def setCmdBit (p b : Nat) (on : Bool) (s : State) : State :=
  let c := (link s p).cmd
  let cleared := if c.testBit b then c - 2 ^ b else c
  setCmd p (if on then cleared + 2 ^ b else cleared) s

/-! ## Link credit on transmit (R105, R106) -/

/-- The charge goes to the shared allowance: enough is free and the VL's share stays within SHARE_CAP
per cent of it. -/
def sharedFits (s : State) (p v c : Nat) : Bool :=
  let l := link s p
  decide (c ≤ l.txSharedFree) &&
    decide ((rd s (Reg.CREDIT_TX_HELD_SHARED (16 * p + v)) + c) * 100 ≤ l.advCap * l.advShared)

def dedicatedFits (s : State) (p v c : Nat) : Bool :=
  decide (rd s (Reg.CREDIT_TX_HELD_DED (16 * p + v)) + c ≤ rd s (Reg.CREDIT_TX_DED (16 * p + v)))

/-- The whole charge is available (R106). -/
def creditFor (s : State) (p v c : Nat) : Bool := sharedFits s p v c || dedicatedFits s p v c

/-- A frame's credits are charged to an allowance (R105). -/
def chargeLink (s : State) (p v c : Nat) : State :=
  if sharedFits s p v c then
    modLink (wr s (Reg.CREDIT_TX_HELD_SHARED (16 * p + v)) (rd s (Reg.CREDIT_TX_HELD_SHARED (16 * p + v)) + c)) p
      (fun l => { l with txSharedFree := l.txSharedFree - c })
  else wr s (Reg.CREDIT_TX_HELD_DED (16 * p + v)) (rd s (Reg.CREDIT_TX_HELD_DED (16 * p + v)) + c)

/-- The cumulative count of R107 takes in a frame as its first block goes into a DATA flit. -/
def noteCharged (s : State) (p : Nat) (h : Block) : State :=
  let v := hdrVl h
  modLink s p (fun l => { l with charged := l.charged.set v ((l.charged.getD v 0 + hdrCredits h) % 2 ^ 32) })

/-! ## Eligibility and choice (R247 to R252) -/

/-- A CMD value with some bits set and some cleared. -/
def cmdWith (cmd : Nat) (on off : List Nat) : Nat :=
  let c := off.foldl (fun c b => if c.testBit b then c - 2 ^ b else c) cmd
  on.foldl (fun c b => if c.testBit b then c else c + 2 ^ b) c

/-- The wake retrain starts: both directions of the line coding begin anew (R116; log entry 100). WAKE is set while a frame
waits (R109). -/
def beginWake (p : Nat) (s : State) : State :=
  let s := if portEmpty s p then s else setCmd p (cmdWith (link s p).cmd [24] []) s
  modLink (wr s (Reg.PORT_STATE p) 7) p (fun l => { l with sleep := .waking, lineTx := {}, lineRx := {} })

/-- A sleeping end starts the wake retrain (R115, R116). -/
def startWake (p : Nat) (s : State) : State := if rd s (Reg.PORT_STATE p) = 6 then beginWake p s else s

/-- The entry to sleep is aborted: WAKE is set, and the lanes run on (R115). -/
def abortSleep (p : Nat) (s : State) : State :=
  modLink (setCmd p (cmdWith (link s p).cmd [24] [26, 27]) s) p (fun l => { l with sleep := .none, wakeSeen := true })

/-- A frame is queued for a port, which is a wake (R115): a sleeping end retrains, and one that settles or has asked to
sleep aborts. -/
def wakePort (p : Nat) (s : State) : State :=
  match (link s p).sleep with
  | .settling => abortSleep p s
  | .requested => abortSleep p s
  | _ => startWake p s

/-- The frame at the head of a queue. -/
def headOf (s : State) (q : Nat) : Option (Nat × Frame) :=
  match (equeue s q).order with
  | [] => none
  | id :: _ => (findFrame s id).map (fun f => (id, f))

/-- L: the charged length of a frame at a port (R254). -/
def chargedLength (s : State) (p : Nat) (h : Block) : Nat := hdrBytes h + rd s (Reg.PORTSCHED_OVERHEAD p)

/-- A mirror session of TYPE 2 copies frames sent on the port and truncates (R34, R236). -/
def mirroredTruncating (s : State) (p : Nat) : Bool :=
  (List.range 16).any (fun i => decide (rd s (Reg.MIRROR_TYPE i) = 2) && decide (rd s (Reg.MIRROR_PORT i) = p) &&
    decide (rd s (Reg.MIRROR_TRUNC i) = 1))

/-- The frame may begin to leave: it is wholly stored, or R34 cuts it through. -/
def mayLeave (s : State) (p : Nat) (f : Frame) : Bool :=
  f.whole || f.poison ||
    (f.cutThrough && decide (f.ingress < 2048) &&
      decide (flitRate (rd s (Reg.PORT_RXMASK f.ingress)) ≤ rd s (Reg.PORT_FLIT_RATE p)) &&
      !mirroredTruncating s p)

/-- The queue holding its VL's waiting head, if any (R248). -/
def waitingQueue (s : State) (p v : Nat) : Option Nat :=
  (sched s p).waitQueue.find? (fun q => decide (queueVl q = v))

/-- A queue is eligible but for link credit (R248). -/
def eligibleBut (s : State) (q : Nat) : Bool :=
  match headOf s q with
  | none => false
  | some (_, f) =>
    decide (f.place = .queued) && decide (f.region ≠ .none) && mayLeave s (queuePort q) f &&
      shaperAllows s q &&
      (match waitingQueue s (queuePort q) (queueVl q) with
        | none => true
        | some q' => decide (q' = q))

/-- The head of a queue has the link credits it needs. -/
def headCredit (s : State) (q : Nat) : Bool :=
  match headOf s q with
  | none => false
  | some (_, f) => creditFor s (queuePort q) (queueVl q) (hdrCredits f.hdr)

/-- A head that lacks link credit becomes its VL's waiting head (R248); the VL's stall runs on where it has not ended since
(R289, R290). -/
def markWaiting (s : State) (q : Nat) : State :=
  let p := queuePort q
  if (sched s p).waitQueue.contains q then s
  else
    let v := queueVl q
    let s := modSched s p (fun x => { x with
      waitQueue := x.waitQueue ++ [q],
      stalls := if x.stalls.any (fun e => decide (e.1 = v)) then x.stalls else x.stalls ++ [(v, now s)] })
    wr s (Reg.PORTSCHED_WAIT_HEAD p) (rd s (Reg.PORTSCHED_WAIT_HEAD p) ||| 2 ^ queueVl q)

/-- The CTRL shaper allows a frame start (R250). -/
def ctrlAllows (s : State) (p : Nat) : Bool := shaperAllows s (ctrlKey p)

/-- The CTRL shaper is in debt: its credit is negative once refilled, under the old values and then the new ones while a swap
refill is due (R255, R258). -/
def ctrlInDebt (s : State) (p : Nat) : Bool :=
  let t := swapRefill s (ctrlKey p)
  decide ((refilled (shaperRate t (ctrlKey p)) (shaperCap t (ctrlKey p)) (now t) (shaper t (ctrlKey p))).credit < 0)

/-- CTRL queues in the order the level serves them: TC 7 first; VL6 and VL7 take turns, the one not
served last first (R250). -/
def ctrlOrder (s : State) (p : Nat) : List Nat :=
  let first := if (sched s p).lastCtrl = 6 then 7 else 6
  (List.range 8).flatMap (fun i => [queueOf p first (7 - i), queueOf p (13 - first) (7 - i)])

/-- The CTRL level's choice: heads that lack credit are marked as they would be chosen (R248, R250). -/
def ctrlPick : List Nat → State → State × Option Nat
  | [], s => (s, none)
  | q :: rest, s =>
    if eligibleBut s q then
      if headCredit s q then (s, some q) else ctrlPick rest (markWaiting s q)
    else ctrlPick rest s

/-- The 56 queues of the DRR ring of a port (R252). -/
def ringQueue (p i : Nat) : Nat := if i < 48 then p * 72 + i else p * 72 + 64 + (i - 48)

/-- The ring moves on from a queue (R252). -/
def ringNext (s : State) (p q : Nat) : State :=
  modSched (modQueue s q (fun e => { e with visited := false })) p (fun x => { x with ptr := (x.ptr + 1) % 56 })

/-- drr_next of R252 over the queues that `ok` calls eligible. The pointer and the deficits are in the state; fuel bounds the
visits. -/
def drrNext (ok : State → Nat → Bool) : Nat → State → Nat → State × Option Nat
  | 0, s, _ => (s, none)
  | n + 1, s, p =>
    if (List.range 56).all (fun i => !ok s (ringQueue p i)) then (s, none)
    else
      let q := ringQueue p (sched s p).ptr
      if ok s q then
        let s := if (equeue s q).visited then s
          else modQueue (wr s (Reg.SHAPER_DEFICIT q)
            (rd s (Reg.SHAPER_DEFICIT q) + rd s (Reg.SCHEDCLASS_QUANTUM (queueClass q)))) q
            (fun e => { e with visited := true })
        match headOf s q with
        | none => (s, none)
        | some (_, f) =>
          if chargedLength s p f.hdr ≤ rd s (Reg.SHAPER_DEFICIT q) then (s, some q)
          else drrNext ok n (ringNext s p q) p
      else drrNext ok n (ringNext s p q) p

/-- Eligible (R248). -/
def eligible (s : State) (q : Nat) : Bool := eligibleBut s q && headCredit s q

/-- Eligible, or it would be but that its head lacks link credit, and it is no waiting head yet (R248). -/
def eligibleOrLacks (s : State) (q : Nat) : Bool :=
  eligibleBut s q && (headCredit s q || !(sched s (queuePort q)).waitQueue.contains q)

/-- The DRR level's choice. The queue that would be chosen if no head lacked link credit is chosen where its head has it;
otherwise its head becomes its VL's waiting head (R248), and the choice is made again: at most one waiting head on each VL. -/
def drrPick : Nat → State → Nat → State × Option Nat
  | 0, s, p => drrNext eligible 2300 s p
  | n + 1, s, p =>
    match (drrNext eligibleOrLacks 2300 s p).2 with
    | none => (s, none)
    | some q => if headCredit s q then drrNext eligible 2300 s p else drrPick n (markWaiting s q) p

/-- The chosen head begins: it leaves its queue, is charged to its deficit or the CTRL shaper, to its
queue shaper and to the link, and waits for its first flit (R252, R254, R256). -/
def beginFrame (q id : Nat) (f : Frame) (s : State) : State :=
  let p := queuePort q
  let len := chargedLength s p f.hdr
  let ctrl := decide (queueVl q = 6 ∨ queueVl q = 7)
  let s := if ctrl then
      spend (modSched (refill s (ctrlKey p)) p (fun x => { x with lastCtrl := queueVl q }))
        (ctrlKey p) len
    else countFrame (wr s (Reg.SHAPER_DEFICIT q) (rd s (Reg.SHAPER_DEFICIT q) - len)) p 0x3004 f.hdr
  let s := spend (refill s q) q len
  let s := chargeLink s p (queueVl q) (hdrCredits f.hdr)
  let s := releaseWaiting s q
  let s := modQueue s q (fun e => { e with stallSince := none, order := e.order.filter (fun x => decide (x ≠ id)) })
  let s := putFrame s id { f with place := .sending }
  let s := modLink s p (fun l => { l with sending := l.sending ++ [⟨id, 0⟩] })
  queueSettled s q

/-- A CTRL queue is eligible but its port's CTRL shaper allows no start: the moment it began (R250, R270). A frame
that leaves and puts the shaper into debt again within its tick is no break. -/
def noteCtrlHeld (s : State) (p : Nat) : State :=
  let waits := (ctrlOrder s p).any (fun q => eligibleBut s q && headCredit s q)
  if waits ∧ ctrlAllows s p = false then
    if (sched s p).heldSince.isSome then s
    else modSched s p (fun x => { x with heldSince := some (now s) })
  else modSched s p (fun x => { x with heldSince := none, heldTold := false })

/-- CTRL_HELD (R270): more than 1 ms without a break, once for that wait. -/
def doCtrlHeld (p : Nat) (s : State) : State :=
  match (sched s p).heldSince with
  | some t =>
    if 1000000 < now s - t ∧ (sched s p).heldTold = false then
      modSched (raise s Code.CTRL_HELD (p / 256) [(16, twinPort s p)]) p (fun x => { x with heldTold := true })
    else s
  | none => s

/-- STALL_ALERT_TIMER (R290): once for an episode. -/
def doStallAlert (p v : Nat) (s : State) : State :=
  match waitingQueue s p v, (sched s p).stalls.find? (fun e => decide (e.1 = v)) with
  | some _, some (_, since) =>
    if rd s Reg.FLOWCFG_STALL_ALERT * 1000 ≤ now s - since ∧ (sched s p).starved.contains v = false then
      modSched (raise s Code.CREDIT_STARVED (p / 256) [(16, twinPort s p), (8, v)]) p
        (fun x => { x with starved := x.starved ++ [v] })
    else s
  | _, _ => s

/-- A port that goes down resets its scheduling state (R259). -/
def resetSched (p : Nat) (s : State) : State :=
  let s := (List.range 72).foldl (fun s i =>
    let q := p * 72 + i
    let s := wr s (Reg.SHAPER_DEFICIT q) 0
    let s := if shaperRate s q = 0 then modEgress s (fun e => { e with shapers := Tab.del e.shapers q })
      else setShaper s q { credit := 0, last := now s }
    modQueue (releaseWaiting s q) q (fun e => { e with visited := false })) s
  let s := setShaper s (ctrlKey p) { credit := shaperCap s (ctrlKey p), last := now s }
  modEgress s (fun e => { e with scheds := Tab.del e.scheds p })

end Sys2Proof.Machine
end

