-- ==== Sys2Proof/Machine/Buffers.lean ====
section
/-! DEFINITION. Shared Buffers and Spill (R215 to R235): admission, waiting and push-out, ECN marks at
admission (R282), spill to HBM and prefetch, and the residence limit. -/

namespace Sys2Proof.Machine

/-! ## The xorshift generators (R192, R282) -/

def xorshift32 (x : Nat) : Nat :=
  let x := (x ^^^ (x * 2 ^ 13)) % 2 ^ 32
  let x := x ^^^ (x / 2 ^ 17)
  (x ^^^ (x * 2 ^ 5)) % 2 ^ 32

/-- Keys of the generators: vertex, 0x100 + facet for marking, 0x200 + facet for origination. -/
def markingGen (g : Nat) : Nat := 0x100 + g
def originationGen (g : Nat) : Nat := 0x200 + g

/-- The seed of a generator (R192, R282). -/
def genSeed (s : State) (k : Nat) : Nat :=
  let x := (rd s Reg.IDENTITY_SERIAL % 2 ^ 32) ^^^ (if k < 0x100 then k + 1 else k)
  if x = 0 then 0x9E3779B9 else x

/-- The next output of a generator; one that has not run stands at its seed. -/
def nextRandom (s : State) (k : Nat) : State × Nat :=
  let x := Tab.get 0 s.forward.gens k
  let y := xorshift32 (if x = 0 then genSeed s k else x)
  (modForward s (fun w => { w with gens := Tab.put 0 w.gens k y }), y)

/-! ## Order on a channel (R200) -/

/-- The frame pins: an ordered channel of a KIND that honours ORD (R154, R189). -/
def pins (h : Block) : Bool :=
  decide (hdrOrd h = 1) && decide (hdrKind h = 0 ∨ hdrKind h = 9 ∨ hdrKind h = 8)

/-- Two frames that R200 keeps in order: both ordered, of one ingress port, channel, MSG and TC. -/
def sameChannel (f h : Frame) : Bool :=
  pins f.hdr && pins h.hdr && decide (f.ingress = h.ingress) && decide (hdrTen f.hdr = hdrTen h.hdr) &&
    decide (hdrSrc f.hdr = hdrSrc h.hdr) && decide (hdrDst f.hdr = hdrDst h.hdr) &&
    decide (hdrChan f.hdr = hdrChan h.hdr) && decide (hdrMsg f.hdr = hdrMsg h.hdr) && decide (hdrTc f.hdr = hdrTc h.hdr)

/-- Earlier frames of a frame's channel, bound for the same port, that stand at the same place: oldest first. What is done to
the frame is done to them first, so that the channel keeps its order (R200). -/
def channelAhead (s : State) (id : Nat) (f : Frame) : List Nat :=
  (s.frames.filter (fun e => decide (e.1 < id) && decide (e.2.place = f.place) && decide (e.2.egress = f.egress) &&
    sameChannel f e.2)).map (fun e => e.1)

/-! ## Admission (R220) -/

/-- What admission decides. -/
inductive Verdict where
  | pass (r : Region)
  | drop (code : Nat)
  | pushOut
  | wait (cause : WaitCause)
deriving DecidableEq, Repr

/-- The room test of R220 with the given free cells, cells of the queue and open cells. -/
def roomTest (s : State) (f : Frame) (q c free sq opn : Nat) : Bool :=
  let k : Int := rdI 8 s (Reg.QCLASS_ALPHA_SHIFT (queueClass q))
  let share := if 0 ≤ k then decide (sq + c ≤ 2 ^ k.toNat * free) else decide ((sq + c) * 2 ^ (-k).toNat ≤ free)
  decide (c ≤ free) && share &&
    !(decide (queueVl q = 8) && decide (rd s Reg.BUFCFG_OPEN_MAX < opn + c)) &&
    !(decide (hdrKind f.hdr = KindCode.MIRROR) &&
      (decide (free < rd s Reg.BUFCFG_MIRROR_RESERVE + c) ||
        decide (rd s Reg.BUFCFG_MIRROR_MAX < mirrorUsed s (queueFacet q) + c)))

/-- The admission test of R220 for a frame at its egress facet. -/
def admitTest (s : State) (f : Frame) : Verdict :=
  let q := frameQueue f
  let g := queueFacet q
  let c := hdrCells f.hdr
  if charged s .minimum (ofQueue q) + c ≤ rd s (Reg.QCLASS_MIN_CELLS (queueClass q)) then .pass .minimum
  else
    let room := roomTest s f q c (sharedFree s g) (charged s .shared (ofQueue q)) (openUsed s g)
    let quotaOk := decide (tenantShared s g (hdrTen f.hdr) + c ≤ rd s (Reg.TENBUF_QUOTA (hdrTen f.hdr)))
    if room && quotaOk then .pass .shared
    else if queueVl q = 8 then
      if quotaOk = false then .drop 0x21
      else if hdrKind f.hdr = KindCode.MIRROR then .drop 0x23
      else .pushOut
    else if quotaOk ∧ charged s .headroom (fun x => decide (x.egress = f.egress) && decide (x.outVl = f.outVl)) + c
        ≤ rd s Reg.BUFCFG_HEADROOM then .pass .headroom
    else .wait (if quotaOk then .room else .quota)

/-! ## Push-out (R223, R224) -/

/-- A whole frame of which no block has left (R224). -/
def victimOk (f : Frame) : Bool := decide (f.place = .queued) && f.whole

/-- Tail frames of a queue, last first, as victims; a frame still arriving is skipped. -/
def tailVictims (s : State) (q : Nat) : List Nat :=
  ((equeue s q).order.reverse).filter (fun id => match findFrame s id with
    | some f => victimOk f
    | none => false)

/-- MIRROR frames at the tail of a queue; a frame that is still arriving is passed over (R224). -/
def mirrorTail (s : State) (q : Nat) : List Nat :=
  (((equeue s q).order.reverse).takeWhile (fun id => match findFrame s id with
    | some f => decide (hdrKind f.hdr = KindCode.MIRROR) || !f.whole
    | none => false)).filter (fun id => match findFrame s id with
    | some f => victimOk f
    | none => false)

/-- VL8 queues of a facet and TC that hold frames, longest on die first, lower port at ties. -/
def openQueuesByLength (s : State) (g tc : Nat) : List Nat :=
  let qs := (List.range 256).map (fun i => queueOf (g * 256 + i) 8 tc)
  let qs := qs.filter (fun q => (equeue s q).order ≠ [])
  sortBy (fun a b => decide (dieCells s b < dieCells s a) || (decide (dieCells s a = dieCells s b) && decide (a ≤ b))) qs

/-- Victims in the order R223 searches them. -/
def victimOrder (s : State) (q : Nat) : List Nat :=
  let p := queuePort q
  let tc := queueTc q
  let step1 := (List.range 8).flatMap (fun t => mirrorTail s (queueOf p 8 t))
  let step2 := (List.range tc).flatMap (fun t => tailVictims s (queueOf p 8 t))
  let step3 := (List.range tc).flatMap (fun t =>
    (openQueuesByLength s (queueFacet q) t).flatMap (fun x => tailVictims s x))
  (step1 ++ step2 ++ step3).eraseDups

/-- Shared cells a list of victims would give back, and those of one queue. -/
def victimShared (s : State) (vs : List Nat) (p : Frame → Bool) : Nat :=
  vs.foldl (fun n id => match findFrame s id with
    | some f => if f.region = .shared ∧ p f = true then n + f.cells else n
    | none => n) 0

/-- The arriving frame would pass the room test once the victims are gone. -/
def roomAfter (s : State) (f : Frame) (vs : List Nat) : Bool :=
  let q := frameQueue f
  let g := queueFacet q
  let back := victimShared s vs (fun _ => true)
  roomTest s f q (hdrCells f.hdr) (sharedFree s g + back)
    (charged s .shared (ofQueue q) - victimShared s vs (ofQueue q)) (openUsed s g - back)

/-- The least number of victims, up to four, that makes the frame pass. -/
def chooseVictims (s : State) (f : Frame) : Option (List Nat) :=
  let vs := (victimOrder s (frameQueue f)).take 4
  ((List.range (vs.length + 1)).map (fun n => vs.take n)).find? (fun v => roomAfter s f v)

/-! ## Spill (R225 to R230) -/

/-- Frames of a queue behind its last spilled one: the on-die tail, in order. -/
def spillTail (s : State) (q : Nat) : List Nat :=
  ((equeue s q).order.reverse.takeWhile (fun id => match findFrame s id with
    | some f => decide (f.segment = 0)
    | none => false)).reverse

/-- The first frames of a list up to the first boundary at or after `n` cells, and the rest. -/
def cutAt (s : State) (n : Nat) : Nat → List Nat → List Nat × List Nat
  | _, [] => ([], [])
  | have_, id :: rest =>
    if n ≤ have_ then ([], id :: rest)
    else
      let c := match findFrame s id with
        | some f => hdrCells f.hdr
        | none => 0
      let r := cutAt s n (have_ + c) rest
      (id :: r.1, r.2)

def listCells (s : State) (ids : List Nat) : Nat :=
  ids.foldl (fun n id => match findFrame s id with
    | some f => n + hdrCells f.hdr
    | none => n) 0

def listBytes (s : State) (ids : List Nat) : Nat :=
  ids.foldl (fun n id => match findFrame s id with
    | some f => n + hdrBytes f.hdr
    | none => n) 0

/-- The channel group of a stack that takes its next segment: they alternate, but for one out of service (R225, R231). -/
def segmentGroup (s : State) (g : Nat) : Nat :=
  if s.egress.hbmOut.contains (g * 2) then 1
  else if s.egress.hbmOut.contains (g * 2 + 1) then 0 else s.egress.nextGroup.getD g 0

/-- Tail segments that have closed are written out, oldest first, while R230 allows; every frame of a
segment has wholly arrived. Fuel is the number of frames of the tail. -/
def writeSegments : Nat → State → Nat → List Nat → State
  | 0, s, _, _ => s
  | n + 1, s, q, tail =>
    let r := cutAt s 32 0 tail
    let ids := r.1
    let cells := listCells s ids
    let whole := ids.all (fun id => match findFrame s id with
      | some f => f.whole || f.poison
      | none => false)
    let ten := match ids with
      | id :: _ => (match findFrame s id with
        | some f => hdrTen f.hdr
        | none => 0)
      | [] => 0
    if ids = [] ∨ cells < 32 ∨ whole = false then s
    else if spillStopped s q ten cells then
      let g := queueFacet q
      if spillRegion s g < facetSpill s g + cells ∧ s.egress.spillFull.contains g = false then
        modEgress (raise s Code.SPILL_FULL g []) (fun e => { e with spillFull := g :: e.spillFull })
      else s
    else
      let g := queueFacet q
      let sid := s.egress.nextSegment
      let grp := segmentGroup s g
      let youngest := ids.foldl (fun m id => match findFrame s id with
        | some f => max m f.arrival
        | none => m) 0
      let s := modEgress s (fun e => { e with
        nextSegment := sid + 1, nextGroup := e.nextGroup.set g (1 - segmentGroup s g), spillFull := e.spillFull.filter (fun x => decide (x ≠ g)) })
      let s := modQueue s q (fun e => { e with segments := e.segments ++
        [⟨sid, grp, (Config.segmentAddress sid).toNat, ids, cells, listBytes s ids, youngest, .writing⟩] })
      let s := ids.foldl (fun s id => modFrame s id (fun f => { f with segment := sid })) s
      writeSegments n s q r.2

/-- Entry to spill state and the writing of closed segments (R227). -/
def spillStep (s : State) (q : Nat) : State :=
  let e := equeue s q
  let own := sumFrames s (fun f => ofQueue q f && decide (f.region ≠ .none) && decide (f.region ≠ .prefetch))
    (fun f => f.cells)
  if rd s (Reg.QCLASS_SPILL_EN (queueClass q)) = 0 ∨ queueVl q = 6 ∨ queueVl q = 7 ∨
      rd s Reg.BUFCFG_SPILL_GIB = 0 then s
  else if e.spill ∧ e.segments ≠ [] then writeSegments e.order.length s q (spillTail s q)
  else if rd s Reg.BUFCFG_SPILL_ON < own then
    let s := modQueue s q (fun e => { e with spill := true })
    let tail := spillTail s q
    writeSegments e.order.length s q
      ((cutAt s (rd s Reg.BUFCFG_SPILL_KEEP) 0 e.order).2.filter (fun id => tail.contains id))
  else s

/-! ## Joining a queue (R34, R227, R244, R257, R282) -/

/-- CE is set at admission (R282): the wait, or the depth before the frame is added. -/
def ecnMark (s : State) (f : Frame) : State × Frame :=
  let q := frameQueue f
  let c := queueClass q
  let ecn := hdrEcn f.hdr
  if (ecn ≠ 1 ∧ ecn ≠ 2) ∨ queueVl q = 6 ∨ queueVl q = 7 then (s, f)
  else
    let lvl := depthLevel (depthBytes s q)
    let lo := rd s (Reg.ECNCLASS_MARK_LO c)
    let hi := rd s (Reg.ECNCLASS_MARK_HI c)
    let marked := fun (s : State) => 
      (inc (countFrame s f.egress 0x3001 f.hdr) (Reg.PORTSTAT_ECN_MARKED f.egress) 64, { f with hdr := setCe f.hdr })
    if f.roomWaited ∨ hi ≤ lvl then marked s
    else if lo ≤ lvl then
      let r := nextRandom s (markingGen (queueFacet q))
      if r.2 % 65536 < rd s (Reg.ECNCLASS_PMAX c) * 256 * (lvl - lo + 1) / (hi - lo + 1) then marked r.1
      else (r.1, f)
    else (s, f)

/-- The frame is at its egress facet's queue (R215). -/
def enqueue (s : State) (id : Nat) : State :=
  match findFrame s id with
  | none => s
  | some f =>
    let q := frameQueue f
    let s := putFrame s id { f with place := .queued }
    let s := modQueue s q (fun e => { e with order := e.order ++ [id] })
    settle (spillStep s q) id

/-- A frame is charged and admitted (R216, R220): marked, its queue woken, and either queued in its own
facet or granted to cross the lattice (R30). A wake aborts the entry to sleep (R115). -/
def admitFrame (s : State) (id : Nat) (r : Region) : State :=
  match findFrame s id with
  | none => s
  | some f =>
    let q := frameQueue f
    let p := queuePort q
    let fresh := queueEmpty s q
    let m := ecnMark s f
    let f := m.2
    let s := m.1
    let s := if fresh then wakeQueue s q else s
    let s := putFrame s id { f with
      region := r, cells := hdrCells f.hdr, cause := .none, cutThrough := fresh, admitted := now s,
      place := .granted }
    let g := queueFacet q
    let s := raiseTo s (Reg.QUEUE_PEAK_CELLS q) (dieCells s q + spillCells s q)
    let s := if sharedFree s g < rd s (Reg.FACETBUF_SHARED_FREE_LOW g) then
        wr s (Reg.FACETBUF_SHARED_FREE_LOW g) (sharedFree s g) else s
    let s := wakePort p s
    let s := if f.facet = g then enqueue s id else settle s id
    if f.mirror = 0xFF then copyDone s f.parentId else s

/-- Requests on one wait list: same ingress port, queue and tenant (R221). -/
def sameList (f h : Frame) : Bool :=
  decide (f.ingress = h.ingress) && decide (frameQueue f = frameQueue h) && decide (hdrTen f.hdr = hdrTen h.hdr)

/-- An earlier request of the same list still waits. -/
def listBlocked (s : State) (id : Nat) (f : Frame) : Bool :=
  s.frames.any (fun e => decide (e.1 ≠ id) && decide (e.2.place = .waiting) && sameList f e.2 &&
    (decide (f.place ≠ .waiting) || decide (e.2.waitSince < f.waitSince) ||
      (decide (e.2.waitSince = f.waitSince) && decide (e.1 < id))))

/-- The request waits at the egress facet (R221); a request that waits with cause QUOTA is counted once (R242). -/
def waitFrame (s : State) (id : Nat) (f : Frame) (c : WaitCause) : State :=
  let s := if c = .quota ∧ f.quotaWaited = false then inc s (Reg.TENBUF_QUOTA_WAITS (hdrTen f.hdr)) 32 else s
  putFrame s id { f with
    place := .waiting, cause := c, waitSince := if f.place = .waiting then f.waitSince else now s,
    causeSince := if f.place = .waiting ∧ f.cause = c then f.causeSince else now s,
    quotaWaited := f.quotaWaited || decide (c = .quota),
    roomWaited := f.roomWaited || decide (c = .room) }

/-- Cause with which the head of the frame's own list waits. -/
def listCause (s : State) (f : Frame) : WaitCause :=
  match s.frames.find? (fun e => decide (e.2.place = .waiting) && sameList f e.2) with
  | some e => e.2.cause
  | none => .room

/-- One request is tested (R220, R221, R223). -/
def testRequest (s : State) (id : Nat) : State :=
  match findFrame s id with
  | none => s
  | some f =>
    if listBlocked s id f then waitFrame s id f (listCause s f)
    else match admitTest s f with
    | .pass r => admitFrame s id r
    | .drop code => dropOut s id code
    | .wait c => waitFrame s id f c
    | .pushOut =>
      match chooseVictims s f with
      | some vs => admitFrame (vs.foldl (fun s v => dropOut s v 0x22) s) id .shared
      | none => dropOut s id 0x20

/-- Waiting requests of a facet, CTRL VLs first and then the oldest (R221). -/
def waitingOrder (s : State) (g : Nat) : List Nat :=
  let ws := s.frames.filter (fun e => decide (e.2.place = .waiting) && decide (e.2.egress / 256 = g))
  let ws := sortBy (fun a b =>
    let ca := decide (a.2.outVl = 6 ∨ a.2.outVl = 7)
    let cb := decide (b.2.outVl = 6 ∨ b.2.outVl = 7)
    if ca ≠ cb then ca
    else decide (a.2.waitSince < b.2.waitSince) || (decide (a.2.waitSince = b.2.waitSince) && decide (a.1 ≤ b.1))) ws
  ws.map (fun e => e.1)

/-- ADMISSION_RETRY (R221). -/
def doAdmissionRetry (g : Nat) (s : State) : State := (waitingOrder s g).foldl testRequest s

/-- ADMIT_REQUEST (R220, R262): waiting requests are tested again before a new arrival. -/
def doAdmitRequest (id : Nat) (s : State) : State :=
  match findFrame s id with
  | none => s
  | some f =>
    if f.place ≠ .asked then s
    else
      let s := doAdmissionRetry (f.egress / 256) s
      (channelAhead s id f ++ [id]).foldl (fun s x => testRequest (police s x) x) s

/-! ## Write and prefetch completions -/

/-- A segment's state changed. -/
def setSegment (s : State) (q sid : Nat) (p : SegPlace) : State :=
  modQueue s q (fun e => { e with segments := e.segments.map (fun x => if x.id = sid then { x with place := p } else x) })

def findSegment (s : State) (q sid : Nat) : Option Segment := (equeue s q).segments.find? (fun x => decide (x.id = sid))

/-- SEGMENT_WRITE_DONE (R227): cells freed, charges released. -/
def doSegmentWriteDone (g sid : Nat) (s : State) : State :=
  match (facetSegments s g).find? (fun x => decide (x.2.id = sid) && decide (x.2.place = .writing)) with
  | none => s
  | some (q, x) =>
    let s := x.frames.foldl (fun s id => modFrame s id (fun f =>
      if f.place = .queued then { f with region := .none, cells := 0 } else f)) s
    let s := countIn s (hbmBank g x.group) 0x6001 { bytes := x.bytes }
    setSegment s q sid .held

/-- Cells of the on-die head of a queue in spill state: the frames ahead of its first segment not read
(R228). -/
def headCells (s : State) (q : Nat) : Nat :=
  let out := ((equeue s q).segments.filter (fun x => decide (x.place ≠ .read))).map (fun x => x.id)
  ((equeue s q).order.takeWhile (fun id => match findFrame s id with
    | some f => !out.contains f.segment
    | none => false)).foldl (fun n id => match findFrame s id with
    | some f => n + f.cells
    | none => n) 0

/-- PREFETCH_ISSUE (R228): the oldest segment not being read, two at most in flight, 64 pool cells
free; what a stalled queue gave back is read again once link credit covers its head's charge (R281). -/
def doPrefetchIssue (q : Nat) (s : State) : State :=
  let e := equeue s q
  let reading := (e.segments.filter (fun x => decide (x.place = .reading))).length
  match e.segments.find? (fun x => decide (x.place ≠ .read) && decide (x.place ≠ .reading)) with
  | none => s
  | some x =>
    if e.spill ∧ x.place = .held ∧ reading < 2 ∧ headCells s q < rd s Reg.BUFCFG_PF_LOW ∧
        prefetchUsed s (queueFacet q) + 64 ≤ rd s Reg.BUFCFG_PF_POOL ∧ (e.gaveBack = false ∨ headCredit s q = true) then
      modQueue (setSegment s q x.id .reading) q (fun e => { e with gaveBack := false })
    else s

/-- PREFETCH_DONE (R228, R231): the frames join the head; those with a failed word are discarded. `corrected` words were set
right (R453 0x6005). -/
def doPrefetchDone (q sid : Nat) (bad : List Nat) (corrected : Nat) (s : State) : State :=
  match findSegment s q sid with
  | none => s
  | some x =>
    if x.place ≠ .reading then s
    else
      let g := queueFacet q
      let s := countIn s (hbmBank g x.group) 0x6002 { bytes := x.bytes }
      let s := countIn s (hbmBank g x.group) 0x6005 { events := corrected }
      let s := setSegment s q sid .read
      let s := x.frames.foldl (fun s id => modFrame s id (fun f =>
        { f with region := .prefetch, cells := hdrCells f.hdr })) s
      let s := raiseTo s (Reg.QUEUE_PEAK_CELLS q) (dieCells s q + spillCells s q)
      let lost := x.frames.filter (fun id => bad.contains id)
      let s := if lost = [] then s
        else countIn (raise s Code.SPILL_ECC g []) (hbmBank g x.group) 0x6006 { events := lost.length }
      let s := lost.foldl (fun s id => dropOut s id 0x28) s
      queueSettled s q

/-- PF_STALL_TIMER (R281): a stalled queue gives its prefetched cells back; the frames are read again
later. -/
def doPfStall (q : Nat) (s : State) : State :=
  let e := equeue s q
  match e.stallSince with
  | none => s
  | some t =>
    if e.spill = false ∨ now s - t < rd s Reg.FLOWCFG_PF_STALL ∨ headCredit s q = true then s
    else
      let s := e.order.foldl (fun s id => modFrame s id (fun f =>
        if f.region = .prefetch ∧ f.place = .queued then { f with region := .none, cells := 0 } else f)) s
      modQueue s q (fun e => { e with gaveBack := true, segments := e.segments.map (fun x =>
        if x.place = .read then { x with place := .held } else x) })

/-- What a tick does for a queue in spill state: tail segments that a stop of R230 held back are written once it ends (R227),
and the time its head has lacked link credit is kept (R281). -/
def spillTick (s : State) (q : Nat) : State :=
  let s := spillStep s q
  let lacks := (headOf s q).isSome && !headCredit s q
  modQueue s q (fun e => { e with stallSince := if lacks then some (e.stallSince.getD (now s)) else none })

/-- The queue part of HBM_CG_OUT (R231): segments of the group are freed without reading and their
frames counted; a segment still being written stays on die. -/
def hbmQueuesOut (g cg : Nat) (s : State) : State :=
  let segs := (facetSegments s g).filter (fun x => decide (x.2.group = cg))
  let lost := segs.filter (fun x => decide (x.2.place = .held) || decide (x.2.place = .reading))
  let s := if lost = [] then s else raise s Code.SPILL_LOST g []
  let s := lost.foldl (fun s x => x.2.frames.foldl (fun s id => dropOut s id 0x29) s) s
  let s := segs.foldl (fun s x =>
    let s := x.2.frames.foldl (fun s id => modFrame s id (fun f => { f with segment := 0 })) s
    modQueue s x.1 (fun e => { e with segments := e.segments.filter (fun y => decide (y.id ≠ x.2.id)) })) s
  segs.foldl (fun s x => queueSettled s x.1) s

/-! ## The residence sweep (R233) -/

/-- The run of expired frames at the front of a list. -/
def expiredRun (s : State) (ids : List Nat) : List Nat :=
  ids.takeWhile (fun id => match findFrame s id with
    | some f => expired s f
    | none => false)

/-- Traces that wait for a grant of a facet's pool: PRIORITY teams first, then in request order (R358). -/
def poolQueue (s : State) (g : Nat) : List (Nat × Frame) :=
  let ws := s.frames.filter (fun e => decide (e.2.place = .poolWait) && decide (e.2.home = g))
  sortBy (fun a b => (a.2.priority && !b.2.priority) || (decide (a.2.priority = b.2.priority) &&
    (decide (a.2.waitSince < b.2.waitSince) || (decide (a.2.waitSince = b.2.waitSince) && decide (a.1 ≤ b.1))))) ws

/-- Expired frames of a facet's queue heads and of segments whose youngest frame has expired. -/
def expiredQueued (s : State) (g : Nat) : List Nat :=
  let heads := s.egress.queues.flatMap (fun e => if queueFacet e.1 = g then expiredRun s e.2.order else [])
  let segs := (facetSegments s g).flatMap (fun x =>
    if x.2.place = .held ∧ resLimit s < now s - x.2.youngest then x.2.frames else [])
  (heads ++ segs).eraseDups

/-- Expired frames at the fronts of the wait lists of a facet: each list is of one ingress port, queue
and tenant, in the order of its requests. -/
def expiredWaiting (s : State) (g : Nat) : List Nat :=
  let ws := (s.frames.filter (fun e => decide (e.2.place = .waiting) && decide (e.2.egress / 256 = g)))
  (ws.filter (fun e => expired s e.2 && ws.all (fun h =>
    !(sameList e.2 h.2 && !expired s h.2 && (decide (h.2.waitSince < e.2.waitSince) ||
      (decide (h.2.waitSince = e.2.waitSince) && decide (h.1 < e.1))))))).map (fun e => e.1)

/-- RESIDENCE_SWEEP (R233): queue heads, wait lists, hold lists and trace-pool waits of a facet. -/
def doResidenceSweep (g : Nat) (s : State) : State :=
  let queued := expiredQueued s g
  let held := s.forward.holds.flatMap (fun e => if e.1 % 8 = g then expiredRun s e.2 else [])
  let pool := expiredRun s ((poolQueue s g).map (fun e => e.1))
  let staged := expiredWaiting s g ++ held ++ pool
  if queued = [] ∧ staged = [] then s
  else
    let s := queued.foldl (fun s id => dropOut s id 0x25) s
    let s := staged.foldl (fun s id => dropIn s id 0x25) s
    raise s Code.RESIDENCE_EXPIRED g []

end Sys2Proof.Machine
end

