-- ==== Sys2Proof/Machine/Forward.lean ====
section
/-! DEFINITION. Forwarding, Spraying and Ordering (R184 to R207): stage 3 with its tables, the pins and
holds, multicast and learning; mirror copies (R236 to R240); the frames the solid originates; and the
commands of a frame's arrival (R164 to R175). -/

namespace Sys2Proof.Machine

/-! ## Identity -/

def ownEid (s : State) : Nat := rd s Reg.SOLID_OWN_EID

/-! ## Destination and substitution (R184, R185, R419) -/

/-- The KINDs that each ACTION accepts (R185). -/
def actionAccepts (action kind : Nat) : Bool :=
  match action with
  | 1 => decide (kind = 0 ∨ kind = 2 ∨ kind = 3 ∨ kind = 4 ∨ kind = 5 ∨ kind = 6 ∨ kind = 8 ∨ kind = 9 ∨ kind = 10)
  | 2 => decide (kind = 2 ∨ kind = 3 ∨ kind = 4 ∨ kind = 5 ∨ kind = 6 ∨ kind = 8)
  | 3 => decide (kind = 1)
  | 4 => decide (kind = 9)
  | _ => false

/-- TARGET of a FORWARD entry, or the ALT_RG of a FAILOVER instance that has substituted (R419). -/
def forwardTarget (s : State) (stamp dst : Nat) : Nat :=
  match (List.range 64).find? (fun i => decide (rd s (Reg.FAILOVER_STATE i) = 2) &&
      decide (rd s (Reg.FAILOVER_DST i) = dst)) with
  | some i => cfgAt s stamp (Reg.FAILOVER_ALT_RG i)
  | none => cfgAt s stamp (Reg.DEST_TARGET dst)

/-- FAILOVER instances act once their destination's group has no live member (R419). -/
def failoverCheck (s : State) : State :=
  (List.range 64).foldl (fun s i =>
    let d := rd s (Reg.FAILOVER_DST i)
    let alt := rd s (Reg.FAILOVER_ALT_RG i)
    if d < 2 ^ 20 ∧ rd s (Reg.FAILOVER_STATE i) ≠ 2 ∧ rd s (Reg.DEST_ACTION d) = 1 ∧
        (liveMembers s s.sets.stamp (rd s (Reg.DEST_TARGET d))).isEmpty then
      let s := wr (wr s (Reg.FAILOVER_STATE i) 2) (Reg.FAILOVER_SINCE i) (now s)
      raise s Code.FAILOVER 0xFF [(32, d), (16, alt)]
    else s) s

/-! ## Pin hash and cache (R193, R410) -/

/-- Effective hash seed of a set (R193). -/
def hashSeed (s : State) (stamp : Nat) : Nat :=
  let x := cfgAt s stamp Reg.FORWARD_HASH_SEED
  if x = 0 then rd s Reg.IDENTITY_SERIAL % 2 ^ 32 else x

/-- The pin slot of a channel (R193). -/
def pinSlot (seed ten src dst chan : Nat) : Nat :=
  let h := crc32c (bytesBE 8 (joinFields [(10, ten), (20, src), (20, dst), (8, chan)]) ++ bytesBE 4 seed)
  (field h 24 8) ^^^ (field h 16 8) ^^^ (field h 8 8) ^^^ (field h 0 8)

def slotOfFrame (s : State) (f : Frame) : Nat :=
  pinSlot (hashSeed s f.stamp) (hdrTen f.hdr) (hdrSrc f.hdr) (hdrDst f.hdr) (hdrChan f.hdr)

/-- Key of an ordered channel, 64 bits (R410). -/
def cacheKey (h : Block) : Nat :=
  joinFields [(10, hdrTen h), (20, hdrSrc h), (20, hdrDst h), (8, hdrChan h), (3, hdrMsg h), (3, hdrTc h)]

def cacheBucket (key : Nat) : Nat := crc32c (bytesBE 8 key) % 2 ^ 14

/-- An ordered-channel cache entry not used within REPIN_WINDOW is free (R410). -/
def cacheFree (s : State) (i : Nat) : Bool :=
  match Tab.find s.forward.cache i with
  | none => true
  | some e => decide (repinWindow s ≤ now s - e.last)

/-- A pinned UNICAST frame refreshes or inserts its cache entry; a full bucket leaves the slot untracked
(R410). -/
def trackChannel (s : State) (f : Frame) (g slot : Nat) : State :=
  if hdrKind f.hdr ≠ KindCode.UNICAST then s
  else
    let key := cacheKey f.hdr
    let base := f.facet * 65536 + cacheBucket key * 4
    let ways := [base, base + 1, base + 2, base + 3]
    let hit := ways.find? (fun i => match Tab.find s.forward.cache i with
      | some e => decide (e.key = key)
      | none => false)
    let at_ := match hit with
      | some i => some i
      | none => ways.find? (cacheFree s)
    match at_ with
    | some i => modForward s (fun w => { w with cache := Tab.set w.cache i ⟨key, g, slot, now s⟩ })
    | none => modForward s (fun w => { w with
        untracked := Tab.put 0 w.untracked (g * 256 + slot) (now s + repinWindow s) })

/-! ## Sending toward a port (R275, R276) -/

/-- TURN_UP: from an uplink or ring port to an uplink (R276). -/
def turnsUp (s : State) (stamp p q : Nat) : Bool :=
  let a := cfgAt s stamp (Reg.FLOWPORT_ORIENT p)
  let b := cfgAt s stamp (Reg.FLOWPORT_ORIENT q)
  decide (p < 2048) && decide (a = 1 ∨ a = 3) && decide (b = 1)

/-- The frame goes to stage 4 or 5 with the fields this switch changes (R155, R159, R196, R275). -/
def sendToward (s : State) (id q : Nat) (repin : Bool) : State :=
  match findFrame s id with
  | none => s
  | some f =>
    if turnsUp s f.stamp f.ingress q then
      dropIn (raise s Code.TURN_UP (f.facet) [(16, twinPort s f.ingress), (16, twinPort s q)]) id 0x40
    else
      let line := decide (hdrMsg f.hdr ≤ 3) && decide (cfgAt s f.stamp (Reg.FLOWPORT_DATELINE q) = 1)
      if line ∧ hdrDl f.hdr = 1 then
        dropIn (raise s Code.DATELINE_TWICE (f.facet) [(16, twinPort s f.ingress), (16, twinPort s q), (24, hdrSrc f.hdr)]) id 0x41
      else
        let h := if line then setDl f.hdr else openDl f.hdr
        let h := if f.ingress < 2048 then setHop h (hdrHop h + 1) else h
        let h := if repin then setRepin h else h
        putFrame s id { f with
          hdr := h, egress := q, outVl := vlOf (hdrMsg h) (hdrDl h),
          repinHere := repin && decide (hdrRepin f.hdr = 0),
          place := if f.facet = q / 256 then .asked else .request }

/-! ## Spray and pin (R189 choose, R191, R194, R198) -/

/-- Level of a member seen from a facet: its own ports' now, others' as last published (R191). -/
def levelSeen (s : State) (facet q : Nat) : Nat :=
  if queueFacet q = facet then depthLevel (depthBytes s q) else Tab.get 0 s.forward.published q

/-- Members that share the lowest level, in ascending port order. -/
def lowest (s : State) (facet vl tc : Nat) (ps : List Nat) : List Nat :=
  let lv := fun p => levelSeen s facet (queueOf p vl tc)
  match ps with
  | [] => []
  | p :: rest =>
    let m := rest.foldl (fun m x => min m (lv x)) (lv p)
    ps.filter (fun x => decide (lv x = m))

/-- The choice of R191 and R192 among live members other than the ingress port. -/
def spray (s : State) (f : Frame) (g : Nat) : State × Option Nat :=
  let ps := (liveMembers s f.stamp g).filter (fun p => decide (p ≠ f.ingress))
  let ts := lowest s f.facet (hdrVl f.hdr) (hdrTc f.hdr) ps
  if ts = [] then (s, none)
  else
    let r := nextRandom s (if f.ingress < 2048 then vertexOf f.ingress else originationGen f.facet)
    (r.1, some (ts.getD (r.2 % ts.length) 0))

/-- Hold-pool cells in use in a facet (R198). -/
def holdUsed (s : State) (facet : Nat) : Nat :=
  sumFrames s (fun f => decide (f.place = .held) && decide (f.facet = facet)) (fun f => hdrCells f.hdr)

/-- The slot's hold list in a facet. -/
def holdList (s : State) (g slot facet : Nat) : List Nat := Tab.get [] s.forward.holds (holdKey g slot facet)

/-- A hold applies to the slot (R198); frames also join a list that is not empty (R199). -/
def holdApplies (s : State) (stamp g slot facet : Nat) : Bool :=
  let cur := cfgAt s stamp (Reg.PINSLOT_CURRENT (g * 256 + slot))
  decide (rd s (Reg.RGROUP_HOLD g) = 1) || (decide (cur < 2048) && retiring s cur) ||
    !(holdList s g slot facet).isEmpty

/-- The frame goes to its facet's hold pool, or is discarded where the pool is full (R198). -/
def holdFrame (s : State) (id g slot : Nat) : State :=
  match findFrame s id with
  | none => s
  | some f =>
    if 8192 < holdUsed s f.facet + hdrCells f.hdr then
      dropIn (raise s Code.HOLD_OVERFLOW f.facet []) id 0x19
    else
      let s := putFrame s id { f with place := .held, group := g, slot := slot }
      let s := modForward s (fun w => { w with
        holds := Tab.put [] w.holds (holdKey g slot f.facet) (holdList s g slot f.facet ++ [id]) })
      settle (countFrameIn s (facetBank f.facet) 0x8116 f.hdr) id

/-- The slot is in its repin window (R196). -/
def inRepin (s : State) (g slot : Nat) : Bool :=
  match Tab.find s.forward.repinEnd (g * 256 + slot) with
  | some t => decide (now s < t)
  | none => false

/-- choose() of R189. -/
def choose (s : State) (id g : Nat) : State :=
  match findFrame s id with
  | none => s
  | some f =>
    if (liveMembers s f.stamp g).isEmpty then dropIn s id 0x15
    else if pins f.hdr then
      let slot := slotOfFrame s f
      if holdApplies s f.stamp g slot f.facet ∧ hdrKind f.hdr ≠ KindCode.DRAIN_MARK then holdFrame s id g slot
      else
        let cur := cfgAt s f.stamp (Reg.PINSLOT_CURRENT (g * 256 + slot))
        if 2048 ≤ cur then dropIn s id 0x15
        else if cur = f.ingress then dropIn s id 0x16
        else
          let repin := inRepin s g slot || f.heldRepin
          let s := trackChannel s f g slot
          let s := wr s (Reg.PINSLOT_LAST_USE (g * 256 + slot)) (now s)
          let s := putFrame s id { f with group := g, slot := slot }
          sendToward s id cur repin
    else
      let r := spray s f g
      match r.2 with
      | none => dropIn r.1 id 0x16
      | some q => sendToward r.1 id q false

/-! ## Multicast (R201) -/

/-- Copies are made and sent toward their ports; the original waits for their admission. -/
def sendCopies (s : State) (id : Nat) (f : Frame) (ports : List Nat) : State :=
  let s := putFrame s id { f with place := .parent, copiesLeft := ports.length }
  let s := ports.foldl (fun s q =>
    let r := newFrame s { f with parentId := id, credits := 0 }
    sendToward r.1 r.2 q false) s
  settle s id

/-- replicate() of R201; a pair port carries no fabric traffic (R3). -/
def replicate (s : State) (id t : Nat) : State :=
  match findFrame s id with
  | none => s
  | some f =>
    let gten := cfgAt s f.stamp (Reg.MCAST_GTEN t)
    if gten ≠ 0x0400 ∧ gten ≠ hdrTen f.hdr then dropIn s id 0x17
    else
      let ps := (mapPorts (fun i => cfgAt s f.stamp (Reg.MCAST_PORTS t i))).filter
        (fun p => live s p && !isPairPort s p && decide (p ≠ f.ingress))
      let up := cfgAt s f.stamp (Reg.MCAST_UP_RG t)
      let r := if up < 4096 ∧ ¬ (f.ingress < 2048 ∧ groupHas s f.stamp up f.ingress = true) then spray s f up
        else (s, none)
      let all := ps ++ r.2.toList
      if all = [] then dropIn r.1 id 0x18 else sendCopies r.1 id f all

/-! ## Learning and bridging (R202 to R205) -/

/-- Bucket of a learned key (R202). -/
def learnBucket (ten mac : Nat) : Nat := crc32c (bytesBE 8 (joinFields [(10, ten), (48, mac)])) % 2 ^ 16

/-- Entry of a key: a static one under the frame's set, or a learned one (R202). -/
def learnedWay (s : State) (stamp ten mac : Nat) : Option (Nat × Nat × Bool) :=
  let b := learnBucket ten mac * 4
  ([b, b + 1, b + 2, b + 3].filterMap (fun i =>
    if cfgAt s stamp (Reg.LEARN_STATE i) = 2 then
      (if cfgAt s stamp (Reg.LEARN_TEN i) = ten ∧ cfgAt s stamp (Reg.LEARN_MAC i) = mac then
        some (i, cfgAt s stamp (Reg.LEARN_EID i), true) else none)
    else match Tab.find s.forward.learned i with
      | some e => if e.ten = ten ∧ e.mac = mac then some (i, e.eid, false) else none
      | none => none)).head?

/-- A way of a bucket holds nothing. -/
def wayEmpty (s : State) (i : Nat) : Bool :=
  decide (rd s (Reg.LEARN_STATE i) ≠ 2) && (Tab.find s.forward.learned i).isNone

/-- The flood of R205. -/
def floodFrame (s : State) (id : Nat) (f : Frame) : State :=
  let s := countAtIngress s f 0x300B
  let s := putFrame s id { f with place := .staging, macWait := false }
  replicate s id f.flood

/-- The forwarding half of bridge() (R205). -/
def bridgeForward (s : State) (id : Nat) (failed : Bool) : State :=
  match findFrame s id with
  | none => s
  | some f =>
    let mac := ethDst (f.blocks.getD 1 0)
    let ten := hdrTen f.hdr
    match learnedWay s f.stamp ten mac with
    | none => floodFrame s id f
    | some (_, eid, _) =>
      let a := cfgAt s f.stamp (Reg.DEST_ACTION eid)
      let chk := decide (cfgAt s f.stamp (Reg.DEST_TENCHK eid) = 1) &&
        decide (cfgAt s f.stamp (Reg.DEST_TEN eid) ≠ ten)
      let t := forwardTarget s f.stamp eid
      if failed ∨ macGroup mac ∨ a ≠ 1 ∨ chk ∨ 4096 ≤ t then floodFrame s id f
      else choose (putFrame s id { f with place := .staging, macWait := false }) id t

/-- A matching entry is found: its HIT is set, and an EID that differs from SRC is replaced and the move counted (R203). The
rule makes no exception of a static entry (DEDUCED, log entry 108). -/
def learnHit (s : State) (f : Frame) (way : Nat × Nat × Bool) (ten mac src : Nat) : State :=
  let s := if way.2.1 = src then s else countAtIngress s f 0x300C
  if way.2.2 then
    modForward (wr s (Reg.LEARN_EID way.1) src) (fun w => { w with
      staticHits := if w.staticHits.contains way.1 then w.staticHits else w.staticHits ++ [way.1] })
  else modForward s (fun w => { w with learned := Tab.set w.learned way.1 ⟨ten, mac, src, true, 0⟩ })

/-- An earlier frame of the channel waits for a learned insertion (R200). -/
def learnBlocked (s : State) (id : Nat) (f : Frame) : Bool :=
  s.frames.any (fun e => decide (e.1 < id) && decide (e.2.place = .learning) && sameChannel f e.2)

/-- bridge() of R205 once the MAC addresses have arrived: the source is learned, or its insertion is
sent to the bucket's owner facet and the frame waits for the result (R203); a frame of a channel with an earlier frame that
waits stays behind it (R200). -/
def bridge (s : State) (id : Nat) : State :=
  match findFrame s id with
  | none => s
  | some f =>
    let mac := ethSrc (f.blocks.getD 1 0)
    let ten := hdrTen f.hdr
    let src := hdrSrc f.hdr
    if learnBlocked s id f then putFrame s id { f with place := .learning, macWait := false }
    else if macGroup mac ∨ rd s Reg.FORWARD_LEARN_EN = 0 then bridgeForward s id false
    else match learnedWay s s.sets.stamp ten mac with
    | some way => bridgeForward (learnHit s f way ten mac src) id false
    | none =>
      let s := putFrame s id { f with place := .learning, macWait := false }
      modForward s (fun w => { w with insertions := w.insertions ++
        [⟨id, f.flood, ten, mac, src, learnBucket ten mac⟩] })

/-- Frames that stood behind an insertion go on, in order, as far as no other insertion holds them; fuel is the number of
frames. -/
def resumeLearning : Nat → State → State
  | 0, s => s
  | n + 1, s =>
    match s.frames.find? (fun e => decide (e.2.place = .learning) && !e.2.macWait &&
        !(s.forward.insertions.any (fun x => decide (x.frame = e.1))) && !learnBlocked s e.1 e.2) with
    | none => s
    | some e => resumeLearning n (bridge s e.1)

/-- The owner facet's answer to an insertion (R203). -/
def takeInsertion (facet : Nat) (x : Insertion) (s : State) : State :=
    let s := modForward s (fun w => { w with insertions := w.insertions.erase x })
    let f := (findFrame s x.frame).getD { facet := facet }
    match learnedWay s s.sets.stamp x.ten x.mac with
    | some way => bridgeForward (learnHit s f way x.ten x.mac x.eid) x.frame false
    | none =>
      let b := x.bucket * 4
      match [b, b + 1, b + 2, b + 3].find? (wayEmpty s) with
      | some i =>
        let s := modForward s (fun w => { w with learned := Tab.set w.learned i ⟨x.ten, x.mac, x.eid, true, 0⟩ })
        bridgeForward s x.frame false
      | none =>
        let s := countAtIngress (raise s Code.LEARN_FULL facet []) f 0x300D
        bridgeForward s x.frame true

/-- LEARN_INSERTION (R203): the owner facet takes the oldest insertion sent to it. -/
def doLearnInsertion (facet : Nat) (s : State) : State :=
  match s.forward.insertions.find? (fun x => decide (x.bucket % 8 = facet)) with
  | none => s
  | some x => resumeLearning s.frames.length (takeInsertion facet x s)

/-- LEARN_SWEEP (R204). -/
def doLearnSweep (i : Nat) (s : State) : State :=
  match Tab.find s.forward.learned i with
  | none => s
  | some e =>
    if e.hit then modForward s (fun w => { w with learned := Tab.set w.learned i { e with hit := false, sweeps := 0 } })
    else if 1 ≤ e.sweeps then modForward s (fun w => { w with learned := Tab.del w.learned i })
    else modForward s (fun w => { w with learned := Tab.set w.learned i { e with sweeps := e.sweeps + 1 } })

/-! ## Local delivery (R185, R272) -/

/-- The groom is up and its request queue has room (R518, R540). -/
def requestRoom (s : State) : Bool := s.groom.up && decide (s.requests.length < 128)

/-- A message enters the request queue (R518, R543). -/
def enqueueRequest (s : State) (r : Request) : State :=
  raiseTo { s with requests := s.requests ++ [r] } Reg.SIRGO_QUEUE_PEAK (s.requests.length + 1)

/-- TELEMETRY and NOTIFY frames, other than one, that a facet's local memory holds (R272). -/
def localHeld (s : State) (id facet : Nat) : List Nat :=
  (s.frames.filter (fun e => decide (e.1 ≠ id) && decide (e.2.place = .localTo) && decide (e.2.facet = facet) &&
    decide (hdrKind e.2.hdr = KindCode.TELEMETRY ∨ hdrKind e.2.hdr = KindCode.NOTIFY))).map (fun e => e.1)

/-- A frame delivered to the solid is whole: CONTROL goes to the request queue, a marker that is no echo
is stray, TELEMETRY and NOTIFY need room in local memory (log entry 109), and they and the others wait for their own chapters'
commands (R272, R412, R518). -/
def localWhole (s : State) (id : Nat) : State :=
  match findFrame s id with
  | none => s
  | some f =>
    let s := settle s id
    if f.place ≠ .localTo ∨ f.whole = false then s
    else if hdrKind f.hdr = KindCode.CONTROL then
      if requestRoom s then
        let s := enqueueRequest s ⟨2, 0, 0, f.facet, f.hdr, f.blocks.flatMap (fun b => bytesBE 16 b.toNat)⟩
        removeFrame s id
      else dropIn s id 0x42
    else if hdrKind f.hdr = KindCode.DRAIN_MARK ∧ markEcho (f.blocks.getD 0 0) = 0 then dropIn s id 0x71
    else if (hdrKind f.hdr = KindCode.TELEMETRY ∨ hdrKind f.hdr = KindCode.NOTIFY) ∧
        Config.localFrames ≤ (localHeld s id f.facet).length then dropIn s id 0x42
    else s

/-- Delivery to the solid itself. -/
def deliverLocal (s : State) (id : Nat) : State :=
  match findFrame s id with
  | none => s
  | some f =>
    let s := if f.ingress < 2048 then countFrame s f.ingress (0x0140 + hdrKind f.hdr) f.hdr else s
    localWhole (putFrame s id { f with place := .localTo }) id

/-! ## The lookup sequence (R189) -/

/-- The line marked "originated" of R189 and what follows it. -/
def lookup (s : State) (id : Nat) : State :=
  match findFrame s id with
  | none => s
  | some f =>
    let d := hdrDst f.hdr
    let k := hdrKind f.hdr
    let a := cfgAt s f.stamp (Reg.DEST_ACTION d)
    if a = 0 ∨ 5 ≤ a then dropIn s id 0x12
    else if cfgAt s f.stamp (Reg.DEST_TENCHK d) = 1 ∧ cfgAt s f.stamp (Reg.DEST_TEN d) ≠ hdrTen f.hdr then
      dropIn s id 0x11
    else if actionAccepts a k = false then dropIn s id (if a = 2 then 0x14 else 0x13)
    else if a = 2 then deliverLocal s id
    else if a = 3 then replicate s id (cfgAt s f.stamp (Reg.DEST_TARGET d))
    else if a = 4 then
      let s := putFrame s id { f with
        flood := cfgAt s f.stamp (Reg.DEST_TARGET d), place := .learning, macWait := true }
      if 2 ≤ f.blocks.length then bridge s id else s
    else choose s id (forwardTarget s f.stamp d)

/-! ## Mirror copies (R180, R236 to R240) -/

/-- One copy of a frame for a session: `h` is the header as received or sent, `ten` the tenant the copy point sees, `p` the
mirrored port. -/
def mirrorCopy (s : State) (i dir p id : Nat) (f : Frame) (h : Block) (ten : Nat) : State :=
  let cten := rd s (Reg.MIRROR_C_TEN i)
  let facet := if dir = 0 then f.facet else p / 256
  if hdrMirr h = 1 ∨ chordHeld s p then s
  else if ten ≠ cten ∧ rd s (Reg.TENANT_ANALYSIS cten) ≠ 1 then
    discardAt (raise s Code.MIRROR_TEN facet [(8, i), (16, ten)]) p 0x82 h
  else if Config.mirrorOverRate s.nextFrame then discardAt s p 0x24 h
  else
    let olen := hdrLen h
    let n := if rd s (Reg.MIRROR_TRUNC i) = 1 then min (1 + olen) 16 else min (1 + olen) 511
    let d := mirrorDescriptor i dir (boolBit (decide (n < 1 + olen))) (twinPort s p) olen (now s)
    let blocks := d :: (h :: f.blocks).take n
    let hdr := mkHdr {
      kind := KindCode.MIRROR, msg := 4, tc := rd s (Reg.MIRROR_C_TC i), ten := cten,
      dst := rd s (Reg.MIRROR_C_DST i), src := ownEid s, seq := rd s (Reg.MIRROR_COPIES i), len := 1 + n, mirr := 1 }
    let s := inc s (Reg.MIRROR_COPIES i) 64
    let s := countFrameIn (countFrameIn s (facetBank facet) 0x8117 hdr) (facetBank facet) (0x8100 + KindCode.MIRROR) hdr
    let r := newFrame s {
      hdr := hdr, rxHdr := hdr, blocks := blocks, facet := facet, arrival := now s,
      stamp := s.sets.stamp, whole := decide (blocks.length = 1 + n), mirror := i,
      parentId := if f.parentId = 0 then id else f.parentId }
    lookup r.1 r.2

/-- Sessions that copy at a point, each once (R236, R237). -/
def mirrorAt (s : State) (id dir p : Nat) (h : Block) (ten : Nat) (test : Nat → Bool) : State :=
  match findFrame s id with
  | none => s
  | some f => ((List.range 16).filter test).foldl (fun s i => mirrorCopy s i dir p id f h ten) s

/-- TYPE 1, after the frame checks and before stage 3. -/
def mirrorIngress (s : State) (id p : Nat) (h : Block) : State :=
  mirrorAt s id 0 p h (hdrTen h) (fun i => decide (rd s (Reg.MIRROR_TYPE i) = 1) && decide (rd s (Reg.MIRROR_PORT i) = p))

/-- TYPE 2, as the first block leaves. -/
def mirrorEgress (s : State) (id p : Nat) (h : Block) : State :=
  mirrorAt s id 1 p h (hdrTen h) (fun i => decide (rd s (Reg.MIRROR_TYPE i) = 2) && decide (rd s (Reg.MIRROR_PORT i) = p))

/-- TYPE 3, in stage 3 after the tenant check: matched by the header as it is then, copied as it was received (R180, R236). -/
def mirrorMatch (s : State) (id p : Nat) (h rx : Block) : State :=
  mirrorAt s id 0 p rx (hdrTen h) (fun i => decide (rd s (Reg.MIRROR_TYPE i) = 3) &&
    decide (rd s (Reg.MIRROR_M_TEN i) = hdrTen h) &&
    (decide (rd s (Reg.MIRROR_M_DST i) = 0xFFFFFFFF) || decide (rd s (Reg.MIRROR_M_DST i) = hdrDst h)) &&
    (decide (rd s (Reg.MIRROR_M_CHAN i) = 0xFFFF) || decide (rd s (Reg.MIRROR_M_CHAN i) = hdrChan h)))

/-! ## Stage 3 for received frames (R189, R190) -/

/-- The tenant is in the port's permitted set (R433). -/
def permitted (s : State) (stamp p t : Nat) : Bool :=
  decide (cfgAt s stamp (Reg.PORTTEN_ALL p) = 1) ||
    (cfgAt s stamp (Reg.PORTTEN_PERMIT p (t / 64))).testBit (t % 64)

/-- stage3() of R189. -/
def stage3 (s : State) (id : Nat) : State :=
  match findFrame s id with
  | none => s
  | some f =>
    if hdrKind f.hdr = KindCode.EPOCH then settle (putFrame s id { f with place := .localTo }) id
    else
      let p := f.ingress
      let stamp := cfgAt s f.stamp (Reg.PORTTEN_STAMP p)
      let edge := decide (cfgAt s f.stamp Reg.CONFSET_ROLE = 1)
      let stamped := edge && endpointPort s p && decide (stamp < 1024)
      if stamped = false ∧ permitted s f.stamp p (hdrTen f.hdr) = false then dropIn s id 0x10
      else
        let h := if stamped then setTen f.hdr stamp else f.hdr
        let s := putFrame s id { f with hdr := h }
        lookup (mirrorMatch s id p h f.rxHdr) id

/-! ## Origination (R189, R603) -/

/-- Cells a facet's part of output staging holds for a MSG; EPOCH frames use none (R603). -/
def stagingUsed (s : State) (facet msg : Nat) : Nat :=
  sumFrames s (fun f => decide (2048 ≤ f.ingress) && decide (hdrKind f.hdr ≠ KindCode.EPOCH) && decide (f.facet = facet) && decide (hdrMsg f.hdr = msg) &&
    (match f.place with
      | .staging => true
      | .request => true
      | .asked => true
      | .waiting => true
      | _ => false)) (fun f => hdrCells f.hdr)

/-- The part has the cells for a frame of `len` blocks after its header (R603). -/
def stagingRoom (s : State) (facet msg len : Nat) : Bool :=
  decide (stagingUsed s facet msg + (1 + len + 15) / 16 ≤ 256)

/-- A facet originates a frame, which enters stage 3 at "originated" (R189). -/
def originate (s : State) (facet : Nat) (h : Block) (blocks : List Block) (owner : Nat := 0xFFFFFFFF) : State :=
  let s := countFrameIn s (facetBank facet) (0x8100 + hdrKind h) h
  let r := newFrame s {
    hdr := h, rxHdr := h, blocks := blocks, facet := facet, arrival := now s,
    stamp := s.sets.stamp, whole := true, markOwner := owner }
  lookup r.1 r.2

/-- The header of a NOTIFY (R284); SEQ is the facet's count. -/
def notifyHdr (s : State) (facet cause ten dst len arith : Nat) : Block :=
  mkHdr {
    kind := KindCode.NOTIFY, msg := 3, tc := rd s Reg.FLOWCFG_NOTIFY_TC, ten := ten, dst := dst,
    src := ownEid s, chan := cause, seq := (bucket s facet).seq, len := len, arith := arith }

/-- A NOTIFY leaves: a token of the facet's bucket, its count and its counters (R284, R287). -/
def sendNotify (s : State) (facet : Nat) (h : Block) (blocks : List Block) : State :=
  let s := modBucket s facet (fun b => { b with tokens := b.tokens - 1, seq := (b.seq + 1) % 65536 })
  let s := inc s Reg.FLOWCFG_NOTIFY_SENT 64
  originate (countFrameIn s (facetBank facet) 0x8110 h) facet h blocks

/-- A QUOTA NOTIFY to this DST falls within the gap (R287). -/
def inGap (s : State) (facet dst : Nat) : Bool :=
  (bucket s facet).gap.any (fun e => decide (e.1 = dst) && decide (now s - e.2 ≤ rd s Reg.FLOWCFG_NOTIFY_GAP))

/-- A sent QUOTA NOTIFY takes or refreshes its entry; with none of its own, the oldest of 4,096 (R287). -/
def noteGap (s : State) (facet dst : Nat) : State :=
  modBucket s facet (fun b =>
    let rest := b.gap.filter (fun e => decide (e.1 ≠ dst))
    -- oldest first
    let rest := if rest.length < 4096 then rest else rest.drop 1
    { b with gap := rest ++ [(dst, now s)] })

/-- QUOTA_NOTIFY_TIMER (R222, R287). -/
def doQuotaNotify (id : Nat) (s : State) : State :=
  match findFrame s id with
  | none => s
  | some f =>
    if f.place ≠ .waiting ∨ f.cause ≠ .quota ∨ f.notified ∨ now s - f.causeSince < rd s Reg.BUFCFG_QUOTA_NOTIFY then s
    else
      let g := f.egress / 256
      let t := hdrTen f.hdr
      let dst := hdrSrc f.hdr
      let s := putFrame s id { f with notified := true }
      if inGap s g dst ∨ (bucket s g).tokens = 0 ∨ stagingRoom s g 3 1 = false then
        countIn (inc s Reg.FLOWCFG_NOTIFY_SUPPRESSED 64) (facetBank g) 0x8111 { ten := some t }
      else
        let b := quotaBlock (twinPort s f.egress) f.outVl (hdrTc f.hdr) g (now s - f.waitSince) (tenantShared s g t)
          (rd s (Reg.TENBUF_QUOTA t))
        sendNotify (noteGap s g dst) g (notifyHdr s g 1 t dst 1 0) [b]

/-! ## Arrival (R164 to R175) -/

/-- A frame whose MAC addresses have now arrived is bridged (R203). -/
def resumeBridge (s : State) (id : Nat) : State :=
  match findFrame s id with
  | none => s
  | some f => if f.macWait ∧ 2 ≤ f.blocks.length then bridge s id else s

/-- Stage 2 takes what has arrived. -/
def pump (s : State) (p : Nat) : State :=
  let id := (link s p).rxFrame
  resumeBridge (pumpBlocks s p) id

/-- A frame the checks refuse: counted, its credits returned, its records written (R164, R168, R171). -/
def refuseFrame (s : State) (p why : Nat) (h : Block) : State :=
  let s := discardAt s p why h
  let s := if why = 0x07 then raise s Code.FRAME_OVERSIZE (p / 256) [(16, twinPort s p), (16, hdrLen h), (24, hdrSrc h)]
    else if why = 0x01 then raise s Code.HCRC_BAD (p / 256) [(16, twinPort s p), (128, h.toNat)] else s
  freeCredits s { rxHdr := h, ingress := p, credits := if 4 < hdrMsg h then 0 else hdrCredits h }

/-- A frame has passed its checks: the ingress copies are made, then stage 3 runs (R170, R236). -/
def passFrame (s : State) (p id : Nat) (h : Block) : State := stage3 (mirrorIngress s id p h) id

/-- FRAME_HEADER_RECEIVED (R170). -/
def doFrameHeader (p : Nat) (s : State) : State :=
  let l := link s p
  match l.rxBlocks with
  | [] => s
  | h :: rest =>
    if l.rxRemain ≠ 0 then s
    else
      let s := modLink s p (fun l => { l with
        rxBlocks := rest, rxRemain := hdrLen h, rxFrame := 0, rxHdr := h, block1 := false })
      let s := countFrame (countFrame s p (0x0100 + hdrKind h) h) p 0x0110 h
      let s := incBy (inc s (Reg.PORTSTAT_RX_FRAMES p) 64) (Reg.PORTSTAT_RX_BYTES p) 64 (hdrBytes h)
      let s := match headerCheck h (endpointPort s p) (rd s Reg.FRAME_HOP_LIMIT) with
        | some why => refuseFrame s p why h
        | none =>
          let r := newFrame s {
            hdr := h, rxHdr := h, ingress := p, facet := p / 256, arrival := now s,
            stamp := s.sets.stamp, whole := decide (hdrLen h = 0), credits := hdrCredits h }
          let s := modLink r.1 p (fun l => { l with rxFrame := r.2 })
          if needsBlock1 h then s else passFrame s p r.2 h
      truncateIfCut (pump s p) p

/-- FRAME_BLOCK1_RECEIVED (R170). -/
def doFrameBlock1 (p : Nat) (s : State) : State :=
  let l := link s p
  match l.rxBlocks, findFrame s l.rxFrame with
  | b :: rest, some f =>
    if l.block1 ∨ needsBlock1 l.rxHdr = false ∨ f.blocks ≠ [] ∨ l.rxRemain = 0 then s
    else
      let id := l.rxFrame
      let s := modLink s p (fun l => { l with block1 := true })
      match block1Check l.rxHdr b (endpointPort s p) with
      | some why => pump (removeFrame (discardIn s f why f.hdr) id) p
      | none =>
        let s := if l.rxRemain = 1 then s
          else addBlock (modLink s p (fun l => { l with rxBlocks := rest, rxRemain := l.rxRemain - 1 })) id b
        pump (passFrame s p id l.rxHdr) p
  | _, _ => s

/-- FRAME_TAIL_RECEIVED (R175): the final block is compared with the poison tail of the header as it was
received. -/
def doFrameTail (p : Nat) (s : State) : State :=
  let l := link s p
  match l.rxBlocks with
  | [] => s
  | b :: rest =>
    let id := l.rxFrame
    if l.rxRemain ≠ 1 ∨ (family s id).isEmpty ∨ (l.block1 = false ∧ needsBlock1 l.rxHdr = true) then s
    else
      let s := modLink s p (fun l => { l with rxBlocks := rest, rxRemain := 0, rxFrame := 0 })
      let fam := family s id
      let s :=
        if b = poisonTail l.rxHdr then endShort s id 0x0E
        else
          let s := addBlock s id b
          let s := fam.foldl (fun s x => modFrame s x (fun f => if f.poison then f else { f with whole := true })) s
          let s := resumeBridge s id
          let qs := (fam.filterMap (fun x => (findFrame s x).map (fun f => (f.place, frameQueue f)))).filter
            (fun x => decide (x.1 = .queued))
          let s := qs.foldl (fun s x => spillStep s x.2) s
          fam.foldl (fun s x => localWhole s x) s
      fam.foldl settle s

/-! ## Holds and pins (R194 to R199) -/

/-- Held frames of one slot are looked up again under the active set, in arrival order, facet by facet
(R199). -/
def releaseSlot (s : State) (g slot : Nat) : State :=
  (List.range 8).foldl (fun s facet =>
    let ids := holdList s g slot facet
    let s := modForward s (fun w => { w with holds := Tab.put [] w.holds (holdKey g slot facet) [] })
    ids.foldl (fun s id =>
      lookup (modFrame s id (fun f => { f with place := .staging, stamp := s.sets.stamp })) id) s) s

/-- Slots of a group that have a hold list. -/
def heldSlots (s : State) (g : Nat) : List Nat :=
  ((s.forward.holds.filter (fun e => decide (e.1 / 2048 = g))).map (fun e => e.1 / 8 % 256)).eraseDups

/-- A slot's list is released where no hold applies any longer (R199). -/
def releaseIfFree (s : State) (g slot : Nat) : State :=
  let cur := rd s (Reg.PINSLOT_CURRENT (g * 256 + slot))
  if rd s (Reg.RGROUP_HOLD g) = 1 ∨ (cur < 2048 ∧ retiring s cur = true) then s else releaseSlot s g slot

/-- Hold lists on whose slots no hold stands any longer are released (R199). -/
def releaseLists (s : State) : State :=
  ((s.forward.holds.map (fun e => e.1 / 8)).eraseDups).foldl (fun s k => releaseIfFree s (k / 256) (k % 256)) s

/-- HOLD_SET (R198). -/
def doHoldSet (g : Nat) (s : State) : State := wr s (Reg.RGROUP_HOLD g) 1

/-- HOLD_CLEAR (R199). -/
def doHoldClear (g : Nat) (s : State) : State :=
  releaseLists (wr s (Reg.RGROUP_HOLD g) 0)

/-- A slot takes another member: its repin window starts and frames held on it will carry REPIN (R196). -/
def moveSlot (s : State) (g slot p : Nat) (window : Bool) : State :=
  let i := g * 256 + slot
  let s := wr s (Reg.PINSLOT_CURRENT i) p
  let s := if window then modForward s (fun w => { w with
      repinEnd := Tab.set w.repinEnd i (now s + repinWindow s) }) else s
  (List.range 8).foldl (fun s facet => (holdList s g slot facet).foldl (fun s id =>
    modFrame s id (fun f => { f with heldRepin := f.heldRepin || window })) s) s

/-- CURRENT of each slot of a group. -/
def currents (s : State) (g : Nat) : List Nat := (List.range 256).map (fun i => rd s (Reg.PINSLOT_CURRENT (g * 256 + i)))

/-- The live member that holds the fewest slots, the lower port at ties (R195). -/
def fewest (cur ps : List Nat) : Nat :=
  let n := fun p => (cur.filter (fun c => decide (c = p))).length
  match ps with
  | [] => 0xFFFF
  | p :: rest => rest.foldl (fun best x => if n x < n best then x else best) p

/-- The slots of a group that a test picks are reassigned in ascending order (R195); with no live member
they become none. -/
def reassign (s : State) (g : Nat) (pick : Nat → Bool) : State × Nat :=
  let ps := liveMembers s s.sets.stamp g
  (List.range 256).foldl (fun r slot =>
    let c := rd r.1 (Reg.PINSLOT_CURRENT (g * 256 + slot))
    if pick c then
      let next := fewest (currents r.1 g) ps
      (moveSlot r.1 g slot next (decide (next < 2048)), r.2 + 1)
    else r) (s, 0)

/-- The slots of a port that is lost move; one record says how many (R195, R214). -/
def repinLost (s : State) (p : Nat) : State :=
  let r := (groupsWith s p).foldl (fun r g =>
    let x := reassign r.1 g (fun c => decide (c = p))
    (x.1, r.2 + x.2)) (s, 0)
  if r.2 = 0 then r.1 else raise r.1 Code.REPIN (p / 256) [(16, twinPort s p), (32, r.2)]

/-- A group that had a live member, or a slot on a port that is lost, before, and has no live member now (R214). -/
def leftNone (before s : State) (ports : List Nat) (g : Nat) : Bool :=
  (liveMembers s s.sets.stamp g).isEmpty &&
    (!(liveMembers before s.sets.stamp g).isEmpty || (currents before g).any (fun c => ports.contains c))

/-- Ports are lost to their route groups together (R195): their slots move, groups left with no live member are recorded, and
held frames go where no other hold stands. `before` is the state in which the ports were still members. -/
def groupsLose (before s : State) (ports : List Nat) : State :=
  let s := ports.foldl repinLost s
  let s := ports.foldl (fun s p => ((groupsWith s p).filter (fun g =>
      leftNone before s ports g && decide (ports.find? (fun x => groupHas s s.sets.stamp g x) = some p))).foldl
    (fun s _ => raise s Code.RG_NONE_LIVE (p / 256) []) s) s
  failoverCheck (releaseLists s)

/-- A port becomes live: slots of its groups with no member go to it (R195). -/
def groupsGainPort (s : State) (p : Nat) : State :=
  if live s p then
    (groupsWith s p).foldl (fun s g => (reassign s g (fun c => decide (c = 0xFFFF))).1) s
  else s

/-- REPIN_WINDOW_END (R196). -/
def doRepinEnd (g slot : Nat) (s : State) : State :=
  let i := g * 256 + slot
  match Tab.find s.forward.repinEnd i with
  | some t => if t ≤ now s then modForward s (fun w => { w with repinEnd := Tab.del w.repinEnd i }) else s
  | none => s

/-- PIN_RESTORE_IDLE (R197): back to HOME without REPIN. -/
def doPinRestore (g slot : Nat) (s : State) : State :=
  let i := g * 256 + slot
  let home := rd s (Reg.PINSLOT_HOME i)
  if rd s (Reg.RGROUP_PIN_RESTORE g) = 1 ∧ home ≠ rd s (Reg.PINSLOT_CURRENT i) ∧ home < 2048 ∧ live s home = true ∧
      repinWindow s ≤ now s - rd s (Reg.PINSLOT_LAST_USE i) then
    wr s (Reg.PINSLOT_CURRENT i) home
  else s

/-- DEPTH_PUBLISH (R191): the levels of a facet's ports as the others will see them. -/
def doDepthPublish (facet : Nat) (s : State) : State :=
  let kept := s.forward.published.filter (fun e => decide (queueFacet e.1 ≠ facet))
  let qs := ((s.frames.filter (fun e => inQueue e.2 && decide (e.2.egress / 256 = facet))).map
    (fun e => frameQueue e.2)).eraseDups
  let t := qs.foldl (fun t q => Tab.put 0 t q (depthLevel (depthBytes s q))) kept
  modForward s (fun w => { w with published := t })

end Sys2Proof.Machine
end

