-- ==== Sys2Proof/Machine/Drain.lean ====
section
/-! DEFINITION. The transmit side of a port: its scheduler's pick with the checks of a frame's first
block (R232, R217, R247 to R252), the first and the last block sent, and the marker drains of R410 to
R413. -/

namespace Sys2Proof.Machine

/-! ## Markers and their drains (R410 to R413) -/

def drainRun (s : State) (k : Nat) : DrainRun := Tab.get {} s.forward.drains k

def setDrain (s : State) (k : Nat) (d : DrainRun) : State :=
  modForward s (fun w => { w with drains := Tab.put {} w.drains k d })

/-- Key of the drain of a retiring port; a route group's drain has the group's number (R71, R413). -/
def portDrain (p : Nat) : Nat := 4096 + p

/-- Markers of a facet that are not echoed. -/
def outstanding (s : State) (facet : Nat) : Nat :=
  s.forward.drains.foldl (fun n e => n + (e.2.out.filter (fun m => decide (m.2 = facet))).length) 0

/-- The header of a marker: the key fields of a cache entry (R411). -/
def markHdr (key len n : Nat) : Block :=
  mkHdr {
    kind := KindCode.DRAIN_MARK, msg := field key 3 3, tc := field key 0 3, ord := 1, ten := field key 54 10,
    src := field key 34 20, dst := field key 14 20, chan := field key 6 8, seq := (Config.markSeq n).toNat,
    len := len }

/-- A marker is sent for one cache entry where the facet may have a further one and has the staging. -/
def sendMark (k : Nat) (s : State) (e : Nat × Nat) : State :=
  let facet := e.1 / 65536
  if 4096 ≤ outstanding s facet ∨ stagingRoom s facet (field e.2 3 3) 1 = false then s
  else
    let n := s.forward.markNext
    let d := drainRun s k
    let s := setDrain s k { d with
      waiting := d.waiting.filter (fun x => decide (x ≠ e)), out := d.out ++ [(n % 2 ^ 32, facet)] }
    let s := modForward s (fun w => { w with markNext := n + 1 })
    let s := if k < 4096 then inc s (Reg.DRAIN_MARKS_SENT k) 32 else s
    originate s facet (markHdr e.2 1 n) [markBlock (ownEid s) n 0 0] k

/-- The markers that wait in every drain, as far as places allow. -/
def sendMarks (s : State) : State :=
  s.forward.drains.foldl (fun s e => e.2.waiting.foldl (sendMark e.1) s) s

/-- Slots of a group that are untracked (R410). -/
def untrackedSlots (s : State) (g : Nat) : List Nat :=
  ((s.forward.untracked.filter (fun e => decide (e.1 / 256 = g) && decide (now s < e.2))).map (fun e => e.1 % 256))

/-- A drain's conditions for DONE hold (R413; the VL8 condition over every CURRENT port is log entry 27). -/
def drained (s : State) (g : Nat) : Bool :=
  let d := drainRun s g
  d.waiting.isEmpty && d.out.isEmpty && (untrackedSlots s g).isEmpty &&
    ((currents s g).eraseDups).all (fun p => decide (2048 ≤ p) || vlEmpty s p 8)

/-- A MARKING drain becomes DONE (R413). -/
def drainCheck (s : State) (g : Nat) : State :=
  if rd s (Reg.DRAIN_STATE g) = 1 ∧ drained s g = true then
    setDrain (wr s (Reg.DRAIN_STATE g) 2) g {}
  else s

/-- Route groups whose drain is MARKING. -/
def marking (s : State) : List Nat := listed s 0x0D04 1 (fun v => decide (v = 1))

/-- What a tick does for the drains: waiting markers are sent, and drains may be DONE. -/
def drainTick (s : State) : State :=
  let s := if s.forward.drains = [] then s else sendMarks s
  (marking s).foldl drainCheck s

/-- Cache entries in use whose slot passes a test, with their keys. -/
def cacheEntries (s : State) (p : Nat → Nat → Bool) : List (Nat × Nat) :=
  (s.forward.cache.filter (fun e => p e.2.group e.2.slot && decide (now s - e.2.last < repinWindow s))).map
    (fun e => (e.1, e.2.key))

/-- DRAIN_START (R413); refused while MARKING. -/
def doDrainStart (g : Nat) (s : State) : State :=
  if rd s (Reg.DRAIN_STATE g) = 1 then s
  else
    let s := wr s (Reg.DRAIN_STATE g) 1
    let s := wr (wr s (Reg.DRAIN_MARKS_SENT g) 0) (Reg.DRAIN_MARKS_ECHOED g) 0
    drainTick (setDrain s g { waiting := cacheEntries s (fun x _ => decide (x = g)), started := now s })

/-- Markers on the paths of a retiring port (R71 step 3). -/
def startPortDrain (s : State) (p : Nat) : State :=
  setDrain s (portDrain p) {
    waiting := cacheEntries s (fun g slot => decide (rd s (Reg.PINSLOT_CURRENT (g * 256 + slot)) = p)),
    started := now s }

/-- ECHO_EMIT (R412): the oldest waiting echo of a facet that has staging. -/
def doEchoEmit (facet : Nat) (s : State) : State :=
  match s.forward.echoes.find? (fun e => decide (e.facet = facet)) with
  | none => s
  | some e =>
    if stagingRoom s facet 1 1 = false then s
    else
      let s := modForward s (fun w => { w with echoes := w.echoes.erase e })
      originate s facet (mkHdr {
        kind := KindCode.DRAIN_MARK, msg := 1, tc := e.tc, ten := e.ten, dst := e.dst, src := ownEid s,
        seq := e.seq, len := 1 }) [e.block]

/-- DRAIN_ECHO_RECEIVED (R413): the marker it names is echoed, and further ones are sent. -/
def doDrainEcho (id : Nat) (s : State) : State :=
  match findFrame s id with
  | none => s
  | some f =>
    let b := f.blocks.getD 0 0
    if f.place ≠ .localTo ∨ f.whole = false ∨ hdrKind f.hdr ≠ KindCode.DRAIN_MARK ∨ markEcho b = 0 then s
    else
      let s := removeFrame s id
      match s.forward.drains.find? (fun e => e.2.out.any (fun m => decide (m.1 = markNumber b))) with
      | none => s
      | some (k, d) =>
        let s := setDrain s k { d with out := d.out.filter (fun m => decide (m.1 ≠ markNumber b)) }
        drainTick (if k < 4096 then inc s (Reg.DRAIN_MARKS_ECHOED k) 32 else s)

/-- MARK_TIMEOUT (R413): a drain has gone MARK_TIMEOUT µs without being DONE. -/
def doMarkTimeout (g : Nat) (s : State) : State :=
  if rd s (Reg.DRAIN_STATE g) ≠ 1 ∨ now s < (drainRun s g).started + rd s Reg.CONFSET_MARK_TIMEOUT * 1000 then s
  else
    let n := (drainRun s g).out.length
    let s := setDrain (wr s (Reg.DRAIN_STATE g) 3) g {}
    raise s Code.DRAIN_TIMEOUT 0xFF [(24, g), (32, n)]

/-- CACHE_ENTRY_EXPIRE (R410). -/
def doCacheExpire (facet entry : Nat) (s : State) : State :=
  let i := facet * 65536 + entry
  if (Tab.find s.forward.cache i).isSome ∧ cacheFree s i = true then
    modForward s (fun w => { w with cache := Tab.del w.cache i })
  else s

/-- SLOT_UNTRACKED_END (R410). -/
def doUntrackedEnd (g slot : Nat) (s : State) : State :=
  let k := g * 256 + slot
  let t := Tab.get 0 s.forward.untracked k
  if t ≠ 0 ∧ t ≤ now s then
    drainCheck (modForward s (fun w => { w with untracked := Tab.put 0 w.untracked k 0 })) g
  else s

/-! ## The pick (R232, R247, R412) -/

/-- A marker is removed at the last switch: into the echo table, or lost where that is full (R412). -/
def removeMarker (p : Nat) (s : State) (id : Nat) : State :=
  match findFrame s id with
  | none => s
  | some f =>
    if 1024 ≤ (s.forward.echoes.filter (fun e => decide (e.facet = p / 256))).length then dropOut s id 0x72
    else
      let b := f.blocks.getD 0 0
      let s := modForward s (fun w => { w with echoes := w.echoes ++
        [⟨p / 256, hdrTen f.hdr, hdrTc f.hdr, markOrigin b, hdrSeq f.hdr,
          markBlock (markOrigin b) (markNumber b) 1 (ownEid s)⟩] })
      removeFrame s id

/-- The markers with ECHO 0 that stand at the head of a port's queues. -/
def headMarkers (s : State) (p : Nat) : List Nat :=
  (List.range 72).filterMap (fun i => match headOf s (p * 72 + i) with
    | some (id, f) =>
      if hdrKind f.hdr = KindCode.DRAIN_MARK ∧ f.whole = true ∧ markEcho (f.blocks.getD 0 0) = 0 then some id else none
    | none => none)

/-- At the last switch every marker that reaches a head is removed; fuel is the number of frames. -/
def takeMarkers (p : Nat) : Nat → State → State
  | 0, s => s
  | n + 1, s =>
    match headMarkers s p with
    | [] => s
    | ids => takeMarkers p n (ids.foldl (removeMarker p) s)

/-- The scheduler's choice: the CTRL level while its shaper allows, then the DRR level (R250, R252). -/
def choosePick (s : State) (p : Nat) : State × Option Nat :=
  let r := if ctrlAllows s p then ctrlPick (ctrlOrder s p) s else (s, none)
  match r.2 with
  | some q => (r.1, some q)
  | none => drrPick 7 r.1 p

/-- The chosen head's age and ECC are checked as it begins: an expired head is discarded and the choice
made again, a head with a failed word is discarded (R217, R232); fuel is the number of frames. -/
def resolvePick (p : Nat) (eccBad : Bool) : Nat → State → State
  | 0, s => s
  | n + 1, s =>
    let r := choosePick s p
    match r.2 with
    | none => r.1
    | some q =>
      match headOf r.1 q with
      | none => r.1
      | some (id, f) =>
        if expired r.1 f then
          resolvePick p eccBad n (raise (dropOut r.1 id 0x25) Code.RESIDENCE_EXPIRED (p / 256) [])
        else if eccBad then
          raise (dropOut r.1 id 0x27) Code.BUF_ECC (p / 256) [(8, p / 256), (32, Config.badCell id)]
        else beginFrame q id f r.1

/-- SCHED_PICK (R247); a sleeping port wakes for a frame (R115, R116). -/
def doSchedPick (p : Nat) (eccBad : Bool) (s : State) : State :=
  let st := rd s (Reg.PORT_STATE p)
  if st = 6 then (if portEmpty s p then s else startWake p s)
  else if st ≠ 5 ∨ (link s p).sleep = .settling then s
  else
    let n := s.frames.length + 1
    let s := if endpointPort s p then takeMarkers p n s else s
    noteCtrlHeld (resolvePick p eccBad n s) p

/-! ## First and last block sent -/

/-- OFFSET of an EPOCH frame is written as its first block leaves (R389). -/
def stampOffset (s : State) (id : Nat) : State :=
  modFrame s id (fun f =>
    if hdrKind f.hdr = KindCode.EPOCH then
      { f with blocks := f.blocks.mapIdx (fun i b =>
          if i = 1 then BitVec.ofNat 128 (setField b.toNat 96 32 (now s - f.arrival)) else b) }
    else f)

/-- The first block of a frame leaves: its counters, and the egress copies (R236, R453). -/
def firstBlockSent (s : State) (p id : Nat) : State :=
  let s := stampOffset s id
  match findFrame s id with
  | none => s
  | some f =>
    let s := countFrame (countFrame s p (0x0120 + hdrKind f.hdr) f.hdr) p 0x0130 f.hdr
    let s := incBy (inc s (Reg.PORTSTAT_TX_FRAMES p) 64) (Reg.PORTSTAT_TX_BYTES p) 64 (hdrBytes f.hdr)
    let s := countIn s (vertexBank p) 0x3009
      { frameEvent (some (p % 16)) f.hdr with events := now s - f.admitted, bytes := 0 }
    let s := if f.whole then countFrame s p 0x300A f.hdr else s
    let s := if f.repinHere then countFrame s p 0x300E f.hdr else s
    mirrorEgress s id p f.hdr

/-- FRAME_TX_DONE (R216): the frame's final block has left and its cells are freed. -/
def doFrameTxDone (p : Nat) (s : State) : State :=
  match (link s p).sending.find? (fun e => match findFrame s e.frame with
      | some f => decide (e.sent = 1 + hdrLen f.hdr)
      | none => true) with
  | none => s
  | some e =>
    removeFrame (modLink s p (fun l => { l with
      sending := l.sending.filter (fun x => decide (x.frame ≠ e.frame)) })) e.frame

end Sys2Proof.Machine
end

