-- ==== Sys2Proof/Machine/PortDown.lean ====
section
/-! DEFINITION. What happens to a port that stops: its loss (R118), the flush of its queues (R235), its
retirement and return (R71, R109), changes of its lane sets (R112, R113), and the vet requests that faults
make (R479). -/

namespace Sys2Proof.Machine

/-! ## Vet requests (R479) -/

/-- A vet is requested: merged into a PENDING request of the unit at the better priority. -/
def vetRequest (s : State) (unit prio trig : Nat) : State :=
  let s := if rd s (Reg.VET_STATE unit) = 0 then wr s (Reg.VET_STATE unit) 1 else s
  let new : VetRequest := match Tab.find s.vets.requests unit with
    | some r => { r with
        prio := min r.prio prio, trig := if prio < r.prio then trig else r.trig,
        commanded := r.commanded || decide (trig = 1 ∨ trig = 2), periodic := r.periodic || decide (trig = 3),
        due := if trig = 3 ∧ r.periodic = false then now s else r.due }
    | none => {
        prio := prio, trig := trig, order := s.vets.order, commanded := decide (trig = 1 ∨ trig = 2),
        periodic := decide (trig = 3), due := now s, overdue := false }
  { s with vets := { s.vets with requests := Tab.set s.vets.requests unit new, order := s.vets.order + 1 } }

/-! ## The flush of a port (R235) -/

/-- Frames bound for a port that it has not begun to send. -/
def boundFor (s : State) (p : Nat) : List Nat :=
  framesWhere s (fun f => decide (f.egress = p) && (match f.place with
    | .request => true
    | .asked => true
    | .waiting => true
    | .granted => true
    | .lattice => true
    | .queued => true
    | _ => false))

/-- Every frame bound for the port is counted and lost (R235). -/
def flushPort (s : State) (p : Nat) : State := (boundFor s p).foldl (fun s id => dropOut s id 0x26) s

/-- Frames of the retry buffer and of the transmitter are lost, each counted once (R118 step 1). -/
def loseUnacked (s : State) (p : Nat) : State :=
  let l := link s p
  let open_ := l.sending.map (fun e => e.frame)
  let gone := (l.unacked.filter (fun e => !open_.contains e.2.1)).foldl (fun acc e =>
    if acc.any (fun x => decide (x.1 = e.2.1)) then acc else acc ++ [e.2]) ([] : List (Nat × Block))
  let s := modLink s p (fun l => { l with retry := [], unacked := [], resend := [], sending := [] })
  let s := gone.foldl (fun s e => match findFrame s e.1 with
    | some _ => dropOut s e.1 0x26
    | none => discardAt s p 0x26 e.2) s
  open_.foldl (fun s id => dropOut s id 0x26) s

/-! ## Going down (R118) -/

/-- The link state a port loses with its link; the levels of CMD that administration and retirement hold
stand. -/
def clearLink (l : Link) : Link :=
  { l with
    attempt := false, liveKa := false, sleep := .none, wakeSeen := false, retryWait := false, nak := false,
    naks := 0, nakUsed := false, rxSwitch := none, txSwitch := none, cmd := l.cmd &&& 0xB0400000, retired := false,
    peerCmd := 0, flitRemain := 0, kaSeen := 0 }

/-- The port is out of UP, SLEEP or WAKING: what step 1 to 3 of R118 do whatever the reason. -/
def stopLink (s : State) (p : Nat) : State :=
  let s := wr (wr (wr (wr s (Reg.PORT_STATE p) 0) (Reg.PORT_TXMASK p) 0) (Reg.PORT_RXMASK p) 0)
    (Reg.PORT_FLIT_RATE p) 0
  let s := modLink s p clearLink
  truncateIfCut (loseUnacked s p) p

/-- Where a loss of the port is counted (R117): the reasons of training among the training failures. -/
def downSelect (reason : Nat) : Nat := if reason = 12 ∨ reason = 13 ∨ reason = 15 then 0x2003 else 0x2002

/-- The start of a loss (R118 steps 1 and 2): a port that carries data stops and is counted; one that trains ends its attempt;
one that is down stays so. -/
def beginDown (reason : Nat) (s : State) (p : Nat) : State :=
  let st := rd s (Reg.PORT_STATE p)
  if st = 0 then s
  else if st ≤ 4 then
    let s := modLink s p (fun l => { l with attempt := false })
    wr (wr s (Reg.PORT_STATE p) 0) (Reg.PORT_DOWN_REASON p) reason
  else
    let s := wr (stopLink s p) (Reg.PORT_DOWN_REASON p) reason
    countPort (inc s (Reg.PORT_DOWNS p) 32) p (downSelect reason)

/-- Ports go down together (R118): those that carry data are lost at once to their route groups, and flushed. -/
def portsDown (s : State) (ports : List Nat) (reason : Nat) : State :=
  let before := s
  let lost := ports.filter (fun p => decide (4 < rd s (Reg.PORT_STATE p)))
  let s := ports.foldl (beginDown reason) s
  if lost = [] then s
  else
    let s := groupsLose before s lost
    let s := lost.foldl (fun s p => resetSched p (flushPort s p)) s
    let s := unitRefresh before s
    lost.foldl (fun s p => raise s Code.PORT_DOWN (p / 256) [(8, reason)]) s

/-- A port goes down (R118). -/
def portDown (s : State) (p reason : Nat) : State := portsDown s [p] reason

/-- A port leaves service as planned, at a switch of its feed or a chord's setup: no fault, so no
PORT_DOWN; its channels are held or moved by the caller. -/
def leaveService (s : State) (p : Nat) : State :=
  let st := rd s (Reg.PORT_STATE p)
  if st = 0 then s
  else if st ≤ 4 then wr (modLink s p (fun l => { l with attempt := false })) (Reg.PORT_STATE p) 0
  else stopLink s p

/-! ## Retirement (R71, R109, R198) -/

/-- Ports retire: no new traffic, RETIRE sent, and markers sent on the paths of their channels (R71 step
3). -/
def retirePorts (s : State) (ports : List Nat) : State :=
  let s := ports.foldl (fun s p => modLink s p (fun l => { l with retiring := true })) s
  let s := ports.foldl (fun s p => setCmdBit p 31 true s) s
  drainTick (ports.foldl startPortDrain s)

/-- A marker of a retiring port waits or is not echoed. -/
def marksOutstanding (s : State) (ports : List Nat) : Bool :=
  ports.any (fun p => let d := drainRun s (portDrain p); !d.waiting.isEmpty || !d.out.isEmpty)

/-- The drains of ports that retire no longer end, and lists on which no hold stands any longer are released (R199). -/
def releaseHeldPorts (s : State) (ports : List Nat) : State :=
  releaseLists (ports.foldl (fun s p => setDrain s (portDrain p) {}) s)

/-- Channels held on retiring ports are re-pinned with REPIN (R72). -/
def repinPorts (s : State) (ports : List Nat) : State := groupsLose s s ports

/-! ## The tap of a feed (R51, R71, R73) -/

/-- Transfers in flight on the lattice wavelengths of a feed's tap. -/
def tapTransfers (s : State) (feed : Nat) : List Nat :=
  framesWhere s (fun f => decide (f.place = .lattice) && decide (f.tap = feed))

def tapIdle (s : State) (feed : Nat) : Bool := (tapTransfers s feed).isEmpty

/-- They are discarded and counted (R73). -/
def dropTapTransfers (s : State) (feed : Nat) : State :=
  (tapTransfers s feed).foldl (fun s id => match findFrame s id with
    | some f => removeFrame (countFrameIn s (latticeBank f.facet) 0x7003 f.hdr) id
    | none => s) s

/-! ## Lane sets (R112, R113) -/

/-- A record of a direction that now has three lanes, or four again. -/
def favourRecord (s : State) (p old new cause : Nat) : State :=
  if popcount 4 new < popcount 4 old then
    let lane := ((List.range 4).find? (fun k => old.testBit k && !new.testBit k)).getD 0
    raise s Code.FAVOUR_ENTER (p / 256) [(8, lane), (8, cause)]
  else if popcount 4 old < popcount 4 new then raise s Code.FAVOUR_EXIT (p / 256) []
  else s

/-- Marker SWITCH_AT passes at this end's transmitter: TXMASK, FLIT_RATE and UNIT change together. -/
def applyTxSwitch (s : State) (p : Nat) (sw : LaneSwitch) : State :=
  let before := s
  let old := rd s (Reg.PORT_TXMASK p)
  let s := wr (wr s (Reg.PORT_TXMASK p) sw.mask) (Reg.PORT_FLIT_RATE p) (flitRate sw.mask)
  let s := modLink s p (fun l => { l with txSwitch := none, lineTx := { l.lineTx with lane := 0 } })
  favourRecord (unitRefresh before s) p old sw.mask sw.cause

/-- Marker SWITCH_AT passes at this end's receiver: RXMASK changes, and NAK is set again with its count
restarted (R101). -/
def applyRxSwitch (s : State) (p : Nat) (sw : LaneSwitch) : State :=
  let before := s
  let old := rd s (Reg.PORT_RXMASK p)
  let s := wr s (Reg.PORT_RXMASK p) sw.mask
  let s := modLink s p (fun l => { l with
    rxSwitch := none, nak := l.nak || l.retryWait || decide (popcount 4 sw.mask < popcount 4 old), naks := 0,
    nakUsed := false, lineRx := { l.lineRx with lane := 0, lanes := [[], [], [], []], word := [] } })
  favourRecord (unitRefresh before s) p old sw.mask sw.cause

end Sys2Proof.Machine
end

