-- ==== Sys2Proof/Machine/Links.lean ====
section
/-! DEFINITION. Links: Training, Flits and Credits (R90 to R123): markers, training, flits and their
retry, link credits, favour mode, sleep, and the port's administration. -/

namespace Sys2Proof.Machine

/-! ## Markers -/

/-- The 256-bit field block of a lane marker (R91). -/
def markerBlock (s : State) (p k : Nat) : BitVec 256 :=
  let l := link s p
  let at_ := match l.rxSwitch with
    | some sw => if sw.at_ < 2 ^ 32 then sw.at_ else (l.markNo + 2) % 2 ^ 32
    | none => (l.markNo + 2) % 2 ^ 32
  let req := match l.rxSwitch with
    | some sw => sw.mask
    | none => l.rxReq
  let lstate := let st := rd s (Reg.PORT_STATE p); if st = 6 then 7 else st
  let hi := joinFields
    [(5, slotOf p k), (2, k), (11, p), (2, 0), (32, l.markNo), (64, rd s Reg.IDENTITY_SERIAL),
     (4, rd s (Reg.PORT_TXMASK p)), (4, req), (32, at_), (4, lstate), (80, 0)]
  BitVec.ofNat 256 (hi * 2 ^ 16 + crc16 240 hi)

/-- A lane's marker as sent (R91): the fixed pattern, four copies of the field block, and 272 bits of alternating 10. -/
def laneMarker (block : BitVec 256) : BitVec 1360 :=
  let copies := [1, 2, 3, 4].foldl (fun acc _ => acc * 2 ^ 256 + block.toNat) 0xC3A55A3C0FF0E11E
  BitVec.ofNat 1360 (copies * 2 ^ 272 + (2 ^ 273 - 2) / 3)

/-- The copy has a good MCRC (R91). -/
def markerGood (c : BitVec 256) : Bool :=
  decide (crc16 240 (c.toNat / 2 ^ 16) = c.toNat % 2 ^ 16)

/-- Marker number `m` has reached SWITCH_AT `t`, as serial numbers modulo 2^32 (R91). -/
def markReached (m t : Nat) : Bool := decide ((m + 2 ^ 32 - t % 2 ^ 32) % 2 ^ 32 < 2 ^ 31)

/-- MARKER_SEND (R91, R112): each lane sends its marker; a pending exclusion or restore is named
with SWITCH_AT two markers on, and this end's transmit change takes effect at its own marker. -/
def doMarkerSend (p : Nat) (s : State) : State :=
  if rd s (Reg.PORT_STATE p) = 6 ∨ rd s (Reg.EYE_STATE (pairOf p)) ≠ 0 ∨ chordTakes s p = true then s
  else
    let s := modLink s p (fun l => { l with
      rxSwitch := l.rxSwitch.map (fun sw =>
        if sw.at_ < 2 ^ 32 then sw else { sw with at_ := (l.markNo + 2) % 2 ^ 32 }) })
    let s := [0, 1, 2, 3].foldl (fun s k => emit s (.marker p k (laneMarker (markerBlock s p k)))) s
    let l := link s p
    let s := match l.txSwitch with
      | some sw => if markReached l.markNo sw.at_ then applyTxSwitch s p sw else s
      | none => s
    modLink s p (fun l => { l with markNo := (l.markNo + 1) % 2 ^ 32 })

/-- A training attempt ends without reaching UP (R94, R96, R103, R109). -/
def attemptFail (p reason : Nat) (s : State) : State :=
  let l := link s p
  let s := modLink s p (fun l => { l with attempt := false, fails := l.fails + 1 })
  let s := wr s (Reg.PORT_STATE p) 0
  let s := if l.peerDownSeen ∧ rd s (Reg.PORT_DOWN_REASON p) = 11 ∧ reason = 13 then s
    else wr s (Reg.PORT_DOWN_REASON p) reason
  let s := countPort s p 0x2003
  if l.fails + 1 = 16 then raise s Code.TRAIN_FAIL (p / 256) [] else s

/-- SEEK to IDENT to ALIGN (R96 steps 2 and 3), with the loopback and null-serial rules of R94; markers that
read LSTATE DOWN keep an attempt in SEEK (R109). -/
def trainOnMarker (p k : Nat) (m : Nat) (s : State) : State :=
  let l := link s p
  let serial := field m 140 64
  let lstate := field m 96 4
  let own := rd s Reg.IDENTITY_SERIAL
  let st := rd s (Reg.PORT_STATE p)
  if l.attempt = false ∨ st = 0 ∨ 4 < st then s
  else if serial = 0 then attemptFail p 13 s
  else if serial = own ∧ rd s Reg.LINK_LOOPBACK_TEST = 0 then
    let s := if l.looped then s
      else modLink (raise s Code.LOOPBACK (p / 256) []) p (fun l => { l with looped := true })
    attemptFail p 12 s
  else
    let ready := [0, 1, 2, 3].all (fun j => !(l.rxReq.testBit j) || decide (2 ≤ l.good.getD j 0))
    let s := if st = 1 ∧ ready = true ∧ lstate ≠ 0 then wr s (Reg.PORT_STATE p) 2 else s
    if rd s (Reg.PORT_STATE p) = 2 ∧ 2 ≤ lstate ∧ lstate ≤ 7 ∧ k < 4 then
      let s := wr s (Reg.PORT_PEER_SERIAL p) serial
      let s := wr s (Reg.PORT_PEER_PORT p) (field m 238 11)
      let master := decide (serial ≤ own)
      let s := wr s (Reg.PORT_MASTER p) (boolBit master)
      let s := if master then s
        else modLink s p (fun l => { l with markNo := (field m 204 32 + 1) % 2 ^ 32 })
      wr s (Reg.PORT_STATE p) 3
    else s

/-- MARKER_RECEIVED (R91, R95, R111, R112): the first good copy is used. -/
def doMarkerReceived (p k : Nat) (copies : List MarkerCopy) (s : State) : State :=
  match copies.find? markerGood with
  | none =>
    let s := modLink s p (fun l => { l with
      good := l.good.set k 0, bad := l.bad.set k (l.bad.getD k 0 + 1) })
    countPort s p 0x2005
  | some c =>
    let m := c.toNat
    let lst := field m 96 4
    let s := if 8 ≤ lst then countPort s p 0x2005 else s
    let lst := if 8 ≤ lst then 0 else lst
    let s := modLink s p (fun l => { l with
      good := l.good.set k (l.good.getD k 0 + 1), bad := l.bad.set k 0,
      peerMark := field m 204 32, peerDownSeen := decide (lst = 0) })
    let s := trainOnMarker p k (setField m 96 4 lst) s
    -- a running end whose partner went quiet joins the wake retrain of its partner (R115)
    let s := if lst = 7 ∧ rd s (Reg.PORT_STATE p) = 5 then beginWake p s else s
    let l := link s p
    let req := field m 132 4
    let up := decide (rd s (Reg.PORT_STATE p) = 5)
    let s :=
      if up then
        if req ≠ rd s (Reg.PORT_TXMASK p) ∧ 3 ≤ popcount 4 req then
          modLink s p (fun l => { l with
            txSwitch := some ⟨req, field m 100 32, 0⟩, txReq := req })
        else s
      else modLink s p (fun l => { l with txReq := req })
    match l.rxSwitch with
    | some sw =>
      if up ∧ sw.at_ < 2 ^ 32 ∧ markReached (field m 204 32) sw.at_ = true then applyRxSwitch s p sw
      else s
    | none => s

/-! ## Training -/

/-- A port can begin an attempt: up by administration, its pair OPEN, its rings locked, its position neither FAILED nor
DARK (R73, R74; log entry 99), in no chord and in a unit in service (R96, R118, R129). A ring in FAULT leaves its lane out
(R485). -/
def trainable (s : State) (p : Nat) : Bool :=
  decide (rd s (Reg.PORT_STATE p) = 0) && !(link s p).attempt &&
    decide (rd s (Reg.PORT_ADMIN p) = 0) && decide (rd s (Reg.EYE_STATE (pairOf p)) = 0) &&
    !chordHeld s p && !portUnitOut s p && ringsReady s p &&
    decide (rd s (Reg.FEED_STATE (feedOf p)) ≠ 4 ∧ rd s (Reg.FEED_STATE (feedOf p)) ≠ 5)

/-- An attempt starts in SEEK (R96 step 1). -/
def startAttempt (p : Nat) (s : State) : State :=
  if trainable s p then
    let s := modLink s p (fun l => { l with
      attempt := true, good := [0, 0, 0, 0], bad := [0, 0, 0, 0], rxReq := lanesReady s p,
      rxSwitch := none, txSwitch := none, txReq := 15, peerAdv := false, kaSeen := 0,
      rtts := [], peerKa := 0x10000, darkUntil := false })
    wr s (Reg.PORT_STATE p) 1
  else s

/-- TRAIN_ALIGN_DONE (R96 step 4): with at least three good lanes the port enters INIT with fresh credits, the share cap it
will advertise (R121) and a new line coding, and increments KASEQ (R103, R110). The first DATA flit has FSEQ 0 (DESIGN
CHOICE, log entry 102). -/
def doTrainAlignDone (p laneOk : Nat) (s : State) : State :=
  let l := link s p
  let lanes := l.rxReq &&& laneOk
  if rd s (Reg.PORT_STATE p) = 3 ∧ 3 ≤ popcount 4 lanes then
    let s := modLink s p (fun l => { l with
      rxReq := lanes, seq := 0, expect := 0, acked := 0xFFFF, ackValid := false, retry := [],
      unacked := [], resend := [], retryWait := false, nak := false, naks := 0, nakUsed := false, rxBlocks := [],
      flitRemain := 0, freed := zeros9, peerFreed := zeros9, charged := zeros9, rxCharged := zeros9,
      cmd := l.cmd &&& 0x90000000, shareCap := rd s Reg.LINK_SHARE_CAP, lineTx := {}, lineRx := {}, badWords := 0 })
    let s := (List.range 9).foldl (fun s v =>
      wr (wr s (Reg.CREDIT_TX_HELD_DED (16 * p + v)) 0) (Reg.CREDIT_TX_HELD_SHARED (16 * p + v)) 0) s
    nextKeepalive (wr s (Reg.PORT_STATE p) 4) p
  else s

/-- TRAIN_TIMEOUT (R96): an attempt that has not reached UP fails. -/
def doTrainTimeout (p : Nat) (s : State) : State :=
  let st := rd s (Reg.PORT_STATE p)
  if (link s p).attempt ∧ 1 ≤ st ∧ st ≤ 4 then attemptFail p 13 s else s

/-! ## Flits -/

/-- Header of a flit (R98). -/
def flitHeader (ftype fseq ack : Nat) (ackv nak replay : Bool) (fstart fidle : Nat) : Nat :=
  joinFields [(4, ftype), (16, fseq), (16, ack), (1, boolBit ackv), (1, boolBit nak),
    (1, boolBit replay), (1, 0), (6, fstart), (6, fidle), (44, 0)]

/-- The bytes the CRC-32C covers: header and payload (R98). -/
def flitBytes (hdr : Nat) (payload : List Block) : List Byte :=
  bytesBE 12 hdr ++ payload.flatMap (fun b => bytesBE 16 b.toNat)

/-- CRC-32C as stored, least significant byte first (R98). -/
def storedCrc (hdr : Nat) (payload : List Block) : Nat :=
  natBE (bytesBE 4 (crc32c (flitBytes hdr payload))).reverse

/-- A finished flit. -/
def mkFlit (hdr : Nat) (payload : List Block) : Flit :=
  ⟨BitVec.ofNat 96 hdr, payload, BitVec.ofNat 32 (storedCrc hdr payload), true⟩

def crcGood (f : Flit) : Bool := decide (storedCrc f.hdr.toNat f.payload = f.crc.toNat)

/-- Idle blocks, and the payload of a NULL flit, are zeros (DESIGN CHOICE, log entry 103). -/
def idleBlocks (n : Nat) : List Block := List.replicate n 0

/-- The payload of a CONTROL flit as (bytes, value) pairs in order (R108, R408): bytes 56 to 163 as sampled with KASEQ
(R110). -/
def controlFields (s : State) (p : Nat) : List (Nat × Nat) :=
  let l := link s p
  let long := decide (rd s (Reg.PORT_LONG p) = 1)
  l.freed.map (fun x => (4, x)) ++
    [(4, l.cmd), (2, l.kaSeq), (2, 0), (4, now s), (4, l.peerTs), (4, now s - l.peerTsAt)] ++
    (if l.kaSample = [] then keepaliveFields s p else l.kaSample) ++
    (List.range 9).map (fun v => (2, rd s (Reg.CREDIT_RX_DED (16 * p + v)))) ++
    [(4, if long then 9052 else 860), (1, l.shareCap),
     (1, rd s (Reg.PORT_SLEEP_EN p) + 2 * rd s (Reg.PORT_LONG p) + 4 * boolBit (isPairPort s p)),
     (2, if long then 640 else 96)]

/-- A payload of 63 blocks from leading bytes, padded with zeros. -/
def payloadOf (bs : List Byte) : List Block :=
  ((chunks 16 63 (bs ++ List.replicate (1008 - bs.length) 0#8)).map
    (fun c => BitVec.ofNat 128 (natBE c))).take 63

/-- The CONTROL flit of a port (R108). -/
def controlFlit (s : State) (p : Nat) : Flit :=
  let l := link s p
  mkFlit (flitHeader 2 l.seq ((l.expect + 0xFFFF) % 2 ^ 16) l.ackValid l.nak false 63 63)
    (payloadOf ((controlFields s p).flatMap (fun x => bytesBE x.1 x.2)))

/-- Blocks of a frame that may go onto the link now: all of them once it is whole or is to end
with a poison tail, otherwise what has arrived but for the final block (R99, R174). -/
def linkBlocks (f : Frame) : List Block :=
  let n := hdrLen f.hdr
  if f.poison then
    let got := f.blocks.take (n - 1)
    f.hdr :: (got ++ List.replicate (n - 1 - got.length) 0) ++ (if n = 0 then [] else [poisonTail f.hdr])
  else if f.whole then f.hdr :: f.blocks
  else f.hdr :: f.blocks.take (n - 1)

/-- Fills a DATA flit from the frames being sent: blocks, index of the first block that begins a
frame, and the frames with what they have sent by then (R99). -/
def gather (s : State) : List Sending → Nat → List Block → Nat → List Sending →
    List Block × Nat × List Sending
  | [], _, acc, fst, done => (acc, fst, done.reverse)
  | e :: rest, room, acc, fst, done =>
    match findFrame s e.frame with
    | none => gather s rest room acc fst done
    | some f =>
      let avail := (linkBlocks f).drop e.sent
      let take := avail.take room
      let fst' := if e.sent = 0 ∧ take ≠ [] ∧ fst = 63 then acc.length else fst
      let sent' := e.sent + take.length
      if sent' = 1 + hdrLen f.hdr then
        gather s rest (room - take.length) (acc ++ take) fst' (⟨e.frame, sent'⟩ :: done)
      else (acc ++ take, fst', done.reverse ++ (⟨e.frame, sent'⟩ :: rest))

/-- The frames that put blocks into a flit, with its FSEQ: lost with the retry buffer (R118). -/
def carried (s : State) (seq : Nat) (old new : List Sending) : List (Nat × Nat × Block) :=
  new.filterMap (fun e =>
    let past := match old.find? (fun x => decide (x.frame = e.frame)) with
      | some x => x.sent
      | none => 0
    if past < e.sent then (findFrame s e.frame).map (fun f => (seq, e.frame, f.hdr)) else none)

/-! ## The message stream on the lanes (R90, R92) -/

/-- Lanes this end transmits data on, and receives it on: the masks, or in training those asked for (R91). -/
def txLanes (s : State) (p : Nat) : Nat :=
  let m := rd s (Reg.PORT_TXMASK p); if m = 0 then (link s p).txReq else m
def rxLanes (s : State) (p : Nat) : Nat :=
  let m := rd s (Reg.PORT_RXMASK p); if m = 0 then (link s p).rxReq else m

/-- `w` bits join a port's stream: scrambled, coded as far as they fill codewords, and dealt to the lanes (R90). -/
def sendStream (p w x : Nat) (s : State) : State :=
  let t := (link s p).lineTx
  let y := scramble w x t.reg
  let n := t.len + w
  let v := t.bits * 2 ^ w + y.1
  let left := n % 5140
  let words := (List.range (n / 5140)).flatMap (fun i =>
    rsEncode (unpackSymbols 514 (v / 2 ^ (n - 5140 * (i + 1)) % 2 ^ 5140)))
  let mask := txLanes s p
  let s := modLink s p (fun l => { l with
    lineTx := ⟨y.2, v % 2 ^ left, left, (t.lane + words.length) % max 1 (lanesOf mask).length⟩ })
  if words = [] then s else emit s (.symbols p (dealSymbols mask t.lane words))

/-- The 8,192 bits of a flit (R98). -/
def flitNat (f : Flit) : Nat := (f.hdr.toNat * 2 ^ 8064 + f.payload.foldl (fun acc b => acc * 2 ^ 128 + b.toNat) 0) * 2 ^ 32 + f.crc.toNat

/-- A flit leaves on a port's stream. -/
def putFlit (p : Nat) (f : Flit) (s : State) : State := sendStream p 8192 (flitNat f) (emit s (.flit p f))

/-- Flit slots leave 1,784 of every 9,472,264 bits of message capacity free: 223 x 8,192 of 1,184,033 for each slot. A fill
word goes out whenever 64 bits have gathered (R92). -/
def paceFill (p : Nat) (s : State) : State :=
  let due := (link s p).fillDue + 223 * 8192
  if 1184033 * 64 ≤ due then
    let s := modLink s p (fun l => { l with fillDue := due - 1184033 * 64 })
    countPort (sendStream p 64 0xF000000000000000 (emit s (.fill p))) p 0x2009
  else modLink s p (fun l => { l with fillDue := due })

/-- The NAK that goes out with a flit: sent once, and counted toward the limit but while an exclusion is pending (R101). -/
def exclusionPending (s : State) (p : Nat) : Bool :=
  match (link s p).rxSwitch with
  | some sw => decide (popcount 4 sw.mask < popcount 4 (rd s (Reg.PORT_RXMASK p)))
  | none => false

def nakSent (p : Nat) (s : State) : State :=
  if (link s p).nak then
    let n := if exclusionPending s p then 0 else 1
    countPort (modLink s p (fun l => { l with nak := false, naks := l.naks + n })) p 0x2006
  else s

/-- A frame that has begun to leave and is not finished, of which a cell read for sending fails: it ends with zero blocks and
a poison tail (R217). -/
def poisonSending (p : Nat) (s : State) : State :=
  match (link s p).sending.find? (fun e => decide (0 < e.sent)) with
  | some e => (match findFrame s e.frame with
    | some f => if e.sent = 1 + hdrLen f.hdr then s else cutSending s e.frame e.sent
    | none => s)
  | none => s

/-- The header with the fields that acknowledge what this end has accepted (R98). -/
def ackHeader (l : Link) (ftype fseq : Nat) (replay : Bool) (fstart fidle : Nat) : Nat :=
  flitHeader ftype fseq ((l.expect + 0xFFFF) % 2 ^ 16) l.ackValid l.nak replay fstart fidle

/-- A NULL flit (R98). -/
def nullFlit (l : Link) : Flit := mkFlit (ackHeader l 1 l.seq false 63 63) (idleBlocks 63)

/-- A DATA flit sent again, with REPLAY (R101). -/
def replayFlit (l : Link) (f : Flit) : Flit :=
  let h := f.hdr.toNat
  mkFlit (ackHeader l 0 (field h 76 16) true (field h 50 6) (field h 44 6)) f.payload

/-- A slot for a DATA flit: one to be resent, a new one, or NULL (R99, R101, R102, R115). -/
def dataSlot (p : Nat) (s : State) : State :=
  let l := link s p
  let null := putFlit p (nullFlit l) s
  if rd s (Reg.PORT_STATE p) ≠ 5 ∨ l.sleep = .settling then null
  else match l.resend with
  | f :: rest => putFlit p (replayFlit l f) (modLink s p (fun l => { l with resend := rest, lastData := now s }))
  | [] =>
    let cap := if rd s (Reg.PORT_LONG p) = 1 then 640 else 96
    let g := gather s l.sending 63 [] 63 []
    if cap ≤ l.retry.length ∨ g.1 = [] then null
    else
      let n := g.1.length
      let starting := l.sending.filter (fun e => decide (e.sent = 0) &&
        g.2.2.any (fun e' => decide (e'.frame = e.frame) && decide (0 < e'.sent)))
      let s := starting.foldl (fun s e =>
        let s := firstBlockSent s p e.frame
        match findFrame s e.frame with
        | some f => noteCharged s p f.hdr
        | none => s) s
      let g := gather s l.sending 63 [] 63 []
      let f := mkFlit (ackHeader l 0 l.seq false g.2.1 (if n = 63 then 63 else n)) (g.1 ++ idleBlocks (63 - n))
      putFlit p f (modLink s p (fun l => { l with
        seq := (l.seq + 1) % 2 ^ 16, retry := l.retry ++ [f], sending := g.2.2, lastData := now s,
        unacked := l.unacked ++ carried s l.seq l.sending g.2.2 }))

/-- The CONTROL slot: EMPTY is brought up to date and a CONTROL flit goes out (R108, R109). -/
def controlSlot (p : Nat) (s : State) : State :=
  let s := setCmdBit p 28 (portEmpty s p && (link s p).sending.isEmpty && (link s p).retry.isEmpty) s
  putFlit p (controlFlit s p) s

/-- FLIT_SLOT (R92, R98 to R102, R108): every 17th slot carries a CONTROL flit, the others a resent, new DATA or NULL flit,
and fill words take what capacity is left. `eccBad` is an uncorrectable error in a cell that the slot reads (R217). -/
def doFlitSlot (p : Nat) (eccBad : Bool) (s : State) : State :=
  let st := rd s (Reg.PORT_STATE p)
  if st ≠ 4 ∧ st ≠ 5 ∧ st ≠ 7 then s
  else
    let next := ((link s p).slots + 1) % 17
    let s := modLink s p (fun l => { l with slots := next })
    let s := paceFill p s
    let s := if eccBad then poisonSending p s else s
    nakSent p (if next = 0 then controlSlot p s else dataSlot p s)

/-! ## Flits from the lanes (R90, R100) -/

/-- The first `n` message bits received, whether all their codewords decoded, and the bits left; none while fewer are held. -/
def takeBits : List (Nat × Nat × Bool) → Nat → Option (Nat × Bool × List (Nat × Nat × Bool))
  | bits, 0 => some (0, true, bits)
  | [], _ + 1 => none
  | (v, w, ok) :: rest, n =>
    if n < w then some (v / 2 ^ (w - n), ok, (v % 2 ^ (w - n), w - n, ok) :: rest)
    else match takeBits rest (n - w) with
      | none => none
      | some (v', ok', left) => some (v * 2 ^ (n - w) + v', ok && ok', left)

/-- A flit of 8,192 bits (R98). -/
def flitOf (x : Nat) (decoded : Bool) : Flit :=
  ⟨BitVec.ofNat 96 (x / 2 ^ 8096),
   (List.range 63).map (fun i => BitVec.ofNat 128 (x / 2 ^ (32 + 128 * (62 - i)))),
   BitVec.ofNat 32 x, decoded⟩

/-- The flits that the bits received complete, fill words between them left out, and the bits left (R92); fuel is the number
of 64-bit words. -/
def takeFlits : Nat → List (Nat × Nat × Bool) → List Flit → List Flit × List (Nat × Nat × Bool)
  | 0, bits, acc => (acc.reverse, bits)
  | n + 1, bits, acc =>
    match takeBits bits 4 with
    | none => (acc.reverse, bits)
    | some (tag, _, _) =>
      match takeBits bits (if tag = 15 then 64 else 8192) with
      | none => (acc.reverse, bits)
      | some (x, ok, rest) => takeFlits n rest (if tag = 15 then acc else flitOf x ok :: acc)

/-- Codewords decoded and descrambled, oldest first: the register and the bits they give, and how many did not decode. -/
def decodeWords (reg : Nat) : List (List Nat) → Nat × List (Nat × Nat × Bool) × Nat
  | [] => (reg, [], 0)
  | w :: rest =>
    let d := rsDecode w
    let y := descramble 5140 (packSymbols d.1) reg
    let r := decodeWords y.2 rest
    (r.1, (y.1, 5140, d.2) :: r.2.1, r.2.2 + (if d.2 then 0 else 1))

/-- Symbols arrive on a port's lanes: they are gathered to codewords in the order they were dealt, decoded, counted where
they do not decode (R117), descrambled, and cut into flits (R90, R100). -/
def takeSymbols (p : Nat) (lanes : LaneSymbols) (s : State) : State × List Flit :=
  let r := (link s p).lineRx
  let queues := (List.range 4).map (fun k => r.lanes.getD k [] ++ (lanes.getD k []).map (fun x => x.toNat))
  let g := gatherSymbols (lanesOf (rxLanes s p)) (queues.flatMap id).length r.lane queues r.word
  let got := g.1.reverse
  let n := got.length / 544
  let d := decodeWords r.reg (chunks 544 n (got.take (544 * n)))
  let bits := r.bits ++ d.2.1
  let t := takeFlits ((bits.map (fun x => x.2.1)).foldl (· + ·) 0 / 64) bits []
  let s := modLink s p (fun l => { l with
    badWords := l.badWords + d.2.2,
    lineRx := ⟨d.1, g.2.1, g.2.2, (got.drop (544 * n)).reverse, t.2⟩ })
  (if d.2.2 = 0 then s else countPortN s p 0x200A d.2.2, t.1)

/-- The partner's acknowledgement and its request to replay (R100, R101); with ACKV 0 it has accepted no flit, and a NAK asks
for all of them. -/
def takeAck (p : Nat) (h : Nat) (s : State) : State :=
  let ack := field h 60 16
  let later := fun (n : Nat) => decide ((n + 2 ^ 16 - ack - 1) % 2 ^ 16 < 2 ^ 15)
  let s := if field h 59 1 = 0 then s
    else modLink s p (fun l => { l with
      -- flits after ACKSEQ stay in the retry buffer
      retry := l.retry.filter (fun f => later (field f.hdr.toNat 76 16)), acked := ack,
      unacked := l.unacked.filter (fun e => later e.1) })
  if field h 58 1 = 1 then countPort (modLink s p (fun l => { l with resend := l.retry })) p 0x2007 else s

/-- Walks the blocks of a DATA flit: frames that begin in it, by index, and the blocks left of the
last one (R99); fuel is the number of blocks. -/
def walkFlit : Nat → Nat → Nat → List Block → List (Nat × Nat) × Nat
  | 0, _, remain, _ => ([], remain)
  | _, _, remain, [] => ([], remain)
  | f + 1, i, remain, b :: rest =>
    if 0 < remain then walkFlit f (i + 1) (remain - 1) rest
    else
      let r := walkFlit f (i + 1) (hdrLen b) rest
      ((i, b.toNat) :: r.1, r.2)

/-- FSTART and FIDLE agree with the boundaries the frames in progress imply (R100). -/
def boundariesAgree (remain fstart fidle : Nat) : Bool :=
  let idle := if fidle = 63 then 63 else fidle
  decide (0 < idle) && decide (fstart = if remain < idle then remain else 63)

/-- Counts the credits of the frames a flit begins, per VL (R103, R107). -/
def chargeRx (begun : List (Nat × Nat)) (charged : List Nat) : List Nat :=
  begun.foldl (fun c x =>
    let h := BitVec.ofNat 128 x.2
    if 4 < hdrMsg h then c
    else c.set (hdrVl h) ((c.getD (hdrVl h) 0 + hdrCredits h) % 2 ^ 32)) charged

/-- A flit that fails a check: retry wait, and NAK, of which a pending exclusion allows one (R100, R101). -/
def failFlit (p : Nat) (s : State) : State :=
  let pending := exclusionPending s p
  modLink s p (fun l => { l with
    retryWait := true, nak := l.nak || !(pending && l.nakUsed), naks := 0, nakUsed := l.nakUsed || pending })

/-- A DATA flit at a port that has announced dark and left service: the frames that begin in it are lost and counted (R72;
log entry 104). -/
def loseDataFlit (p : Nat) (f : Flit) (s : State) : State :=
  let h := f.hdr.toNat
  let i := field h 50 6
  let n := field h 44 6
  if (f.decoded && crcGood f && decide (field h 92 4 = 0) && decide (i < 63)) = false then s
  else ((walkFlit 63 i 0 ((f.payload.take n).drop i)).1).foldl (fun s e => discardAt s p 0x26 (BitVec.ofNat 128 e.2)) s

/-- A DATA or NULL flit is received, or one of a reserved FTYPE (R100, R101). -/
def doDataFlit (p : Nat) (f : Flit) (s : State) : State :=
  if rd s (Reg.PORT_STATE p) ≠ 5 then
    (if rd s (Reg.EYE_STATE (pairOf p)) = 4 then loseDataFlit p f s else s)
  else
    let h := f.hdr.toNat
    let good := f.decoded && crcGood f
    let ftype := field h 92 4
    if ftype = 1 then (if good then takeAck p h s else countPort s p 0x2008)
    else
      let s := if good then takeAck p h s else s
      let s := modLink s p (fun l => { l with lastData := now s })
      let s := if (link s p).sleep = .settling then abortSleep p s else s
      let l := link s p
      let fits := good && decide (ftype = 0) && decide (field h 76 16 = l.expect) &&
        boundariesAgree l.flitRemain (field h 50 6) (field h 44 6)
      if l.retryWait ∧ ¬ (fits = true ∧ field h 57 1 = 1) then s
      else if fits then
        let bs := f.payload.take (field h 44 6)
        let w := walkFlit bs.length 0 l.flitRemain bs
        let s := modLink s p (fun l => { l with
          expect := (l.expect + 1) % 2 ^ 16, ackValid := true, retryWait := false, naks := 0,
          rxBlocks := l.rxBlocks ++ bs, flitRemain := w.2, rxCharged := chargeRx w.1 l.rxCharged })
        pump s p
      else failFlit p s

/-- RETRY_WAIT_TIMER (R101): NAK again, or down after eight; while an exclusion is pending its one NAK at most. -/
def doRetryWait (p : Nat) (s : State) : State :=
  let l := link s p
  if rd s (Reg.PORT_STATE p) ≠ 5 ∨ l.retryWait = false then s
  else if exclusionPending s p then
    (if l.nakUsed then s else modLink s p (fun l => { l with nak := true, nakUsed := true }))
  else if 8 ≤ l.naks then portDown s p 5
  else modLink s p (fun l => { l with nak := true })

/-- ACK_TIMEOUT (R101). -/
def doAckTimeout (p : Nat) (s : State) : State :=
  if rd s (Reg.PORT_STATE p) = 5 ∧ (link s p).retry ≠ [] then portDown s p 6 else s

/-- UNCORRECTABLE_WINDOW (R117): the codewords of the 1 ms that ends are judged, and the next are counted anew. `more`
counts those whose symbols no flit command brought. -/
def doUncorrectable (p more : Nat) (s : State) : State :=
  let n := (link s p).badWords + more
  let s := if more = 0 then s else countPortN s p 0x200A more
  let s := modLink s p (fun l => { l with badWords := 0 })
  if rd s (Reg.PORT_STATE p) = 5 ∧ 1000 < n ∧ rd s (Reg.PORT_RXMASK p) = 15 ∧
      (link s p).rxSwitch.isNone then portDown s p 4
  else s

/-! ## CONTROL flits -/

/-- A field of a flit's payload by byte offset and width in bytes (R108). -/
def ctl (payload : Nat) (off n : Nat) : Nat := field payload (8 * (1008 - off - n)) (8 * n)

/-- The payload as one number. -/
def payloadNat (bs : List Block) : Nat := bs.foldl (fun acc b => acc * 2 ^ 128 + b.toNat) 0

/-- Credits returned on one VL: the dedicated allowance is refilled first (R105). -/
def takeCredits (p v tot : Nat) (s : State) : State :=
  let l := link s p
  let d := (tot + 2 ^ 32 - l.peerFreed.getD v 0) % 2 ^ 32
  let ded := rd s (Reg.CREDIT_TX_HELD_DED (16 * p + v))
  let sh := rd s (Reg.CREDIT_TX_HELD_SHARED (16 * p + v))
  let toDed := min d ded
  let toSh := min (d - toDed) sh
  let s := wr s (Reg.CREDIT_TX_HELD_DED (16 * p + v)) (ded - toDed)
  let s := wr s (Reg.CREDIT_TX_HELD_SHARED (16 * p + v)) (sh - toSh)
  modLink s p (fun l => { l with
    peerFreed := l.peerFreed.set v tot, txSharedFree := l.txSharedFree + toSh })

/-- The median of three exchanges (R97). -/
def median3 (a b c : Nat) : Nat := max (min a b) (min (max a b) c)

/-- One timestamp exchange (R97); a TSECHO of 0 is that of a partner that has received no TS yet (DESIGN CHOICE, log entry
105). -/
def takeTimestamps (p : Nat) (pl : Nat) (s : State) : State :=
  let echo := ctl pl 48 4
  let rtt := (now s + 2 * 2 ^ 32 - echo - ctl pl 52 4) % 2 ^ 32
  modLink s p (fun l => { l with
    peerTs := ctl pl 44 4, peerTsAt := now s, rtts := if echo = 0 then l.rtts else (rtt :: l.rtts).take 3 })

/-- RTT is the median of the last three exchanges: recorded at INIT and at every keepalive (R97). -/
def recordRtt (p : Nat) (s : State) : State :=
  match (link s p).rtts with
  | [a, b, c] => wr s (Reg.PORT_RTT p) (median3 a b c)
  | _ => s

/-- The advertisement block, in INIT (R103, R104). -/
def takeAdvert (p : Nat) (pl : Nat) (s : State) : State :=
  let s := (List.range 9).foldl (fun s v =>
    wr s (Reg.CREDIT_TX_DED (16 * p + v)) (ctl pl (164 + 2 * v) 2)) s
  let s := wr s (Reg.PORT_PEER_ROLE p) (ctl pl 66 1)
  let s := modLink s p (fun l => { l with
    advShared := ctl pl 182 4, txSharedFree := ctl pl 182 4, advCap := ctl pl 186 1,
    peerCaps := ctl pl 187 1, peerAdv := true })
  if (List.range 9).any (fun v => decide (ctl pl (164 + 2 * v) 2 < 129)) then attemptFail p 15 s
  else s

/-- The conditions of R114 for sleep at this end. -/
def maySleep (s : State) (p : Nat) : Bool :=
  let l := link s p
  decide (rd s (Reg.PORT_SLEEP_EN p) = 1) && l.peerCaps.testBit 0 &&
    decide (rd s (Reg.PORT_STATE p) = 5) && !isPairPort s p &&
    decide (rd s Reg.LINK_SLEEP_IDLE * 1000 ≤ now s - l.lastData) &&
    l.retry.isEmpty && l.sending.isEmpty && portEmpty s p &&
    !l.cmd.testBit 31 && !l.cmd.testBit 29 && l.rxSwitch.isNone && l.txSwitch.isNone

/-- SLEEP_REQ of the partner (R93, R114): answered, unless both ends ask at once and this one is master. -/
def takeSleepReq (p : Nat) (s : State) : State :=
  let l := link s p
  if l.sleep = .requested ∧ rd s (Reg.PORT_MASTER p) = 1 then s
  else if maySleep s p then
    modLink (setCmd p (cmdWith l.cmd [26] [27]) s) p (fun l => { l with sleep := .settling, wakeSeen := false })
  else modLink (setCmd p (cmdWith l.cmd [25] [27]) s) p (fun l => { l with sleep := .none })

/-- SLEEP_ACK and SLEEP_NAK of the partner: the window starts, or no request follows for SLEEP_IDLE (R114, R115). -/
def takeSleepAck (p : Nat) (s : State) : State :=
  if (link s p).sleep = .requested then
    modLink (setCmdBit p 27 false s) p (fun l => { l with sleep := .settling, wakeSeen := false })
  else s

def takeSleepNak (p : Nat) (s : State) : State :=
  if (link s p).sleep = .requested then
    modLink (setCmdBit p 27 false s) p (fun l => { l with sleep := .none, sleepBlocked := true, lastData := now s })
  else s

/-- The partner has ended its RETIRE: traffic held for it is released, and the port takes slots again (R195, R199). -/
def peerUnretired (p : Nat) (s : State) : State := releaseHeldPorts (groupsGainPort s p) [p]

/-- CMD bits of the partner (R93, R109, R114, R115). A RETRAIN while this end asks for one too stands or yields by the choice
of master (log entry 106). -/
def takeCmd (p : Nat) (cmd : Nat) (s : State) : State :=
  let old := (link s p).peerCmd
  let s := modLink s p (fun l => { l with
    peerCmd := cmd, retired := cmd.testBit 31, darkUntil := cmd.testBit 29 })
  let s := wr s (Reg.LINKSET_PEER_EMPTY p) (boolBit (cmd.testBit 28))
  let newly := fun b => cmd.testBit b && !old.testBit b
  let st := rd s (Reg.PORT_STATE p)
  let yields := !((link s p).cmd.testBit 23 && decide (rd s (Reg.PORT_MASTER p) = 1))
  if (newly 22 || (newly 23 && yields)) = true ∧ 4 ≤ st then portDown s p 11
  else
    let s := setCmdBit p 30 (cmd.testBit 31) s
    let s := if old.testBit 31 && !cmd.testBit 31 then peerUnretired p s else s
    let s := if newly 27 then takeSleepReq p s
      else if old.testBit 27 && !cmd.testBit 27 then
        setCmd p (cmdWith (link s p).cmd [] [25, 26]) s
      else s
    let s := if newly 26 then takeSleepAck p s else s
    let s := if newly 25 then takeSleepNak p s else s
    let s := if newly 24 ∧ (link s p).sleep = .settling then abortSleep p s else s
    -- WAKE of an aborted entry lasts until the partner has left it too
    if (link s p).sleep = .none ∧ (cmd.testBit 26 || cmd.testBit 27) = false then setCmdBit p 24 false s else s

/-- The audit of R107: the first VL whose counts differ. -/
def auditVl (l : Link) (pl : Nat) : Option Nat :=
  if l.retryWait = false ∧ ctl pl 124 2 = (l.expect + 0xFFFF) % 2 ^ 16 then
    (List.range 9).find? (fun v => decide (ctl pl (128 + 4 * v) 4 ≠ l.rxCharged.getD v 0))
  else none

/-- INIT complete and the partner's first keepalive received: the port is UP (R96 steps 5 and 6). -/
def goUp (p : Nat) (s : State) : State :=
  let l := link s p
  let before := s
  let s := recordRtt p s
  let rtt := rd s (Reg.PORT_RTT p)
  let s := modLink s p (fun l => { l with
    attempt := false, fails := 0, looped := false, rttInit := rtt, liveKa := false,
    lastData := now s, sleep := .none, sleepBlocked := false, retiring := l.retiring })
  let s := wr s (Reg.PORT_TXMASK p) l.txReq
  let s := wr s (Reg.PORT_RXMASK p) l.rxReq
  let s := wr s (Reg.PORT_FLIT_RATE p) (flitRate l.txReq)
  let s := wr s (Reg.PORT_STATE p) 5
  let s := countPort s p 0x2001
  let s := raise s Code.PORT_UP (p / 256) [(64, rd s (Reg.PORT_PEER_SERIAL p)),
    (16, rd s (Reg.PORT_PEER_PORT p)), (8, l.txReq), (8, l.rxReq)]
  let bound := if rd s (Reg.PORT_LONG p) = 1 then 23000 else 2500
  let s := if bound < rtt then raise s Code.RTT_BEYOND (p / 256) [] else s
  unitRefresh before s

/-- A keepalive at a port that is UP (R97, R107, R110, R187). -/
def takeKeepalive (p : Nat) (pl : Nat) (s : State) : State :=
  let s := recordRtt p s
  let l := link s p
  match auditVl l pl with
  | some v =>
    let s := raise s Code.CREDIT_AUDIT (p / 256)
      [(8, v), (32, ctl pl (128 + 4 * v) 4), (32, l.rxCharged.getD v 0)]
    portDown s p 8
  | none =>
    if l.liveKa then s
    else groupsGainPort (modLink s p (fun l => { l with liveKa := true })) p

/-- A good CONTROL flit at a port whose link runs (R105, R107 to R110, R187). In INIT the port is UP once it has the
partner's advertisement, three timestamp echoes and a first keepalive (R96 steps 5 and 6). -/
def takeControl (p : Nat) (pl : Nat) (st : Nat) (s : State) : State :=
  let s := (List.range 9).foldl (fun s v => takeCredits p v (ctl pl (4 * v) 4) s) s
  let s := takeTimestamps p pl s
  let s := if st = 4 then takeAdvert p pl s else s
  let s := takeCmd p (ctl pl 36 4) s
  let fresh := decide (ctl pl 40 2 ≠ (link s p).peerKa)
  if rd s (Reg.PORT_STATE p) < 4 then s
  else
    let s := if fresh then
        modLink s p (fun l => { l with peerKa := ctl pl 40 2, kaSeen := l.kaSeen + 1 }) else s
    let l := link s p
    if rd s (Reg.PORT_STATE p) = 4 then
      if l.peerAdv ∧ l.rtts.length = 3 ∧ 1 ≤ l.kaSeen then goUp p s else s
    else if fresh then takeKeepalive p pl s
    else s

/-- The link part of CONTROL_FLIT_RECEIVED (R100, R108). -/
def linkControl (p : Nat) (f : Flit) (s : State) : State :=
  let st := rd s (Reg.PORT_STATE p)
  if st < 4 ∨ st = 6 then s
  else if (f.decoded && crcGood f && decide (field f.hdr.toNat 92 4 = 2)) = false then
    countPort s p 0x2008
  else takeControl p (payloadNat f.payload) st (takeAck p f.hdr.toNat s)

/-- KEEPALIVE_TIMER (R110). -/
def doKeepaliveTimer (p : Nat) (s : State) : State :=
  let st := rd s (Reg.PORT_STATE p)
  if st = 4 ∨ st = 5 then nextKeepalive s p else s

/-- KA_LOST (R110). -/
def doKaLost (p : Nat) (s : State) : State :=
  if rd s (Reg.PORT_STATE p) = 5 then portDown s p 7 else s

/-! ## Favour mode -/

/-- A receive lane is excluded (R111 to R113): a second lane of the direction takes the port down. Flits that the lane spoils
fail on their own, and the NAK follows from them. -/
def excludeLane (p k cause : Nat) (s : State) : State :=
  let st := rd s (Reg.PORT_STATE p)
  let l := link s p
  if st = 5 ∨ st = 7 then
    let cur := match l.rxSwitch with
      | some sw => sw.mask
      | none => rd s (Reg.PORT_RXMASK p)
    if cur.testBit k = false then s
    else if popcount 4 cur ≤ 3 then portDown s p 3
    else modLink s p (fun l => { l with
      rxSwitch := some ⟨cur - 2 ^ k, 2 ^ 32, cause⟩, rxReq := cur - 2 ^ k, nakUsed := false })
  else if 1 ≤ st ∧ st ≤ 4 then
    if l.rxReq.testBit k then modLink s p (fun l => { l with rxReq := l.rxReq - 2 ^ k }) else s
  else s

/-- LANE_EXCLUDE (R111): cause 0 is two consecutive markers without a good copy, 1 is R59, 2 is the measured error ratio (log
entry 101). -/
def doLaneExclude (p k cause : Nat) (s : State) : State :=
  if cause = 0 ∧ (link s p).bad.getD k 0 < 2 then s else excludeLane p k cause s

/-- LANE_RESTORE (R113). -/
def doLaneRestore (p k : Nat) (s : State) : State :=
  if rd s (Reg.PORT_STATE p) = 5 ∧ (rd s (Reg.PORT_RXMASK p)).testBit k = false ∧
      (link s p).rxSwitch.isNone then
    modLink s p (fun l => { l with rxSwitch := some ⟨15, 2 ^ 32, 0⟩, rxReq := 15 })
  else s

/-! ## Sleep -/

/-- SLEEP_IDLE_TIMER (R114). -/
def doSleepIdle (p : Nat) (s : State) : State :=
  if maySleep s p ∧ (link s p).sleep = .none then
    modLink (setCmdBit p 27 true s) p (fun l => { l with sleep := .requested, sleepBlocked := false })
  else s

/-- SETTLE_WINDOW_CLOSE (R115). -/
def doSettleClose (p : Nat) (s : State) : State :=
  let l := link s p
  if rd s (Reg.PORT_STATE p) ≠ 5 ∨ l.sleep ≠ .settling then s
  else if l.wakeSeen ∨ portEmpty s p = false ∨ l.sending ≠ [] then abortSleep p s
  else
    let s := modLink (setCmd p (cmdWith l.cmd [] [26, 27]) s) p (fun l => { l with sleep := .quiet })
    countPort (wr s (Reg.PORT_STATE p) 6) p 0x2004

/-- WAKE_RETRAIN_DONE (R116): UP with replay of what was not acknowledged, after a keepalive, for which the next flit slot
carries a CONTROL flit (R110). -/
def doWakeDone (p : Nat) (s : State) : State :=
  if rd s (Reg.PORT_STATE p) = 7 then
    let s := modLink (wr s (Reg.PORT_STATE p) 5) p (fun l => { l with
      cmd := cmdWith l.cmd [] [24], sleep := .none, resend := l.retry, lastData := now s, slots := 16 })
    nextKeepalive s p
  else s

/-- WAKE_TIMEOUT (R116). -/
def doWakeTimeout (p : Nat) (s : State) : State :=
  if rd s (Reg.PORT_STATE p) = 7 then portDown s p 13 else s

/-! ## Administration -/

/-- CMD DOWN goes out in a last CONTROL flit of a port that still sends (R109, R110). -/
def tellDown (p : Nat) (s : State) : State :=
  let st := rd s (Reg.PORT_STATE p)
  let s := if 4 ≤ st then setCmdBit p 22 true s else s
  if st = 4 ∨ st = 5 ∨ st = 7 then putFlit p (controlFlit s p) s else s

/-- ADMIN written 1 (R109, R117, R120, R129). -/
def doAdminDown (p : Nat) (s : State) : State :=
  let s := wr s (Reg.PORT_ADMIN p) 1
  if chordHeld s p then s
  else
    let st := rd s (Reg.PORT_STATE p)
    let s := tellDown p s
    if st = 0 then wr s (Reg.PORT_DOWN_REASON p) 1 else portDown s p 1

/-- ADMIN written 0 (R56, R96, R120): the failure count clears, and rings in FAULT, or OFF once the optical layer has
started, are parked. At a port that a chord holds the value is stored and takes effect with the chord's removal (R129). -/
def doAdminUp (p : Nat) (s : State) : State :=
  let s := wr s (Reg.PORT_ADMIN p) 0
  if chordHeld s p then s
  else
    let s := modLink s p (fun l => { l with fails := 0 })
    let s := setCmdBit p 22 false s
    (portRings p).foldl (fun s r =>
      let st := rd s (Reg.RING_STATE r)
      if st = 6 ∨ (st = 0 ∧ s.light.stagger = 17) then parkRing s r else s) s

end Sys2Proof.Machine
end

