-- ==== Sys2Proof/Machine/Chords.lean ====
section
/-! DEFINITION. Chords: Optical Bypass Circuits (R124 to R146): setup, teardown, breaks, restore and
fill. -/

namespace Sys2Proof.Machine

/-- CHORDS IN_USE and LIT follow the chords (R145). -/
def countChords (s : State) : State :=
  let sts := (List.range 512).map (fun c => rd s (Reg.CHORD_STATE c))
  wr (wr s Reg.CHORDS_IN_USE (sts.filter (fun x => decide (x ≠ 0))).length)
    Reg.CHORDS_LIT (sts.filter (fun x => decide (x = 3))).length

/-- The key of a chord ring's seed record: port x 8 + lane x 2 + side, side 0 the add ring. -/
def seedKey (p k side : Nat) : Nat := p * 8 + k * 2 + side

/-- Every slot of a port has a seed record or a LOCKED local ring to seed from (R130, R132). -/
def seedable (s : State) (p : Nat) : Bool :=
  [0, 1, 2, 3].all (fun k => [0, 1].all (fun side =>
    (Tab.find s.light.seeds (seedKey p k side)).isSome ||
      decide (rd s (Reg.RING_STATE ((p * 4 + k) * 2 + side)) = 3)))

/-- Step 3 of R132 at one port: seed records taken where none exist, local rings OFF (R130). -/
def takeSeeds (s : State) (p : Nat) : State :=
  let temp := rdI 16 s (Reg.FAU_TJ_PHOTONIC (p / 128))
  [0, 1, 2, 3].foldl (fun s k => [0, 1].foldl (fun s side =>
    let r := (p * 4 + k) * 2 + side
    let key := seedKey p k side
    let s := match Tab.find s.light.seeds key with
      | some _ => s
      | none => modLight s (fun x => { x with
          seeds := Tab.set x.seeds key ⟨rd s (Reg.RING_HEATER r), temp⟩ })
    wr (wr s (Reg.RING_STATE r) 0) (Reg.RING_HEATER r) 0) s) s

/-- Seed records and heaters of a port's chord rings are given up with its chord. -/
def dropSeeds (s : State) (p : Nat) : State :=
  [0, 1, 2, 3].foldl (fun s k => [0, 1].foldl (fun s side =>
    modLight s (fun x => { x with
      seeds := Tab.del x.seeds (seedKey p k side), chordHeaters := Tab.del x.chordHeaters (seedKey p k side) })) s) s

/-- The heater code a seed record gives its chord ring at a photonic temperature: the local ring's code, the calibrated
offset, and the correction from the record's temperature, within the 16 bits of the DAC (R57, R130). -/
def seedHeater (key : Nat) (x : Seed) (temp : Int) : Nat :=
  (min 65535 (max 0 ((x.heater : Int) + Config.chordOffset key + Config.chordTempco key (temp - x.temp)))).toNat

/-- One chord ring is seeded from its seed record (R130). -/
def seedRing (s : State) (p side k : Nat) : State :=
  let key := seedKey p k side
  match Tab.find s.light.seeds key with
  | none => s
  | some x => modLight s (fun l => { l with
      chordHeaters := Tab.set l.chordHeaters key (seedHeater key x (rdI 16 s (Reg.FAU_TJ_PHOTONIC (p / 128)))) })

/-- The four chord rings of a port on one side: its drop rings (1) or its add rings (0). -/
def seedRings (s : State) (p side : Nat) : State := [0, 1, 2, 3].foldl (fun s k => seedRing s p side k) s

/-- Source and destination port of a strand: strand 0 runs from A to B. -/
def strandSource (x : ChordState) (strand : Nat) : Nat := if strand = 0 then x.portA else x.portB
def strandTarget (x : ChordState) (strand : Nat) : Nat := if strand = 0 then x.portB else x.portA

/-- The eight rings of a strand are seeded: drop rings at its source, add rings at its destination (R130, R131). -/
def seedStrand (x : ChordState) (strand : Nat) (s : State) : State :=
  seedRings (seedRings s (strandSource x strand) 1) (strandTarget x strand) 0

/-- Step 3 of R132: local light goes, the chord rings are seeded. -/
def chordSeed (c : Nat) (s : State) : State :=
  let x := chordOf s c
  let s := takeSeeds (takeSeeds s x.portA) x.portB
  let s := seedStrand x 1 (seedStrand x 0 s)
  setChord (wr s (Reg.CHORD_STATE c) 2) c { x with
    locked := false, retried := [false, false], dumped := [false, false] }

/-- CHORD_SETUP at the swap tick (R132): DOWN is sent on both ports, they leave service and their queues are flushed.
Ports that a move frees stay with the chord until their local rings are LOCKED (R135). -/
def chordSetup (c pa pb : Nat) (s : State) : State :=
  let before := s
  let s := [pa, pb].foldl (fun s p =>
    let s := tellDown p (setCmdBit p 22 true s)
    let s := leaveService s p
    wr s (Reg.PORT_DOWN_REASON p) 1) s
  let s := [pa, pb].foldl flushPort (groupsLose before s [pa, pb])
  let x := chordOf s c
  let s := setChord s c { portA := pa, portB := pb, leaving := x.leaving, localStep := x.localStep }
  let s := wr s (Reg.CHORD_TENANT c) (soleTenant s pa)
  let ready := decide (rd s (Reg.EYE_STATE (pairOf pa)) = 0 ∧ rd s (Reg.EYE_STATE (pairOf pb)) = 0) &&
    seedable s pa && seedable s pb
  let s := if ready then chordSeed c s else wr s (Reg.CHORD_STATE c) 1
  unitRefresh before (countChords s)

/-- CHORD_TEARDOWN at the swap tick (R134 step 1): the add rings go to the dump. -/
def chordTeardown (c : Nat) (s : State) : State :=
  let x := chordOf s c
  if x.removing then s
  else setChord s c { x with
    dumped := [true, true], removing := true, restoring := false, localStep := false,
    leaving := x.leaving ++ [x.portA, x.portB] }

/-- A chord moved to other ports (R135): the old one is removed and the new one set up at the same tick. A port that
both have keeps its seed records, and its local rings stay OFF. -/
def chordMove (c pa pb : Nat) (s : State) : State :=
  let x := chordOf s c
  let old := if x.removing then x.leaving else x.leaving ++ [x.portA, x.portB]
  let freed := old.filter (fun p => decide (p ≠ pa ∧ p ≠ pb))
  chordSetup c pa pb (setChord s c { x with leaving := freed, localStep := x.removing && x.localStep })

/-- CHORD_PENDING_READY (R132). -/
def doChordPendingReady (c : Nat) (s : State) : State :=
  let x := chordOf s c
  if rd s (Reg.CHORD_STATE c) = 1 ∧ rd s (Reg.EYE_STATE (pairOf x.portA)) = 0 ∧
      rd s (Reg.EYE_STATE (pairOf x.portB)) = 0 ∧ seedable s x.portA ∧ seedable s x.portB then
    chordSeed c s
  else s

/-- CHORD_RINGS_LOCKED (R132 step 4, R140): LIT at setup or at a restore. -/
def doChordRingsLocked (c pab pba : Nat) (s : State) : State :=
  let x := chordOf s c
  let st := rd s (Reg.CHORD_STATE c)
  let s1 := setChord s c { x with locked := true, dumped := [false, false], retried := [false, false] }
  let s1 := wr (wr s1 (Reg.CHORD_PWR_AB c) pab) (Reg.CHORD_PWR_BA c) pba
  if x.removing then s
  else if st = 2 then
    let s := raise (wr s1 (Reg.CHORD_STATE c) 3) Code.CHORD_LIT 9
      [(24, c), (16, twinPort s x.portA), (16, twinPort s x.portB)]
    countChords s
  else if st = 4 ∧ x.restoring then
    let s := setChord s1 c { chordOf s1 c with restoring := false }
    countChords (raise (wr s (Reg.CHORD_STATE c) 3) Code.CHORD_RESTORED 9 [])
  else if st = 4 then setChord s c { x with locked := true }
  else s

/-- The VET instance of a port's receive or transmit ring row (R470). -/
def portRowUnit (p side : Nat) : Nat := 4 * 4096 + (p / 128) * 32 + (p % 128) / 8 + 16 * side

/-- CHORD_SETTLE_TIMEOUT (R131): one reseed of the strand, then FAULT with both strands dumped and a vet of the row in
which the failing ring lies: a drop ring in the source's receive row, an add ring in the destination's transmit row. -/
def doChordSettleTimeout (c strand : Nat) (drop : Bool) (s : State) : State :=
  let x := chordOf s c
  let st := rd s (Reg.CHORD_STATE c)
  if st ≠ 2 ∧ ¬ (st = 4 ∧ x.restoring) then s
  else if x.retried.getD strand false then
    let s := setChord s c { x with dumped := [true, true], locked := false, restoring := false }
    let s := raise (wr s (Reg.CHORD_STATE c) 5) Code.CHORD_FAULT 9 []
    let row := if drop then portRowUnit (strandSource x strand) 1 else portRowUnit (strandTarget x strand) 0
    countChords (vetRequest s row 1 0)
  else setChord (seedStrand x strand s) c { x with retried := x.retried.set strand true }

/-- Another chord of the same swap has taken the port (R135). -/
def heldByOther (s : State) (c p : Nat) : Bool :=
  (activeChords s).any (fun d => let y := chordOf s d
    decide (d ≠ c) && !y.removing && (decide (y.portA = p) || decide (y.portB = p)))

/-- Ports whose local rings come back when a chord is removed or moved. -/
def freedPorts (s : State) (c : Nat) : List Nat := (chordOf s c).leaving.filter (fun p => !heldByOther s c p)

/-- CHORD_ADD_CLEAR (R134 steps 2 and 3, R135): dump and drop rings detuned; the local rings of the ports that no chord
takes over leave OFF to count. -/
def doChordAddClear (c : Nat) (s : State) : State :=
  let x := chordOf s c
  if x.leaving.isEmpty ∨ x.localStep then s
  else
    let s := (freedPorts s c).foldl (fun s p => (portRings p).foldl (fun s r =>
      if rd s (Reg.RING_STATE r) = 0 then parkRing s r else s) (dropSeeds s p)) s
    setChord s c { x with localStep := true, locked := x.locked && !x.removing }

/-- Every local ring of a port counts no more: LOCKED, or in FAULT. -/
def portRingsDone (s : State) (p : Nat) : Bool :=
  (portRings p).all (fun r => decide (rd s (Reg.RING_STATE r) = 3 ∨ rd s (Reg.RING_STATE r) = 6))

/-- The instance reads as one that holds no chord (R134 step 4). -/
def chordUnused (c : Nat) (s : State) : State :=
  let s := wr s (Reg.CHORD_STATE c) 0
  let s := wr (wr s (Reg.CHORD_PWR_AB c) 0x8000) (Reg.CHORD_PWR_BA c) 0x8000
  setChord (wr (wr s (Reg.CHORD_FILL c) 0) (Reg.CHORD_TENANT c) 0xFFFF) c {}

/-- CHORD_LOCAL_LOCKED (R134 step 4, R135): the chord that was removed or moved is gone, and the ports it frees obey
their ADMIN again (R129). -/
def doChordLocalLocked (c : Nat) (s : State) : State :=
  let x := chordOf s c
  let ports := freedPorts s c
  if x.localStep && ports.all (portRingsDone s) && !x.leaving.isEmpty then
    let before := s
    let s := raise s Code.CHORD_DOWN 9 []
    let s := ports.foldl (fun s p => modLink (setCmdBit p 22 (decide (rd s (Reg.PORT_ADMIN p) = 1)) s) p
      (fun l => { l with fails := 0 })) s
    let s := if x.removing then chordUnused c s
      else setChord s c { chordOf s c with leaving := [], localStep := false }
    unitRefresh before (countChords s)
  else s

/-- CHORD_BREAK (R140): the strand toward a pair that went SHUT is dumped and the chord BROKEN, also while it is being
set up. -/
def chordsBreak (t : Nat) (s : State) : State :=
  (List.range 512).foldl (fun s c =>
    let x := chordOf s c
    let st := rd s (Reg.CHORD_STATE c)
    if 2 ≤ st ∧ st ≤ 4 ∧ (pairOf x.portA = t ∨ pairOf x.portB = t) ∧ x.portA < 2048 then
      let d := [decide (pairOf x.portB = t) || x.dumped.getD 0 false,
        decide (pairOf x.portA = t) || x.dumped.getD 1 false]
      let s := setChord s c { x with dumped := d, restoring := false }
      let f := rd s (Reg.CHORD_FILL c)
      let f := if d.getD 0 false ∧ f.testBit 0 then f - 1 else f
      let f := if d.getD 1 false ∧ f.testBit 1 then f - 2 else f
      let s := wr s (Reg.CHORD_FILL c) f
      let s := if st ≠ 4 then inc (wr s (Reg.CHORD_STATE c) 4) (Reg.CHORD_BREAKS c) 32 else s
      countChords (raise s Code.CHORD_BROKEN 9 [])
    else s) s

/-- A pair returns to OPEN: a BROKEN chord with AUTO_RESTORE 1 seeds the add rings of its dumped strand again (R140). -/
def chordsReopen (t : Nat) (s : State) : State :=
  (List.range 512).foldl (fun s c =>
    let x := chordOf s c
    if rd s (Reg.CHORD_STATE c) = 4 ∧ x.removing = false ∧ (pairOf x.portA = t ∨ pairOf x.portB = t) ∧
        rd s (Reg.CHORD_AUTO_RESTORE c) = 1 ∧ rd s (Reg.EYE_STATE (pairOf x.portA)) = 0 ∧
        rd s (Reg.EYE_STATE (pairOf x.portB)) = 0 then
      let s := [0, 1].foldl (fun s i =>
        if x.dumped.getD i false then seedRings s (strandTarget x i) 0 else s) s
      setChord s c { x with restoring := true, retried := [false, false] }
    else s) s

/-- CHORD_FILL_ENTER (R141): the strand's add rings detuned, local comb lines pass as fill. -/
def doChordFillEnter (c strand : Nat) (s : State) : State :=
  let x := chordOf s c
  let st := rd s (Reg.CHORD_STATE c)
  let f := rd s (Reg.CHORD_FILL c)
  if (st = 3 ∨ st = 4) ∧ x.dumped.getD strand false = false ∧ f.testBit strand = false then
    wr (setChord s c { x with fillOn := x.fillOn.set strand true }) (Reg.CHORD_FILL c) (f + 2 ^ strand)
  else s

/-- CHORD_FILL_EXIT (R141): dump rings engaged again, then the add rings tuned in. -/
def doChordFillExit (c strand : Nat) (s : State) : State :=
  let x := chordOf s c
  let f := rd s (Reg.CHORD_FILL c)
  if f.testBit strand then
    wr (setChord s c { x with fillOn := x.fillOn.set strand false }) (Reg.CHORD_FILL c) (f - 2 ^ strand)
  else s

end Sys2Proof.Machine
end

