-- ==== Sys2Proof/Machine/Light.lean ====
section
/-! DEFINITION. Light, Lanes and Feeds (R46 to R89): ring lock, feeds and their migration, the
light source modules, and eye safety. -/

namespace Sys2Proof.Machine

/-! ## Rings (R52 to R59) -/

/-- The module that lights an input of a position (R63). -/
def clsOf (feed input : Nat) : Nat := (feed / 4 + 16 - input) % 16

/-- Light is on the bus of a ring: the position passes an input whose module is enabled, or the receive fibre is at
least 3 dB above the loss-of-light threshold (R54, R56, R64). -/
def busLight (s : State) (r : Nat) : Bool :=
  let p := r / 8
  if r % 2 = 0 then
    let sel := rd s (Reg.FEED_SELECTED (feedOf p))
    decide (sel ≠ 0xFF) && decide (rd s (Reg.CLS_EN_STATE (clsOf (feedOf p) sel)) = 1)
  else decide (-1700 ≤ rdI 16 s (Reg.EYE_RX_DBM (pairOf p)))

/-- Rings of the solid in a state, from the dictionary's listed values. -/
def ringsIn (s : State) (st : Nat) : List Nat :=
  (s.regs.filter (fun e => decide (e.1.obj = 0x0203 ∧ e.1.el = 0 ∧ e.2 = st))).map (fun e => e.1.inst)

/-- The rings of one fibre: side 0 the modulators, side 1 the demultiplexers (R47). -/
def fibreRings (pair side : Nat) : List Nat :=
  (List.range 32).map (fun i => ((pair * 8 + i / 4) * 4 + i % 4) * 2 + side)

/-- Chords that hold a slot group of a duplex pair. -/
def chordsOnPair (s : State) (pair : Nat) : List Nat :=
  (activeChords s).filter (fun c =>
    decide (pairOf (chordOf s c).portA = pair) || decide (pairOf (chordOf s c).portB = pair))

/-- A chord that holds a slot group of a fibre has drop rings on it: it has taken the slot group, and its teardown has not
detuned them (R132, R134). -/
def hasDrops (s : State) (c : Nat) : Bool :=
  decide (2 ≤ rd s (Reg.CHORD_STATE c)) && !((chordOf s c).removing && (chordOf s c).localStep)

/-- A demultiplexer row counts one ring at a time from slot 31 down, and only while every chord drop ring of its fibre is
locked (R53; log entry 87). -/
def rowTurn (s : State) (r : Nat) : Bool :=
  if r % 2 = 0 then true
  else
    let pair := pairOf (r / 8)
    (fibreRings pair 1).all (fun r' =>
      let st := rd s (Reg.RING_STATE r')
      decide (st ≠ 2) && (decide (r' ≤ r) || decide (st ≠ 1))) &&
    (chordsOnPair s pair).all (fun c => !hasDrops s c || (chordOf s c).locked)

/-- A PARKED ring could count but for a free counting place. -/
def wantsCount (s : State) (r : Nat) : Bool :=
  decide (rd s (Reg.RING_STATE r) = 1) && busLight s r && rowTurn s r

/-- RING_COUNT_START (R55, R56): places are served in order of ring instance number. -/
def doRingCountStart (r : Nat) (s : State) : State :=
  let ahead := ((ringsIn s 1).filter (fun r' => decide (r' < r) && wantsCount s r')).length
  if wantsCount s r ∧ (ringsIn s 2).length + ahead < rd s Reg.OPTICS_SWEEP_MAX then
    wr s (Reg.RING_STATE r) 2
  else s

/-- RELOCKS saturates at 65,535 and the port's bank counts the event (R85, R453 0x200F). -/
def countRelock (r : Nat) (s : State) : State :=
  let n := rd s (Reg.RING_RELOCKS r)
  let s := wr s (Reg.RING_RELOCKS r) (if n < 65535 then n + 1 else 65535)
  countPort s (r / 8) 0x200F

/-- RING_LINE_REACHED (R53): the ring locks at line i + 1. -/
def doRingLineReached (r heater : Nat) (s : State) : State :=
  if rd s (Reg.RING_STATE r) = 2 then
    let s := wr (wr (wr s (Reg.RING_STATE r) 3) (Reg.RING_HEATER r) heater) (Reg.RING_LOCK_ERR r) 0
    if Tab.get false s.light.recount r then
      countRelock r (modLight s (fun x => { x with recount := Tab.put false x.recount r false }))
    else s
  else s

/-- The VET instance of a ring's row (R470). -/
def ringRowUnit (r : Nat) : Nat :=
  let p := r / 8
  4 * 4096 + (p / 128) * 32 + (p % 128) / 8 + 16 * (r % 2)

/-- A ring enters FAULT: heater off, RING_FAULT written, a vet of its row scheduled (R56, R59, R479). -/
def ringFault (r : Nat) (s : State) : State :=
  let s := wr (wr s (Reg.RING_STATE r) 6) (Reg.RING_HEATER r) 0
  let s := modLight s (fun x => { x with relocks := Tab.put 0 x.relocks r 0 })
  let s := raise s Code.RING_FAULT 9 []
  let s := vetRequest s (ringRowUnit r) 1 0
  if r % 2 = 1 then excludeLane (r / 8) (r / 2 % 4) 1 s else s

/-- RING_HEATER_FULL (R56). -/
def doRingHeaterFull (r : Nat) (s : State) : State :=
  if rd s (Reg.RING_STATE r) = 2 then ringFault r s else s

/-- RING_LOCK_ERROR (R56): parked to recount. -/
def doRingLockError (r err : Nat) (s : State) : State :=
  if rd s (Reg.RING_STATE r) = 3 ∧ busLight s r then
    parkToRecount (wr s (Reg.RING_LOCK_ERR r) err) r
  else s

/-- BUS_LIGHT_LOST (R56). -/
def doBusLightLost (r : Nat) (s : State) : State :=
  if rd s (Reg.RING_STATE r) = 3 then wr s (Reg.RING_STATE r) 4 else s

/-- HOLD_LIGHT_BACK (R56): reacquired within the capture range, or parked. -/
def doHoldLightBack (r : Nat) (ok : Bool) (s : State) : State :=
  if rd s (Reg.RING_STATE r) = 4 then
    if ok then wr s (Reg.RING_STATE r) 3 else parkToRecount s r
  else s

/-- HOLD_TIMEOUT (R56). -/
def doHoldTimeout (r : Nat) (s : State) : State :=
  if rd s (Reg.RING_STATE r) = 4 then parkToRecount s r else s

/-- OFFSET moved one channel from the slot used toward the slot expected (R59, R85). -/
def stepOffset (r used : Nat) (s : State) : State :=
  let want := slotOf (r / 8) (r / 2 % 4)
  let d : Int := if used < want then 1 else if want < used then -1 else 0
  wrI 8 s (Reg.RING_OFFSET r) (rdI 8 s (Reg.RING_OFFSET r) + d)

/-- LANE_ID_MISMATCH (R59 steps 1 and 2). A receive lane is excluded here; the lane of a modulator ring is excluded by
the partner, which decides the set of lanes it receives and names it in RXREQ (R111; log entry 88). -/
def doLaneIdMismatch (r used : Nat) (s : State) : State :=
  let p := r / 8
  if rd s (Reg.RING_STATE r) = 3 ∧ used ≠ slotOf p (r / 2 % 4) then
    let s := if r % 2 = 1 then excludeLane p (r / 2 % 4) 1 s else s
    let s := wr s (Reg.RING_STATE r) 5
    let s := stepOffset r used s
    let s := modLight s (fun x => { x with
      relocks := Tab.put 0 x.relocks r 1, usedSlot := Tab.put 0 x.usedSlot r used })
    raise s Code.RING_WRONG_WL 9 [(24, r), (8, slotOf p (r / 2 % 4)), (8, used)]
  else s

/-- RELOCK_DONE (R59 step 3): another step while the identifier mismatches, three at most. -/
def doRelockDone (r heater idSlot : Nat) (s : State) : State :=
  if rd s (Reg.RING_STATE r) = 5 then
    let n := Tab.get 0 s.light.relocks r
    let s := countRelock r (wr s (Reg.RING_HEATER r) heater)
    if idSlot = slotOf (r / 8) (r / 2 % 4) then
      modLight (wr s (Reg.RING_STATE r) 3) (fun x => { x with relocks := Tab.put 0 x.relocks r 0 })
    else if 3 ≤ n then ringFault r s
    else
      modLight (stepOffset r idSlot s) (fun x => { x with
        relocks := Tab.put 0 x.relocks r (n + 1), usedSlot := Tab.put 0 x.usedSlot r idSlot })
  else s

/-- RELOCK_TIMEOUT (R59). -/
def doRelockTimeout (r : Nat) (s : State) : State :=
  if rd s (Reg.RING_STATE r) = 5 then ringFault r s else s

/-! ## Feeds (R63 to R76) -/

/-- The eight feed inputs of a module as (position, input) (R63). -/
def clsInputs (n : Nat) : List (Nat × Nat) :=
  (List.range 4).map (fun k => (n * 4 + k, 0)) ++
  (List.range 4).map (fun k => ((n + 1) % 16 * 4 + k, 1))

def feedInput (s : State) (feed input : Nat) : FeedInput :=
  Tab.get {} s.light.inputs (feed * 2 + input)

def setFeedInput (s : State) (feed input : Nat) (x : FeedInput) : State :=
  modLight s (fun l => { l with inputs := Tab.put {} l.inputs (feed * 2 + input) x })

def migration (s : State) (feed : Nat) : Migration := Tab.get {} s.light.migrations feed

def setMigration (s : State) (feed : Nat) (m : Migration) : State :=
  modLight s (fun l => { l with migrations := Tab.put {} l.migrations feed m })

/-- The reference of a line on an input; +11.0 dBm where it is uncommissioned (R67). -/
def lineRef (s : State) (feed input i : Nat) : Int :=
  let r := if input = 0 then rdI 16 s (Reg.LINE_REF_A (feed * 32 + i))
    else rdI 16 s (Reg.LINE_REF_B (feed * 32 + i))
  if r = -32768 then 1100 else r

def commissioned (s : State) (feed input : Nat) : Bool :=
  (rd s (Reg.FEED_COMMISSIONED feed)).testBit input

/-- Worst level of an input's lines. -/
def inputLevel (s : State) (feed input : Nat) : Nat := (feedInput s feed input).level.foldl max 0

/-- Level of a line after one window: WARN and MIGRATE are confirmed after three windows below and
clear after three windows 0.5 dB above (R68). -/
def lineLevel (old : Nat) (warnRun migRun warnClear migClear : Nat) : Nat :=
  if old = 3 then 3
  else if 3 ≤ migRun ∨ (old = 2 ∧ migClear < 3) then 2
  else if 3 ≤ warnRun ∨ (1 ≤ old ∧ warnClear < 3) then 1
  else 0

/-- FAIL is cleared, by an operator's action or a change of feed: a line at FAIL is again as its 1 ms windows judge it
(R68, R73; log entry 89). -/
def clearedInput (x : FeedInput) : FeedInput :=
  { x with
    failRun := [],
    level := (List.range x.level.length).map (fun i =>
      if x.level.getD i 0 = 3 then
        lineLevel 2 (x.warnRun.getD i 0) (x.migRun.getD i 0) (x.warnClear.getD i 0) (x.migClear.getD i 0)
      else x.level.getD i 0) }

def clearFail (s : State) (feed input : Nat) : State :=
  setFeedInput s feed input (clearedInput (feedInput s feed input))

/-- The input gives no light, or a line of it is at FAIL (R74). -/
def inputOut (s : State) (feed input : Nat) : Bool :=
  decide (rd s (Reg.CLS_EN_STATE (clsOf feed input)) = 0) || decide (inputLevel s feed input = 3)

/-- R70: commissioned, lit, and above WARN on all 32 lines, by their confirmed levels (log entry 90). -/
def passesR70 (s : State) (feed input : Nat) : Bool :=
  let x := feedInput s feed input
  commissioned s feed input && decide (rd s (Reg.CLS_EN_STATE (clsOf feed input)) = 1) &&
    decide (x.lines.length = 32) && decide (inputLevel s feed input = 0)

/-- The ports a position powers that no chord holds (R47, R142). -/
def feedPorts (s : State) (feed : Nat) : List Nat :=
  ((List.range 32).map (fun i => feed / 4 * 128 + feed % 4 * 32 + i)).filter (fun p => !chordHeld s p)

/-- STANDBY of a position (R76, R83). -/
def updateStandby (feed : Nat) (s : State) : State :=
  let sel := rd s (Reg.FEED_SELECTED feed)
  if sel = 0xFF then wr s (Reg.FEED_STANDBY feed) 2
  else
    let i := 1 - sel
    let v := if passesR70 s feed i then 0
      else if commissioned s feed i ∧ rd s (Reg.CLS_EN_STATE (clsOf feed i)) = 1 ∧
          inputLevel s feed i = 1 then 1
      else 2
    wr s (Reg.FEED_STANDBY feed) v

/-- FAU STATE and PAIRS_SHUT (R82). DARK is an FAU whose four positions are DARK (DESIGN CHOICE, log entry 91). -/
def updateFau (a : Nat) (s : State) : State :=
  let eyes := (List.range 16).map (fun t => rd s (Reg.EYE_STATE (a * 16 + t)))
  let shut := (eyes.filter (fun e => decide (e = 1 ∨ e = 2))).length
  let feeds := (List.range 4).map (fun k => rd s (Reg.FEED_STATE (a * 4 + k)))
  let dark := feeds.all (fun x => decide (x = 5))
  let bad := feeds.any (fun x => decide (x = 4 ∨ x = 5)) || decide (0 < shut)
  wr (wr s (Reg.FAU_PAIRS_SHUT a) shut) (Reg.FAU_STATE a) (if dark then 2 else if bad then 1 else 0)

/-- The position's 32 ports, and its four duplex pairs. -/
def allFeedPorts (feed : Nat) : List Nat := (List.range 32).map (fun i => feed / 4 * 128 + feed % 4 * 32 + i)
def feedPairs (feed : Nat) : List Nat := (List.range 4).map (fun k => feed / 4 * 16 + feed % 4 * 4 + k)

/-- Ports retired by a migration or a vet drain are put back: CMD levels cleared, held channels
released on their pins (R71 step 10, R72). -/
def reinstatePorts (ports : List Nat) (s : State) : State :=
  let s := ports.foldl (fun s p => modLink (setCmdBit p 31 false s) p
    (fun l => { l with retiring := false })) s
  let s := ports.foldl (fun s p => groupsGainPort s p) s
  releaseHeldPorts s ports

/-- A facet's lattice is in use once each of its FAUs has had a lit position (R81; log entry 92). -/
def noteLit (g : Nat) (s : State) : State :=
  let lit := fun (a : Nat) => (List.range 4).any (fun k => decide (rd s (Reg.FEED_STATE (a * 4 + k)) ≠ 5))
  if s.light.latticeLit.contains g = false ∧ lit (2 * g) = true ∧ lit (2 * g + 1) = true then
    modLight s (fun x => { x with latticeLit := x.latticeLit ++ [g] })
  else s

/-- A position's STATE, with what follows it: its FAU, its facet's lattice, and STANDBY. -/
def setFeedState (feed v : Nat) (s : State) : State :=
  updateFau (feed / 4) (updateStandby feed (noteLit (feed / 8) (wr s (Reg.FEED_STATE feed) v)))

/-- Attenuators that have not been opened since the start of the optical layer open with the position's light (R81). -/
def openPairs (feed : Nat) (s : State) : State :=
  (feedPairs feed).foldl (fun s t =>
    let x := Tab.get {} s.light.pairs t
    if x.opened then s
    else modLight (wr s (Reg.EYE_STATE t) 0) (fun l => { l with
      pairs := Tab.put {} l.pairs t { x with closed := false, probe := false, opened := true } })) s

/-- Step 3 of R81: rings that are OFF wait to count, the transmit rings of lit positions and every receive ring; those of
slot groups a chord has taken stay OFF (R53, R143). -/
def parkFeedRings (s : State) (feed : Nat) : State :=
  let lit := decide (rd s (Reg.FEED_SELECTED feed) ≠ 0xFF)
  ((allFeedPorts feed).filter (fun p => !chordTakes s p)).foldl (fun s p => (portRings p).foldl (fun s r =>
    if rd s (Reg.RING_STATE r) = 0 ∧ (lit = true ∨ r % 2 = 1) then wr s (Reg.RING_STATE r) 1 else s) s) s

/-- The position's ports announce DARK, each in a CONTROL flit, and leave service (R71 step 6). -/
def announceDark (feed : Nat) (s : State) : State :=
  let s := (feedPorts s feed).foldl (fun s p =>
    let st := rd s (Reg.PORT_STATE p)
    let s := setCmdBit p 29 true s
    leaveService (if st = 4 ∨ st = 5 ∨ st = 7 then putFlit p (controlFlit s p) s else s) p) s
  (feedPairs feed).foldl (fun s t =>
    if rd s (Reg.EYE_STATE t) = 0 then wr s (Reg.EYE_STATE t) 4 else s) s

/-- Steps 6 and 7 of R71, or the bare switch of R73: the ports leave service, the modulators are blanked, the selector
passes the other input, FAIL clears with the change of feed, and the position's transmit rings hold until the new comb
arrives. -/
def switchFeed (feed : Nat) (drained flushed : Bool) (s : State) : State :=
  let sel := rd s (Reg.FEED_SELECTED feed)
  let next := if sel = 0xFF then (if passesR70 s feed 0 then 0 else 1) else 1 - sel
  let before := s
  let ports := feedPorts s feed
  let s := if drained then announceDark feed s else portsDown s ports 9
  let s := clearFail (clearFail (wr s (Reg.FEED_SELECTED feed) next) feed 0) feed 1
  let s := (List.range 32).foldl (fun s i =>
    let s := wr (wr s (Reg.LINE_SEL_DBM (feed * 32 + i)) 0x8000) (Reg.LINE_STBY_DBM (feed * 32 + i)) 0x8000
    wr (wr s (Reg.LINE_STATE (feed * 32 + i)) 0) (Reg.LINE_SPREAD (feed * 32 + i)) 0) s
  let s := ports.foldl (fun s p => [0, 1, 2, 3].foldl (fun s k =>
    let r := (p * 4 + k) * 2
    if rd s (Reg.RING_STATE r) = 3 then wr s (Reg.RING_STATE r) 4 else s) s) s
  let s := parkFeedRings s feed
  let m := migration s feed
  let s := setMigration s feed { m with step := 8, drained := drained, flushed := flushed }
  unitRefresh before (setFeedState feed 3 (openPairs feed s))

/-- A migration is abandoned or blocked (R70, R72). -/
def endBlocked (feed result : Nat) (s : State) : State :=
  let s := raise s Code.MIGRATE_BLOCKED 9 []
  let s := wr (wr s (Reg.FEED_RESULT feed) result) (Reg.FEED_COMMAND feed) 0
  let sel := rd s (Reg.FEED_SELECTED feed)
  let lv := if sel = 0xFF then 5 else min 2 (inputLevel s feed sel)
  setMigration (setFeedState feed lv s) feed {}

/-- A FAILED position both of whose inputs are dark or at FAIL is DARK (R74). -/
def judgeDark (feed : Nat) (s : State) : State :=
  if rd s (Reg.FEED_STATE feed) = 4 ∧ inputOut s feed 0 = true ∧ inputOut s feed 1 = true then
    unitRefresh s (setFeedState feed 5 s)
  else s

/-- FAIL on the selected input (R72, R73, R74): the ports go down and FADE_FAIL is written, once while the position stays
FAILED. Before step 7 of a migration whose standby passed R70 the sequence goes straight to step 7; after step 7 the new
input is judged alone, and a migration it ends so reads RESULT 3 (log entry 93). -/
def feedFail (feed : Nat) (s : State) : State :=
  let st := rd s (Reg.FEED_STATE feed)
  if st = 5 then s
  else if st = 4 then judgeDark feed s
  else
    let before := s
    let m := migration s feed
    let ports := feedPorts s feed
    let s := portsDown s ports 9
    let s := dropTapTransfers s feed
    let s := raise s Code.FADE_FAIL 9 []
    let sel := rd s (Reg.FEED_SELECTED feed)
    let ready := decide (sel ≠ 0xFF) && passesR70 s feed (1 - sel)
    let s := unitRefresh before (setFeedState feed 4 s)
    if st = 3 ∧ m.step < 8 ∧ (2 < m.step ∨ ready = true) then switchFeed feed false m.flushed s
    else if cfgRd s (Reg.FEED_MODE feed) = 0 ∧ ready = true then
      switchFeed feed false m.flushed (setMigration s feed ⟨7, if st = 3 then m.t0 else now s, m.flushed, false⟩)
    else
      let s := if st = 3 then
          reinstatePorts ports (raise (wr (wr s (Reg.FEED_RESULT feed) 3) (Reg.FEED_COMMAND feed) 0) Code.MIGRATE_BLOCKED 9 [])
        else s
      judgeDark feed (setMigration s feed {})

/-- The standby has fallen below MIGRATE, or is dark, before step 7: the migration is abandoned and the ports are
reinstated on the present input, unless that is itself at FAIL (R72). -/
def standbyLost (feed : Nat) (s : State) : State :=
  let m := migration s feed
  let sel := rd s (Reg.FEED_SELECTED feed)
  if 2 < m.step ∧ m.step < 8 then
    let s := endBlocked feed 3 (reinstatePorts (feedPorts s feed) s)
    if sel ≠ 0xFF ∧ inputOut s feed sel = true then feedFail feed s else s
  else s

/-- An input that is not selected is dark or at FAIL. -/
def standbyOut (feed : Nat) (s : State) : State := judgeDark feed (standbyLost feed (updateStandby feed s))

/-- A module loses CLS_EN and is latched; the positions that select it are at FAIL, and those it
stands by for are not ready (R75, R76). -/
def dropCls (n latch : Nat) (s : State) : State :=
  let s := wr (wr s (Reg.CLS_EN_STATE n) 0) (Reg.CLS_LATCH n) latch
  let s := modLight s (fun x => { x with modules := Tab.put {} x.modules n {} })
  (clsInputs n).foldl (fun s x =>
    if rd s (Reg.FEED_SELECTED x.1) = x.2 then feedFail x.1 s else standbyOut x.1 s) s

/-- CLS_POLL (R66): what a module answers over its sideband; the first answer after an enable has
its set point written. Polling pauses while the groom is down (R540). -/
def doClsPoll (n id status temp : Nat) (lines : List Int) (s : State) : State :=
  if s.groom.up = false ∨ rd s (Reg.CLS_EN_STATE n) = 0 then s
  else
    let m := Tab.get {} s.light.modules n
    let s := wr (wr s (Reg.CLS_MODULE_ID n) id) (Reg.CLS_TEMP n) temp
    let s := if m.answered then s else emit s (.clsWrite n 0x50 (rd s (Reg.CLS_SETPOINT n)))
    let m' : ClsState := { answered := true, lines := if lines = [] then m.lines else lines, status := status }
    modLight s (fun x => { x with modules := Tab.put {} x.modules n m' })

/-- CLS_ANSWER_TIMEOUT (R66). -/
def doClsAnswerTimeout (n : Nat) (s : State) : State :=
  if rd s (Reg.CLS_EN_STATE n) = 1 ∧ (Tab.get {} s.light.modules n).answered = false then
    raise (dropCls n 4 s) Code.CLS_LATCH 9 []
  else s

/-- A run of consecutive readings below a level, per line. -/
def runs (old : List Nat) (below : List Bool) : List Nat :=
  (List.range 32).map (fun i => if below.getD i false then old.getD i 0 + 1 else 0)

/-- A monitor's newest total lies more than 10 dB below one of the 100 µs before it (R75). -/
def totalFell (x : FeedInput) : Bool :=
  match x.totals with
  | [] => false
  | t0 :: past => past.any (fun v => decide (1000 < v - t0))

/-- A monitor's newest total lies within 1 dB of its previous value (R75). -/
def totalSteady (x : FeedInput) : Bool :=
  match x.totals with
  | a :: b :: _ => decide (a - b ≤ 100 ∧ b - a ≤ 100)
  | _ => false

/-- A feed break of a module: one output fell while another, sampled no earlier than it, is steady (R75). The monitors'
samples come one after another, so the other's must be no older (log entry 94). -/
def feedBroken (s : State) (n : Nat) : Bool :=
  (clsInputs n).any (fun x => totalFell (feedInput s x.1 x.2) &&
    (clsInputs n).any (fun y => decide (y ≠ x) && totalSteady (feedInput s y.1 y.2) && !totalFell (feedInput s y.1 y.2) &&
      decide ((feedInput s x.1 x.2).at_ ≤ (feedInput s y.1 y.2).at_)))

/-- FEED_MONITOR_SAMPLE (R68 FAIL, R75 feed break and dark module); a reading at the threshold has crossed it (log entry
89). -/
def doFeedMonitor (feed input : Nat) (total : Int) (lines : List Int) (s : State) : State :=
  let x := feedInput s feed input
  let n := clsOf feed input
  let rel := (List.range 32).map (fun i => lines.getD i 0 - lineRef s feed input i)
  let selected := decide (rd s (Reg.FEED_SELECTED feed) = input)
  let fr := if lines = [] then x.failRun else runs x.failRun (rel.map (fun d => decide (d ≤ -400)))
  let level := if lines = [] then x.level
    else (List.range 32).map (fun i => if 2 ≤ fr.getD i 0 then 3 else x.level.getD i 0)
  let failed := level.any (fun v => decide (v = 3))
  let s := setFeedInput s feed input { x with
    totals := (total :: x.totals).take 11, failRun := fr, level := level, at_ := now s }
  let enabled := decide (rd s (Reg.CLS_EN_STATE n) = 1)
  if enabled && (clsInputs n).all (fun y => totalFell (feedInput s y.1 y.2)) then
    raise (dropCls n 3 s) Code.CLS_LATCH 9 []
  else if enabled && feedBroken s n then raise (dropCls n 1 s) Code.FEED_BREAK 9 []
  else if failed = false then s
  else if selected then
    feedFail feed ((List.range 32).foldl (fun s i =>
      if level.getD i 0 = 3 then wr s (Reg.LINE_STATE (feed * 32 + i)) 3 else s) s)
  else standbyOut feed s

/-- Mean of the taps that agree: all four, or the three closest where they spread by more than
2 dB (R68). -/
def tapMean (row : List Int) : Int × Nat :=
  let lo := row.foldl min (row.getD 0 0)
  let hi := row.foldl max (row.getD 0 0)
  let sum := row.foldl (· + ·) 0
  let spread := (hi - lo).toNat
  if row.length = 4 ∧ 200 < spread then
    -- the odd tap is the one farther from the mean of all four
    if sum * 2 > 4 * (hi + lo) then ((sum - lo) / 3, spread) else ((sum - hi) / 3, spread)
  else (if row.length = 0 then -32768 else sum / row.length, spread)

/-- The start of a migration: STATE MIGRATING, and the standby check follows (R71 step 1). -/
def startMigration (feed : Nat) (s : State) : State :=
  setMigration (wr s (Reg.FEED_STATE feed) 3) feed ⟨2, now s, false, true⟩

/-- Steps 2 and 3 of R81 at one position: the input that passes R70 is selected, its transmit rings count and its
attenuators open. With none, the position is DARK. -/
def startFeed (s : State) (feed : Nat) : State :=
  let pick := if passesR70 s feed 0 then some 0 else if passesR70 s feed 1 then some 1 else none
  match pick with
  | none => setFeedState feed 5 s
  | some i => openPairs feed (setFeedState feed 0 (wr s (Reg.FEED_SELECTED feed) i))

/-- A DARK position has an input that passes R70 again: it is used, in either mode (R74; log entry 93). -/
def leaveDark (feed : Nat) (s : State) : State :=
  let sel := rd s (Reg.FEED_SELECTED feed)
  if rd s (Reg.FEED_STATE feed) ≠ 5 ∨ s.light.stagger ≠ 17 then s
  else if sel = 0xFF then unitRefresh s (startFeed s feed)
  else if passesR70 s feed sel then unitRefresh s (setFeedState feed 0 s)
  else if passesR70 s feed (1 - sel) then switchFeed feed false false (setMigration s feed ⟨7, now s, false, false⟩)
  else s

/-- FEED_WINDOW_EVAL (R68, R69, R72, R74). A reading at a threshold has crossed it (log entry 89); AUTO starts a migration at
the crossing alone (log entry 95); TAP_SPREAD is written in every window in which a line's taps disagree (log entry 96). -/
def doFeedWindow (feed input : Nat) (rows : List (List Int)) (s : State) : State :=
  if rows.length ≠ 32 then s
  else
    let x := feedInput s feed input
    let sel := rd s (Reg.FEED_SELECTED feed)
    let selected := decide (sel = input)
    let means := rows.map tapMean
    let rel := (List.range 32).map (fun i => (means.getD i (0, 0)).1 - lineRef s feed input i)
    let wRun := runs x.warnRun (rel.map (fun d => decide (d ≤ -150)))
    let mRun := runs x.migRun (rel.map (fun d => decide (d ≤ -250)))
    let wClr := runs x.warnClear (rel.map (fun d => decide (-100 ≤ d)))
    let mClr := runs x.migClear (rel.map (fun d => decide (-200 ≤ d)))
    let level := (List.range 32).map (fun i => lineLevel (x.level.getD i 0) (wRun.getD i 0)
      (mRun.getD i 0) (wClr.getD i 0) (mClr.getD i 0))
    let oldWorst := x.level.foldl max 0
    let worst := level.foldl max 0
    let s := setFeedInput s feed input { x with
      lines := means.map (fun m => m.1), warnRun := wRun, migRun := mRun, warnClear := wClr,
      migClear := mClr, level := level }
    if selected then
      let s := (List.range 32).foldl (fun s i =>
        let m := means.getD i (0, 0)
        let s := wrI 16 s (Reg.LINE_SEL_DBM (feed * 32 + i)) m.1
        let s := wr s (Reg.LINE_SPREAD (feed * 32 + i)) m.2
        let s := wr s (Reg.LINE_STATE (feed * 32 + i)) (level.getD i 0)
        if 200 < m.2 then raise s Code.TAP_SPREAD 9 [] else s) s
      let s := wrI 16 s (Reg.FEED_WORST feed) (rel.foldl min (rel.getD 0 0))
      let st := rd s (Reg.FEED_STATE feed)
      let s := if oldWorst < 1 ∧ 1 ≤ worst then raise s Code.FADE_WARN 9 [] else s
      let s := if oldWorst < 2 ∧ 2 ≤ worst then raise s Code.FADE_MIGRATE 9 [] else s
      if 3 ≤ st then leaveDark feed s
      else if oldWorst < 2 ∧ 2 ≤ worst ∧ cfgRd s (Reg.FEED_MODE feed) = 0 then startMigration feed s
      else wr s (Reg.FEED_STATE feed) (min worst 2)
    else
      let s := (List.range 32).foldl (fun s i =>
        wrI 16 s (Reg.LINE_STBY_DBM (feed * 32 + i)) (means.getD i (0, 0)).1) s
      let s := updateStandby feed s
      leaveDark feed (if 2 ≤ worst then standbyLost feed s else s)

/-- A COMMAND refused because the position is MIGRATING: RESULT 2, and MIGRATE_BLOCKED of a refused migration (R83, R89). -/
def refuseBusy (feed cmd : Nat) (s : State) : State :=
  let s := wr s (Reg.FEED_RESULT feed) 2
  if cmd = 1 then raise s Code.MIGRATE_BLOCKED 9 [] else s

/-- MIGRATE, FEED COMMAND 1 (R69, R73, R74). At a FAILED or DARK position the operator's action clears FAIL: the position
takes the standby where that passes R70, else its present input where that is above WARN again, else is blocked. -/
def doMigrate (feed : Nat) (s : State) : State :=
  let st := rd s (Reg.FEED_STATE feed)
  if st = 3 then refuseBusy feed 1 s
  else if st = 4 ∨ st = 5 then
    let sel := rd s (Reg.FEED_SELECTED feed)
    let cleared := clearFail (clearFail s feed 0) feed 1
    let ready := if sel = 0xFF then passesR70 cleared feed 0 || passesR70 cleared feed 1
      else passesR70 cleared feed (1 - sel)
    if ready then
      switchFeed feed false false
        (setMigration (wr cleared (Reg.FEED_COMMAND feed) 1) feed ⟨7, now s, false, false⟩)
    else if sel ≠ 0xFF ∧ inputOut cleared feed sel = false ∧ inputLevel cleared feed sel = 0 then
      unitRefresh s (setFeedState feed 0 (wr cleared (Reg.FEED_RESULT feed) 0))
    else wr (raise s Code.MIGRATE_BLOCKED 9 []) (Reg.FEED_RESULT feed) 1
  else startMigration feed (wr s (Reg.FEED_COMMAND feed) 1)

/-- COMMISSION_A and COMMISSION_B, FEED COMMAND 2 and 3 (R67): the input is commissioned where all its 32 lines have been
measured, and FAIL clears. -/
def doCommission (feed input : Nat) (s : State) : State :=
  if rd s (Reg.FEED_STATE feed) = 3 then refuseBusy feed (2 + input) s
  else
    let selected := decide (rd s (Reg.FEED_SELECTED feed) = input)
    let lines := (feedInput s feed input).lines
    let power := (List.range 32).map (fun i =>
      if selected then rdI 16 s (Reg.LINE_SEL_DBM (feed * 32 + i)) else lines.getD i (-32768))
    let s := (List.range 32).foldl (fun s i => wrI 16 s
      (if input = 0 then Reg.LINE_REF_A (feed * 32 + i) else Reg.LINE_REF_B (feed * 32 + i)) (power.getD i (-32768))) s
    let c := rd s (Reg.FEED_COMMISSIONED feed)
    let without := if c.testBit input then c - 2 ^ input else c
    let whole := power.all (fun v => decide (v ≠ -32768))
    let s := wr s (Reg.FEED_COMMISSIONED feed) (if whole then without + 2 ^ input else without)
    let s := clearFail (wr s (Reg.FEED_RESULT feed) 0) feed input
    leaveDark feed (updateStandby feed s)

/-- MIGRATION_STANDBY_CHECKED (R70, R71 steps 2 and 3). -/
def doStandbyChecked (feed : Nat) (s : State) : State :=
  let m := migration s feed
  let sel := rd s (Reg.FEED_SELECTED feed)
  if m.step ≠ 2 ∨ sel = 0xFF then s
  else if passesR70 s feed (1 - sel) then
    let ports := feedPorts s feed
    let s := retirePorts s ports
    setMigration s feed { m with step := 4 }
  else endBlocked feed 1 s

/-- Every retiring port of a list that is up has its partner's RETIRE_ACK (R71 step 4). -/
def allAcked (s : State) (ports : List Nat) : Bool :=
  ports.all (fun p => decide (rd s (Reg.PORT_STATE p) ≠ 5) || (link s p).peerCmd.testBit 30)

/-- Queues here and at the partners are empty and no marker is out (R71 step 5). -/
def allDrained (s : State) (ports : List Nat) : Bool :=
  ports.all (fun p => portEmpty s p && (link s p).sending.isEmpty &&
    (decide (rd s (Reg.PORT_STATE p) ≠ 5) || (link s p).peerCmd.testBit 28)) &&
    !marksOutstanding s ports

/-- MIGRATION_PARTNERS_ACKED (R71 step 4). -/
def doPartnersAcked (feed : Nat) (s : State) : State :=
  let m := migration s feed
  if m.step = 4 ∧ allAcked s (feedPorts s feed) = true then setMigration s feed { m with step := 5 }
  else s

/-- MIGRATION_ACK_LIMIT (R72). -/
def doAckLimit (feed : Nat) (s : State) : State :=
  let m := migration s feed
  if m.step = 4 then setMigration s feed { m with step := 5 } else s

/-- MIGRATION_DRAINED (R71 steps 5 to 7). -/
def doMigrationDrained (feed : Nat) (s : State) : State :=
  let m := migration s feed
  if m.step = 5 ∧ allDrained s (feedPorts s feed) = true ∧ tapIdle s feed = true then
    switchFeed feed true false s
  else s

/-- MIGRATION_DRAIN_LIMIT (R72): frames flushed, channels re-pinned, on to step 6. -/
def doDrainLimit (feed : Nat) (s : State) : State :=
  let m := migration s feed
  if m.step = 5 then
    let ports := feedPorts s feed
    let s := ports.foldl (fun s p => flushPort s p) s
    let s := repinPorts s ports
    switchFeed feed true true (dropTapTransfers s feed)
  else s

/-- MIGRATION_TX_LOCKED (R71 steps 8 and 9): our light returns. -/
def doTxLocked (feed : Nat) (s : State) : State :=
  let m := migration s feed
  let ports := feedPorts s feed
  let locked := ports.all (fun p => (List.range 4).all (fun k =>
    let st := rd s (Reg.RING_STATE ((p * 4 + k) * 2))
    decide (st = 3 ∨ st = 6)))
  if m.step = 8 ∧ locked = true then
    let s := ports.foldl (fun s p => setCmdBit p 29 false s) s
    let s := (feedPairs feed).foldl (fun s t =>
      if rd s (Reg.EYE_STATE t) = 4 then wr s (Reg.EYE_STATE t) 0 else s) s
    setMigration s feed { m with step := 9 }
  else s

/-- MIGRATION_PORTS_UP (R71 step 10): ports rejoin, channels are released, STATE NORMAL. -/
def doPortsUp (feed : Nat) (s : State) : State :=
  let m := migration s feed
  let ports := feedPorts s feed
  let up := ports.all (fun p => decide (rd s (Reg.PORT_STATE p) = 5) ||
    decide (rd s (Reg.PORT_ADMIN p) = 1) || portUnitOut s p ||
    decide (rd s (Reg.EYE_STATE (pairOf p)) ≠ 0))
  if m.step = 9 ∧ up = true then
    let result := if m.flushed then 4 else 0
    let s := reinstatePorts ports s
    let s := wr (wr s (Reg.FEED_STATE feed) 0) (Reg.FEED_RESULT feed) result
    let s := wr s (Reg.FEED_COMMAND feed) 0
    let s := inc s (Reg.FEED_MIGRATIONS feed) 32
    let s := raise s Code.FEED_MIGRATED 9 [(8, result), (64, now s - m.t0)]
    updateFau (feed / 4) (updateStandby feed (setMigration s feed {}))
  else s

/-- CLS_FAULT_ASSERT (R75). -/
def doClsFault (n : Nat) (s : State) : State :=
  let s := wr s (Reg.CLS_FLT n) 1
  if rd s (Reg.CLS_EN_STATE n) = 1 then raise (dropCls n 2 s) Code.CLS_LATCH 9 [] else s

/-- CLS_EN is asserted where ENABLE asks for it, no latch holds it and CLS_FLT_N is high. -/
def assertCls (n : Nat) (s : State) : State :=
  if rd s (Reg.CLS_ENABLE n) = 1 ∧ rd s (Reg.CLS_LATCH n) = 0 ∧ rd s (Reg.CLS_FLT n) = 0 then
    modLight (wr s (Reg.CLS_EN_STATE n) 1) (fun x => { x with modules := Tab.put {} x.modules n {} })
  else s

/-- CLS_ENABLE, a write of ENABLE 1 (R76); the operator's action clears FAIL on the module's inputs (R68). -/
def doClsEnable (n : Nat) (s : State) : State :=
  let s := (clsInputs n).foldl (fun s x => clearFail s x.1 x.2) s
  assertCls n (wr (wr s (Reg.CLS_ENABLE n) 1) (Reg.CLS_LATCH n) 0)

/-- CLS_DISABLE, a write of ENABLE 0 (R76). -/
def doClsDisable (n : Nat) (s : State) : State :=
  let s := wr (wr s (Reg.CLS_ENABLE n) 0) (Reg.CLS_EN_STATE n) 0
  let s := modLight s (fun x => { x with modules := Tab.put {} x.modules n {} })
  (clsInputs n).foldl (fun s x =>
    if rd s (Reg.FEED_SELECTED x.1) = x.2 then judgeDark x.1 s else standbyOut x.1 s) s

/-- CLS_RISE_CHECK (R76): an input more than 3 dB short of its commissioned power. -/
def doClsRise (n : Nat) (shortfalls : List Int) (s : State) : State :=
  if rd s (Reg.CLS_EN_STATE n) = 1 ∧ shortfalls.any (fun d => decide (300 < d)) = true then
    raise (dropCls n 1 s) Code.FEED_BREAK 9 []
  else s

/-- CLS_FLT_N_DEASSERT (R86): FLT reads 0. CLS_EN is asserted by a write of ENABLE alone (R76), so a module whose ENABLE was
written while the fault stood stays off until it is written again (DESIGN CHOICE, log entry 97). -/
def doClsFltRelease (n : Nat) (s : State) : State := wr s (Reg.CLS_FLT n) 0

/-! ## Eye safety (R77 to R80) -/

def pairState (s : State) (t : Nat) : PairState := Tab.get {} s.light.pairs t

def setPair (s : State) (t : Nat) (x : PairState) : State :=
  modLight s (fun l => { l with pairs := Tab.put {} l.pairs t x })

/-- The eight ports of a duplex pair (R47). -/
def pairPorts (t : Nat) : List Nat := (List.range 8).map (fun i => t * 8 + i)

/-- An announced dark has ended at a pair: no port of it awaits one (R80). -/
def endDark (t : Nat) (s : State) : State :=
  (pairPorts t).foldl (fun s p => modLink s p (fun l => { l with darkUntil := false })) s

/-- Loss-of-light handling: the pair SHUT, its ports down, its transmit closed, strands bound for it
dumped (R78, R140). The shutdown is counted once, at the pair's first port (DESIGN CHOICE, log entry 98). -/
def shutPair (t : Nat) (s : State) : State :=
  let s := wr s (Reg.EYE_STATE t) 1
  let s := inc s (Reg.EYE_SHUTS t) 32
  let s := setPair s t { pairState s t with closed := true, probe := false }
  let s := countPort s (t * 8) 0x200E
  let s := raise s Code.EYE_SHUT 9 []
  let s := portsDown s ((pairPorts t).filter (fun p => !chordHeld s p)) 2
  updateFau (t / 16) (chordsBreak t s)

/-- LOSS_OF_LIGHT (R78, R80): announced dark at a pair with a port that has received DARK. -/
def doLossOfLight (t : Nat) (dbm : Int) (s : State) : State :=
  let s := wrI 16 s (Reg.EYE_RX_DBM t) dbm
  let st := rd s (Reg.EYE_STATE t)
  if -2000 ≤ dbm ∨ st = 1 ∨ st = 2 ∨ st = 3 then s
  else if (pairPorts t).any (fun p => (link s p).darkUntil) then
    setPair (wr s (Reg.EYE_STATE t) 3) t { pairState s t with probe := true }
  else shutPair t s

/-- PROBE_TIMER (R78 steps 3 and 4). -/
def doProbeTimer (t : Nat) (s : State) : State :=
  if rd s (Reg.EYE_STATE t) = 1 then
    updateFau (t / 16) (setPair (wr s (Reg.EYE_STATE t) 2) t { pairState s t with closed := false, probe := true })
  else s

/-- PROBE_END (R78). -/
def doProbeEnd (t : Nat) (s : State) : State :=
  if rd s (Reg.EYE_STATE t) = 2 then
    updateFau (t / 16) (setPair (wr s (Reg.EYE_STATE t) 1) t { pairState s t with closed := true, probe := false })
  else s

/-- PARTNER_LIGHT_SEEN (R78 step 5, R80, R140). -/
def doPartnerLight (t : Nat) (dbm : Int) (s : State) : State :=
  let s := wrI 16 s (Reg.EYE_RX_DBM t) dbm
  let st := rd s (Reg.EYE_STATE t)
  if dbm ≤ -1700 then s
  else if st = 1 ∨ st = 2 then
    let s := setPair (wr s (Reg.EYE_STATE t) 0) t { pairState s t with closed := false, probe := false }
    let s := raise s Code.EYE_OPEN 9 []
    updateFau (t / 16) (chordsReopen t s)
  else if st = 3 then
    endDark t (setPair (wr s (Reg.EYE_STATE t) 0) t { pairState s t with probe := false })
  else s

/-- DARK_LIMIT_EXPIRED (R80). -/
def doDarkExpired (t : Nat) (s : State) : State :=
  if rd s (Reg.EYE_STATE t) = 3 then shutPair t (endDark t (raise s Code.DARK_EXPIRED 9 [])) else s

/-! ## Start of the optical layer (R81) -/

/-- OPTICAL_START: CLS 0 is asserted first. -/
def doOpticalStart (s : State) : State :=
  if s.light.started then s
  else modLight (assertCls 0 s) (fun x => { x with started := true, stagger := 1 })

/-- CLS_STAGGER_TIMER (R81): the next module, or after the last the selection of the inputs. -/
def doClsStagger (s : State) : State :=
  let n := s.light.stagger
  if s.light.started = false then s
  else if n < 16 then modLight (assertCls n s) (fun x => { x with stagger := n + 1 })
  else if n = 16 then
    let s' := (List.range 64).foldl parkFeedRings ((List.range 64).foldl startFeed s)
    unitRefresh s (modLight s' (fun x => { x with stagger := 17 }))
  else s

end Sys2Proof.Machine
end

