-- ==== Sys2Proof/Machine/Solid.lean ====
section
/-! DEFINITION. The Solid (R13 to R45): pace windows of the voltage islands, the timebase and its
references, the lattice with its pool groups and transfers, and whole units out of service. -/

namespace Sys2Proof.Machine

/-! ## Islands (R18 to R21) -/

/-- The VET instance of what a DEGRADED island makes the V2048 test (R479). -/
def islandUnit (i : Nat) : Nat :=
  let f := i / 8
  match i % 8 with
  | 0 => 3 * 4096 + f
  | 1 => 3 * 4096 + f
  | 7 => 4096 + f
  | k => 5 * f + (k - 2)

/-- PACE_WINDOW_END (R21, R42). An island already at 0.85 V first has its floor raised to 0.85 V like any other, and
is DEGRADED by a slow window that finds its floor there (DEDUCED, log entry 83). -/
def doPaceWindow (i hsr : Nat) (s : State) : State :=
  let s := wr s (Reg.ISLAND_HSR i) hsr
  let v := rd s (Reg.ISLAND_VCORE i)
  if v < 700 then s
  else
    let s := if hsr < rd s (Reg.ISLAND_HSR_LOW i) then wr s (Reg.ISLAND_HSR_LOW i) hsr else s
    if 1400 ≤ hsr then s
    else if 850 ≤ v ∧ 850 ≤ rd s (Reg.ISLAND_VFLOOR i) then
      if rd s (Reg.ISLAND_STATE i) = 2 then s
      else vetRequest (raise (wr s (Reg.ISLAND_STATE i) 2) Code.ISLAND_DEGRADED (i / 8) []) (islandUnit i) 1 0
    else
      let floor := max (rd s (Reg.ISLAND_VFLOOR i)) (min 850 (v + 10))
      let s := if rd s (Reg.ISLAND_STATE i) = 0 then raise (wr s (Reg.ISLAND_STATE i) 1) Code.HSR_LOW (i / 8) [] else s
      wr (wr s (Reg.ISLAND_VFLOOR i) floor) (Reg.ISLAND_VCORE i) (max v floor)

/-! ## The timebase (R24 to R26) -/

/-- TIMEBASE_REALIGN (R25): the counters found, the groom's last; none is stepped back. -/
def doRealign (counters : List Nat) (s : State) : State :=
  let found := (List.range 8).map (fun f => max (s.time.facets.getD f 0) (counters.getD f 0))
  let groom := max s.time.groom (counters.getD 8 0)
  let hi := found.foldl max groom
  let lo := found.foldl min groom
  let s := raiseTo s Reg.TIMEBASE_SKEW_MAX (min 255 (hi - lo))
  if 2 < hi - lo then
    let s := { s with time := { s.time with groom := hi, facets := found.map (fun _ => hi) } }
    raise s Code.TIMEBASE_SKEW 0xFF []
  else { s with time := { s.time with groom := groom, facets := found } }

/-- The reference to be used: REF_PRIMARY, or the next present one in ascending order, wrapping (R26). -/
def pickRef (s : State) : Nat :=
  let n := rd s Reg.TIMEBASE_REF_PRIMARY
  match ([n, n + 1, n + 2, n + 3].map (fun x => x % 4)).find? (fun x => (rd s Reg.TIMEBASE_REF_PRESENT).testBit x) with
  | some r => r
  | none => 0xFF

/-- The reference in use changes (R26). -/
def useRef (s : State) (r : Nat) : State :=
  if rd s Reg.TIMEBASE_REF_ACTIVE = r then s
  else raise (wr s Reg.TIMEBASE_REF_ACTIVE r) Code.REF_CHANGE 0xFF []

/-- REF_LOSS (R26): with all four lost every port goes down. R117 lists no reason for it: DOWN_REASON and PORT_DOWN
carry 3 (DESIGN CHOICE, log entry 84). -/
def doRefLoss (r : Nat) (s : State) : State :=
  let m := rd s Reg.TIMEBASE_REF_PRESENT
  let s := if m.testBit r then wr s Reg.TIMEBASE_REF_PRESENT (m - 2 ^ r) else s
  if rd s Reg.TIMEBASE_REF_ACTIVE ≠ r then s
  else
    let s := useRef s (pickRef s)
    if rd s Reg.TIMEBASE_REF_ACTIVE = 0xFF then portsDown s (List.range 2048) 3 else s

/-- REF_PRIMARY_WRITE (R26, R43): at once where the reference is present. -/
def doRefPrimary (v : Nat) (s : State) : State :=
  if 3 < v then s
  else
    let s := wr s Reg.TIMEBASE_REF_PRIMARY v
    if (rd s Reg.TIMEBASE_REF_PRESENT).testBit v then useRef s v else s

/-- REF_REAPPEAR (R26): not revertive, but the first to return after all were lost is used. -/
def doRefReappear (r : Nat) (s : State) : State :=
  let s := wr s Reg.TIMEBASE_REF_PRESENT (rd s Reg.TIMEBASE_REF_PRESENT ||| 2 ^ r)
  if rd s Reg.TIMEBASE_REF_ACTIVE = 0xFF then useRef s (pickRef s) else s

/-! ## Pool groups (R28, R29) -/

def poolGroup (s : State) (f g : Nat) : PoolGroup := s.lattice.pools.getD (f * 5 + g) {}

def setPool (s : State) (f g : Nat) (x : PoolGroup) : State :=
  modLattice s (fun l => { l with pools := l.pools.set (f * 5 + g) x })

/-- Pool groups that serve a pair. -/
def poolsServing (s : State) (f peer : Nat) : List Nat :=
  (List.range 5).filter (fun g => let x := poolGroup s f g; decide (x.peer = peer) && x.target.isNone)

def waitTicks (s : State) (f peer : Nat) : Nat := Tab.get 0 s.lattice.wait (f * 8 + peer)

/-- The first of a list that a measure makes largest. -/
def argMax (m : Nat → Nat) : List Nat → Option Nat
  | [] => none
  | x :: rest => some (rest.foldl (fun b y => if m b < m y then y else b) x)

/-- The lattice balancer of one facet at an epoch boundary (R29): one pool group, from the pair with the
fewest grant-wait ticks that has one beyond its POOL_PIN (log entry 28), toward the peer with the most. -/
def balanceFacet (s : State) (f : Nat) : State :=
  let peers := (List.range 8).filter (fun x => decide (x ≠ f))
  let moving := (List.range 5).any (fun g => (poolGroup s f g).target.isSome)
  match argMax (waitTicks s f) peers with
  | none => s
  | some dst =>
    let givers := peers.filter (fun x => decide (x ≠ dst) &&
      decide (rd s (Reg.LATTICE_POOL_PIN (f * 8 + x)) < (poolsServing s f x).length))
    match argMax (fun x => waitTicks s f dst - waitTicks s f x) givers with
    | none => s
    | some from_ =>
      if moving ∨ waitTicks s f dst ≤ waitTicks s f from_ then s
      else match poolsServing s f from_ with
        | [] => s
        | g :: _ => setPool s f g { poolGroup s f g with target := some dst }

/-- The balancer of every facet; the ticks of the next epoch start from 0. -/
def balanceLattice (s : State) : State :=
  modLattice ((List.range 8).foldl balanceFacet s) (fun l => { l with wait := [] })

/-- POOL_RETUNE_DONE (R29 step 4). -/
def doPoolRetune (f g : Nat) (s : State) : State :=
  let x := poolGroup s f g
  match x.target with
  | none => s
  | some peer =>
    countIn (setPool s f g { peer := peer, target := none }) (latticeBank f) 0x7004 { port := some peer }

/-! ## Transfers (R30 to R32) -/

/-- Facet a frame is bound for: a trace's home, or the facet of its egress port. -/
def crossTo (f : Frame) : Nat := if f.home < 8 then f.home else f.egress / 256

/-- The pair is DOWN (R32). -/
def pairIsDown (s : State) (f g : Nat) : Bool := decide (rd s (Reg.LATTICE_STATE (f * 8 + g)) = 2)

/-- A transfer event in the bank of the sending endpoint; its masks name the peer (R453). -/
def countTransfer (s : State) (f : Frame) (sel : Nat) : State :=
  countIn s (latticeBank f.facet) sel (frameEvent (some (crossTo f)) f.hdr)

/-- A transfer is lost to a DOWN pair: counted, and its credits returned (R32). -/
def loseTransfer (s : State) (id : Nat) : State :=
  match findFrame s id with
  | none => s
  | some f => removeFrame (countTransfer s f 0x7003) id

/-- A frame and, of a replicated one, its copies for the same facet: they cross as one (R201). -/
def siblings (s : State) (id : Nat) (f : Frame) : List Nat :=
  if f.parentId = 0 ∨ f.mirror ≠ 0xFF then [id]
  else framesWhere s (fun x => decide (x.parentId = f.parentId) && decide (x.mirror = 0xFF) &&
    decide (crossTo x = crossTo f))

/-- Cells are asked of the egress facet for one transfer (R30). -/
def requestOne (s : State) (id : Nat) : State :=
  match findFrame s id with
  | none => s
  | some f =>
    if f.place ≠ .request then s
    else if pairIsDown s f.facet (crossTo f) then (siblings s id f).foldl loseTransfer s
    else (siblings s id f).foldl (fun s x =>
      modFrame s x (fun y => if y.place = .request then { y with place := .asked } else y)) s

/-- LATTICE_REQUEST (R30): the frame's request, after those of its channel ahead of it. -/
def doLatticeRequest (id : Nat) (s : State) : State :=
  match findFrame s id with
  | none => s
  | some f => if f.place ≠ .request then s else (channelAhead s id f ++ [id]).foldl requestOne s

/-- A tap's wavelengths take transfers: its position has light and does not migrate (R51, R71 step 5, R73). -/
def tapServes (s : State) (feed : Nat) : Bool :=
  decide ((migration s feed).step < 4 ∧ rd s (Reg.FEED_STATE feed) ≠ 4 ∧ rd s (Reg.FEED_STATE feed) ≠ 5)

/-- The tap that lights a transfer, where the facet's lattice is in use and a tap serves (R51, R81). -/
def tapFor (s : State) (facet id : Nat) : Option Nat :=
  if s.light.latticeLit.contains facet then
    ((List.range 8).map (fun i => 8 * facet + ((Config.transferTap id).val + i) % 8)).find? (tapServes s)
  else none

/-- The frame has crossed: a trace is at its home facet, another frame joins its queue (R31, R215). -/
def land (s : State) (id : Nat) : State :=
  match findFrame s id with
  | none => s
  | some f =>
    if f.home < 8 then settle (putFrame s id { f with place := .pool }) id
    else enqueue s id

/-- Light is sent for one granted transfer, or awaited while no tap of the facet serves; a frame bound within its own facet is
there at once (R30). -/
def grantOne (s : State) (id : Nat) : State :=
  match findFrame s id with
  | none => s
  | some f =>
    if f.place ≠ .granted then s
    else if f.facet = crossTo f then land s id
    else if pairIsDown s f.facet (crossTo f) then loseTransfer s id
    else match tapFor s f.facet id with
    | none => s
    | some tap =>
      let k := f.facet * 8 + crossTo f
      let n := Tab.get 0 s.lattice.seq k
      let s := if f.crossed then s else countTransfer s f 0x7001
      let s := (siblings s id f).foldl (fun s x => modFrame s x (fun y => { y with crossed := true })) s
      let s := modLattice s (fun l => { l with seq := Tab.put 0 l.seq k (n + 1) })
      let s := modFrame s id (fun y => { y with
        place := .lattice, pairSeq := n, tap := tap, crossed := true })
      settle s id

/-- LATTICE_GRANT (R30): the frame's transfer, after those of its channel ahead of it. -/
def doLatticeGrant (id : Nat) (s : State) : State :=
  match findFrame s id with
  | none => s
  | some f => if f.place ≠ .granted then s else (channelAhead s id f ++ [id]).foldl grantOne s

/-- Frames of one flow on the lattice: same ingress port, egress port and VL (R31). -/
def sameFlow (f h : Frame) : Bool :=
  decide (f.facet = h.facet) && decide (crossTo f = crossTo h) && decide (f.ingress = h.ingress) &&
    decide (f.egress = h.egress) && decide (f.outVl = h.outVl)

/-- Transfers of a flow in entry order. -/
def flowOrder (s : State) (f : Frame) : List (Nat × Frame) :=
  sortBy (fun a b => decide (a.2.pairSeq ≤ b.2.pairSeq))
    (s.frames.filter (fun e => decide (e.2.place = .lattice) && sameFlow f e.2))

/-- LATTICE_RECEIVE (R31): delivery in entry order. -/
def doLatticeReceive (id : Nat) (s : State) : State :=
  match findFrame s id with
  | none => s
  | some f =>
    if f.place ≠ .lattice then s
    else
      let s := putFrame s id { f with arrived := true }
      ((flowOrder s f).takeWhile (fun e => e.2.arrived)).foldl (fun s e => land s e.1) s

/-- A grant-wait tick: per (facet, peer) with a frame that waits for a grant, toward R29 and the counters. -/
def latticeWaitTick (s : State) : State :=
  let ws := ((s.frames.filter (fun e => (decide (e.2.place = .asked) || decide (e.2.place = .waiting) ||
      decide (e.2.place = .poolWait)) && decide (e.2.facet ≠ crossTo e.2))).map
    (fun e => e.2.facet * 8 + crossTo e.2)).eraseDups
  ws.foldl (fun s k =>
    let s := modLattice s (fun l => { l with wait := Tab.put 0 l.wait k (Tab.get 0 l.wait k + 1) })
    countIn s (latticeBank (k / 8)) 0x7002 { port := some (k % 8) }) s

/-! ## Units out of service (R38 to R40) -/

/-- VERTEX_OUT_OF_SERVICE (R39). -/
def doVertexOut (v : Nat) (s : State) : State :=
  if s.lattice.outVertices.contains v then s
  else
    let before := s
    let s := modLattice s (fun l => { l with outVertices := l.outVertices ++ [v] })
    let s := unitRefresh before s
    portsDown s ((List.range 16).map (fun i => v * 16 + i)) 10

/-- A vertex returns to service; its ports train again by their own timers. -/
def vertexBack (s : State) (v : Nat) : State :=
  let before := s
  unitRefresh before (modLattice s (fun l => { l with outVertices := l.outVertices.filter (fun x => decide (x ≠ v)) }))

/-- Both directions of a facet's lattice pairs go DOWN; one record for each receiving facet whose pair was not DOWN
before (R45, log entry 13). -/
def downPairs (s : State) (g : Nat) : State :=
  (List.range 8).foldl (fun s x =>
    if x = g then s
    else
      let u := wr (wr s (Reg.LATTICE_STATE (g * 8 + x)) 2) (Reg.LATTICE_STATE (x * 8 + g)) 2
      if pairIsDown s g x then u else raise u Code.LATTICE_DOWN x []) s

/-- What a facet loses with its buffer, spill and hold pool, uncounted (R235). -/
def facetHolds (g : Nat) (f : Frame) : Bool :=
  (inQueue f && decide (crossTo f = g)) || (decide (f.place = .held) && decide (f.facet = g)) ||
    (decide (f.place = .pool ∨ f.place = .localTo) && decide (crossTo f = g) && decide (f.home < 8))

/-- Transfers of a facet's lattice pairs: those that wait for a grant from it or that it waits for, and those on the pairs
(R32, R172). -/
def facetWaits (g : Nat) (f : Frame) : Bool :=
  (match f.place with
    | .request => true
    | .asked => true
    | .waiting => true
    | .poolWait => true
    | .granted => true
    | .lattice => true
    | _ => false) && decide (f.facet ≠ crossTo f) && (decide (crossTo f = g) || decide (f.facet = g))

/-- A facet's part of FACET_OUT_OF_SERVICE (R38, R32, R235): what it holds is lost uncounted; its ports go down, which ends
frames whose tail has not arrived (R172); and the transfers of its pairs are lost and counted. -/
def facetOut (g : Nat) (s : State) : State :=
  if s.lattice.outFacets.contains g then s
  else
    let before := s
    let s := (framesWhere s (facetHolds g)).foldl removeFrame s
    let s := modLattice s (fun l => { l with outFacets := l.outFacets ++ [g] })
    let s := portsDown s ((List.range 256).map (fun i => g * 256 + i)) 10
    let s := downPairs s g
    unitRefresh before ((framesWhere s (facetWaits g)).foldl loseTransfer s)

/-- A facet returns to service (R40). -/
def facetBack (s : State) (g : Nat) : State :=
  let before := s
  let s := modLattice s (fun l => { l with outFacets := l.outFacets.filter (fun x => decide (x ≠ g)) })
  let s := (List.range 8).foldl (fun s x =>
    if s.lattice.outFacets.contains x ∨ x = g then s
    else raise (wr (wr s (Reg.LATTICE_STATE (g * 8 + x)) 0) (Reg.LATTICE_STATE (x * 8 + g)) 0) Code.LATTICE_DOWN x []) s
  unitRefresh before s

end Sys2Proof.Machine
end

