-- ==== Sys2Proof/Machine/Arith.lean ====
section
/-! DEFINITION. Reduction Arithmetic and Reproducibility (R329 to R351): the element formats, the
accumulators of every operation, output encoding with its roundings, and the digests. -/

namespace Sys2Proof.Machine

/-! ## Codes (R161, R162) -/

abbrev Fmt.FP64 : Nat := 0
abbrev Fmt.FP32 : Nat := 1
abbrev Fmt.BF16 : Nat := 2
abbrev Fmt.FP16 : Nat := 3
abbrev Fmt.E4M3 : Nat := 4
abbrev Fmt.E5M2 : Nat := 5
abbrev Fmt.KB8 : Nat := 6
abbrev Fmt.KB4 : Nat := 7
abbrev Fmt.INT32 : Nat := 8
abbrev Fmt.INT8 : Nat := 9
abbrev Fmt.GF8 : Nat := 10

abbrev Opc.SUM : Nat := 0
abbrev Opc.AVG : Nat := 1
abbrev Opc.MAX : Nat := 2
abbrev Opc.MIN : Nat := 3
abbrev Opc.WSUM : Nat := 4
abbrev Opc.GFCOMB : Nat := 5

/-- Integer formats (R333). -/
def isInt (fmt : Nat) : Bool := decide (fmt = Fmt.INT32 ∨ fmt = Fmt.INT8)

/-- Block-scaled formats (R331). -/
def isBlockScaled (fmt : Nat) : Bool := decide (fmt = Fmt.KB8 ∨ fmt = Fmt.KB4)

/-- The operation runs on the yoke (R334). -/
def isYoke (opc : Nat) : Bool := decide (opc = Opc.WSUM ∨ opc = Opc.GFCOMB)

/-- The combinations SETUP admits (R334). -/
def opAdmits (opc mode fmt round : Nat) : Bool :=
  let summed := decide (fmt ≤ 7)
  if opc = Opc.SUM ∨ opc = Opc.AVG then
    if mode = 0 then (summed && decide (round ≤ 1)) || (isInt fmt && decide (round = 0))
    else decide (mode = 1) && summed && decide (fmt ≠ Fmt.FP64) && decide (round ≤ 1)
  else if opc = Opc.MAX ∨ opc = Opc.MIN then
    decide (mode = 0) && decide (round = 0) && (decide (fmt ≤ 5) || isInt fmt)
  else if opc = Opc.WSUM then decide (mode = 0) && decide (1 ≤ fmt ∧ fmt ≤ 5) && decide (round ≤ 1)
  else decide (opc = Opc.GFCOMB) && decide (mode = 0) && decide (fmt = Fmt.GF8) && decide (round = 0)

/-- Elements in `b` data blocks (R329). -/
def elemsIn (fmt b : Nat) : Nat :=
  match fmt with
  | 0 => 2 * b
  | 1 => 4 * b
  | 8 => 4 * b
  | 2 => 8 * b
  | 3 => 8 * b
  | 6 => b / 33 * 512
  | 7 => b / 17 * 512
  | _ => 16 * b

/-- Bytes of an element of a fixed-size format (R329). -/
def elemBytes (fmt : Nat) : Nat :=
  match fmt with
  | 0 => 8
  | 1 => 4
  | 8 => 4
  | 2 => 2
  | 3 => 2
  | _ => 1

/-- Whole runs only (R331). -/
def packingOk (fmt b : Nat) : Bool :=
  if fmt = Fmt.KB8 then decide (b % 33 = 0) else if fmt = Fmt.KB4 then decide (b % 17 = 0) else true

/-! ## Values -/

/-- A decoded element, or an exact value: (−1)^neg × num / den × 2^exp. -/
inductive Val where
  | nan
  | inf (neg : Bool)
  | fin (neg : Bool) (num den : Nat) (exp : Int)
deriving DecidableEq, Repr

/-- A floating-point format: exponent and fraction bits, bias, the code of the largest finite value, and
whether it has an infinity (R330). -/
structure FloatFmt where
  ebits : Nat
  fbits : Nat
  bias : Nat
  maxBits : Nat
  hasInf : Bool
deriving DecidableEq, Repr

def FloatFmt.fp64 : FloatFmt := ⟨11, 52, 1023, 0x7FEFFFFFFFFFFFFF, true⟩
def FloatFmt.fp32 : FloatFmt := ⟨8, 23, 127, 0x7F7FFFFF, true⟩
def FloatFmt.bf16 : FloatFmt := ⟨8, 7, 127, 0x7F7F, true⟩
def FloatFmt.fp16 : FloatFmt := ⟨5, 10, 15, 0x7BFF, true⟩
def FloatFmt.e5m2 : FloatFmt := ⟨5, 2, 15, 0x7B, true⟩
def FloatFmt.e4m3 : FloatFmt := ⟨4, 3, 7, 0x7E, false⟩
def FloatFmt.e2m1 : FloatFmt := ⟨2, 1, 1, 0x7, false⟩

/-- Format of an element's bits; of KB8 and KB4, of the bits beside the scale. -/
def floatFmt (fmt : Nat) : FloatFmt :=
  match fmt with
  | 0 => .fp64
  | 1 => .fp32
  | 2 => .bf16
  | 3 => .fp16
  | 4 => .e4m3
  | 5 => .e5m2
  | 6 => .e4m3
  | _ => .e2m1

def FloatFmt.signBit (f : FloatFmt) : Nat := 2 ^ (f.ebits + f.fbits)

/-- Exponent of the least significant bit of a subnormal. -/
def FloatFmt.lsb (f : FloatFmt) : Int := 1 - (f.bias : Int) - (f.fbits : Int)

/-- An element's exact value (R330, R332). -/
def FloatFmt.decode (f : FloatFmt) (bits : Nat) : Val :=
  let neg := decide (f.signBit ≤ bits)
  let mag := bits % f.signBit
  let e := mag / 2 ^ f.fbits
  let frac := mag % 2 ^ f.fbits
  if f.maxBits < mag then (if f.hasInf ∧ frac = 0 then .inf neg else .nan)
  else if e = 0 then .fin neg frac 1 f.lsb
  else .fin neg (2 ^ f.fbits + frac) 1 (f.lsb + (e : Int) - 1)

/-- Canonical NaN (R330). -/
def FloatFmt.nanBits (f : FloatFmt) : Nat :=
  if f.hasInf then (2 ^ f.ebits - 1) * 2 ^ f.fbits + 2 ^ (f.fbits - 1) else 0x7F

def FloatFmt.infBits (f : FloatFmt) : Nat := (2 ^ f.ebits - 1) * 2 ^ f.fbits

/-- ⌊log2(num / den × 2^exp)⌋ of a positive value. -/
def floorLog2 (num den : Nat) (exp : Int) : Int :=
  let k : Int := (Nat.log2 num : Int) - (Nat.log2 den : Int)
  let fits := if 0 ≤ k then decide (den * 2 ^ k.toNat ≤ num) else decide (den ≤ num * 2 ^ (-k).toNat)
  (if fits then k else k - 1) + exp

/-- How a value between two representable ones is rounded: nearest-even, or stochastically with the 32
random bits of the element (R341, R342). -/
inductive Rounding where
  | nearest
  | stochastic (r : Nat)
deriving DecidableEq, Repr

/-- num / den × 2^exp in units of 2^q, rounded. -/
def roundUnits (rd_ : Rounding) (num den : Nat) (exp q : Int) : Nat :=
  let sh := exp - q
  let n := if 0 ≤ sh then num * 2 ^ sh.toNat else num
  let d := if 0 ≤ sh then den else den * 2 ^ (-sh).toNat
  let lo := n / d
  let r := n % d
  match rd_ with
  | .nearest => if d < 2 * r ∨ (2 * r = d ∧ lo % 2 = 1) then lo + 1 else lo
  | .stochastic x => if r ≠ 0 ∧ 2 ^ 32 ≤ r * 2 ^ 32 / d + x then lo + 1 else lo

/-- Magnitude code of a positive value after rounding; codes beyond `maxBits` are beyond the largest
finite value (R341). -/
def FloatFmt.roundMag (f : FloatFmt) (rd_ : Rounding) (num den : Nat) (exp : Int) : Nat :=
  if num = 0 then 0
  else
    let q := max f.lsb (floorLog2 num den exp - (f.fbits : Int))
    (q - f.lsb).toNat * 2 ^ f.fbits + roundUnits rd_ num den exp q

/-- A value in a format; second, whether a finite value saturated (R341). -/
def FloatFmt.encode (f : FloatFmt) (rd_ : Rounding) (v : Val) : Nat × Bool :=
  match v with
  | .nan => (f.nanBits, false)
  | .inf neg => if f.hasInf then (f.infBits + (if neg then f.signBit else 0), false) else (0x7F, false)
  | .fin neg num den exp =>
    let s := if neg then f.signBit else 0
    let m := f.roundMag rd_ num den exp
    if m ≤ f.maxBits then (s + m, false)
    else if f.hasInf then (s + f.infBits, false) else (s + f.maxBits, true)

/-- The exact sum of two values of denominator 1; an exact cancellation gives +0 (R335). -/
def Val.add : Val → Val → Val
  | .nan, _ => .nan
  | _, .nan => .nan
  | .inf a, .inf b => if a = b then .inf a else .nan
  | .inf a, _ => .inf a
  | _, .inf b => .inf b
  | .fin a m _ e, .fin b n _ g =>
    let q := min e g
    let x : Int := (m * 2 ^ (e - q).toNat : Nat)
    let y : Int := (n * 2 ^ (g - q).toNat : Nat)
    let z := (if a then -x else x) + (if b then -y else y)
    if z = 0 then .fin (a && b) 0 1 q else .fin (decide (z < 0)) z.natAbs 1 q

/-- The exact product of two values of denominator 1 (R339). -/
def Val.mul : Val → Val → Val
  | .nan, _ => .nan
  | _, .nan => .nan
  | .inf a, .inf b => .inf (a != b)
  | .inf a, .fin b n _ _ => if n = 0 then .nan else .inf (a != b)
  | .fin a m _ _, .inf b => if m = 0 then .nan else .inf (a != b)
  | .fin a m _ e, .fin b n _ g => .fin (a != b) (m * n) 1 (e + g)

/-- A value times 2^k. -/
def Val.scale (k : Int) : Val → Val
  | .fin neg num den exp => .fin neg num den (exp + k)
  | v => v

/-! ## Elements of the data area (R329 to R332) -/

/-- An element as it stands in the data area: its bits and its group's scale byte. -/
structure Elem where
  bits : Nat
  scale : Nat := 127
deriving DecidableEq, Repr

/-- One run of a block-scaled format (R331). -/
def runElems (fmt : Nat) (run : List Byte) : List Elem :=
  let scales := run.take 16
  let data := run.drop 16
  let bits := if fmt = Fmt.KB8 then data.map (fun b => b.toNat)
    else data.flatMap (fun b => [b.toNat / 16, b.toNat % 16])
  bits.mapIdx (fun i x => ⟨x, (scales.getD (i / 32) 0).toNat⟩)

/-- The elements of a data area, in the order of their element index. -/
def elemsOf (fmt : Nat) (data : List Byte) : List Elem :=
  if fmt = Fmt.KB8 then (chunks 528 data.length data).flatMap (runElems fmt)
  else if fmt = Fmt.KB4 then (chunks 272 data.length data).flatMap (runElems fmt)
  else (chunks (elemBytes fmt) data.length data).map (fun bs => ⟨natBE bs, 127⟩)

/-- The value of a floating-point element (R332). -/
def elemVal (fmt : Nat) (e : Elem) : Val :=
  let v := (floatFmt fmt).decode e.bits
  if isBlockScaled fmt then (if e.scale = 0xFF then .nan else v.scale ((e.scale : Int) - 127)) else v

/-- Overflow mark of an integer format (R333). -/
def overflowMark (fmt : Nat) : Nat := if fmt = Fmt.INT32 then 0x80000000 else 0x80

/-- An integer element as a signed number. -/
def intElem (fmt bits : Nat) : Int :=
  let m := overflowMark fmt
  if m ≤ bits then (bits : Int) - 2 * (m : Int) else bits

/-! ## Accumulators (R335 to R340) -/

/-- Format of a floating-point accumulator (R335, R339). -/
def accFmt (fmt : Nat) : FloatFmt := if fmt = Fmt.FP64 then .fp64 else .fp32

/-- The accumulator of an element while its slot is IDLE. -/
def accInit (opc mode fmt : Nat) : Acc :=
  if opc = Opc.MAX ∨ opc = Opc.MIN then .empty
  else if opc = Opc.GFCOMB then .pair 0 0
  else if mode = 1 then .exact 0 0
  else if isInt fmt then .int 0 false
  else .float (accFmt fmt).signBit

/-- A value added to a floating-point accumulator, rounded once to nearest-even. -/
def addFloat (f : FloatFmt) (acc : Nat) (v : Val) : Nat := (f.encode .nearest ((f.decode acc).add v)).1

/-- The tag after a special input (R337). -/
def tagAfter (t : Nat) : Val → Nat
  | .fin _ _ _ _ => t
  | .nan => 3
  | .inf neg =>
    let x := if neg then 2 else 1
    if t = 0 ∨ t = x then x else 3

/-- The integer a finite value adds to A, in units of 2^−149 (R336). -/
def exactUnits : Val → Int
  | .fin neg num _ exp =>
    let x : Int := (num * 2 ^ (exp + 149).toNat : Nat)
    if neg then -x else x
  | _ => 0

/-- Order of MAX and MIN: −0 below +0, infinities at the ends (R338). -/
def orderKey (fmt bits : Nat) : Int :=
  if isInt fmt then intElem fmt bits
  else
    let s := (floatFmt fmt).signBit
    if s ≤ bits then -1 - ((bits - s : Nat) : Int) else bits

/-- The element is NaN, or holds the overflow mark. -/
def absorbs (fmt bits : Nat) : Bool :=
  if isInt fmt then decide (bits = overflowMark fmt) else decide ((floatFmt fmt).decode bits = .nan)

/-- What MAX and MIN keep of two elements (R338). -/
def keepOf (opc fmt a b : Nat) : Nat :=
  if absorbs fmt a then a
  else if absorbs fmt b then b
  else if opc = Opc.MAX then (if orderKey fmt a < orderKey fmt b then b else a)
  else (if orderKey fmt b < orderKey fmt a then b else a)

/-- One step of a product in GF(2^8) with 0x11D. -/
def gfDouble (x : Nat) : Nat := let y := 2 * x; if 256 ≤ y then y ^^^ 0x11D else y

/-- Product in GF(2^8) (R340), over the low `n` bits of the first factor. -/
def gfMulN : Nat → Nat → Nat → Nat
  | 0, _, _ => 0
  | n + 1, a, b => (if a % 2 = 1 then b else 0) ^^^ gfMulN n (a / 2) (gfDouble b)

def gfMul (a b : Nat) : Nat := gfMulN 8 a b

/-- One element applied to its accumulator. For GFCOMB `e` is the byte of shard 0 and `e2` that of shard 1
of a partial. -/
def applyElem (opc fmt weight part : Nat) (acc : Acc) (e e2 : Elem) : Acc :=
  match acc with
  | .empty => .raw e.bits
  | .raw x => .raw (keepOf opc fmt x e.bits)
  | .pair p q =>
    if part = 1 then .pair (p ^^^ e.bits) (q ^^^ e2.bits)
    else .pair (p ^^^ gfMul (field weight 8 8) e.bits) (q ^^^ gfMul (field weight 0 8) e.bits)
  | .int x mark =>
    if e.bits = overflowMark fmt then .int x true else .int (x + intElem fmt e.bits) mark
  | .exact a t =>
    let v := elemVal fmt e
    .exact (a + exactUnits v) (tagAfter t v)
  | .float bits =>
    let f := accFmt fmt
    if opc = Opc.WSUM then .float (addFloat f bits ((FloatFmt.bf16.decode weight).mul (elemVal fmt e)))
    else .float (addFloat f bits (f.decode (f.encode .nearest (elemVal fmt e)).1))

/-- The elements from `lo` to `hi` of a trace's data area applied to a chunk's accumulators; `b` is the
chunk's length in blocks (R335, R367). -/
def applyRange (opc fmt weight part b lo hi : Nat) (data : List Byte) (accs : List Acc) : List Acc :=
  let es := elemsOf fmt data
  let n := elemsIn fmt b
  accs.mapIdx (fun i a =>
    if lo ≤ i ∧ i < hi then applyElem opc fmt weight part a (es.getD i ⟨0, 127⟩) (es.getD (n + i) ⟨0, 127⟩) else a)

/-! ## Output (R341 to R345) -/

/-- Elements of an output counted by the value they encode (R341, R352). -/
structure OutCounts where
  nan : Nat := 0
  inf : Nat := 0
  sat : Nat := 0
  ovf : Nat := 0
deriving DecidableEq, Repr

def OutCounts.add (a b : OutCounts) : OutCounts := ⟨a.nan + b.nan, a.inf + b.inf, a.sat + b.sat, a.ovf + b.ovf⟩

/-- The stochastic bits of an element (R343). -/
def stochasticBits (seed chunk i : Nat) : Nat :=
  let m := 2 ^ 64
  let z := (seed + 0x9E3779B97F4A7C15 * (chunk * 65536 + i + 1)) % m
  let z := (z ^^^ (z / 2 ^ 30)) * 0xBF58476D1CE4E5B9 % m
  let z := (z ^^^ (z / 2 ^ 27)) * 0x94D049BB133111EB % m
  let z := z ^^^ (z / 2 ^ 31)
  z / 2 ^ 32

def roundingOf (round seed chunk i : Nat) : Rounding :=
  if round = 1 then .stochastic (stochasticBits seed chunk i) else .nearest

/-- Quotient rounded to the nearest integer, ties to even (R345). -/
def divNearest (x : Int) (n : Nat) : Int :=
  let a := x.natAbs
  let q := a / n
  let r := a % n
  let y := if n < 2 * r ∨ (2 * r = n ∧ q % 2 = 1) then q + 1 else q
  if x < 0 then -(y : Int) else y

/-- An accumulator as a value, divided by `n` (1 but for AVG at the ROOT, R345). -/
def accVal (fmt n : Nat) : Acc → Val
  | .float bits =>
    match (accFmt fmt).decode bits with
    | .fin neg num den exp => .fin neg num (den * n) exp
    | v => v
  | .exact a t =>
    match t with
    | 0 => .fin (decide (a < 0)) a.natAbs n (-149)
    | 1 => .inf false
    | 2 => .inf true
    | _ => .nan
  | _ => .fin false 0 1 0

/-- Counts of one value that is encoded element by element. -/
def countVal (v : Val) (sat : Bool) : OutCounts :=
  match v with
  | .nan => { nan := 1 }
  | .inf _ => { inf := 1 }
  | .fin _ _ _ _ => { sat := if sat then 1 else 0 }

/-- One element of a fixed-size floating-point format. -/
def encodeFloat (fmt : Nat) (rd_ : Rounding) (v : Val) : Nat × OutCounts :=
  let r := (floatFmt fmt).encode rd_ v
  (r.1, countVal v r.2)

/-- One element of an integer format (R333, R341, R345). -/
def encodeInt (fmt n : Nat) (x : Int) (mark : Bool) : Nat × OutCounts :=
  let m := overflowMark fmt
  let y := if n = 1 then x else divNearest x n
  if mark ∨ (m : Int) ≤ y ∨ y ≤ -(m : Int) then (m, { ovf := 1 })
  else ((if y < 0 then (y + 2 * (m : Int)).toNat else y.toNat), {})

/-- One group of a block-scaled output: its scale byte, its elements and its counts (R344). -/
def encodeGroup (fmt : Nat) (rds : List Rounding) (vs : List Val) : Nat × List Nat × OutCounts :=
  let special := vs.any (fun v => match v with
    | .fin _ _ _ _ => false
    | _ => true)
  if special then
    (0xFF, vs.map (fun _ => 0), vs.foldl (fun c v => c.add (match v with
      | .inf _ => { inf := 1 }
      | _ => { nan := 1 })) {})
  else
    let logs := vs.filterMap (fun v => match v with
      | .fin _ num den exp => if num = 0 then none else some (floorLog2 num den exp)
      | _ => none)
    match logs with
    | [] => (0x7F, vs.map (fun _ => 0), {})
    | l :: rest =>
      let e := rest.foldl max l - (if fmt = Fmt.KB8 then 8 else 2)
      let s := min (max (e + 127) 0) 254
      let f := floatFmt fmt
      let rs := List.zipWith (fun v rd_ =>
        let r := f.encode rd_ (v.scale (127 - s))
        let zero : Bool := match v with
          | .fin _ num _ _ => decide (num = 0)
          | _ => false
        -- a zero is +0, and an E2M1 magnitude of zero is +0
        let bits := if zero ∨ (fmt = Fmt.KB4 ∧ r.1 % f.signBit = 0) then 0 else r.1
        (bits, r.2)) vs rds
      (s.toNat, rs.map (fun r => r.1), { sat := (rs.filter (fun r => r.2)).length })

/-- Bytes of one run of a block-scaled format from its 16 groups. -/
def runBytes (fmt : Nat) (groups : List (Nat × List Nat)) : List Byte :=
  let scales := groups.map (fun g => BitVec.ofNat 8 g.1)
  let bits := groups.flatMap (fun g => g.2)
  scales ++ (if fmt = Fmt.KB8 then bits.map (fun x => BitVec.ofNat 8 x)
    else (chunks 2 bits.length bits).map (fun x => BitVec.ofNat 8 (x.getD 0 0 * 16 + x.getD 1 0)))

/-- Block-scaled output (R331, R344). -/
def encodeBlockScaled (fmt round seed chunk : Nat) (vs : List Val) : List Byte × OutCounts :=
  let rds := (List.range vs.length).map (fun i => roundingOf round seed chunk i)
  let gs := List.zipWith (fun v r => encodeGroup fmt r v) (chunks 32 vs.length vs) (chunks 32 rds.length rds)
  ((chunks 16 gs.length gs).flatMap (fun run => runBytes fmt (run.map (fun g => (g.1, g.2.1)))),
    gs.foldl (fun c g => c.add g.2.2) {})

/-- One element of MAX or MIN, kept in the format's own precision (R338). -/
def encodeKept (fmt : Nat) (bits : Nat) : Nat × OutCounts :=
  if isInt fmt then (bits, if bits = overflowMark fmt then { ovf := 1 } else {})
  else
    match (floatFmt fmt).decode bits with
    | .nan => ((floatFmt fmt).nanBits, { nan := 1 })
    | .inf _ => (bits, { inf := 1 })
    | _ => (bits, {})

/-- The data area a context encodes from a chunk's accumulators, and its counts (R341 to R345). `n` is
TEAM_SIZE for AVG at the ROOT and 1 otherwise. -/
def encodeOutput (opc fmt round seed chunk n : Nat) (accs : List Acc) : List Byte × OutCounts :=
  if opc = Opc.GFCOMB then
    let p := accs.map (fun a => match a with
      | .pair x _ => BitVec.ofNat 8 x
      | _ => 0)
    let q := accs.map (fun a => match a with
      | .pair _ y => BitVec.ofNat 8 y
      | _ => 0)
    (p ++ q, {})
  else if isBlockScaled fmt then encodeBlockScaled fmt round seed chunk (accs.map (accVal fmt n))
  else
    let rs := accs.mapIdx (fun i a => match a with
      | .raw bits => encodeKept fmt bits
      | .int x mark => encodeInt fmt n x mark
      | a => encodeFloat fmt (roundingOf round seed chunk i) (accVal fmt n a))
    (rs.flatMap (fun r => bytesBE (elemBytes fmt) r.1), rs.foldl (fun c r => c.add r.2) {})

/-! ## Digests (R349 to R351) -/

/-- CRC-64 of ECMA-182 (R349). -/
def crc64 (bs : List Byte) : Nat := bs.foldl (fun r b => crcBits 64 0x42F0E1EBA9EA3693 8 b.toNat r) 0

/-- Contribution value of a PART 0 trace (R349). -/
def contribution (chunk weight : Nat) (data : List Byte) : Nat :=
  crc64 (bytesBE 2 chunk ++ bytesBE 2 weight ++ data)

/-- The configuration digest of a context (R351). -/
def configDigest (t : Nat) (x : TeamCtx) (trv : Nat) : Nat :=
  natBE ((sha256 (bytesBE 36 (joinFields [(16, t), (16, x.ten), (16, x.gen), (8, x.opc), (8, x.fmt),
    (8, x.mode), (8, x.round), (64, x.seed), (8, x.tc), (8, x.priority), (16, x.chunkBlocks), (16, x.window),
    (16, x.firstChunk), (32, x.teamSize), (8, x.digestEn), (8, trv), (16, x.rev), (16, 0)]))).take 8)

end Sys2Proof.Machine
end

