-- ==== Sys2Proof/Machine/Collective.lean ====
section
/-! DEFINITION. Teams: Collectives in the Network (R297 to R320), the part that the team commands and the
engines share: contexts and their members, reservations and home facets, notices, chunk slots, the death
of a context and the loss of a home. -/

namespace Sys2Proof.Machine

/-! ## Contexts and members (R297 to R300) -/

abbrev TeamState.FREE : Nat := 0
abbrev TeamState.ACTIVE : Nat := 1
abbrev TeamState.RETIRED : Nat := 2
abbrev TeamState.ORPHANED : Nat := 3
abbrev TeamState.FAILED : Nat := 4

def teamState (s : State) (t : Nat) : Nat := rd s (Reg.TEAM_STATE t)

/-- Teams in a state, ascending. -/
def teamsIn (s : State) (st : Nat) : List Nat := listed s 0x0A00 2 (fun v => decide (v = st))

/-- Member entries of a context, by pool index. -/
def entriesOf (x : TeamCtx) : List Nat := (List.range x.members).map (fun i => x.firstMember + i)

/-- The entry of a team that names a SRC. -/
def entryOf (s : State) (x : TeamCtx) (src : Nat) : Option Nat :=
  (entriesOf x).find? (fun e => decide (rd s (Reg.MEMBER_SRC e) = src))

/-- Entries of one child. -/
def childEntries (s : State) (x : TeamCtx) (child : Nat) : List Nat :=
  (entriesOf x).filter (fun e => decide (rd s (Reg.MEMBER_CHILD e) = child))

/-- NCONTRIB summed over the children of a range of entries: each child's SLOT 0 entry (R300). -/
def expectOf (s : State) (entries : List Nat) : Nat :=
  entries.foldl (fun n e => if rd s (Reg.MEMBER_SLOT e) = 0 then n + rd s (Reg.MEMBER_NCONTRIB e) else n) 0

/-- Shards of an output (R303). -/
def shards (opc : Nat) : Nat := if opc = Opc.GFCOMB then 2 else 1

/-! ## Home facets (R356, R357) -/

/-- H of a team. -/
def teamHash (t : Nat) : Nat := let h := crc32c (bytesBE 2 t); (h / 65536) ^^^ (h % 65536)

/-- Harness engines of a facet in service. -/
def enginesIn (s : State) (f : Nat) : List Nat :=
  ((List.range 40).map (fun e => 40 * f + e)).filter (fun e => decide (rd s (Reg.HENGINE_STATE e) = 0))

/-- A facet is in service for home choice (R356); one under a FACET vet has left it (R470). -/
def homeService (s : State) (f : Nat) : Bool :=
  !s.lattice.outFacets.contains f && !(enginesIn s f).isEmpty && (Tab.find s.vets.runs (3 * 4096 + f)).isNone

def homeFacets (s : State) : List Nat := (List.range 8).filter (homeService s)

/-- The slot map of a team over the facets in service (R356). -/
def slotMap (t window : Nat) (fs : List Nat) : List Nat :=
  (List.range window).map (fun j => fs.getD ((teamHash t + j) % fs.length) 0)

/-- Home facet of a slot. -/
def homeOf (s : State) (t j : Nat) : Nat := (team s t).homes.getD j 0

/-! ## Reservations (R303, R360, R361) -/

/-- Accumulator bytes of an element (R303). -/
def accBytes (mode fmt : Nat) : Nat :=
  if mode = 1 then 40
  else if fmt = Fmt.FP64 ∨ fmt = Fmt.INT32 ∨ fmt = Fmt.INT8 then 8
  else if fmt = Fmt.GF8 then 2 else 4

/-- S: the bytes of a slot (R303). -/
def slotBytes (x : TeamCtx) : Nat :=
  elemsIn x.fmt x.chunkBlocks * accBytes x.mode x.fmt + 16 * x.chunkBlocks * shards x.opc + 768

/-- Resident region of a facet in bytes (R360). -/
def residentBytes (s : State) : Nat :=
  (48 - rd s Reg.ARITHCFG_TRACE_POOL - rd s Reg.ARITHCFG_STAGE_AREA) * 1048576

/-- HBM accumulator region of a facet in bytes, the vet window excluded (R360); nothing while its HBM is out
of service (R571), half of it with one channel group out (log entry 33). -/
def hbmAccBytes (s : State) (f : Nat) : Nat :=
  let g := rd s Reg.ARITHCFG_ACC_GIB
  let all := if g = 0 then 0 else g * 1073741824 - 64 * 1048576
  match ([0, 1].filter (fun c => s.egress.hbmOut.contains (f * 2 + c))).length with
  | 0 => all
  | 1 => all / 2
  | _ => 0

/-- ACTIVE teams but one that hold a reservation in a facet, a twin peer's among them (R417). -/
def reserving (s : State) (f but : Nat) : List TeamCtx :=
  ((teamsIn s TeamState.ACTIVE).filter (fun t => decide (t ≠ but) && (team s t).facets.contains f)).map (team s) ++
    (s.twin.held.filter (fun e => decide (e.1 ≠ but) && e.2.facets.contains f)).map (fun e => e.2)

def residentUsed (s : State) (f but : Nat) : Nat :=
  (reserving s f but).foldl (fun n x => if x.place.testBit f then n else n + x.resv * slotBytes x) 0

def hbmAccUsed (s : State) (f but : Nat) : Nat :=
  (reserving s f but).foldl (fun n x => if x.place.testBit f then n + x.resv * slotBytes x else n) 0

def slotsUsed (s : State) (f but : Nat) : Nat := (reserving s f but).foldl (fun n x => n + x.resv) 0

/-- Where the blocks of a team of `n` slots go in a facet: resident, in HBM, or nowhere (R303, R361). -/
def placeIn (s : State) (t : Nat) (x : TeamCtx) (n f : Nat) : Option Bool :=
  let need := n * slotBytes x
  if 8192 < slotsUsed s f t + n then none
  else if residentUsed s f t + need ≤ residentBytes s then some false
  else if hbmAccUsed s f t + need ≤ hbmAccBytes s f then some true
  else none

/-- The reservation of a team over a list of facets: slots in each, and its placement (R303). -/
def reserve (s : State) (t : Nat) (x : TeamCtx) (fs : List Nat) : Option (Nat × Nat) :=
  if fs = [] then none
  else
    let n := (x.window + fs.length - 1) / fs.length
    let ps := fs.map (fun f => (f, placeIn s t x n f))
    if ps.any (fun p => p.2.isNone) then none
    else some (n, ps.foldl (fun m p => if p.2 = some true then m + 2 ^ p.1 else m) 0)

/-! ## What a context emits (R312, R313) -/

/-- SLOT of a partial or RESULT (R312). -/
def revisedBit (x : TeamCtx) (k : ChunkSlot) : Nat := if 0 < x.rev ∨ k.revised = true then 1 else 0

/-- An emitted frame's extension; WEIGHT of a partial is the identity of its operation. -/
def emitExt (t : Nat) (x : TeamCtx) (k : ChunkSlot) (part : Nat) : Block :=
  mkExt {
    team := t, gen := x.gen, opc := x.opc, fmt := x.fmt, mode := x.mode, slot := revisedBit x k,
    last := k.last, part := part, dgv := x.digestEn, chunk := k.chunk,
    weight := if part = 0 then 0 else if x.opc = Opc.WSUM then 0x3F80 else if x.opc = Opc.GFCOMB then 0x0101 else 0,
    ncontrib := if part = 1 then x.expect else x.teamSize }

/-- The result sender takes a frame to originate (R366). -/
def pushOutgoing (s : State) (o : Outgoing) : State :=
  modColl s (fun c => { c with outgoing := c.outgoing ++ [o] })

/-- The RESULT in a slot's output side goes to entries. -/
def sendResult (s : State) (t j : Nat) (entries : List Nat) : State :=
  let k := chunkSlot s t j
  entries.foldl (fun s e => pushOutgoing s
    ⟨homeOf s t j, t, KindCode.RESULT, rd s (Reg.MEMBER_SRC e) % 2 ^ 20, k.outBlocks⟩) s

/-- Entries that RESULTs go to. -/
def resultEntries (s : State) (x : TeamCtx) : List Nat :=
  (entriesOf x).filter (fun e => decide (rd s (Reg.MEMBER_RESULT_EN e) = 1))

/-- SRC of a context's partials and RESULTs: its owner's identifier, the lost member's after a takeover
(R313, R416). -/
def teamEid (s : State) (t : Nat) : Nat :=
  if rd s (Reg.TWINTEAM_ADOPTED t) = 1 then rd s Reg.TWIN_PEER_EID % 2 ^ 20 else ownEid s

/-! ## Notices (R305, R311, R314) -/

abbrev Cause.MISSING : Nat := 0x10
abbrev Cause.REOPEN : Nat := 0x11
abbrev Cause.OUTSIDE_WINDOW : Nat := 0x12
abbrev Cause.TEAM_RETIRED : Nat := 0x13

/-- A notice of an entry becomes pending: one bit for each cause, and for REOPEN of each chunk (R311). -/
def pendNotice (s : State) (n : Notice) : State :=
  if s.coll.notices.any (fun m => decide (m.team = n.team) && decide (m.entry = n.entry) && decide (m.cause = n.cause) &&
      (decide (n.cause ≠ Cause.REOPEN) || decide (m.chunk = n.chunk)))
  then s else modColl s (fun c => { c with notices := c.notices ++ [n] })

/-- The lowest facet that is not OUT_OF_SERVICE (R311). -/
def lowestFacet (s : State) : Nat :=
  ((List.range 8).find? (fun f => !s.lattice.outFacets.contains f)).getD 0

/-- Contributions a chunk still lacks (R314). -/
def lacking (s : State) (x : TeamCtx) (k : ChunkSlot) : Nat :=
  x.expect - k.bits.foldl (fun n b => n + rd s (Reg.MEMBER_NCONTRIB b.2)) 0

/-- Data block of a team-cause NOTIFY (R314). -/
def noticeBlock (s : State) (t : Nat) (x : TeamCtx) (missing tries : Nat) : Block :=
  BitVec.ofNat 128 (joinFields [(16, rd s (Reg.TEAM_BASE t)), (11, x.window), (20, missing), (8, min tries 255),
    (10, x.gen), (3, teamState s t), (60, 0)])

/-- A team-cause NOTIFY is originated (R313). -/
def sendTeamNotify (s : State) (facet t entry cause gen chunk missing tries : Nat) : State :=
  let x := team s t
  let ext := mkExt {
    team := t, gen := gen, opc := x.opc, fmt := x.fmt, mode := x.mode, slot := rd s (Reg.MEMBER_SLOT entry),
    chunk := chunk, ncontrib := 1 }
  let s := inc s (Reg.TEAM_NOTIFIES t) 64
  sendNotify s facet (notifyHdr s facet cause x.ten (rd s (Reg.MEMBER_SRC entry) % 2 ^ 20) 2 1)
    [ext, noticeBlock s t x missing tries]

/-- A pending notice that a facet may send: of an entry, or of a chunk's slot. -/
inductive Due where
  | entry (n : Notice)
  | slot (t j cause e : Nat)
deriving DecidableEq, Repr

def dueTeam : Due → Nat
  | .entry n => n.team
  | .slot t _ _ _ => t

/-- Pending notices of a facet, PRIORITY teams first (R311). -/
def dueNotices (s : State) (facet : Nat) : List Due :=
  let slots := s.coll.slots.flatMap (fun e =>
    let t := e.1 / 1024
    let j := e.1 % 1024
    if (e.2.missing = [] ∧ e.2.reopen = []) ∨ homeOf s t j ≠ facet then []
    else e.2.reopen.map (fun m => Due.slot t j Cause.REOPEN m) ++ e.2.missing.map (fun m => Due.slot t j Cause.MISSING m))
  let mine := s.coll.notices.filter (fun n =>
    if n.home < 8 ∧ s.lattice.outFacets.contains n.home = false then decide (facet = n.home)
    else decide (facet = lowestFacet s))
  let all := mine.map Due.entry ++ slots
  let pri := fun d => decide ((team s (dueTeam d)).priority = 1)
  all.filter pri ++ all.filter (fun d => !pri d)

/-- One pending notice is sent while the bucket has a token and the facet has staging (R287). -/
def sendDue (facet : Nat) (s : State) (d : Due) : State :=
  if (bucket s facet).tokens = 0 ∨ stagingRoom s facet 3 2 = false then s
  else match d with
  | .entry n =>
    let s := modColl s (fun c => { c with notices := c.notices.erase n })
    sendTeamNotify s facet n.team n.entry n.cause n.gen n.chunk 0 0
  | .slot t j cause e =>
    let k := chunkSlot s t j
    let x := team s t
    let s := modSlot s t j (fun k => if cause = Cause.REOPEN
      then { k with reopen := k.reopen.filter (fun y => decide (y ≠ e)) }
      else { k with missing := k.missing.filter (fun y => decide (y ≠ e)) })
    sendTeamNotify s facet t e cause x.gen k.chunk (lacking s x k) k.tries

/-- The pending notices of one facet, and of every facet. -/
def flushNotices (s : State) (facet : Nat) : State := (dueNotices s facet).foldl (sendDue facet) s

def flushAllNotices (s : State) : State := (List.range 8).foldl flushNotices s

/-- Tokens accrue at NOTIFY_RATE to the ms, 64 at most (R287). -/
def accrueTokens (s : State) (facet : Nat) : State :=
  modBucket s facet (fun b =>
    let n := b.frac + (now s - b.last) * rd s Reg.FLOWCFG_NOTIFY_RATE
    let k := b.tokens + n / 1000000
    if 64 ≤ k then { b with tokens := 64, last := now s, frac := 0 }
    else { b with tokens := k, last := now s, frac := n % 1000000 })

/-- NOTIFY_TOKEN (R287): the tokens that have accrued, and the notices that waited for them. -/
def doNotifyToken (facet : Nat) (s : State) : State := flushNotices (accrueTokens s facet) facet

/-! ## Chunk slots (R308 to R310) -/

/-- The slot retains its chunk as DONE or LOST. -/
def retains (k : ChunkSlot) (chunk : Nat) : Bool := decide (k.outState ≠ 0) && decide (k.outChunk = chunk)

/-- BASE moves past every chunk that is DONE or LOST (R308); at most a window of them. -/
def advanceBase : Nat → State → Nat → State
  | 0, s, _ => s
  | n + 1, s, t =>
    let b := rd s (Reg.TEAM_BASE t)
    let w := (team s t).window
    if retains (chunkSlot s t (b % w)) b then advanceBase n (wr s (Reg.TEAM_BASE t) ((b + 1) % 65536)) t else s

/-- REOPEN notices of a chunk that leaves its slot stay pending: only MISSING is ever withdrawn (R311). -/
def keepReopens (s : State) (t j : Nat) : State :=
  let k := chunkSlot s t j
  k.reopen.foldl (fun s e => pendNotice s ⟨t, e, Cause.REOPEN, (team s t).gen, k.chunk, homeOf s t j⟩) s

/-- The accumulator side is free again. -/
def clearAcc (k : ChunkSlot) : ChunkSlot :=
  { k with
    state := 0, chunk := 0, blocks := none, last := 0, bits := [], tries := 0, revised := false, acc := [],
    sum := 0, encoding := false, stalled := false, missing := [], reopen := [], reopened := false }

/-- Stints, yoke traces and bands of a chunk are given up, with the traces they hold. -/
def dropWork (s : State) (t j : Nat) : State :=
  let mine := s.coll.stints.filter (fun x => decide (x.team = t) && decide (x.slot = j))
  let yokes := s.coll.yoke.filter (fun x => decide (x.team = t) && decide (x.slot = j))
  let s := modColl s (fun c => { c with
    stints := c.stints.filter (fun x => !(decide (x.team = t) && decide (x.slot = j))),
    yoke := c.yoke.filter (fun x => !(decide (x.team = t) && decide (x.slot = j))),
    bands := c.bands.filter (fun x => !(decide (x.team = t) && decide (x.slot = j))) })
  let ids := ((mine.map (fun x => x.frame)) ++ (yokes.map (fun x => x.frame))).eraseDups
  ids.foldl removeFrame s

/-- Work of a chunk is queued or in flight. -/
def chunkBusy (s : State) (t j : Nat) : Bool :=
  s.coll.stints.any (fun x => decide (x.team = t) && decide (x.slot = j)) ||
    s.coll.yoke.any (fun x => decide (x.team = t) && decide (x.slot = j)) ||
    s.coll.bands.any (fun x => decide (x.team = t) && decide (x.slot = j))

/-- A staged block with nothing queued joins the write-back order; one in use leaves it (R362). -/
def noteIdle (s : State) (t j : Nat) : State :=
  if (chunkSlot s t j).staged = false then s
  else if chunkBusy s t j then modColl s (fun c => { c with writeBack := c.writeBack.filter (fun x => decide (x ≠ (t, j))) })
  else if s.coll.writeBack.contains (t, j) then s
  else modColl s (fun c => { c with writeBack := c.writeBack ++ [(t, j)] })

/-- A chunk is reopened (R310): its REOPEN notices replace any MISSING ones. -/
def reopenChunk (s : State) (t j : Nat) : State :=
  let x := team s t
  let s := dropWork s t j
  let s := modColl s (fun c => { c with
    outgoing := c.outgoing.filter (fun o => !(decide (o.team = t) && decide (o.kind = KindCode.TRACE) &&
      decide (extChunk (o.blocks.getD 0 0) = (chunkSlot s t j).chunk))) })
  let s := modSlot s t j (fun k => { k with
    state := 1, blocks := none, last := 0, bits := [], tries := 0, since := now s,
    entered := if k.state = 1 then k.entered else now s, reopened := true,
    revised := false, acc := [], sum := 0, encoding := false, missing := [],
    reopen := (k.reopen ++ entriesOf x).eraseDups })
  let s := inc s (Reg.TEAM_REOPENS t) 32
  noteIdle (countIn s (facetBank (homeOf s t j)) 0x8115 { ten := some x.ten }) t j

/-- The retained RESULT of a slot is lost (R310). -/
def loseOutput (s : State) (t j : Nat) : State :=
  if (chunkSlot s t j).outState = 3 then modSlot s t j (fun k => { k with outState := 4, outBlocks := [] }) else s

/-- The home of a slot is lost to it (R310): OPEN or SENT is reopened, DONE becomes LOST. Answers how many chunks were
reopened. -/
def loseSlot (s : State) (t j : Nat) : State × Nat :=
  let s := loseOutput s t j
  if (chunkSlot s t j).state = 0 then (s, 0) else (reopenChunk s t j, 1)

/-- Chunks reopened under one event are recorded once for the team. -/
def recordReopened (s : State) (t n : Nat) : State :=
  if n = 0 then s else raise s Code.TEAM_REOPENED 0xFF [(16, t), (32, n)]

/-- The chunk in progress in a slot is handled as at the loss of its home, it alone (R363, R369). -/
def loseProgress (s : State) (t j : Nat) : State :=
  if (chunkSlot s t j).state = 0 then s else flushAllNotices (recordReopened (reopenChunk s t j) t 1)

/-- An uncorrectable error in a slot block: the chunk the block serves is lost to it, the one in progress where there is one
(R363; log entry 111); in HBM its channel group counts the word (R453 0x6006). -/
def accEcc (s : State) (f t j : Nat) : State :=
  let s := raise s Code.ACC_ECC f [(16, t), (16, j)]
  let s := if (team s t).place.testBit f then countIn s (hbmBank f (Config.blockGroup t j).val) 0x6006 {} else s
  if (chunkSlot s t j).state = 0 then loseOutput s t j else loseProgress s t j

/-- A whole slot block is lost with its channel group (R363). -/
def loseBlock (s : State) (f t j : Nat) : State :=
  let r := loseSlot (raise s Code.ACC_ECC f [(16, t), (16, j)]) t j
  flushAllNotices (recordReopened r.1 t r.2)

/-- RESULT_SENDER_EMIT (R366): the oldest frame of a facet's result sender that has staging; LAST_DIGEST follows what is
emitted (R352). `blockBad`: a word of the slot block it reads fails, and the frame's chunk is lost to it (R363). -/
def doResultSender (facet : Nat) (blockBad : Bool) (s : State) : State :=
  match s.coll.outgoing.find? (fun o => decide (o.facet = facet)) with
  | none => s
  | some o =>
    let x := team s o.team
    let c := extChunk (o.blocks.getD 0 0)
    let j := c % x.window
    if stagingRoom s facet 2 o.blocks.length = false then s
    else if blockBad then
      let s := raise s Code.ACC_ECC facet [(16, o.team), (16, j)]
      let s := modColl s (fun w => { w with outgoing := w.outgoing.filter (fun y =>
        !(decide (y.team = o.team) && decide (y.kind = o.kind) && decide (extChunk (y.blocks.getD 0 0) = c))) })
      let k := chunkSlot s o.team j
      if o.kind = KindCode.RESULT then (if k.outChunk = c then loseOutput s o.team j else s)
      else if k.chunk = c then loseProgress s o.team j else s
    else
      let s := modColl s (fun w => { w with outgoing := w.outgoing.erase o })
      let s := if x.digestEn = 1 then
          wr (wr s (Reg.TEAMARITH_LAST_DIGEST o.team) (field (o.blocks.getD (o.blocks.length - 1) 0).toNat 64 64))
            (Reg.TEAMARITH_LAST_DIGEST_CHUNK o.team) c
        else s
      originate s facet (mkHdr {
        kind := o.kind, msg := 2, tc := x.tc, ten := x.ten, dst := o.dst, src := teamEid s o.team,
        seq := c, len := o.blocks.length, arith := 1 }) o.blocks

/-! ## Death of a context (R305) -/

/-- Every chunk is abandoned, the reservation released and TEAM_RETIRED pended for every entry. -/
def killTeam (s : State) (t st : Nat) : State :=
  let x := team s t
  let js := (s.coll.slots.filter (fun e => decide (e.1 / 1024 = t))).map (fun e => e.1 % 1024)
  let s := js.foldl (fun s j => keepReopens (dropWork s t j) t j) s
  let s := js.foldl (fun s j => modSlot s t j (fun k => { entered := if k.state = 0 then k.entered else now s })) s
  let s := modColl s (fun c => { c with
    outgoing := c.outgoing.filter (fun o => decide (o.team ≠ t)),
    writeBack := c.writeBack.filter (fun y => decide (y.1 ≠ t)) })
  let s := modTeam (wr s (Reg.TEAM_STATE t) st) t (fun x => { x with deadAt := some (now s), resv := 0, facets := [] })
  let s := (entriesOf x).foldl (fun s e => pendNotice s ⟨t, e, Cause.TEAM_RETIRED, x.gen, (Config.retiredChunk t).toNat, 0xFF⟩) s
  flushAllNotices s

/-- A context FAILED (R310, R319). -/
def failTeam (s : State) (t : Nat) : State := killTeam (raise s Code.TEAM_FAILED 0xFF []) t TeamState.FAILED

/-! ## A facet leaves home choice (R319, R357) -/

/-- The facet that holds the fewest of a slot map, the lower one at ties. -/
def leastHome (homes fs : List Nat) : Nat :=
  let n := fun f => (homes.filter (fun h => decide (h = f))).length
  match fs with
  | [] => 0
  | f :: rest => rest.foldl (fun b x => if n x < n b then x else b) f

/-- Slots homed on facet `g` are reassigned one by one (R357); slots already moved are counted at their
new facet. -/
def moveHomes (g : Nat) (fs : List Nat) : List Nat → List Nat → List Nat
  | done, [] => done
  | done, h :: rest =>
    let pick := if h = g then leastHome (done ++ rest.filter (fun x => decide (x ≠ g))) fs else h
    moveHomes g fs (done ++ [pick]) rest

/-- One team at the loss of a home facet: one with no slot there only gives up its reservation in it, and its placements
elsewhere stand (R361); another fails where it no longer fits, and otherwise its slots homed
there move and their chunks are lost to it. Answers the slots moved. -/
def rehomeTeam (g : Nat) (r : State × Nat) (t : Nat) : State × Nat :=
  let s := r.1
  let x := team s t
  let fs := homeFacets s
  let moved := (List.range x.window).filter (fun j => decide (x.homes.getD j 0 = g))
  if moved = [] then
    (modTeam s t (fun x => { x with
      facets := x.facets.filter (fun f => decide (f ≠ g)), place := if x.place.testBit g then x.place - 2 ^ g else x.place }), r.2)
  else match reserve s t x fs with
  | none => (failTeam s t, r.2)
  | some (n, place) =>
    let s := modTeam s t (fun x => { x with
      homes := moveHomes g fs [] x.homes, resv := n, facets := fs, place := place })
    let c := moved.foldl (fun r j =>
      let y := loseSlot (modSlot r.1 t j (fun k => { k with staged := false })) t j
      (y.1, r.2 + y.2)) (s, 0)
    (recordReopened c.1 t c.2, r.2 + moved.length)

/-- A peer's contexts reserve over the facets that are now in service. -/
def reholdTeams (s : State) : State :=
  s.twin.held.foldl (fun s e =>
    let fs := homeFacets s
    let r := reserve s e.1 e.2 fs
    let x := match r with
      | some (n, place) => { e.2 with resv := n, facets := fs, place := place }
      | none => { e.2 with resv := 0, facets := [] }
    modTwin s (fun w => { w with held := Tab.set w.held e.1 x })) s

/-- A facet has left home choice: every ACTIVE team is handled at this instant (R319, R357). -/
def loseHome (s : State) (g : Nat) : State :=
  let s := reholdTeams s
  let r := (teamsIn s TeamState.ACTIVE).foldl (rehomeTeam g) (s, 0)
  let s := if r.2 = 0 then r.1 else raise r.1 Code.HOME_MOVED g [(8, g), (32, r.2)]
  flushAllNotices s

end Sys2Proof.Machine
end

