-- ==== Sys2Proof/Machine/Harness.lean ====
section
/-! DEFINITION. Harness Engines and Yoke Arrays (R354 to R380): stints and their queues, claims and
replays, the commit of sections, encode stints, and the bands and passes of the yoke. -/

namespace Sys2Proof.Machine

/-! ## Blocks and the trace pool (R359, R362) -/

/-- The block of a slot is placed in HBM. -/
def inHbm (s : State) (t j : Nat) : Bool := (team s t).place.testBit (homeOf s t j)

/-- The block may be used: resident, or staged (R362). -/
def blockReady (s : State) (t j : Nat) : Bool := !inHbm s t j || (chunkSlot s t j).staged

/-- Slots whose block a facet has staged. -/
def stagedIn (s : State) (f : Nat) : List (Nat × Nat) :=
  (s.coll.slots.filter (fun e => e.2.staged && decide (homeOf s (e.1 / 1024) (e.1 % 1024) = f))).map
    (fun e => (e.1 / 1024, e.1 % 1024))

/-- Stage cells in use in a facet, in bytes. -/
def stageUsed (s : State) (f : Nat) : Nat := (stagedIn s f).foldl (fun n x => n + slotBytes (team s x.1)) 0

/-- A trace of the chunk is on its way, or work of it is queued or in flight. -/
def blockWanted (s : State) (t j : Nat) : Bool :=
  chunkBusy s t j || s.frames.any (fun e => decide (e.2.team = t) && decide (e.2.home < 8) &&
    decide (extChunk (e.2.blocks.getD 0 0) % (team s t).window = j))

/-- BLOCK_STAGE_DONE (R362); the read corrected so many words (R453 0x6005). -/
def doBlockStage (t j corrected : Nat) (s : State) : State :=
  let f := homeOf s t j
  let x := team s t
  if teamState s t ≠ TeamState.ACTIVE ∨ x.window ≤ j ∨ inHbm s t j = false ∨ (chunkSlot s t j).staged = true ∨
      blockWanted s t j = false ∨ rd s Reg.ARITHCFG_STAGE_AREA * 1048576 < stageUsed s f + slotBytes x then s
  else
    let s := modSlot s t j (fun k => { k with staged := true })
    let s := countIn s (hbmBank f (Config.blockGroup t j).val) 0x6003 { bytes := slotBytes x }
    let s := countIn s (hbmBank f (Config.blockGroup t j).val) 0x6005 { events := corrected }
    noteIdle s t j

/-- BLOCK_WRITE_BACK_DONE (R362): blocks are released in the order in which they fell idle. -/
def doBlockWriteBack (t j : Nat) (s : State) : State :=
  let f := homeOf s t j
  let mine := s.coll.writeBack.filter (fun y => decide (homeOf s y.1 y.2 = f))
  if mine.head? ≠ some (t, j) ∨ chunkBusy s t j = true then s
  else
    let s := modColl s (fun c => { c with writeBack := c.writeBack.filter (fun y => decide (y ≠ (t, j))) })
    let s := modSlot s t j (fun k => { k with staged := false })
    countIn s (hbmBank f (Config.blockGroup t j).val) 0x6004 { bytes := slotBytes (team s t) }

/-! ## Queues (R364) -/

/-- Stints in the queue of an engine: not those an engine holds, nor replays, which stand ahead of every queue (R367). -/
def queuedOn (s : State) (e : Nat) : Nat :=
  (s.coll.stints.filter (fun x => decide (x.engine = e) && decide (x.claimed = none) && decide (x.failed = []))).length

/-- The engine whose queue takes a stint (R364). -/
def placeEngine (s : State) (t j : Nat) : Nat :=
  let f := homeOf s t j
  let first := (teamHash t / 256 + j) % 40
  let es := (List.range 40).map (fun i => 40 * f + (first + i) % 40)
  (es.find? (fun e => decide (rd s (Reg.HENGINE_STATE e) = 0) && decide (queuedOn s e < 256))).getD (40 * f + first)

/-- A stint joins the tail of its queue, with the tick and the place of its admission. -/
def addStintAt (s : State) (t j kind frame entry : Nat) (groups : List Nat) (tick order : Nat) : State :=
  let x : Stint := {
    id := s.coll.nextStint, order := order, facet := homeOf s t j, engine := placeEngine s t j, team := t, slot := j,
    kind := kind, frame := frame, entry := entry, tick := tick, made := now s, section_ := 0, groups := groups, failed := [],
    claimed := none }
  noteIdle (modColl s (fun c => { c with stints := c.stints ++ [x], nextStint := c.nextStint + 1 })) t j

/-- A stint admitted now. -/
def addStint (s : State) (t j kind frame entry : Nat) (groups : List Nat) : State :=
  addStintAt s t j kind frame entry groups (now s) s.coll.nextStint

/-- Stints of one chunk. -/
def ofChunk (t j : Nat) (x : Stint) : Bool := decide (x.team = t) && decide (x.slot = j)

/-- A stint and a band work on the same elements of one chunk. -/
def meets (x : Stint) (b : Band) : Bool :=
  decide (b.team = x.team) && decide (b.slot = x.slot) && b.issued &&
    (decide (x.groups = []) || x.groups.contains b.group)

/-- The stint may be claimed (R362, R364): its block is ready, no stint of the chunk is in flight, none
admitted earlier still waits, and no band that works on its elements is out. -/
def claimable (s : State) (x : Stint) : Bool :=
  x.claimed.isNone && blockReady s x.team x.slot &&
    s.coll.stints.all (fun y => !(ofChunk x.team x.slot y) || decide (y.id = x.id) ||
      (y.claimed.isNone && (decide (x.order < y.order) || (decide (x.order = y.order) && decide (x.id < y.id))))) &&
    s.coll.bands.all (fun b => !meets x b)

/-- An engine in service that holds no stint. -/
def engineFree (s : State) (e : Nat) : Bool :=
  decide (rd s (Reg.HENGINE_STATE e) = 0) && !(s.coll.stints.any (fun x => decide (x.claimed = some e)))

/-- An engine may take a stint that failed elsewhere: after one failure another engine of the string, or any where none of
those is in service (R367 step 2); after two an engine of a third string, of the lowest that has one free (R368). -/
def replayOn (s : State) (e : Nat) (x : Stint) : Bool :=
  match x.failed with
  | [] => true
  | [a] =>
    if e / 8 = a / 8 then decide (e ≠ a)
    else (List.range 8).all (fun i => let o := a / 8 * 8 + i; decide (o = a) || decide (rd s (Reg.HENGINE_STATE o) ≠ 0))
  | fs =>
    let other := fun (o : Nat) => fs.all (fun a => decide (a / 8 ≠ o / 8))
    other e && (List.range 40).all (fun i => let o := e / 40 * 40 + i; decide (e / 8 ≤ o / 8) || !other o || !engineFree s o)

/-- The stint an engine takes among some: replays first, then PRIORITY teams, then the oldest (R365). -/
def bestStint (s : State) (xs : List Stint) : Option Stint :=
  let rank := fun (x : Stint) =>
    (if x.failed ≠ [] then 0 else if (team s x.team).priority = 1 then 1 else 2)
  (sortBy (fun a b =>
    decide (rank a < rank b) || (decide (rank a = rank b) &&
      (decide (a.tick < b.tick) || (decide (a.tick = b.tick) &&
        (decide (a.engine < b.engine) || (decide (a.engine = b.engine) && decide (a.id ≤ b.id))))))) xs).head?

/-- The stint an engine takes: a replay, which stands ahead of every stint of the facet (R367), then from its own queue, its
string, its facet (R365). -/
def chooseStint (s : State) (e : Nat) : Option Stint :=
  let xs := s.coll.stints.filter (fun x => decide (x.facet = e / 40) && claimable s x && replayOn s e x)
  let own := xs.filter (fun x => decide (x.engine = e))
  let str := xs.filter (fun x => decide (x.engine ≠ e) && decide (x.engine / 8 = e / 8))
  let rest := xs.filter (fun x => decide (x.engine / 8 ≠ e / 8))
  match (bestStint s (xs.filter (fun x => decide (x.failed ≠ [])))).or (bestStint s own) with
  | some x => some x
  | none => match bestStint s str with
    | some x => some x
    | none => bestStint s rest

def stintOf (s : State) (e : Nat) : Option Stint := s.coll.stints.find? (fun x => decide (x.claimed = some e))

def setStint (s : State) (x : Stint) : State :=
  modColl s (fun c => { c with stints := c.stints.map (fun y => if y.id = x.id then x else y) })

def delStint (s : State) (x : Stint) : State :=
  noteIdle (modColl s (fun c => { c with stints := c.stints.filter (fun y => decide (y.id ≠ x.id)) })) x.team x.slot

/-- An event of an engine's string. -/
def countString (s : State) (e sel n t : Nat) : State :=
  countIn s (stringBank e) sel { ten := some (team s t).ten, events := n }

/-! ## Completion (R309, R310, R366) -/

/-- A chunk that has every child bit and no work left gets its encode stint (R366). -/
def maybeEncode (s : State) (t j : Nat) : State :=
  let k := chunkSlot s t j
  let x := team s t
  if k.state = 1 ∧ k.bits.length = x.children ∧ 0 < x.children ∧ k.encoding = false ∧ chunkBusy s t j = false then
    addStint (modSlot s t j (fun k => { k with encoding := true })) t j 1 0 0 []
  else s

/-- A chunk reaches DONE: its output is retained, its accumulator freed, and it goes to the entries. -/
def chunkDone (s : State) (t j : Nat) (blocks : List Block) : State :=
  let k := chunkSlot s t j
  let x := team s t
  let s := keepReopens s t j
  let s := modSlot s t j (fun k => { clearAcc k with
    outState := 3, outChunk := k.chunk, outBlocks := blocks, entered := now s })
  let s := inc s (Reg.TEAM_CHUNKS_DONE t) 64
  let s := if k.last = 1 then inc s (Reg.TEAM_COLLECTIVES t) 32 else s
  let s := countIn s (facetBank (homeOf s t j)) 0x8114 { ten := some x.ten }
  let s := advanceBase x.window s t
  sendResult s t j (resultEntries s x)

/-- Counts of an encode reach TEAMARITH, and the records of R353 are written once (R352). -/
def noteCounts (s : State) (t : Nat) (x : TeamCtx) (chunk : Nat) (c : OutCounts) : State :=
  let s := incBy s (Reg.TEAMARITH_NAN_OUT t) 64 c.nan
  let s := incBy s (Reg.TEAMARITH_INF_OUT t) 64 c.inf
  let s := incBy s (Reg.TEAMARITH_SAT_OUT t) 64 c.sat
  let s := incBy s (Reg.TEAMARITH_OVF_OUT t) 64 c.ovf
  let items := [(16, t), (16, x.gen), (16, chunk)]
  let s := if 0 < c.nan + c.inf ∧ x.nanDone = false then
      modTeam (raise s Code.ARITH_NAN 0xFF items) t (fun x => { x with nanDone := true }) else s
  let s := if 0 < c.ovf ∧ x.ovfDone = false then
      modTeam (raise s Code.INT_OVERFLOW 0xFF items) t (fun x => { x with ovfDone := true }) else s
  if 0 < c.sat ∧ x.satDone = false then
    modTeam (raise s Code.SATURATED 0xFF items) t (fun x => { x with satDone := true }) else s

def blocksOf (bs : List Byte) : List Block := (chunks 16 bs.length bs).map (fun c => BitVec.ofNat 128 (natBE c))

/-- The accumulators of a chunk; before the first application they hold their initial values (R335 to R340). -/
def accsOf (x : TeamCtx) (k : ChunkSlot) : List Acc :=
  if k.acc = [] then List.replicate (elemsIn x.fmt (k.blocks.getD 0)) (accInit x.opc x.mode x.fmt) else k.acc

/-- An encode stint commits (R310, R345, R350, R366): the ROOT's RESULT, or an INNER's partial. -/
def encodeCommit (s : State) (t j : Nat) : State :=
  let x := team s t
  let k := chunkSlot s t j
  let root := decide (x.position = 1)
  let n := if root ∧ x.opc = Opc.AVG then x.teamSize else 1
  let r := encodeOutput x.opc x.fmt x.round x.seed k.chunk n (accsOf x k)
  let digest := if root then k.sum ^^^ configDigest t x (revisedBit x k) else k.sum
  let trailer := if x.digestEn = 1 then [BitVec.ofNat 128 (digest * 2 ^ 64)] else []
  let blocks := emitExt t x k (if root then 0 else 1) :: blocksOf r.1 ++ trailer
  let s := noteCounts s t x k.chunk r.2
  if root then chunkDone s t j blocks
  else
    let s := modSlot s t j (fun k => { k with
      state := 2, encoding := false, since := if k.state = 2 then k.since else now s,
      entered := if k.state = 2 then k.entered else now s, missing := [] })
    pushOutgoing s ⟨homeOf s t j, t, KindCode.TRACE, x.parent % 2 ^ 20, blocks⟩

/-! ## Traces and their contribution (R349, R359) -/

/-- Data bytes of a trace. -/
def traceData (f : Frame) : List Byte :=
  let ext := f.blocks.getD 0 0
  let data := (f.blocks.drop 1).take (hdrLen f.hdr - 1 - extDgv ext)
  data.flatMap (fun b => bytesBE 16 b.toNat)

/-- Contribution value of a trace: its own, or the DIGEST of a partial's trailer (R349). -/
def traceValue (f : Frame) : Nat :=
  let ext := f.blocks.getD 0 0
  if extPart ext = 1 then
    (if extDgv ext = 1 then field (f.blocks.getD (f.blocks.length - 1) 0).toNat 64 64 else 0)
  else contribution (extChunk ext) (extWeight ext) (traceData f)

/-- Nothing of a trace is left to apply: its contribution is taken, its cells are freed (R359), and one that the yoke gave
up in part counts as a fallback trace (R382). -/
def finishTrace (s : State) (t j frame : Nat) : State :=
  match findFrame s frame with
  | none => s
  | some f =>
    let left := s.coll.stints.any (fun x => decide (x.frame = frame)) ||
      s.coll.yoke.any (fun x => decide (x.frame = frame) && decide (x.left ≠ []))
    if left then s
    else
      let s := modSlot s t j (fun k => { k with sum := (k.sum + traceValue f) % 2 ^ 64 })
      let s := match s.coll.yoke.find? (fun x => decide (x.frame = frame) && x.fell) with
        | some x => inc s (Reg.YOKE_FALLBACK_TRACES x.facet) 64
        | none => s
      let s := modColl s (fun c => { c with yoke := c.yoke.filter (fun x => decide (x.frame ≠ frame)) })
      maybeEncode (noteIdle (removeFrame s frame) t j) t j

/-- Elements applied from a trace: those of a range that lie in the given groups (all when none are
named). -/
def applyTrace (s : State) (t j frame lo hi : Nat) (groups : List Nat) : State :=
  match findFrame s frame with
  | none => s
  | some f =>
    let x := team s t
    let ext := f.blocks.getD 0 0
    let data := traceData f
    modSlot s t j (fun k =>
      let b := k.blocks.getD 0
      let accs := accsOf x k
      let new := applyRange x.opc x.fmt (extWeight ext) (extPart ext) b lo hi data accs
      { k with acc := if groups = [] then new
          else (List.zip accs new).mapIdx (fun i a => if groups.contains (i / 64) then a.2 else a.1) })

/-! ## Engines (R365 to R370) -/

/-- The VET instance of an engine's string, and of a yoke (R470). -/
def engineUnit (e : Nat) : Nat := e / 8
def yokeUnit (f : Nat) : Nat := 4096 + f

/-- An engine has left service: its facet may be without engines (R357, R380). -/
def engineLeft (s : State) (e : Nat) : State :=
  if (enginesIn s (e / 40)).isEmpty ∧ s.lattice.outFacets.contains (e / 40) = false then loseHome s (e / 40) else s

/-- SUSPECT of a unit, numbered as in SUSPECT_DECAY, has begun to fall: SUSPECT_DECAY s from now (R370). -/
def startDecay (s : State) (u : Nat) : State := modColl s (fun c => { c with decays := Tab.put 0 c.decays u (now s) })

/-- SUSPECT rises; at SUSPECT_LIMIT the engine is quarantined, whatever else has taken it out of service (R370). -/
def suspectEngine (s : State) (e : Nat) : State :=
  let n := min 255 (rd s (Reg.HENGINE_SUSPECT e) + 1)
  let s := if n = 1 then startDecay s e else s
  let s := wr s (Reg.HENGINE_SUSPECT e) n
  if rd s Reg.ARITHCFG_SUSPECT_LIMIT ≤ n ∧ rd s (Reg.HENGINE_STATE e) ≠ 3 then
    let served := decide (rd s (Reg.HENGINE_STATE e) = 0)
    let s := raise (wr s (Reg.HENGINE_STATE e) 3) Code.ENGINE_QUARANTINED (e / 40) []
    let s := vetRequest s (engineUnit e) 1 0
    if served then engineLeft s e else s
  else s

/-- A stint is given up with its trace (R363, R369): discarded, and its child bit cleared with the chunk. -/
def dropTrace (s : State) (x : Stint) : State :=
  let s := delStint s x
  if x.frame = 0 then s else dropIn s x.frame 0x60

/-- STINT_CLAIM (R365). `ecc` 1: a word of the trace's cells fails; 2: a word of the slot block (R363). A trace that the yoke
has applied in part cannot be given up alone: its chunk is reopened (DESIGN CHOICE, log entry 111). -/
def doStintClaim (e ecc : Nat) (s : State) : State :=
  if rd s (Reg.HENGINE_STATE e) ≠ 0 ∨ (stintOf s e).isSome = true then s
  else match chooseStint s e with
  | none => s
  | some x =>
    if ecc = 2 then accEcc s (e / 40) x.team x.slot
    else if ecc = 1 ∧ x.groups ≠ [] then loseProgress s x.team x.slot
    else if ecc = 1 ∧ x.frame ≠ 0 ∧ x.section_ = 0 then
      let s := modSlot s x.team x.slot (fun k => { k with bits := k.bits.filter (fun b => decide (b.2 ≠ x.entry)) })
      dropTrace s x
    else
      let s := countString s e 0x4007 (now s - x.tick) x.team
      let s := if x.engine = e then s
        else countString (inc s (Reg.HENGINE_REMOUNTS e) 64) e 0x4006 1 x.team
      setStint s { x with claimed := some e }

/-- Elements a stint works through (R355). -/
def stintElems (s : State) (x : Stint) : Nat :=
  let c := team s x.team
  let n := elemsIn c.fmt ((chunkSlot s x.team x.slot).blocks.getD 0)
  if x.kind = 1 then shards c.opc * n else n

/-- STINT_SECTION_COMMIT (R367): one section of at most 2,048 elements; the last ends the stint. -/
def doSectionCommit (e : Nat) (s : State) : State :=
  match stintOf s e with
  | none => s
  | some x =>
    let t := x.team
    let lo := 2048 * x.section_
    let s := if x.kind = 1 then s else applyTrace s t x.slot x.frame lo (lo + 2048) x.groups
    if lo + 2048 < stintElems s x then setStint s { x with section_ := x.section_ + 1 }
    else
      let s := delStint s x
      let s := inc s (Reg.HENGINE_STINTS e) 64
      let s := countString s e (0x4001 + x.kind) 1 t
      let s := if x.failed = [] then s else countString (inc s (Reg.HENGINE_REPLAYS e) 32) e 0x4005 1 t
      if x.kind = 1 then encodeCommit s t x.slot
      else
        let s := if x.kind = 2 ∧ s.coll.yoke.all (fun y => decide (y.frame ≠ x.frame)) = true then
            inc s (Reg.YOKE_FALLBACK_TRACES x.facet) 64 else s
        finishTrace s t x.slot x.frame

/-- STINT_CHECK_FAIL (R367 to R369): replayed twice elsewhere, then given up. `code` counts from 0, the check codes of R371
from 1. -/
def doCheckFail (e code : Nat) (s : State) : State :=
  match stintOf s e with
  | none => s
  | some x =>
    let chunk := (chunkSlot s x.team x.slot).chunk
    let n := x.failed.length + 1
    let s := countString (inc s (Reg.HENGINE_CHECK_FAILS e) 32) e 0x4004 1 x.team
    let s := raise s Code.STINT_CHECK (e / 40) [(16, e), (16, x.team), (16, chunk), (8, code + 1), (8, n)]
    let s := setStint s { x with claimed := none, failed := x.failed ++ [e] }
    let s :=
      if n < 3 then s
      else
        let s := dropTrace s x
        let s := raise s Code.STINT_FAILED (e / 40) [(16, e), (16, x.team), (16, chunk), (8, x.kind)]
        loseProgress s x.team x.slot
    suspectEngine s e

/-! ## The yoke (R372 to R376) -/

def yokeIn (s : State) (f : Nat) : Bool := decide (rd s (Reg.YOKE_STATE f) = 0)

/-- Groups of 64 elements in a chunk of `b` blocks. -/
def groupsIn (fmt b : Nat) : Nat := (elemsIn fmt b + 63) / 64

/-- A trace is admitted to the yoke: every group is yet to be applied. -/
def addYoke (s : State) (t j frame entry : Nat) : State :=
  let k := chunkSlot s t j
  let x : YokeTrace := ⟨frame, homeOf s t j, t, j, entry, now s, s.coll.nextStint,
    List.range (groupsIn (team s t).fmt (k.blocks.getD 0)), false⟩
  noteIdle (modColl s (fun c => { c with yoke := c.yoke ++ [x], nextStint := c.nextStint + 1 })) t j

/-- A stint that applies this group of the chunk is queued or in flight. -/
def stintOnGroup (s : State) (t j g : Nat) : Bool :=
  s.coll.stints.any (fun x => ofChunk t j x && (decide (x.groups = []) || x.groups.contains g))

/-- The bands the scheduler can form now in a facet: for each group of a chunk every trace not yet applied
to it, up to 64, unless a band of that group stands (R372). -/
def newBands (s : State) (f : Nat) : List Band :=
  let mine := s.coll.yoke.filter (fun x => decide (x.facet = f))
  let keys := (mine.flatMap (fun x => x.left.map (fun g => (x.team, x.slot, g)))).eraseDups
  keys.filterMap (fun key =>
    let t := key.1
    let j := key.2.1
    let g := key.2.2
    if s.coll.bands.any (fun b => decide (b.team = t) && decide (b.slot = j) && decide (b.group = g)) ∨
        stintOnGroup s t j g = true ∨ blockReady s t j = false then none
    else
      let rows := (mine.filter (fun x => decide (x.team = t) && decide (x.slot = j) && x.left.contains g)).take 64
      match rows with
      | [] => none
      | r :: _ => some ⟨f, t, j, g, rows.map (fun x => x.frame), r.tick, false, 0, 0⟩)

/-- Bands in the order a pass takes them: PRIORITY teams first, then the oldest. -/
def bandOrder (s : State) (bs : List Band) : List Band :=
  let pri := fun (b : Band) => if (team s b.team).priority = 1 then 0 else 1
  sortBy (fun a b => decide (pri a < pri b) || (decide (pri a = pri b) && decide (a.tick ≤ b.tick))) bs

/-- Bands fill a pass of 64 rows in order; one that does not fit leaves its place to those after it. -/
def fillPass : Nat → List Band → List Band
  | _, [] => []
  | room, b :: rest =>
    if b.rows.length ≤ room then b :: fillPass (room - b.rows.length) rest else fillPass room rest

/-- The bands of the next pass of a facet (R372). -/
def nextBands (s : State) (f : Nat) : List Band :=
  let again := s.coll.bands.filter (fun b => decide (b.facet = f) && !b.issued)
  fillPass 64 (bandOrder s (again ++ newBands s f))

/-- A word of a yoke trace's cells fails as bands read it (R363): the trace is discarded and its child bit cleared where none
of it has been applied; otherwise its chunk is reopened (DESIGN CHOICE, log entry 111). -/
def yokeTraceBad (s : State) (x : YokeTrace) : State :=
  let whole := decide (x.left.length = groupsIn (team s x.team).fmt ((chunkSlot s x.team x.slot).blocks.getD 0))
  if whole then
    let s := modSlot s x.team x.slot (fun k => { k with bits := k.bits.filter (fun b => decide (b.2 ≠ x.entry)) })
    let s := modColl s (fun c => { c with
      yoke := c.yoke.filter (fun y => decide (y.frame ≠ x.frame)),
      bands := c.bands.map (fun b => if b.issued then b else { b with rows := b.rows.filter (fun i => decide (i ≠ x.frame)) }) })
    let s := modColl s (fun c => { c with bands := c.bands.filter (fun b => decide (b.rows ≠ [])) })
    noteIdle (dropIn s x.frame 0x60) x.team x.slot
  else loseProgress s x.team x.slot

/-- YOKE_PASS_ISSUE (R372). `badFrame` names a trace of the pass whose cells fail, 0 none; `blockBad`: a word of the slot
block of the pass's first band fails (R363). -/
def doYokePass (f badFrame : Nat) (blockBad : Bool) (s : State) : State :=
  if yokeIn s f = false then s
  else
    let s := match s.coll.yoke.find? (fun x => decide (x.frame = badFrame) &&
        (nextBands s f).any (fun b => b.rows.contains x.frame)) with
      | some x => yokeTraceBad s x
      | none => s
    let s := match blockBad, nextBands s f with
      | true, b :: _ => accEcc s f b.team b.slot
      | _, _ => s
    let take := nextBands s f
    if take = [] then s
    else
      let n := s.coll.nextPass
      modColl s (fun c => { c with
        nextPass := n + 1, openPasses := c.openPasses ++ [n],
        bands := c.bands.filter (fun b => !take.contains b) ++
          take.map (fun b => { b with issued := true, pass := n }) })

/-- The oldest band of a facet that is in flight. -/
def issuedBand (s : State) (f : Nat) : Option Band := s.coll.bands.find? (fun b => decide (b.facet = f) && b.issued)

/-- A group of a trace is no longer the yoke's to apply. -/
def dropGroup (s : State) (b : Band) : State :=
  modColl s (fun c => { c with
    yoke := c.yoke.map (fun x =>
      if b.rows.contains x.frame ∧ x.team = b.team ∧ x.slot = b.slot
      then { x with left := x.left.filter (fun g => decide (g ≠ b.group)) } else x) })

/-- Rows used and passes of the epoch, for FILL (R382). -/
def noteFill (s : State) (f rows passes : Nat) : State :=
  modColl s (fun c =>
    let m := Tab.put 0 c.fillRows (2 * f) (Tab.get 0 c.fillRows (2 * f) + rows)
    { c with fillRows := Tab.put 0 m (2 * f + 1) (Tab.get 0 c.fillRows (2 * f + 1) + passes) })

/-- YOKE_BAND_COMMIT (R375): its traces are applied to its 64 elements in admission order; a pass counts
with the first of its bands. -/
def doBandCommit (f : Nat) (s : State) : State :=
  match issuedBand s f with
  | none => s
  | some b =>
    let ten := (team s b.team).ten
    let s := b.rows.foldl (fun s id => applyTrace s b.team b.slot id (64 * b.group) (64 * b.group + 64) []) s
    let s := modColl s (fun c => { c with bands := c.bands.erase b })
    let s := dropGroup s b
    let first := s.coll.openPasses.contains b.pass
    let s := modColl s (fun c => { c with openPasses := c.openPasses.filter (fun n => decide (n ≠ b.pass)) })
    let s := if first then countIn (inc s (Reg.YOKE_PASSES f) 64) (yokeBank f) 0x5001 {} else s
    let s := countIn s (yokeBank f) 0x5002 { ten := some ten, events := b.rows.length }
    let s := noteFill s f b.rows.length (if first then 1 else 0)
    let s := b.rows.foldl (fun s id => finishTrace s b.team b.slot id) s
    maybeEncode (noteIdle s b.team b.slot) b.team b.slot

/-- Fallback stints for the traces of a chunk, on the groups a test leaves them, with the places of their admissions (R376). -/
def fallBack (s : State) (xs : List YokeTrace) (groupsOf : YokeTrace → List Nat) : State :=
  xs.foldl (fun s x =>
    let gs := groupsOf x
    if gs = [] then s
    else
      let s := modColl s (fun c => { c with
        yoke := c.yoke.map (fun y =>
          if y.frame = x.frame then { y with left := y.left.filter (fun g => !gs.contains g), fell := true } else y) })
      addStintAt s x.team x.slot 2 x.frame x.entry gs x.tick x.order) s

/-- The yoke of a facet leaves service: what no band in flight applies falls back (R376). -/
def yokeLeft (s : State) (f : Nat) : State :=
  let s := raise s Code.YOKE_FALLBACK f []
  let s := modColl s (fun c => { c with bands := c.bands.filter (fun b => !(decide (b.facet = f) && !b.issued)) })
  let mine := s.coll.yoke.filter (fun x => decide (x.facet = f))
  fallBack s mine (fun x => x.left.filter (fun g => !(s.coll.bands.any (fun b =>
    decide (b.facet = f) && b.rows.contains x.frame && decide (b.group = g)))))

/-- SUSPECT of a yoke rises; at SUSPECT_LIMIT it is quarantined (R375). -/
def suspectYoke (s : State) (f : Nat) : State :=
  let n := min 255 (rd s (Reg.YOKE_SUSPECT f) + 1)
  let s := if n = 1 then startDecay s (320 + f) else s
  let s := wr s (Reg.YOKE_SUSPECT f) n
  if rd s Reg.ARITHCFG_SUSPECT_LIMIT ≤ n ∧ rd s (Reg.YOKE_STATE f) ≠ 3 then
    let served := decide (rd s (Reg.YOKE_STATE f) = 0)
    let s := raise (wr s (Reg.YOKE_STATE f) 3) Code.ENGINE_QUARANTINED f []
    let s := vetRequest s (yokeUnit f) 1 0
    if served then yokeLeft s f else s
  else s

/-- YOKE_BAND_FAIL (R375): issued again once, then its traces fall back. `code` 0 is the row checksum, check code 11, and 1 the
column checksum, 12 (R371). -/
def doBandFail (f code : Nat) (s : State) : State :=
  match issuedBand s f with
  | none => s
  | some b =>
    let chunk := (chunkSlot s b.team b.slot).chunk
    let s := countIn (inc s (Reg.YOKE_CHECK_FAILS f) 32) (yokeBank f) 0x5003 {}
    let s := raise s Code.STINT_CHECK f [(16, 320 + f), (16, b.team), (16, chunk), (8, 11 + code), (8, b.tries + 1)]
    let s := modColl s (fun c => { c with bands := c.bands.erase b })
    let s :=
      if b.tries = 0 ∧ yokeIn s f = true then
        modColl s (fun c => { c with bands := c.bands ++ [{ b with issued := false, tries := 1 }] })
      else fallBack s (s.coll.yoke.filter (fun x => b.rows.contains x.frame)) (fun _ => [b.group])
    suspectYoke s f

/-- SUSPECT_DECAY (R370, R375): units 0 to 319 are engines, 320 to 327 yokes. SUSPECT falls by 1 every SUSPECT_DECAY s while
it is above 0. -/
def doSuspectDecay (u : Nat) (s : State) : State :=
  let a := if u < 320 then Reg.HENGINE_SUSPECT u else Reg.YOKE_SUSPECT (u - 320)
  let due := Tab.get 0 s.coll.decays u + rd s Reg.ARITHCFG_SUSPECT_DECAY * 1000000000
  if rd s a = 0 ∨ now s < due then s
  else modColl (wr s a (rd s a - 1)) (fun c => { c with decays := Tab.put 0 c.decays u due })

/-! ## Administration (R380 to R382) -/

/-- ENGINE_ADMIN_OUT (R380). -/
def doEngineOut (e : Nat) (s : State) : State :=
  let s := wr s (Reg.HENGINE_ADMIN e) 1
  if rd s (Reg.HENGINE_STATE e) = 0 then engineLeft (wr s (Reg.HENGINE_STATE e) 1) e else s

/-- ENGINE_ADMIN_RETURN (R381): out by administration or quarantined, it returns with SUSPECT 0. -/
def doEngineReturn (e : Nat) (s : State) : State :=
  let s := wr s (Reg.HENGINE_ADMIN e) 0
  let st := rd s (Reg.HENGINE_STATE e)
  if st = 1 then wr s (Reg.HENGINE_STATE e) 0
  else if st = 3 then wr (wr s (Reg.HENGINE_STATE e) 0) (Reg.HENGINE_SUSPECT e) 0
  else s

/-- YOKE_ADMIN_OUT (R376). -/
def doYokeOut (f : Nat) (s : State) : State :=
  let s := wr s (Reg.YOKE_ADMIN f) 1
  if rd s (Reg.YOKE_STATE f) = 0 then yokeLeft (wr s (Reg.YOKE_STATE f) 1) f else s

/-- The yoke returns to service (R376). -/
def yokeBack (s : State) (f : Nat) : State := raise (wr s (Reg.YOKE_STATE f) 0) Code.YOKE_RESTORED f []

/-- YOKE_ADMIN_RETURN (R376, R382). -/
def doYokeReturn (f : Nat) (s : State) : State :=
  let s := wr s (Reg.YOKE_ADMIN f) 0
  let st := rd s (Reg.YOKE_STATE f)
  if st = 1 then yokeBack s f
  else if st = 3 then yokeBack (wr s (Reg.YOKE_SUSPECT f) 0) f
  else s

/-! ## Channel groups (R231, R363) -/

/-- HBM_CG_OUT: the spill queues' part, and every slot block of the group as if in error (R363). -/
def doHbmCgOut (f cg : Nat) (s : State) : State :=
  if s.egress.hbmOut.contains (f * 2 + cg) then s
  else
    let s := modEgress s (fun e => { e with hbmOut := e.hbmOut ++ [f * 2 + cg] })
    let s := hbmQueuesOut f cg s
    let lost := (s.coll.slots.filter (fun e =>
      let t := e.1 / 1024
      let j := e.1 % 1024
      decide (homeOf s t j = f) && inHbm s t j && decide ((Config.blockGroup t j).val = cg) &&
        (decide (e.2.state ≠ 0) || decide (e.2.outState = 3)))).map (fun e => e.1)
    lost.foldl (fun s k => loseBlock s f (k / 1024) (k % 1024)) s

end Sys2Proof.Machine
end

