-- ==== Sys2Proof/Machine/Teams.lean ====
section
/-! DEFINITION. Teams: Collectives in the Network, the commands (R301 to R306), the acceptance of traces
(R307, R308, R358), the chunk state machine (R310), its timers, and what comes from the parent (R315). -/

namespace Sys2Proof.Machine

/-! ## Setting up, revising and retiring (R301 to R306) -/

/-- A context's fields from TEAM elements. -/
def ctxOf (g : Addr → Nat) (t : Nat) : TeamCtx :=
  { ten := g (Reg.TEAM_TEN t), gen := g (Reg.TEAM_GEN t), opc := g (Reg.TEAM_OPC t),
    fmt := g (Reg.TEAM_FMT t), mode := g (Reg.TEAM_MODE t), round := g (Reg.TEAM_ROUND t),
    seed := g (Reg.TEAM_SEED t), tc := g (Reg.TEAM_TC t), priority := g (Reg.TEAM_PRIORITY t),
    position := g (Reg.TEAM_POSITION t), parent := g (Reg.TEAM_PARENT t),
    chunkBlocks := g (Reg.TEAM_CHUNK_BLOCKS t), window := g (Reg.TEAM_WINDOW t),
    firstChunk := g (Reg.TEAM_FIRST_CHUNK t), teamSize := g (Reg.TEAM_TEAM_SIZE t),
    firstMember := g (Reg.TEAM_FIRST_MEMBER t), members := g (Reg.TEAM_MEMBERS t),
    children := g (Reg.TEAM_CHILDREN t), timeout := g (Reg.TEAM_TIMEOUT t),
    resultTimeout := g (Reg.TEAM_RESULT_TIMEOUT t), missTries := g (Reg.TEAM_MISS_TRIES t),
    digestEn := g (Reg.TEAM_DIGEST_EN t), rev := g (Reg.TEAM_REV t) }

/-- The staged values of a TEAM object (R301). -/
def staged (s : State) (t : Nat) : TeamCtx := ctxOf (rd s) t

/-- REUSE_GAP in ticks (R304). -/
def reuseGap (s : State) : Nat := (repinWindow s + 999) / 1000

/-- Code 2: POSITION and PARENT agree. -/
def fieldOk (x : TeamCtx) : Bool :=
  if x.position = 1 then decide (x.parent = 0xFFFFFFFF) else decide (x.parent ≠ 0xFFFFFFFF)

/-- What a REVISE may not change (R306). -/
def sameButTree (a b : TeamCtx) : Bool :=
  decide (a.ten = b.ten ∧ a.gen = b.gen ∧ a.opc = b.opc ∧ a.fmt = b.fmt ∧ a.mode = b.mode ∧ a.round = b.round) &&
    decide (a.seed = b.seed ∧ a.tc = b.tc ∧ a.priority = b.priority ∧ a.chunkBlocks = b.chunkBlocks) &&
    decide (a.window = b.window ∧ a.firstChunk = b.firstChunk ∧ a.timeout = b.timeout) &&
    decide (a.resultTimeout = b.resultTimeout ∧ a.missTries = b.missTries ∧ a.digestEn = b.digestEn)

/-- Code 7: a partial or RESULT fits a frame, and the packing is whole. -/
def chunkSizeOk (x : TeamCtx) : Bool :=
  decide (0 < x.chunkBlocks) && decide (shards x.opc * x.chunkBlocks + x.digestEn ≤ 511) &&
    !(decide (x.mode = 1) && decide (128 < x.chunkBlocks)) && packingOk x.fmt x.chunkBlocks

/-- Code 8. -/
def windowOk (w : Nat) : Bool := ((List.range 11).map (fun i => 2 ^ i)).contains w

/-- Two ranges of pool entries overlap. -/
def overlaps (a n b m : Nat) : Bool := decide (a < b + m) && decide (b < a + n)

/-- Another context, or this one's running range at a REVISE, uses entries of the range (code 9). -/
def rangeTaken (s : State) (t : Nat) (x : TeamCtx) (own : Bool) : Bool :=
  (listed s 0x0A00 2 (fun v => decide (v ≠ 0))).any (fun u =>
    (decide (u ≠ t) || own) && overlaps x.firstMember x.members (team s u).firstMember (team s u).members)

/-- Entries strictly ascend in SRC. -/
def srcRises (s : State) : List Nat → Bool
  | a :: b :: rest => decide (rd s (Reg.MEMBER_SRC a) < rd s (Reg.MEMBER_SRC b)) && srcRises s (b :: rest)
  | _ => true

/-- The entries of one child agree (R299). -/
def childOk (s : State) (x : TeamCtx) (c : Nat) : Bool :=
  let es := childEntries s x c
  let withSlot := fun n => (es.filter (fun e => decide (rd s (Reg.MEMBER_SLOT e) = n))).length
  match es with
  | [] => false
  | e :: _ =>
    let part := rd s (Reg.MEMBER_PART e)
    let n := rd s (Reg.MEMBER_NCONTRIB e)
    decide (withSlot 0 = 1) && decide (withSlot 1 ≤ 1 ∧ withSlot 2 ≤ 1 ∧ withSlot 3 ≤ 1) &&
      es.all (fun y => decide (rd s (Reg.MEMBER_PART y) = part) && decide (rd s (Reg.MEMBER_NCONTRIB y) = n)) &&
      (if part = 0 then decide (n = 1) else decide (es.length = 1) && decide (1 ≤ n))

/-- Code 9: R299 holds, and the range is free. -/
def membersOk (s : State) (t : Nat) (x : TeamCtx) (own : Bool) : Bool :=
  decide (1 ≤ x.members ∧ x.firstMember + x.members ≤ 2097152) && !rangeTaken s t x own &&
    srcRises s (entriesOf x) && decide (1 ≤ x.children) &&
    (entriesOf x).all (fun e => decide (rd s (Reg.MEMBER_CHILD e) < x.children)) &&
    (List.range x.children).all (childOk s x)

/-- Code 10 (R300). -/
def sizeOk (s : State) (x : TeamCtx) : Bool :=
  let e := expectOf s (entriesOf x)
  decide (1 ≤ x.teamSize) && decide (x.teamSize ≤ if x.opc = Opc.GFCOMB then 30 else 1048575) &&
    (if x.position = 1 then decide (e = x.teamSize) else decide (e ≤ x.teamSize))

/-- Code 11. -/
def treeOk (s : State) (x : TeamCtx) : Bool :=
  decide (x.position = 1) ||
    (decide (rd s (Reg.DEST_ACTION (x.parent % 2 ^ 20)) = 1) && decide (x.parent % 2 ^ 20 ≠ ownEid s))

/-- Code 12 (R320). -/
def priorityOk (s : State) (x : TeamCtx) : Bool :=
  decide (x.priority = 1) || (decide (rd s (Reg.SCHEDCLASS_PRIV (4 * 8 + x.tc)) ≠ 1) &&
    decide (rd s (Reg.SCHEDCLASS_PRIV (5 * 8 + x.tc)) ≠ 1))

/-- STATE and TEN of the twin peer's contexts, as mirrored (R417). -/
def peerTeam (s : State) (a : Addr) : Nat := if rd s Reg.TWIN_STATE = 2 then Regs.get s.twin.mirror a else 0

/-- ACTIVE contexts of a tenant, the twin peer's included (R436). -/
def tenantTeams (s : State) (ten : Nat) : Nat :=
  ((teamsIn s TeamState.ACTIVE).filter (fun t => decide ((team s t).ten = ten))).length +
    (if rd s Reg.TWIN_STATE = 2 then
      (s.twin.mirror.filter (fun e => decide (e.1.obj = 0x0A00 ∧ e.1.el = 2 ∧ e.2 = 1) &&
        decide (Regs.get s.twin.mirror (Reg.TEAM_TEN e.1.inst) = ten))).length
    else 0)

/-- The ERROR of a SETUP: the first check that fails (R302). -/
def setupError (s : State) (t : Nat) (x : TeamCtx) : Nat :=
  let st := teamState s t
  let last := rd s (Reg.TEAM_LAST_GEN t)
  let peer := peerTeam s (Reg.TEAM_STATE t)
  if ¬(st = TeamState.FREE ∨ st = TeamState.RETIRED) ∨ ¬(peer = 0 ∨ peer = 2) then 1
  else if fieldOk x = false then 2
  else if (match (team s t).deadAt with
      | some d => decide (now s - d < reuseGap s)
      | none => false) = true then 3
  else if last ≠ 0xFFFF ∧ x.gen ≠ (last + 1) % 1024 then 4
  else if x.rev ≠ 0 then 5
  else if opAdmits x.opc x.mode x.fmt x.round = false then 6
  else if chunkSizeOk x = false then 7
  else if windowOk x.window = false then 8
  else if membersOk s t x false = false then 9
  else if sizeOk s x = false then 10
  else if treeOk s x = false then 11
  else if priorityOk s x = false then 12
  else if rd s (Reg.TENANT_TEAM_QUOTA x.ten) ≤ tenantTeams s x.ten then 13
  else if (reserve s t x (homeFacets s)).isNone then 14
  else 0

/-- A command is refused: ERROR, and TEAM_REFUSED (R301, R302). -/
def refuseTeam (s : State) (t cmd err : Nat) : State :=
  raise (wr (wr s (Reg.TEAM_ERROR t) err) (Reg.TEAM_COMMAND t) 0) Code.TEAM_REFUSED 0xFF [(16, t), (8, cmd), (8, err)]

/-- A command is carried out. -/
def teamOk (s : State) (t : Nat) : State := wr (wr s (Reg.TEAM_ERROR t) 0) (Reg.TEAM_COMMAND t) 0

/-- The counts that a SETUP starts again (R323, R352). -/
def clearTeamCounts (s : State) (t : Nat) : State :=
  [Reg.TEAM_CHUNKS_DONE t, Reg.TEAM_COLLECTIVES t, Reg.TEAM_LATE t, Reg.TEAM_NOTIFIES t, Reg.TEAM_REOPENS t,
    Reg.TEAMARITH_NAN_OUT t, Reg.TEAMARITH_INF_OUT t, Reg.TEAMARITH_SAT_OUT t, Reg.TEAMARITH_OVF_OUT t,
    Reg.TEAMARITH_LAST_DIGEST t, Reg.TEAMARITH_LAST_DIGEST_CHUNK t].foldl (fun s a => wr s a 0) s

/-- CONFIG_DIGEST of a context (R351). -/
def showDigest (s : State) (t : Nat) : State :=
  let x := team s t
  wr s (Reg.TEAM_CONFIG_DIGEST t) (configDigest t x (if 0 < x.rev then 1 else 0))

/-- SETUP (R301 to R304, R356, R361). -/
def doSetup (t : Nat) (s : State) : State :=
  let x := staged s t
  let err := setupError s t x
  if err ≠ 0 then refuseTeam s t 1 err
  else
    let fs := homeFacets s
    let r := (reserve s t x fs).getD (0, 0)
    let x := { x with
      expect := expectOf s (entriesOf x), homes := slotMap t x.window fs, resv := r.1, facets := fs, place := r.2 }
    let s := modTeam s t (fun _ => x)
    let s := clearTeamCounts s t
    let s := wr (wr (wr s (Reg.TEAM_STATE t) TeamState.ACTIVE) (Reg.TEAM_LAST_GEN t) x.gen) (Reg.TEAM_BASE t) x.firstChunk
    let s := showDigest (wr s (Reg.TEAM_EXPECT t) x.expect) t
    let s := wr (wr s (Reg.TWINTEAM_OWNER t) (rd s Reg.TWIN_POSITION)) (Reg.TWINTEAM_ADOPTED t) 0
    raise (teamOk s t) Code.TEAM_SETUP 0xFF [(16, t), (16, x.gen), (16, x.ten)]

/-- RETIRE (R305). -/
def doRetire (t : Nat) (s : State) : State :=
  let st := teamState s t
  if st = TeamState.ACTIVE then
    teamOk (raise (killTeam s t TeamState.RETIRED) Code.TEAM_RETIRED 0xFF []) t
  else if st = TeamState.ORPHANED ∨ st = TeamState.FAILED then
    teamOk (raise (wr s (Reg.TEAM_STATE t) TeamState.RETIRED) Code.TEAM_RETIRED 0xFF []) t
  else refuseTeam s t 2 1

/-- The ERROR of a REVISE (R302). -/
def reviseError (s : State) (t : Nat) (x : TeamCtx) : Nat :=
  let cur := team s t
  if teamState s t ≠ TeamState.ACTIVE then 1
  else if fieldOk x = false ∨ sameButTree x cur = false then 2
  else if x.rev ≠ cur.rev + 1 then 5
  else if membersOk s t x true = false then 9
  else if sizeOk s x = false then 10
  else if treeOk s x = false then 11
  else 0

/-- REVISE (R306). -/
def doRevise (t : Nat) (s : State) : State :=
  let x := staged s t
  let err := reviseError s t x
  if err ≠ 0 then refuseTeam s t 3 err
  else
    let s := modTeam s t (fun c => { c with
      position := x.position, parent := x.parent, firstMember := x.firstMember, members := x.members,
      children := x.children, teamSize := x.teamSize, rev := x.rev, expect := expectOf s (entriesOf x) })
    let s := showDigest (wr s (Reg.TEAM_EXPECT t) (team s t).expect) t
    let js := (s.coll.slots.filter (fun e => decide (e.1 / 1024 = t) && decide (e.2.state ≠ 0))).map (fun e => e.1 % 1024)
    let s := js.foldl (fun s j => reopenChunk s t j) s
    flushAllNotices (teamOk (recordReopened s t js.length) t)

/-- FREE (R301). -/
def doFree (t : Nat) (s : State) : State :=
  if teamState s t = TeamState.RETIRED then
    teamOk (wr (wr (wr s (Reg.TEAM_STATE t) TeamState.FREE) (Reg.TWINTEAM_OWNER t) 0xFF) (Reg.TWINTEAM_ADOPTED t) 0) t
  else refuseTeam s t 4 1

/-! ## Accepting traces (R307, R358) -/

/-- A TEAM_RETIRED notice answers a frame of a dead generation (R307 step 3). -/
def answerStale (s : State) (t src gen chunk : Nat) : State :=
  match entryOf s (team s t) src with
  | some e => flushAllNotices (pendNotice s ⟨t, e, Cause.TEAM_RETIRED, gen, chunk, 0xFF⟩)
  | none => s

/-- Checks 1 to 3 of R307: the discard code of the first that fails. -/
def liveCheck (s : State) (f : Frame) : Option Nat :=
  let ext := f.blocks.getD 0 0
  let t := extTeam ext
  let x := team s t
  let d := (extGen ext + 1024 - x.gen) % 1024
  if 16384 ≤ t ∨ teamState s t = TeamState.FREE then some 0x50
  else if hdrTen f.hdr ≠ x.ten then some 0x51
  else if 1 ≤ d ∧ d ≤ 511 then some 0x53
  else if teamState s t ≠ TeamState.ACTIVE ∨ 512 ≤ d then some 0x52
  else none

/-- WEIGHT is what the operation allows (R307 step 6, R339, R340). -/
def weightOk (x : TeamCtx) (ext : Block) : Bool :=
  let w := extWeight ext
  if isYoke x.opc = false then decide (w = 0)
  else if extPart ext = 0 then true
  else if x.opc = Opc.WSUM then decide (w = 0x3F80) else decide (w = 0x0101)

/-- b of a trace (R307 step 7). -/
def traceBlocks (x : TeamCtx) (f : Frame) : Nat :=
  let ext := f.blocks.getD 0 0
  (hdrLen f.hdr - 1 - extDgv ext) / (if extPart ext = 1 then shards x.opc else 1)

/-- The data blocks fit the team (R307 step 7, R331). -/
def shapeOk (x : TeamCtx) (f : Frame) : Bool :=
  let ext := f.blocks.getD 0 0
  let n := hdrLen f.hdr - 1 - extDgv ext
  let b := traceBlocks x f
  decide (1 ≤ b ∧ b ≤ x.chunkBlocks) && packingOk x.fmt b &&
    (if extPart ext = 0 then decide (extDgv ext = 0)
    else decide (extDgv ext = x.digestEn) && decide (n = shards x.opc * b))

/-- Checks 4 to 7 of R307. -/
def memberCheck (s : State) (f : Frame) : Option Nat :=
  let ext := f.blocks.getD 0 0
  let x := team s (extTeam ext)
  match entryOf s x (hdrSrc f.hdr) with
  | none => some 0x54
  | some e =>
    if extPart ext = 0 ∧ rd s (Reg.MEMBER_SLOT e) ≠ extSlot ext then some 0x54
    else if extPart ext ≠ rd s (Reg.MEMBER_PART e) ∨ extNcontrib ext ≠ rd s (Reg.MEMBER_NCONTRIB e) then some 0x55
    else if extOpc ext ≠ x.opc ∨ extFmt ext ≠ x.fmt ∨ extMode ext ≠ x.mode ∨ hdrTc f.hdr ≠ x.tc ∨
        weightOk x ext = false then some 0x56
    else if shapeOk x f = false then some 0x57
    else none

/-- A trace is discarded; a stale one is answered (R307). -/
def refuseTrace (s : State) (id why : Nat) : State :=
  match findFrame s id with
  | none => s
  | some f =>
    let ext := f.blocks.getD 0 0
    let s := dropIn s id why
    if why = 0x52 then answerStale s (extTeam ext) (hdrSrc f.hdr) (extGen ext) (extChunk ext) else s

/-- A TRACE delivered under LOCAL: checks 1 to 7 in the ingress facet, then its home facet (R358). -/
def routeTrace (s : State) (id : Nat) : State :=
  match findFrame s id with
  | none => s
  | some f =>
    let ext := f.blocks.getD 0 0
    match (liveCheck s f).or (memberCheck s f) with
    | some why => refuseTrace s id why
    | none =>
      let t := extTeam ext
      let x := team s t
      putFrame s id { f with
        place := .poolWait, team := t, home := homeOf s t (extChunk ext % x.window), waitSince := now s,
        priority := decide (x.priority = 1) }

/-- Every TRACE newly delivered. -/
def routeTraces (s : State) : State :=
  (framesWhere s (fun f => decide (f.place = .localTo) && decide (hdrKind f.hdr = KindCode.TRACE) &&
    decide (f.blocks ≠ []))).foldl routeTrace s

/-! ## The trace pool (R358, R359) -/

/-- Pool cells charged in a facet. -/
def poolUsed (s : State) (g : Nat) : Nat :=
  sumFrames s (fun f => decide (f.home = g) && (match f.place with
    | .granted => true
    | .lattice => true
    | .pool => true
    | _ => false)) (fun f => hdrCells f.hdr)

/-- The trace needs a place in the stint queues (R358). -/
def needsPlace (s : State) (f : Frame) : Bool := !isYoke (team s f.team).opc || !yokeIn s f.home

/-- Stints of a facet in its queues, and places reserved by granted traces that have no stint yet (R358). -/
def placesTaken (s : State) (g : Nat) : Nat :=
  let queued := s.coll.stints.filter (fun x => decide (x.facet = g) && decide (x.claimed = none))
  let formed := s.coll.stints.map (fun x => x.frame) ++ s.coll.yoke.map (fun x => x.frame)
  queued.length + (s.frames.filter (fun e => decide (e.2.home = g) && needsPlace s e.2 && !formed.contains e.1 &&
    (match e.2.place with
      | .granted => true
      | .lattice => true
      | .pool => true
      | _ => false))).length

/-- TRACE_POOL_GRANT (R358): the first waiting trace of a home facet, where its cells and place are free; one past the
residence limit is never granted (R233). -/
def doPoolGrant (g : Nat) (s : State) : State :=
  match (poolQueue s g).filter (fun e => !expired s e.2) with
  | [] => s
  | (id, f) :: _ =>
    if pairIsDown s f.facet g ∧ f.facet ≠ g then loseTransfer s id
    else if rd s Reg.ARITHCFG_TRACE_POOL * 4096 < poolUsed s g + hdrCells f.hdr ∨
        (needsPlace s f = true ∧ 10240 ≤ placesTaken s g) then s
    else
      let s := countFrameIn s (facetBank g) 0x8112 f.hdr
      if f.facet = g then settle (putFrame s id { f with place := .pool }) id
      else putFrame s id { f with place := .granted }

/-! ## The chunk state machine (R308, R310) -/

/-- A trace that a finished or set child makes late (R323 LATE). -/
def lateTrace (s : State) (id t why : Nat) : State := inc (dropIn s id why) (Reg.TEAM_LATE t) 64

/-- A trace is applied: its child bit is set and its work is formed (R310, R364, R372, R376). -/
def admitTrace (s : State) (id t j entry : Nat) (f : Frame) : State :=
  let x := team s t
  let ext := f.blocks.getD 0 0
  let child := rd s (Reg.MEMBER_CHILD entry)
  let s := modSlot s t j (fun k => { k with
    state := 1, chunk := extChunk ext, blocks := some (traceBlocks x f), last := extLast ext,
    bits := k.bits ++ [(child, entry)],
    since := if k.state = 0 then now s else k.since, entered := if k.state = 0 then now s else k.entered,
    revised := k.revised || (decide (extPart ext = 1) && decide (extSlot ext = 1)),
    missing := k.missing.filter (fun e => decide (rd s (Reg.MEMBER_CHILD e) ≠ child)) })
  if isYoke x.opc = false then addStint s t j 0 id entry []
  else if yokeIn s (homeOf s t j) then addYoke s t j id entry
  else addStint s t j 2 id entry []

/-- Check 9 (R310) for a trace of the chunk in progress. -/
def chunkTrace (s : State) (id t j entry : Nat) (f : Frame) : State :=
  let x := team s t
  let ext := f.blocks.getD 0 0
  let k := chunkSlot s t j
  let child := rd s (Reg.MEMBER_CHILD entry)
  if k.state = 0 then admitTrace s id t j entry f
  else if (match k.blocks with
      | some b => decide (traceBlocks x f ≠ b ∨ extLast ext ≠ k.last)
      | none => false) = true then dropIn s id 0x57
  else match k.bits.find? (fun b => decide (b.1 = child)) with
  | some b => lateTrace s id t (if b.2 = entry then 0x5A else 0x5B)
  | none => admitTrace s id t j entry f

/-- Checks 8 and 9 (R308, R310). -/
def windowTrace (s : State) (id t entry : Nat) (f : Frame) : State :=
  let x := team s t
  let ext := f.blocks.getD 0 0
  let c := extChunk ext
  let j := c % x.window
  let d := (c + 65536 - rd s (Reg.TEAM_BASE t)) % 65536
  let k := chunkSlot s t j
  if x.window ≤ d ∧ d < 64512 then
    flushAllNotices (pendNotice (dropIn s id 0x58) ⟨t, entry, Cause.OUTSIDE_WINDOW, extGen ext, c, 0xFF⟩)
  else if retains k c then
    if k.outState = 3 then sendResult (lateTrace s id t 0x5C) t j [entry]
    else failTeam (dropIn s id 0x5D) t
  else if x.window ≤ d then dropIn s id 0x59
  else chunkTrace s id t j entry f

/-- TRACE_HOME_ARRIVAL (R358): the trace is whole in its home facet's pool. `ecc` 1: a word of its cells fails, 2: a word of the
slot block that checks 8 and 9 read (R363). -/
def doTraceHome (id ecc : Nat) (s : State) : State :=
  match findFrame s id with
  | none => s
  | some f =>
    if f.place ≠ .pool ∨ f.whole = false ∨ s.coll.stints.any (fun x => decide (x.frame = id)) = true ∨
        s.coll.yoke.any (fun x => decide (x.frame = id)) = true then s
    else if ecc = 1 then dropIn s id 0x60
    else
      let t := extTeam (f.blocks.getD 0 0)
      match liveCheck s f with
      | some why => refuseTrace s id (if why = 0x50 then 0x50 else 0x52)
      | none => match entryOf s (team s t) (hdrSrc f.hdr) with
        | some e =>
          let j := extChunk (f.blocks.getD 0 0) % (team s t).window
          windowTrace (if ecc = 2 then accEcc s (homeOf s t j) t j else s) id t e f
        | none => dropIn s id 0x54

/-! ## Timers (R310, R311) -/

/-- TRIES rises; at MISS_TRIES CHUNK_STALLED is written once for the chunk (R311). -/
def addTry (s : State) (t j : Nat) : State :=
  let k := chunkSlot s t j
  let n := k.tries + 1
  let s := modSlot s t j (fun k => { k with tries := min 255 n, since := now s })
  if (team s t).missTries ≤ n ∧ k.stalled = false then
    modSlot (raise s Code.CHUNK_STALLED 0xFF []) t j (fun k => { k with stalled := true })
  else s

/-- CHUNK_TIMER_EXPIRE (R310, R311): not before TIMEOUT has run. -/
def doChunkTimer (t j : Nat) (s : State) : State :=
  let k := chunkSlot s t j
  if k.state ≠ 1 ∨ now s - k.since < (team s t).timeout * 1000 then s
  else
    let x := team s t
    let clear := (entriesOf x).filter (fun e => !k.bits.any (fun b => decide (b.1 = rd s (Reg.MEMBER_CHILD e))))
    let s := modSlot s t j (fun k => { k with missing := (k.missing ++ clear).eraseDups })
    addTry (flushAllNotices s) t j

/-- The partial is encoded and sent again from the held accumulator, at each event that asks for it (R310, R366). -/
def resendPartial (s : State) (t j : Nat) : State :=
  addStint (modSlot s t j (fun k => { k with encoding := true })) t j 1 0 0 []

/-- RESULT_TIMER_EXPIRE (R310, R311): not before RESULT_TIMEOUT has run. -/
def doResultTimer (t j : Nat) (s : State) : State :=
  let k := chunkSlot s t j
  if k.state ≠ 2 ∨ now s - k.since < (team s t).resultTimeout * 1000 then s else addTry (resendPartial s t j) t j

/-! ## From the parent (R315) -/

/-- The conditions of R315 that a RESULT and a NOTIFY share. -/
def fromParent (s : State) (f : Frame) : Bool :=
  let ext := f.blocks.getD 0 0
  let t := extTeam ext
  let x := team s t
  decide (t < 16384) && decide (teamState s t = TeamState.ACTIVE) && decide (x.position = 0) &&
    decide (hdrSrc f.hdr = x.parent % 2 ^ 20) && decide (hdrTen f.hdr = x.ten) && decide (extGen ext = x.gen)

/-- RESULT_FROM_PARENT (R310, R315); a TEAM beyond the contexts is TEAM_UNKNOWN (R297). -/
def doResultFromParent (id : Nat) (s : State) : State :=
  match findFrame s id with
  | none => s
  | some f =>
    if f.place ≠ .localTo ∨ f.whole = false ∨ hdrKind f.hdr ≠ KindCode.RESULT then s
    else
      let ext := f.blocks.getD 0 0
      let t := extTeam ext
      let x := team s t
      let c := extChunk ext
      let j := c % x.window
      let k := chunkSlot s t j
      let sent := decide (k.state = 2) && decide (k.chunk = c)
      let done := decide (k.outState = 3) && decide (k.outChunk = c)
      let len := if sent then 1 + shards x.opc * k.blocks.getD 0 + x.digestEn else k.outBlocks.length
      if fromParent s f = false ∨ extOpc ext ≠ x.opc ∨ extFmt ext ≠ x.fmt ∨ extMode ext ≠ x.mode ∨
          (sent || done) = false ∨ hdrLen f.hdr ≠ len then dropIn s id (if 16384 ≤ t then 0x50 else 0x5E)
      else if sent then
        let s := removeFrame s id
        chunkDone (dropWork s t j) t j f.blocks
      else dropIn s id 0x5F

/-- NOTIFY_FROM_PARENT (R315). -/
def doNotifyFromParent (id : Nat) (s : State) : State :=
  match findFrame s id with
  | none => s
  | some f =>
    if f.place ≠ .localTo ∨ f.whole = false ∨ hdrKind f.hdr ≠ KindCode.NOTIFY then s
    else if hdrArith f.hdr = 1 ∧ 16384 ≤ extTeam (f.blocks.getD 0 0) then dropIn s id 0x50
    else if hdrArith f.hdr ≠ 1 ∨ fromParent s f = false then dropIn s id 0x5E
    else
      let ext := f.blocks.getD 0 0
      let t := extTeam ext
      let x := team s t
      let c := extChunk ext
      let j := c % x.window
      let k := chunkSlot s t j
      let d := (c + 65536 - rd s (Reg.TEAM_BASE t)) % 65536
      let cause := hdrChan f.hdr
      let s := removeFrame s id
      let again := fun (s : State) => modSlot (resendPartial s t j) t j (fun k => { k with since := now s })
      if cause = Cause.TEAM_RETIRED then
        killTeam (raise s Code.TEAM_ORPHANED 0xFF []) t TeamState.ORPHANED
      else if k.state = 2 ∧ k.chunk = c ∧ (cause = Cause.MISSING ∨ cause = Cause.REOPEN) then again s
      else if cause = Cause.MISSING ∧ d < x.window ∧ k.state = 0 ∧ retains k c = false then
        flushAllNotices (modSlot s t j (fun k => { k with
          state := 1, chunk := c, since := now s, entered := now s, missing := entriesOf x }))
      else s

/-! ## Facets (R38, R319) -/

/-- FACET_OUT_OF_SERVICE (R38, R319, R357). -/
def doFacetOut (g : Nat) (s : State) : State :=
  if s.lattice.outFacets.contains g then s else loseHome (facetOut g s) g

end Sys2Proof.Machine
end

