-- ==== Sys2Proof/Machine/Twin.lean ====
section
/-! DEFINITION. Twins (R415 to R420): formation, the mirroring of state to the peer, what arrives from
it, takeover and rejoin. -/

namespace Sys2Proof.Machine

abbrev TwinState.NONE : Nat := 0
abbrev TwinState.FORMING : Nat := 1
abbrev TwinState.PAIRED : Nat := 2
abbrev TwinState.ALONE : Nat := 3
abbrev TwinState.REJOINING : Nat := 4

def twinState (s : State) : Nat := rd s Reg.TWIN_STATE

/-! ## What is mirrored (R417) -/

/-- The RW elements of TEAM that are mirrored. -/
def teamFields : List Nat := [3, 4] ++ (List.range 21).map (fun i => i + 6)

/-- The elements of MEMBER that are mirrored. -/
def memberFields : List Nat := [0, 1, 2, 3, 4, 5]

/-- This member owns the context. -/
def ownsTeam (s : State) (t : Nat) : Bool :=
  decide (rd s (Reg.TEAM_STATE t) ≠ 0) && decide (rd s (Reg.TWINTEAM_OWNER t) = rd s Reg.TWIN_POSITION)

/-- Contexts this member owns, ascending. -/
def ownedTeams (s : State) : List Nat := (listed s 0x0A00 2 (fun v => decide (v ≠ 0))).filter (ownsTeam s)

def teamStateMessage (s : State) (t : Nat) : TwinMessage :=
  .teamState (Fin.ofNat 16384 t) (rd s (Reg.TEAM_STATE t)) (rd s (Reg.TEAM_LAST_GEN t))

def chunkMessage (k : Nat) (c : ChunkSlot) : TwinMessage :=
  .chunk (Fin.ofNat 16384 (k / 1024)) (Fin.ofNat 1024 (k % 1024)) c.state c.chunk c.outState c.outChunk

/-- A whole context. -/
def teamMessages (s : State) (t : Nat) : List TwinMessage :=
  teamFields.map (fun e => .teamField (Fin.ofNat 16384 t) e (rd s ⟨0x0A00, t, e⟩)) ++
    (entriesOf (team s t)).flatMap (fun m => memberFields.map (fun e => .member m e (rd s ⟨0x0A01, m, e⟩))) ++
    [teamStateMessage s t] ++
    (s.coll.slots.filter (fun e => decide (e.1 / 1024 = t))).map (fun e => chunkMessage e.1 e.2)

def epochMessage (s : State) : TwinMessage :=
  .epoch (rd s Reg.EPOCH_NUMBER) (rd s Reg.EPOCH_ROOT_SERIAL) (rd s Reg.EPOCH_ROOT_PRIO)

def swapMessage (s : State) : TwinMessage :=
  .swap (rd s Reg.CONFSET_ACTIVE_EPOCH) (rd s Reg.CONFSET_DIGEST_HI) (rd s Reg.CONFSET_DIGEST_LO)
    (rd s Reg.SWAP_STATE)

def failoverMessages (s : State) : List TwinMessage :=
  (List.finRange 64).map (fun i => .failover i (rd s (Reg.FAILOVER_STATE i.val)))

/-- Everything a member mirrors. -/
def fullState (s : State) : List TwinMessage :=
  [.hello (rd s Reg.IDENTITY_SERIAL)] ++ (ownedTeams s).flatMap (teamMessages s) ++
    [epochMessage s, swapMessage s] ++ failoverMessages s ++ [.complete]

def sendTwin (s : State) (ms : List TwinMessage) : State := ms.foldl (fun s m => emit s (.twin m)) s

/-- The changes of an owned context's registers. -/
def teamChanges (before after : State) (t : Nat) : List TwinMessage :=
  let st := rd after (Reg.TEAM_STATE t)
  if rd before (Reg.TEAM_STATE t) ≠ st ∧ st = TeamState.ACTIVE then teamMessages after t
  else
    (teamFields.filter (fun e => decide (rd before ⟨0x0A00, t, e⟩ ≠ rd after ⟨0x0A00, t, e⟩))).map
      (fun e => .teamField (Fin.ofNat 16384 t) e (rd after ⟨0x0A00, t, e⟩)) ++
    (entriesOf (team after t)).flatMap (fun m =>
      (memberFields.filter (fun e => decide (rd before ⟨0x0A01, m, e⟩ ≠ rd after ⟨0x0A01, m, e⟩))).map
        (fun e => .member m e (rd after ⟨0x0A01, m, e⟩))) ++
    (if rd before (Reg.TEAM_STATE t) ≠ st ∨ rd before (Reg.TEAM_LAST_GEN t) ≠ rd after (Reg.TEAM_LAST_GEN t) then
      [teamStateMessage after t] else [])

/-- The changes of the slots of owned contexts: chunk number and state on both sides. -/
def slotChanges (before after : State) : List TwinMessage :=
  let keys := (before.coll.slots.map (fun e => e.1) ++ after.coll.slots.map (fun e => e.1)).eraseDups
  keys.filterMap (fun k =>
    let a := Tab.get {} before.coll.slots k
    let b := Tab.get {} after.coll.slots k
    if ownsTeam after (k / 1024) ∧
        ¬ (a.state = b.state ∧ a.chunk = b.chunk ∧ a.outState = b.outState ∧ a.outChunk = b.outChunk) then
      some (chunkMessage k b)
    else none)

/-- What a change of state has to tell the peer, while PAIRED (R417). -/
def changes (before after : State) : List TwinMessage :=
  let ts := (ownedTeams after ++ ownedTeams before).eraseDups
  ts.flatMap (teamChanges before after) ++ slotChanges before after ++
    (if epochMessage before = epochMessage after then [] else [epochMessage after]) ++
    (if swapMessage before = swapMessage after then [] else [swapMessage after]) ++
    (failoverMessages after).filter (fun m => !(failoverMessages before).contains m)

/-- MIRROR_LAG takes in the delay of changes just mirrored, at most 20 µs (R417, R427). -/
def noteLag (s : State) : State :=
  wr s Reg.TWIN_MIRROR_LAG (max (rd s Reg.TWIN_MIRROR_LAG) (Config.mirrorDelay (now s) % 20001))

/-- A command's changes are mirrored to the peer. -/
def mirrorChanges (before after : State) : State :=
  if twinState after ≠ TwinState.PAIRED then after
  else
    match changes before after with
    | [] => after
    | ms => noteLag (sendTwin after ms)

/-! ## Formation (R415) -/

/-- Pair ports that are UP toward a partner that advertises CAPS pair port. -/
def liveTwinPorts (s : State) : List Nat :=
  (mapPorts (fun i => rd s (Reg.TWIN_PAIR i))).filter (fun p =>
    decide (rd s (Reg.PORT_STATE p) = 5) && (link s p).peerCaps.testBit 2)

/-- Partner SERIALs that the pair ports see. -/
def twinSerials (s : State) : List Nat := ((liveTwinPorts s).map (fun p => rd s (Reg.PORT_PEER_SERIAL p))).eraseDups

/-- The active set forms a twin: ENABLE, spine role, exactly 64 pair ports. -/
def twinWanted (s : State) : Bool :=
  decide (rd s Reg.TWIN_ENABLE = 1) && decide (rd s Reg.CONFSET_ROLE = 0) &&
    decide ((mapPorts (fun i => rd s (Reg.TWIN_PAIR i))).length = 64)

/-- A twin starts to form, or ends, with the set that a swap has made active. -/
def twinAfterSwap (s : State) : State :=
  if twinWanted s then
    if twinState s = TwinState.NONE then modTwin (wr s Reg.TWIN_STATE TwinState.FORMING) (fun _ => {}) else s
  else if twinState s = TwinState.NONE then s
  else
    let s := wr (wr (wr s Reg.TWIN_STATE TwinState.NONE) Reg.TWIN_POSITION 0xFF) Reg.TWIN_PEER_SERIAL 0
    modTwin s (fun _ => {})

/-- Both members have each other's state: PAIRED. -/
def pairIfComplete (s : State) : State :=
  if s.twin.gotAll ∧ s.twin.sentAll ∧ (twinState s = TwinState.FORMING ∨ twinState s = TwinState.REJOINING) then
    raise (wr s Reg.TWIN_STATE TwinState.PAIRED) Code.TWIN_PAIRED 0xFF []
  else s

/-- The contexts that stand here become this member's. -/
def takeOwnership (s : State) : State :=
  (listed s 0x0A00 2 (fun v => decide (v ≠ 0))).foldl (fun s t =>
    if rd s (Reg.TWINTEAM_OWNER t) = 0xFF ∨ rd s (Reg.TWINTEAM_ADOPTED t) = 1 then
      wr s (Reg.TWINTEAM_OWNER t) (rd s Reg.TWIN_POSITION)
    else s) s

/-- A partner is settled on: positions follow SERIAL, and this member's state is sent in full. -/
def meetPeer (serial : Nat) (s : State) : State :=
  let s := wr s Reg.TWIN_PEER_SERIAL serial
  let s := wr s Reg.TWIN_POSITION (if rd s Reg.IDENTITY_SERIAL < serial then 0 else 1)
  let s := takeOwnership s
  pairIfComplete (sendTwin (modTwin s (fun w => { w with sentAll := true, split := false })) (fullState s))

/-- A keepalive on a pair port (R415, R420). -/
def twinKeepalive (p : Nat) (s : State) : State :=
  if isPairPort s p = false ∨ (link s p).peerCaps.testBit 2 = false then s
  else
    let serial := rd s (Reg.PORT_PEER_SERIAL p)
    if twinState s = TwinState.FORMING then
      match twinSerials s with
      | [x] => if s.twin.sentAll then s else meetPeer x s
      | _ :: _ :: _ =>
        if s.twin.split then s
        else modTwin (raise s Code.TWIN_SPLIT 0xFF []) (fun w => { w with split := true })
      | [] => s
    else if twinState s = TwinState.ALONE ∧ serial = rd s Reg.TWIN_PEER_SERIAL then
      meetPeer serial (modTwin (wr s Reg.TWIN_STATE TwinState.REJOINING) (fun _ => {}))
    else s

/-! ## What the peer mirrors (R417, R420) -/

/-- A peer's context takes its reservation here, or gives it up. -/
def holdContext (t : Nat) (s : State) : State :=
  let g := Regs.get s.twin.mirror
  if g (Reg.TEAM_STATE t) = TeamState.ACTIVE then
    let x := ctxOf g t
    let fs := homeFacets s
    let x := match reserve s t x fs with
      | some (n, place) => { x with resv := n, facets := fs, place := place }
      | none => x
    modTwin s (fun w => { w with held := Tab.set w.held t x })
  else modTwin s (fun w => { w with held := Tab.del w.held t })

/-- An adopted copy gives way to its original owner, without notices (R420). -/
def discardCopy (t : Nat) (s : State) : State :=
  let x := team s t
  let js := (s.coll.slots.filter (fun e => decide (e.1 / 1024 = t))).map (fun e => e.1 % 1024)
  let s := js.foldl (fun s j => dropWork s t j) s
  let s := modColl s (fun c => { c with
    slots := c.slots.filter (fun e => decide (e.1 / 1024 ≠ t)),
    outgoing := c.outgoing.filter (fun o => decide (o.team ≠ t)),
    notices := c.notices.filter (fun n => decide (n.team ≠ t)),
    writeBack := c.writeBack.filter (fun y => decide (y.1 ≠ t)) })
  let s := modTeam (wr s (Reg.TEAM_STATE t) TeamState.FREE) t (fun _ => { deadAt := x.deadAt })
  let s := wr (wr s (Reg.TWINTEAM_ADOPTED t) 0) (Reg.TWINTEAM_OWNER t) (1 - rd s Reg.TWIN_POSITION)
  raise s Code.TWIN_SPLIT 0xFF []

def mirrorPut (a : Addr) (v : Nat) (s : State) : State := modTwin s (fun w => { w with mirror := w.mirror.put a v })

/-- The peer's context changed state. -/
def peerTeamState (t st last : Nat) (s : State) : State :=
  let s := mirrorPut (Reg.TEAM_STATE t) st (mirrorPut (Reg.TEAM_LAST_GEN t) last s)
  let own := decide (rd s (Reg.TEAM_STATE t) = TeamState.ACTIVE)
  if twinState s = TwinState.REJOINING ∧ own = true ∧ st = TeamState.ACTIVE then
    if rd s (Reg.TWINTEAM_ADOPTED t) = 1 then holdContext t (discardCopy t s) else s
  else if own then s
  else
    let s := if st = 0 then s else wr s (Reg.TWINTEAM_OWNER t) (1 - rd s Reg.TWIN_POSITION)
    holdContext t s

/-- TWIN_MIRROR_RECEIVED (R415, R417, R420). -/
def doTwinMirror (m : TwinMessage) (s : State) : State :=
  if ¬ (twinState s = TwinState.FORMING ∨ twinState s = TwinState.PAIRED ∨ twinState s = TwinState.REJOINING) then s
  else match m with
  | .hello _ => modTwin s (fun w => { w with gotAll := false, mirror := [], held := [] })
  | .teamField t el v => mirrorPut ⟨0x0A00, t.val, el⟩ v s
  | .teamState t st last => peerTeamState t.val st last s
  | .member e el v => mirrorPut ⟨0x0A01, e, el⟩ v s
  | .chunk t j st c ost oc =>
    let k := t.val * 1024 + j.val
    mirrorPut (Reg.CHUNK_STATE k) st (mirrorPut (Reg.CHUNK_CHUNK k) c
      (mirrorPut (Reg.CHUNK_OUT_STATE k) ost (mirrorPut (Reg.CHUNK_OUT_CHUNK k) oc s)))
  | .epoch n serial prio =>
    mirrorPut Reg.EPOCH_NUMBER n (mirrorPut Reg.EPOCH_ROOT_SERIAL serial (mirrorPut Reg.EPOCH_ROOT_PRIO prio s))
  | .swap e hi lo st =>
    mirrorPut Reg.CONFSET_ACTIVE_EPOCH e (mirrorPut Reg.CONFSET_DIGEST_HI hi
      (mirrorPut Reg.CONFSET_DIGEST_LO lo (mirrorPut Reg.SWAP_STATE st s)))
  | .failover i st => mirrorPut (Reg.FAILOVER_STATE i.val) st s
  | .complete => pairIfComplete (modTwin s (fun w => { w with gotAll := true }))

/-! ## Takeover (R418) -/

/-- A chunk of an adopted context: one that was OPEN or SENT is reopened, one that was DONE is LOST. -/
def adoptSlot (t : Nat) (s : State) (j : Nat) : State :=
  let k := t * 1024 + j
  let g := Regs.get s.twin.mirror
  let ost := g (Reg.CHUNK_OUT_STATE k)
  let s := modSlot s t j (fun c => { c with
    outState := if ost = 0 then 0 else 4, outChunk := g (Reg.CHUNK_OUT_CHUNK k) })
  if g (Reg.CHUNK_STATE k) = 0 then s
  else reopenChunk (modSlot s t j (fun c => { c with state := 1, entered := now s, chunk := g (Reg.CHUNK_CHUNK k) })) t j

/-- The next chunk a slot has not finished, as the mirror shows it. -/
def nextOfSlot (s : State) (t : Nat) (x : TeamCtx) (j : Nat) : Nat :=
  let k := t * 1024 + j
  let g := Regs.get s.twin.mirror
  if g (Reg.CHUNK_OUT_STATE k) ≠ 0 then (g (Reg.CHUNK_OUT_CHUNK k) + x.window) % 65536
  else (x.firstChunk + (j + x.window - x.firstChunk % x.window) % x.window) % 65536

/-- BASE: the least of them, in the circular order of chunk numbers (R308). -/
def adoptedBase (s : State) (t : Nat) (x : TeamCtx) : Nat :=
  (List.range x.window).foldl (fun b j =>
    let n := nextOfSlot s t x j
    if 32768 ≤ (n + 65536 - b) % 65536 then n else b) (nextOfSlot s t x 0)

/-- An ACTIVE context of the peer becomes this member's (R319, R418). -/
def adoptTeam (s : State) (t : Nat) : State :=
  let g := Regs.get s.twin.mirror
  let x := ctxOf g t
  let s := teamFields.foldl (fun s e => wr s ⟨0x0A00, t, e⟩ (g ⟨0x0A00, t, e⟩)) s
  let s := (entriesOf x).foldl (fun s m => memberFields.foldl (fun s e => wr s ⟨0x0A01, m, e⟩ (g ⟨0x0A01, m, e⟩)) s) s
  let s := wr (wr s (Reg.TEAM_LAST_GEN t) (g (Reg.TEAM_LAST_GEN t))) (Reg.TEAM_STATE t) TeamState.ACTIVE
  let s := wr (wr s (Reg.TWINTEAM_OWNER t) (rd s Reg.TWIN_POSITION)) (Reg.TWINTEAM_ADOPTED t) 1
  let s := modTwin s (fun w => { w with held := Tab.del w.held t })
  let fs := homeFacets s
  let r := reserve s t x fs
  let p := r.getD (0, 0)
  let s := modTeam s t (fun _ => { x with
    expect := expectOf s (entriesOf x), homes := slotMap t x.window fs, resv := p.1, facets := fs, place := p.2 })
  let s := showDigest (wr (wr s (Reg.TEAM_EXPECT t) (team s t).expect) (Reg.TEAM_BASE t) (adoptedBase s t x)) t
  if r.isNone then failTeam s t
  else
    let s := (List.range x.window).foldl (adoptSlot t) s
    let n := ((List.range x.window).filter (fun j => decide (g (Reg.CHUNK_STATE (t * 1024 + j)) ≠ 0))).length
    recordReopened s t n

/-- No keepalive has come on a pair port for 30 µs (R418). -/
def peerSilent (s : State) : Bool :=
  s.clock.claims.all (fun e => !isPairPort s e.1 || decide (e.2.2.2 + 30000 ≤ now s))

/-- PEER_LOSS (R418): ALONE, the peer's ACTIVE contexts are adopted and their notices go out; the pair
ports no longer time the epoch. -/
def doPeerLoss (s : State) : State :=
  if ¬ (twinState s = TwinState.PAIRED ∨ twinState s = TwinState.REJOINING) ∨ peerSilent s = false then s
  else
    let s := raise (wr s Reg.TWIN_STATE TwinState.ALONE) Code.TWIN_PEER_LOST 0xFF []
    let s := inc s Reg.TWIN_TAKEOVERS 32
    let s := modClock s (fun c => { c with candidates := c.candidates.filter (fun e => !isPairPort s e.1) })
    let ts := s.twin.held.map (fun e => e.1)
    let s := ts.foldl adoptTeam s
    flushAllNotices (modTwin s (fun _ => {}))

end Sys2Proof.Machine
end

