-- ==== Sys2Proof/Machine/Swap.lean ====
section
/-! DEFINITION. Configuration sets (R398 to R409, R414): the digest, arming, disarming, applying and
copying, and the checks that keepalives bring. -/

namespace Sys2Proof.Machine

/-! ## The digest (R407) -/

/-- An element takes part in the set: ENTRY of DEST is a view of its other elements. -/
def inDigest (a : Addr) : Bool := inSet a && !(decide (a.obj = 0x0600) && decide (a.el = 4))

/-- One record of the canonical form. -/
def canonicalRecord (e : Addr × Nat) : List Byte :=
  let n := bitsOf e.1 / 8
  bytesBE 2 e.1.obj ++ bytesBE 3 e.1.inst ++ bytesBE 1 e.1.el ++ bytesBE 1 n ++ bytesBE n e.2

/-- The canonical form of a set. -/
def canonicalForm (m : Regs) : List Byte :=
  [0x4B#8, 0x5A#8, 0x20#8, 0x48#8, 0x01#8, 0#8, 0#8, 0#8] ++
    (m.filter (fun e => inDigest e.1)).flatMap canonicalRecord

/-- The digest, 16 bytes as one number: DIGEST_HI over DIGEST_LO. -/
def setDigest (m : Regs) : Nat := natBE ((sha256 (canonicalForm m)).take 16)

/-! ## Validation of the shadow's content (R399) -/

/-- A list's first element that fails, with what it answers. -/
def firstFault {α : Type} (check : Nat → Option α) : List Nat → Option α
  | [] => none
  | x :: rest => match check x with
    | some y => some y
    | none => firstFault check rest

/-- At most two ports of a vertex are LONG (R104). -/
def longOk (s : State) : Bool :=
  (List.range 128).all (fun v =>
    decide (((List.range 16).filter (fun i => decide (shadowRd s (Reg.PORT_LONG (16 * v + i)) = 1))).length ≤ 2))

/-- Ports of the chord table of a set, per used instance. -/
def chordTable (m : Regs) : List (Nat × Nat × Nat) :=
  (List.range 512).filterMap (fun c =>
    let a := m.get (Reg.CHORD_PORT_A c)
    if a = 0xFFFF then none else some (c, a, m.get (Reg.CHORD_PORT_B c)))

/-- The sole tenant of a port in a set; none where it permits more or fewer (R434). -/
def soleIn (m : Regs) (p : Nat) : Option Nat :=
  if m.get (Reg.PORTTEN_ALL p) = 1 then none
  else
    match (List.range 16).flatMap (fun k => (wordBits (m.get (Reg.PORTTEN_PERMIT p k))).map (fun b => 64 * k + b)) with
    | [t] => some t
    | _ => none

/-- The condition of R127 that a chord breaks, by its place in the list. -/
def chordFault (m : Regs) (table : List (Nat × Nat × Nat)) (e : Nat × Nat × Nat) : Option Nat :=
  let c := e.1
  let a := e.2.1
  let b := e.2.2
  let pairPort := fun (p : Nat) => (m.get (Reg.TWIN_PAIR (p / 64))).testBit (p % 64)
  let elsewhere := fun (p : Nat) => table.any (fun x => decide (x.1 ≠ c) && (decide (x.2.1 = p) || decide (x.2.2 = p)))
  if a = b ∨ 2048 ≤ a ∨ 2048 ≤ b then some 1
  else if a % 8 ≠ b % 8 then some 2
  else if (pairPort a || pairPort b || elsewhere a || elsewhere b) = true then some 3
  else if (soleIn m a).isNone ∨ soleIn m a ≠ soleIn m b then some 4
  else none

/-- The first offending chord instance and its condition (R128). -/
def firstChordFault (m : Regs) : Option (Nat × Nat) :=
  let table := chordTable m
  (table.findSome? (fun e => (chordFault m table e).map (fun k => (e.1, k))))

/-- The first route group whose map names a pair port or a port that a chord holds or will hold (R186). -/
def firstGroupFault (s : State) : Option (Nat × Nat) :=
  let m := s.shadow
  let table := chordTable m
  let bad := fun (p : Nat) => (m.get (Reg.TWIN_PAIR (p / 64))).testBit (p % 64) || chordHeld s p ||
    table.any (fun x => decide (x.2.1 = p) || decide (x.2.2 = p))
  let words := m.filter (fun e => decide (e.1.obj = 0x0601) && decide (32 ≤ e.1.el) && decide (e.1.el < 64))
  words.findSome? (fun e =>
    ((wordBits e.2).find? (fun b => bad (64 * (e.1.el - 32) + b))).map (fun b => (e.1.inst, 64 * (e.1.el - 32) + b)))

/-- The regions fit and HEADROOM is at least 33 (R219). -/
def regionsOk (s : State) : Bool :=
  let minimum := 256 * (List.range 72).foldl (fun n c => n + shadowRd s (Reg.QCLASS_MIN_CELLS c)) 0
  decide (minimum + shadowRd s Reg.BUFCFG_HEADROOM * 2048 + shadowRd s Reg.BUFCFG_PF_POOL ≤ 327680) &&
    decide (33 ≤ shadowRd s Reg.BUFCFG_HEADROOM)

/-- A twin's destination entries of both identifiers are LOCAL (R416). -/
def twinDestsOk (s : State) : Bool :=
  decide (shadowRd s Reg.TWIN_ENABLE ≠ 1) ||
    (decide (shadowRd s (Reg.DEST_ACTION (shadowRd s Reg.SOLID_OWN_EID)) = 2) &&
      decide (shadowRd s (Reg.DEST_ACTION (shadowRd s Reg.TWIN_PEER_EID % 2 ^ 20)) = 2))

/-- The outcome of the validation: DETAIL of the check that fails, and the record its chapter writes. -/
def validate (s : State) : Option (Nat × State) :=
  if longOk s = false then some (0, s)
  else match firstChordFault s.shadow with
  | some (c, k) => some (Code.CHORD_INVALID, raise s Code.CHORD_INVALID 9 [(24, c), (8, k)])
  | none => match firstGroupFault s with
    | some (g, p) => some (Code.RG_INVALID, raise s Code.RG_INVALID 0xFF [(24, g), (16, twinPort s p)])
    | none =>
      if regionsOk s = false then some (Code.BUF_INVALID, raise s Code.BUF_INVALID 0xFF [])
      else if 24 < shadowRd s Reg.BUFCFG_SPILL_GIB + shadowRd s Reg.ARITHCFG_ACC_GIB then
        some (Code.ARITH_INVALID, raise s Code.ARITH_INVALID 0xFF [])
      else if twinDestsOk s = false then some (0, s)
      else none

/-! ## Refusals (R400) -/

/-- ERROR and DETAIL, and SWAP_REFUSED. -/
def noteRefusal (err detail : Nat) (s : State) : State :=
  raise (wr (wr s Reg.SWAP_ERROR err) Reg.SWAP_DETAIL detail) Code.SWAP_REFUSED 0xFF [(8, err), (16, detail)]

/-- A refusal unlocks the shadow. -/
def refuseSwap (err detail : Nat) (s : State) : State :=
  noteRefusal err detail (modSets (wr s Reg.SWAP_STATE 0) (fun x => { x with locked := false }))

/-! ## Applying (R402, R194, R414) -/

/-- The conditions that depend on running state: DETAIL of the one that fails (R402). -/
def runningFault (s : State) : Option Nat :=
  let changed := fun (a : Addr) => decide (shadowRd s a ≠ rd s a)
  if changed Reg.CONFSET_ROLE ∧ listed s 0x0A00 2 (fun v => decide (v ≠ 0)) ≠ [] then some 0
  else if (changed Reg.ARITHCFG_TRACE_POOL || changed Reg.ARITHCFG_STAGE_AREA || changed Reg.ARITHCFG_ACC_GIB) = true ∧
      teamsIn s TeamState.ACTIVE ≠ [] then some Code.ARITH_INVALID
  else if shadowRd s Reg.TWIN_ENABLE = 1 ∧ shadowRd s Reg.CONFSET_ROLE = 1 then some 0
  else none

/-- Entries of an object's element that differ between two sets, by instance. -/
def changedIn (a b : Regs) (obj el : Nat) : List Nat :=
  let pick := fun (m : Regs) => (m.filter (fun e => decide (e.1.obj = obj ∧ e.1.el = el))).map (fun e => e.1.inst)
  ((pick a ++ pick b).eraseDups).filter (fun i => decide (a.get ⟨obj, i, el⟩ ≠ b.get ⟨obj, i, el⟩))

/-- Route groups whose member map differs between two sets, ascending. -/
def changedGroups (a b : Regs) : List Nat :=
  sortBy (fun x y => decide (x ≤ y))
    (((List.range 32).flatMap (fun k => changedIn a b 0x0601 (32 + k))).eraseDups)

/-- The registers with the set's elements replaced by another set's. -/
def withSet (regs set : Regs) : Regs :=
  (set.filter (fun e => inSet e.1)).foldr (fun e m => m.put e.1 e.2) (regs.filter (fun e => !inSet e.1))

/-- Shapers whose values a swap changes are marked for their refill (R258). -/
def markShapers (old : Regs) (s : State) : State :=
  let ks := (changedIn old s.regs 0x0802 0 ++ changedIn old s.regs 0x0802 1).eraseDups
  let ps := (changedIn old s.regs 0x0800 1 ++ changedIn old s.regs 0x0800 2).eraseDups
  let s := ks.foldl (fun s k => setShaper s k { shaper s k with
    swapOld := some (old.get (Reg.SHAPER_RATE k), old.get (Reg.SHAPER_BURST k)), swapAt := now s }) s
  ps.foldl (fun s p => setShaper s (ctrlKey p) { shaper s (ctrlKey p) with
    swapOld := some (old.get (Reg.PORTSCHED_CTRL_RATE p), old.get (Reg.PORTSCHED_CTRL_BURST p)), swapAt := now s }) s

/-- Policers whose RATE leaves 0 are full; one not used yet holds the old cap as a changed BURST comes into force (R262). -/
def fillPolicers (old : Regs) (s : State) : State :=
  let s := (changedIn old s.regs 0x0803 1).foldl (fun s t => (List.range 8).foldl (fun s g =>
    match Tab.find s.egress.policers (t * 8 + g) with
    | some _ => s
    | none => setPolicer s t g
        { tokens := min (8000 * (old.get (Reg.POLICER_BURST t) : Int)) (policerCap s t), last := now s }) s) s
  (changedIn old s.regs 0x0803 0).foldl (fun s t =>
    if old.get (Reg.POLICER_RATE t) = 0 then
      (List.range 8).foldl (fun s g => modEgress s (fun e => { e with policers := Tab.del e.policers (t * 8 + g) })) s
    else s) s

/-- HOME of slot `i` of a group (R194). -/
def homeSlot (ms : List Nat) (i : Nat) : Nat := if ms = [] then 0xFFFF else ms.getD (i % ms.length) 0xFFFF

/-- Slots without a live HOME go to the members that hold fewest, in slot order (R194, R195). -/
def fillSlots (ps : List Nat) : List Nat → List Nat → List Nat
  | done, [] => done
  | done, c :: rest =>
    fillSlots ps (done ++ [if 2048 ≤ c then fewest (done ++ c :: rest) ps else c]) rest

/-- HOME and CURRENT of every slot of a group under its new map (R194). -/
def placeSlots (s : State) (g : Nat) (ms : List Nat) : State :=
  let ps := ms.filter (live s)
  let homes := (List.range 256).map (homeSlot ms)
  let first := homes.map (fun h => if ps.contains h then h else 0xFFFF)
  let cur := if ps = [] then first else fillSlots ps [] first
  let s := homes.foldl (fun (r : State × Nat) h => (wr r.1 (Reg.PINSLOT_HOME (g * 256 + r.2)) h, r.2 + 1)) (s, 0) |>.1
  cur.foldl (fun (r : State × Nat) c => (wr r.1 (Reg.PINSLOT_CURRENT (g * 256 + r.2)) c, r.2 + 1)) (s, 0) |>.1

/-- A slot enters its repin window as of the swap, and frames held on it will carry REPIN (R196). -/
def openWindow (s : State) (g slot : Nat) : State := moveSlot s g slot (rd s (Reg.PINSLOT_CURRENT (g * 256 + slot))) true

/-- The group had members in the old set (R194). -/
def hadMembers (old : Regs) (g : Nat) : Bool :=
  (List.range 32).any (fun k => decide (old.get (Reg.RGROUP_MEMBERS g k) ≠ 0))

/-- The pin slots of a group whose member map a swap changes (R194). -/
def repinGroup (old : Regs) (s : State) (g : Nat) : State :=
  let before := (List.range 256).map (fun i => rd s (Reg.PINSLOT_CURRENT (g * 256 + i)))
  let s := placeSlots s g (members s s.sets.stamp g)
  if rd s (Reg.RGROUP_HOLD g) = 1 ∨ hadMembers old g = false then s
  else (List.range 256).foldl (fun s i =>
    if rd s (Reg.PINSLOT_CURRENT (g * 256 + i)) ≠ before.getD i 0xFFFF then openWindow s g i else s) s

/-- Route groups with members in the active set. -/
def groupsInUse (s : State) : List Nat :=
  ((s.regs.filter (fun e => decide (e.1.obj = 0x0601) && decide (32 ≤ e.1.el))).map (fun e => e.1.inst)).eraseDups

/-- A change of the effective hash seed: every slot of every group not on hold that had members (R194). -/
def reseed (old : Regs) (s : State) : State :=
  (groupsInUse s).foldl (fun s g =>
    if rd s (Reg.RGROUP_HOLD g) = 1 ∨ hadMembers old g = false then s
    else (List.range 256).foldl (fun s i => openWindow s g i) s) s

/-- Pin slots at a swap (R194). -/
def swapPins (old : Regs) (s : State) : State :=
  let seed := fun (m : Regs) => let x := m.get Reg.FORWARD_HASH_SEED; if x = 0 then rd s Reg.IDENTITY_SERIAL % 2 ^ 32 else x
  let changed := changedGroups old s.regs
  let s := changed.foldl (repinGroup old) s
  if seed old ≠ seed s.regs then reseed old s else s

/-- Chords that a swap adds, removes or moves (R132, R134, R135). -/
def swapChord (old : Regs) (s : State) (c : Nat) : State :=
  let a := rd s (Reg.CHORD_PORT_A c)
  let b := rd s (Reg.CHORD_PORT_B c)
  let same := decide (old.get (Reg.CHORD_PORT_A c) = a ∧ (a = 0xFFFF ∨ old.get (Reg.CHORD_PORT_B c) = b))
  if same then s
  else if rd s (Reg.CHORD_STATE c) = 0 then (if a = 0xFFFF then s else chordSetup c a b s)
  else if a = 0xFFFF then chordTeardown c s
  else chordMove c a b s

def swapChords (old : Regs) (s : State) : State :=
  let s := (List.range 512).foldl (swapChord old) s
  (activeChords s).foldl (fun s c => wr s (Reg.CHORD_TENANT c) (soleTenant s (chordOf s c).portA)) s

/-- FAILOVER substitutions end with a change of the instance or of DST's entry (R419). -/
def swapFailover (old : Regs) (s : State) : State :=
  let s := (List.range 64).foldl (fun s i =>
    let d := rd s (Reg.FAILOVER_DST i)
    let entry := [0, 1, 2, 3].any (fun e => decide (old.get ⟨0x0600, d, e⟩ ≠ rd s ⟨0x0600, d, e⟩))
    let moved := decide (old.get (Reg.FAILOVER_DST i) ≠ d ∨ old.get (Reg.FAILOVER_ALT_RG i) ≠ rd s (Reg.FAILOVER_ALT_RG i))
    if d = 0xFFFFFFFF then wr s (Reg.FAILOVER_STATE i) 0
    else if rd s (Reg.FAILOVER_STATE i) = 2 ∧ entry = false ∧ moved = false then s
    else wr s (Reg.FAILOVER_STATE i) 1) s
  failoverCheck s

/-- A port whose LONG changes goes down with reason CONFIG (R104). -/
def swapLong (old : Regs) (s : State) : State := portsDown s (changedIn old s.regs 0x0300 2) 14

/-- Static entries take their ways (R204). -/
def swapLearn (s : State) : State :=
  let s := modForward s (fun w => { w with
    staticHits := w.staticHits.filter (fun i => decide (rd s (Reg.LEARN_STATE i) = 2)) })
  (listed s 0x0604 0 (fun v => decide (v = 2))).foldl (fun s i =>
    modForward s (fun w => { w with learned := Tab.del w.learned i })) s

/-- Groups on hold; the V2048 clears them within 1 µs of the swap tick and releases their frames (R414 step
6, R199). -/
def groupsHeld (s : State) : List Nat := listed s 0x0601 2 (fun v => decide (v = 1))

def endHolds (gs : List Nat) (s : State) : State :=
  let s := gs.foldl (fun s g => wr s (Reg.RGROUP_HOLD g) 0) s
  releaseLists s

/-- Shapers and policers are brought up to the swap tick under the old set (R258, R262). -/
def beforeSwap (s : State) : State :=
  let s := (s.egress.shapers.filter (fun e => e.2.swapOld.isSome)).foldl (fun s e => swapRefill s e.1) s
  let s := s.egress.policers.foldl (fun s e => setPolicer s (e.1 / 8) (e.1 % 8) (policer s (e.1 / 8) (e.1 % 8))) s
  (List.range 8).foldl accrueTokens s

/-- The set's elements take their new values in every facet; the old set is kept (R402). -/
def takeSet (s : State) : State :=
  let s := { s with
    old := s.regs.filter (fun e => inSet e.1 || decide (e.1.obj = 0x0602)),
    regs := withSet s.regs s.shadow }
  modSets s (fun x => { x with stamp := x.stamp + 1 })

/-- Effects of the new set that its rules start at the swap tick. -/
def swapEffects (old : Regs) (s : State) : State :=
  let s := fillPolicers old (markShapers old s)
  let s := swapPins old s
  let s := swapLearn s
  let s := swapLong old s
  let s := swapChords old s
  twinAfterSwap (swapFailover old s)

/-- SWAP_APPLY (R402, R414). `cleared` are groups whose HOLD was cleared one tick earlier. -/
def applySwap (cleared : List Nat) (s : State) : State :=
  match runningFault s with
  | some detail =>
    let s := if detail = 0 then s else raise s detail 0xFF []
    refuseSwap 5 detail s
  | none =>
    let s := beforeSwap s
    let old := s.regs
    let held := (groupsHeld s ++ cleared).eraseDups
    let s := swapEffects old (takeSet s)
    let d := setDigest s.regs
    let s := wr (wr s Reg.CONFSET_DIGEST_HI (d / 2 ^ 64)) Reg.CONFSET_DIGEST_LO (d % 2 ^ 64)
    let s := wr (wr s Reg.SWAP_APPLIED_EPOCH (rd s Reg.EPOCH_NUMBER)) Reg.SWAP_APPLIED_TICK (now s)
    let s := inc (wr (wr s Reg.SWAP_ERROR 0) Reg.SWAP_DETAIL 0) Reg.SWAP_SWAPS 32
    endHolds held (wr s Reg.SWAP_STATE 5)

/-- A drain's result triggers the swap; after TIMED_OUT the group's HOLD is cleared first (R401, R414 step
5). -/
def triggerSwap (s : State) : State :=
  let g := s.sets.trigger
  let d := rd s (Reg.DRAIN_STATE g)
  if rd s Reg.SWAP_STATE = 2 ∧ s.sets.target = 0 ∧ g < 4096 ∧ (d = 2 ∨ d = 3) then
    if d = 3 ∧ rd s (Reg.RGROUP_HOLD g) = 1 then applySwap [g] (wr s (Reg.RGROUP_HOLD g) 0)
    else applySwap [] s
  else s

/-! ## Arming (R399 to R401) -/

/-- Frames of the old set stand before stage 3's decision (R402). -/
def oldSetHeld (s : State) : Bool :=
  s.frames.any (fun e => decide (e.2.stamp ≠ s.sets.stamp) &&
    (decide (e.2.place = .staging) || decide (e.2.place = .learning)))

/-- SWAP_ARM (R399 step 1); ARMING, APPLYING and COPYING refuse the write with BUSY. -/
def doSwapArm (s : State) : State :=
  let st := rd s Reg.SWAP_STATE
  if st = 1 ∨ st = 4 ∨ st = 5 then s
  else if st = 2 ∨ st = 3 ∨ oldSetHeld s = true then noteRefusal 1 0 s
  else
    let s := modSets s (fun x => { x with
      target := rd s Reg.SWAP_TARGET, force := rd s Reg.SWAP_FORCE, trigger := rd s Reg.SWAP_TRIGGER_GROUP,
      expectHi := rd s Reg.SWAP_EXPECT_HI, expectLo := rd s Reg.SWAP_EXPECT_LO, locked := true })
    wr s Reg.SWAP_STATE 1

/-- SWAP_ARM_COMPLETE (R399 to R401). -/
def doSwapArmed (s : State) : State :=
  if rd s Reg.SWAP_STATE ≠ 1 then s
  else
    let d := setDigest s.shadow
    let s := wr (wr s Reg.CONFSET_SHADOW_HI (d / 2 ^ 64)) Reg.CONFSET_SHADOW_LO (d % 2 ^ 64)
    let x := s.sets
    let expect := x.expectHi * 2 ^ 64 + x.expectLo
    if expect ≠ 0 ∧ expect ≠ d then refuseSwap 2 0 s
    else if x.target ≠ 0 ∧ x.target ≤ rd s Reg.EPOCH_NUMBER + 1 then refuseSwap 3 0 s
    else match validate s with
    | some (detail, s) => refuseSwap 4 detail s
    | none =>
      let s := wr (wr (wr s Reg.SWAP_ERROR 0) Reg.SWAP_DETAIL 0) Reg.SWAP_STATE 2
      if x.target ≠ 0 then s
      else if x.trigger = 0xFFFF then applySwap [] s
      else triggerSwap s

/-- SWAP_DISARM (R399). -/
def doSwapDisarm (s : State) : State :=
  if swapWaits s then modSets (wr (wr s Reg.SWAP_ERROR 6) Reg.SWAP_STATE 0) (fun x => { x with locked := false })
  else s

/-- SWAP_COPY_DONE (R403). -/
def doSwapCopied (s : State) : State :=
  if rd s Reg.SWAP_STATE ≠ 5 then s
  else
    let e := rd s Reg.SWAP_APPLIED_EPOCH
    let s := { s with shadow := s.regs.filter (fun e => inSet e.1) }
    let s := modSets (wr (wr s Reg.CONFSET_ACTIVE_EPOCH e) Reg.SWAP_STATE 0) (fun x => { x with locked := false })
    raise s Code.SWAP_APPLIED 0xFF [(48, e), (64, rd s Reg.CONFSET_DIGEST_HI)]

/-- The swap judged at a boundary (R401, R406): a named epoch that has come, or was skipped by a jump. -/
def boundarySwap (unsettled : Bool) (s : State) : State :=
  let n := rd s Reg.EPOCH_NUMBER
  if swapWaits s = false ∨ s.sets.target = 0 ∨ n < s.sets.target then s
  else if s.sets.force ≠ 1 ∧ unsettled = true then
    if rd s Reg.SWAP_STATE = 2 then raise (wr s Reg.SWAP_STATE 3) Code.SWAP_DEFERRED 0xFF [] else s
  else applySwap [] s

/-! ## What a keepalive brings (R409) -/

/-- SWAP_SKEW once for each distinct pair of values of a port. -/
def noteSkew (p a b : Nat) (s : State) : State :=
  if s.sets.skew.contains (p, a, b) then s
  else modSets (raise s Code.SWAP_SKEW 0xFF [(16, twinPort s p), (48, a), (48, b)]) (fun x => { x with skew := (p, a, b) :: x.skew })

/-- The first check of R409. -/
def checkSkew (p epoch swap : Nat) (s : State) : State :=
  let own := advertisedSwap s
  let s := if own ≠ 0 ∧ swap ≠ 0 ∧ own ≠ swap then noteSkew p own swap s else s
  let s := if own ≠ 0 ∧ own = swap ∧ Tab.get 0 s.sets.agreed p ≠ swap then
      modSets s (fun x => { x with agreed := Tab.put 0 x.agreed p swap, afterKa := Tab.put 0 x.afterKa p 0 })
    else s
  let e := Tab.get 0 s.sets.agreed p
  if e = 0 ∨ rd s Reg.EPOCH_NUMBER < e then s
  else if Tab.get 0 s.sets.afterKa p + 1 < 2 then
    modSets s (fun x => { x with afterKa := Tab.put 0 x.afterKa p 1 })
  else
    let s := modSets s (fun x => { x with agreed := Tab.put 0 x.agreed p 0, afterKa := Tab.put 0 x.afterKa p 0 })
    let mine := rd s Reg.CONFSET_ACTIVE_EPOCH
    if mine = epoch then s else noteSkew p mine epoch s

/-- The second check of R409: a new STATE of the port, which stays where no row applies. -/
def checkDigest (p epoch hi lo : Nat) (s : State) : State :=
  let want := rd s (Reg.LINKSET_EXP_EPOCH p)
  let old := rd s (Reg.LINKSET_STATE p)
  let new :=
    if want = 0 then 0
    else if epoch = want then
      (if hi = rd s (Reg.LINKSET_EXP_HI p) ∧ lo = rd s (Reg.LINKSET_EXP_LO p) then 1 else 2)
    else if want < epoch then 3
    else if want + 2 < rd s Reg.EPOCH_NUMBER then 4 else old
  let s := wr s (Reg.LINKSET_STATE p) new
  if (new = 2 ∨ new = 4) ∧ new ≠ old then raise s Code.DIGEST_MISMATCH 0xFF [(16, twinPort s p), (8, new)] else s

/-- The set fields of a keepalive (R408, R409). -/
def setKeepalive (p epoch hi lo swap : Nat) (s : State) : State :=
  let s := wr (wr s (Reg.LINKSET_PEER_EPOCH p) epoch) (Reg.LINKSET_PEER_HI p) hi
  let s := wr (wr s (Reg.LINKSET_PEER_LO p) lo) (Reg.LINKSET_PEER_SWAP p) swap
  checkDigest p epoch hi lo (checkSkew p epoch swap s)

end Sys2Proof.Machine
end

