-- ==== Sys2Proof/Machine/Telemetry.lean ====
section
/-! DEFINITION. Counter banks read, cleared, programmed and mirrored (R447 to R458), and TELEMETRY
frames (R442, R460, R461). -/

namespace Sys2Proof.Machine

/-! ## Banks -/

/-- TICK of a bank: ticks since its last clear (R448). -/
def bankTick (s : State) (bank : Nat) : Nat := now s - Tab.get 0 s.bankBase bank

/-- BANK_CLEAR (R449). -/
def doBankClear (bank : Nat) (s : State) : State :=
  let s := (List.range 8).foldl (fun s i => wr s (Reg.CBANK_VALUE bank i) 0) s
  wr { s with bankBase := Tab.put 0 s.bankBase bank (now s) } (Reg.CBANK_OVF bank) 0

/-! ## Programming a counter (R450, R451) -/

/-- What a select admits: its Units column, events or bytes, events only, ticks only, or any where it
counts nothing; and its Tenant column (R453). -/
inductive SelUnits where
  | frames | events | ticks | any
deriving DecidableEq, Repr

/-- Selects of VERTEX banks in groups that share their columns. -/
def vertexSelect (sel : Nat) : Option (SelUnits × Bool) :=
  if (0x0100 ≤ sel ∧ sel ≤ 0x010A) ∨ sel = 0x0110 ∨ (0x0120 ≤ sel ∧ sel ≤ 0x012A) ∨ sel = 0x0130 ∨
      (0x0140 ≤ sel ∧ sel ≤ 0x014A) ∨ (0x1001 ≤ sel ∧ sel ≤ 0x1090) ∨ sel = 0x1FFF ∨ sel = 0x200D ∨
      sel = 0x3001 ∨ sel = 0x3004 ∨ sel = 0x3007 ∨ sel = 0x3008 ∨ sel = 0x300A ∨ sel = 0x300B ∨
      sel = 0x300E then some (.frames, true)
  else if (0x2001 ≤ sel ∧ sel ≤ 0x200A) ∨ sel = 0x200E ∨ sel = 0x200F then some (.events, false)
  else if sel = 0x200B ∨ sel = 0x200C ∨ sel = 0x3002 ∨ sel = 0x3003 ∨ sel = 0x3005 ∨ sel = 0x3006 then
    some (.ticks, false)
  else if sel = 0x3009 then some (.ticks, true)
  else if sel = 0x300C ∨ sel = 0x300D then some (.events, true)
  else none

/-- Selects of the other banks. -/
def unitSelect (type sel : Nat) : Option (SelUnits × Bool) :=
  match type with
  | 1 =>
    if 0x4001 ≤ sel ∧ sel ≤ 0x4003 then some (.events, true)
    else if 0x4004 ≤ sel ∧ sel ≤ 0x4006 then some (.events, false)
    else if sel = 0x4007 then some (.ticks, true)
    else if sel = 0x4008 then some (.ticks, false) else none
  | 2 =>
    if sel = 0x5001 ∨ sel = 0x5003 then some (.events, false)
    else if sel = 0x5002 then some (.events, true)
    else if sel = 0x5004 then some (.ticks, false) else none
  | 3 =>
    if 0x6001 ≤ sel ∧ sel ≤ 0x6004 then some (.frames, false)
    else if sel = 0x6005 ∨ sel = 0x6006 then some (.events, false)
    else if sel = 0x6007 then some (.ticks, false) else none
  | 4 =>
    if sel = 0x7001 ∨ sel = 0x7003 then some (.frames, true)
    else if sel = 0x7002 then some (.ticks, false)
    else if sel = 0x7004 then some (.events, false) else none
  | 5 =>
    if (0x8100 ≤ sel ∧ sel ≤ 0x810A) ∨ sel = 0x8110 ∨ sel = 0x8112 ∨ sel = 0x8116 ∨
        (0x1001 ≤ sel ∧ sel ≤ 0x1090) then some (.frames, true)
    else if sel = 0x8111 ∨ sel = 0x8114 ∨ sel = 0x8115 then some (.events, true)
    else if sel = 0x8113 then some (.ticks, false)
    else if sel = 0x8117 then some (.frames, false) else none
  | _ => none

/-- The select's row of R453; select 0x0000 counts nothing in every bank. -/
def selectRow (type sel : Nat) : Option (SelUnits × Bool) :=
  if sel = 0 then some (.any, false)
  else if type = 0 then vertexSelect sel else unitSelect type sel

def unitAllowed (u : SelUnits) (unit : Nat) : Bool :=
  match u with
  | .frames => decide (unit = 0 ∨ unit = 1)
  | .events => decide (unit = 0)
  | .ticks => decide (unit = 2)
  | .any => true

/-- The values SELECT, UNIT and TENFILT that a message would leave are lawful (R451). -/
def counterLawful (type sel unit tenfilt : Nat) : Bool :=
  match selectRow type sel with
  | none => false
  | some (u, ten) => unitAllowed u unit && (ten || decide (tenfilt = 0xFFFF))

/-- Values of a counter's six elements after a message's writes, in order. -/
def counterAfter (s : State) (c : Nat) (writes : List (Nat × Nat)) (el : Nat) : Nat :=
  writes.foldl (fun v w => if w.1 = el then w.2 else v) (rd s ⟨0x0F01, c, el⟩)

/-- Every write lies in its element's range, and the values left are lawful (R451, R506). -/
def counterAccepted (s : State) (c : Nat) (writes : List (Nat × Nat)) : Bool :=
  writes.all (fun w => match rowOf ⟨0x0F01, c, w.1⟩ with
    | some r => r.inRange w.2
    | none => false) &&
  counterLawful (bankType (c / 8 % 26)) (counterAfter s c writes 0) (counterAfter s c writes 1)
    (counterAfter s c writes 5)

/-- The counter is cleared at the tick its writes take effect, and CFG_GEN rises by 1 (R451). -/
def counterReset (c : Nat) (s : State) : State :=
  let bank := c / 8
  let i := c % 8
  let ovf := rd s (Reg.CBANK_OVF bank)
  let s := wr s (Reg.CBANK_VALUE bank i) 0
  let s := wr s (Reg.CBANK_OVF bank) (if ovf.testBit i then ovf - 2 ^ i else ovf)
  inc s (Reg.CBANK_CFG_GEN bank) 32

/-- COUNTER_PROGRAM: the writes of one message to one counter (R451); refused, it changes nothing. -/
def doCounterProgram (bank i : Nat) (writes : List (Nat × Nat)) (s : State) : State :=
  let c := bank * 8 + i
  if writes = [] ∨ counterAccepted s c writes = false then s
  else counterReset c (writes.foldl (fun s w => wr s ⟨0x0F01, c, w.1⟩ w.2) s)

/-! ## Mirrors and captures (R456 to R458) -/

/-- A bank's nine values, overflow bits and generation copied to a slot. -/
def mirrorBank (epoch flags slot : Nat) (s : State) (bank : Nat) : State :=
  let m := bank * 5 + slot
  let s := wr (wr s (Reg.CMIRROR_EPOCH m) epoch) (Reg.CMIRROR_FLAGS m) flags
  let s := wr s (Reg.CMIRROR_CFG_GEN m) (rd s (Reg.CBANK_CFG_GEN bank))
  let s := wr s (Reg.CMIRROR_TICK m) (bankTick s bank)
  let s := wr s (Reg.CMIRROR_OVF m) (rd s (Reg.CBANK_OVF bank))
  (List.range 8).foldl (fun s i => wr s (Reg.CMIRROR_VALUE m i) (rd s (Reg.CBANK_VALUE bank i))) s

def mirrorAll (epoch flags slot : Nat) (s : State) : State :=
  (List.range 208).foldl (mirrorBank epoch flags slot) s

/-- The mirror of a boundary, and the capture it takes (R456, R458). -/
def takeMirrors (epoch flags : Nat) (s : State) : State :=
  let s := mirrorAll epoch flags (epoch % 4) s
  if rd s Reg.CAPTURE_STATE = 1 ∧ rd s Reg.CAPTURE_EPOCH ≤ epoch then
    let s := mirrorAll epoch flags 4 s
    let s := wr (wr s Reg.CAPTURE_STATE 2) Reg.CAPTURE_TAKEN_EPOCH epoch
    raise s Code.CAPTURE_TAKEN 0xFF [(48, epoch), (8, flags)]
  else s

/-- CAPTURE_ARM (R458): refused unless the epoch is greater than the current one. -/
def doCaptureArm (epoch : Nat) (s : State) : State :=
  if epoch ≤ rd s Reg.EPOCH_NUMBER then s
  else wr (wr s Reg.CAPTURE_EPOCH epoch) Reg.CAPTURE_STATE 1

/-! ## TELEMETRY frames (R442, R460, R461) -/

def telemResp (b : Block) : Nat := field b.toNat 127 1
def telemSource (b : Block) : Nat := field b.toNat 125 2
def telemEpoch (b : Block) : Nat := field b.toNat 77 48
def telemNref (b : Block) : Nat := field b.toNat 74 3

/-- The references of a request: bank in [11:4], counter in [3:1]. -/
def telemRefs (b : Block) : List Nat := (List.range (min (telemNref b) 4)).map (fun i => field b.toNat (62 - 12 * i) 12)

def refBank (r : Nat) : Nat := r / 16
def refCounter (r : Nat) : Nat := r / 2 % 8

/-- A tenant's request bucket, refilled now at TELEM_RATE requests per ms up to 64 (R442). -/
def telemBucket (s : State) (t : Nat) : TelemBucket :=
  let b := Tab.get {} s.telem t
  { tokens := min 64000000 (b.tokens + (now s - b.last) * rd s (Reg.TENANT_TELEM_RATE t)), last := now s }

def setTelemBucket (s : State) (t : Nat) (b : TelemBucket) : State := { s with telem := Tab.put {} s.telem t b }

/-- A request is discarded under R442. -/
def refuseTelem (s : State) (id why step : Nat) (f : Frame) : State :=
  let t := hdrTen f.hdr
  let s := inc s (Reg.TENANT_TELEM_REFUSED t) 64
  let s := if step = 0 then s
    else raise s Code.TELEM_DENIED f.facet [(16, t), (24, hdrSrc f.hdr), (8, step)]
  dropIn s id why

/-- The slot that holds the epoch a request asks for; none where it is not held (R461). -/
def heldSlot (s : State) (source epoch bank : Nat) : Option Nat :=
  (if source = 2 then [4] else [0, 1, 2, 3]).find? (fun k => decide (rd s (Reg.CMIRROR_EPOCH (bank * 5 + k)) = epoch))

/-- The block that answers one reference. -/
def answerBlock (tick value ovf ref gen : Nat) : Block :=
  BitVec.ofNat 128 (joinFields [(64, tick), (48, value), (1, ovf), (12, ref), (3, gen)])

/-- TICK, value and overflow of one reference, from the mirror or live. -/
def answerRef (s : State) (source epoch ref : Nat) : Block :=
  let b := refBank ref
  let i := refCounter ref
  match (if source = 0 then none else heldSlot s source epoch b) with
  | some k =>
    let m := b * 5 + k
    answerBlock (rd s (Reg.CMIRROR_TICK m)) (rd s (Reg.CMIRROR_VALUE m i))
      (boolBit ((rd s (Reg.CMIRROR_OVF m)).testBit i)) ref (rd s (Reg.CMIRROR_CFG_GEN m))
  | none =>
    answerBlock (bankTick s b) (rd s (Reg.CBANK_VALUE b i)) (boolBit ((rd s (Reg.CBANK_OVF b)).testBit i)) ref
      (rd s (Reg.CBANK_CFG_GEN b))

/-- The data blocks of the response to a request. -/
def answerBlocks (s : State) (b : Block) : List Block :=
  let src := telemSource b
  let e := if src = 0 then rd s Reg.EPOCH_NUMBER else telemEpoch b
  let refs := telemRefs b
  let bank := match refs with
    | r :: _ => refBank r
    | [] => 0
  let held := if src = 0 then none else heldSlot s src e bank
  let bad : Bool := decide (src ≠ 0) && held.isNone
  let flags := match held with
    | some k => rd s (Reg.CMIRROR_FLAGS (bank * 5 + k))
    | none => 0
  let first := BitVec.ofNat 128 (joinFields [(1, 1), (2, src), (48, e), (3, telemNref b), (2, boolBit bad), (8, flags),
    (64, 0)])
  if bad then [first]
  else first :: refs.map (answerRef s src e)

/-- The response waits until its facet has the output staging (R461, R272). -/
def queueAnswer (s : State) (f : Frame) (blocks : List Block) : State :=
  let h := mkHdr {
    kind := KindCode.TELEMETRY, msg := 3, tc := hdrTc f.hdr, ten := hdrTen f.hdr, dst := hdrSrc f.hdr,
    src := ownEid s, chan := hdrChan f.hdr, seq := hdrSeq f.hdr, len := blocks.length }
  modForward s (fun w => { w with telem := w.telem ++ [(f.facet, h, blocks)] })

/-- TELEMETRY_RESPONSE_EMIT (R461): the oldest waiting response of a facet that has the staging. -/
def doTelemEmit (facet : Nat) (s : State) : State :=
  match s.forward.telem.find? (fun e => decide (e.1 = facet)) with
  | none => s
  | some e =>
    if stagingRoom s facet 3 e.2.2.length = false then s
    else originate (modForward s (fun w => { w with telem := w.telem.erase e })) facet e.2.1 e.2.2

/-- The frame breaks R460. -/
def telemBad (f : Frame) (b : Block) : Bool :=
  decide (hdrLen f.hdr ≠ 1) || decide (telemResp b = 1) || decide (telemSource b = 3) ||
    decide (telemNref b = 0) || decide (4 < telemNref b) || (telemRefs b).any (fun r => decide (207 < refBank r))

/-- TELEMETRY_REQUEST (R442, R460, R461). -/
def doTelemRequest (id : Nat) (s : State) : State :=
  match findFrame s id with
  | none => s
  | some f =>
    let b := f.blocks.getD 0 0
    let t := hdrTen f.hdr
    let k := telemBucket s t
    if f.place ≠ .localTo ∨ f.whole = false ∨ hdrKind f.hdr ≠ KindCode.TELEMETRY then s
    else if rd s (Reg.TENANT_TELEM_EN t) = 0 then refuseTelem s id 0x80 1 f
    else if k.tokens < 1000000 then refuseTelem (setTelemBucket s t k) id 0x81 0 f
    else
      let s := setTelemBucket s t { k with tokens := k.tokens - 1000000 }
      if (telemRefs b).any (fun r => decide (refBank r ≤ 207) &&
          decide (rd s (Reg.CCOUNTER_TENFILT (refBank r * 8 + refCounter r)) ≠ t)) then refuseTelem s id 0x80 3 f
      else if telemBad f b then
        dropIn (raise s Code.TELEM_FORMAT f.facet [(16, twinPort s f.ingress), (24, hdrSrc f.hdr)]) id 0x90
      else
        let s := inc (removeFrame s id) (Reg.TENANT_TELEM_SERVED t) 64
        doTelemEmit f.facet (queueAnswer s f (answerBlocks s b))

end Sys2Proof.Machine
end

