-- ==== Sys2Proof/Machine/Epoch.lean ====
section
/-! DEFINITION. Epochs (R388 to R397, R406): the boundary, EPOCH frames, election, phase, holdover and the
EPOCH pins; and the epoch, set and twin parts of a keepalive (R408, R409). -/

namespace Sys2Proof.Machine

abbrev EpochState.FOLLOWER : Nat := 0
abbrev EpochState.ROOT : Nat := 1
abbrev EpochState.HOLDOVER : Nat := 2
abbrev EpochState.STARTING : Nat := 3

def epochState (s : State) : Nat := rd s Reg.EPOCH_STATE

/-- The switch is in HOLDOVER, SLEWING or STARTING (R406). -/
def unsettled (s : State) : Bool :=
  epochHoldover s || decide (rd s Reg.EPOCH_SLEWING = 1) || decide (epochState s = EpochState.STARTING)

/-- P in ticks. -/
def periodTicks (s : State) : Nat := 2 ^ s.clock.period

/-- Difference of two 48-bit epoch numbers. -/
def epochDiff (a b : Nat) : Int :=
  let d : Nat := (a + 2 ^ 48 - b % 2 ^ 48) % 2 ^ 48
  if d < 2 ^ 47 then (d : Int) else (d : Int) - 2 ^ 48

/-- `n` moved by a signed count, modulo 2^48. -/
def epochAdd (n : Nat) (k : Int) : Nat := (((n : Int) + k) % (2 ^ 48 : Int)).toNat

/-! ## Election (R391) -/

/-- One claim ranks below another: it is the better one. -/
def claimLt (a b : Nat × Nat) : Bool := decide (a.1 < b.1) || (decide (a.1 = b.1) && decide (a.2 < b.2))

/-- The switch's own claim. -/
def ownClaim (s : State) : Nat × Nat := (s.clock.prio, rd s Reg.IDENTITY_SERIAL)

/-- One candidate ranks below another. -/
def candLt (a b : Nat × Candidate) : Bool :=
  let x := a.2
  let y := b.2
  decide (x.prio < y.prio) || (decide (x.prio = y.prio) && (decide (x.serial < y.serial) ||
    (decide (x.serial = y.serial) && (decide (x.dist < y.dist) ||
      (decide (x.dist = y.dist) && (decide (x.partner < y.partner) ||
        (decide (x.partner = y.partner) && decide (a.1 < b.1))))))))

/-- The candidates whose last frame is at most 3P old. -/
def freshCandidates (s : State) : Tab Candidate :=
  s.clock.candidates.filter (fun e => decide (now s - e.2.at_ ≤ 3 * periodTicks s))

/-- Those that do not carry the switch's own claim back to it. -/
def sources (s : State) : Tab Candidate :=
  (freshCandidates s).filter (fun e => decide (e.2.serial ≠ rd s Reg.IDENTITY_SERIAL))

/-- The best candidate. -/
def bestSource (s : State) : Option (Nat × Candidate) :=
  match sources s with
  | [] => none
  | c :: rest => some (rest.foldl (fun b x => if candLt x b then x else b) c)

/-- Three keepalive intervals of a port, in ticks: 10 µs on a pair port, else 1 ms (R110). -/
def claimLife (s : State) (p : Nat) : Nat := if isPairPort s p then 30000 else 3000000

/-- Roots named in keepalives of the last three intervals, other than this switch; the interval of a sleeping
port is suspended. -/
def keepaliveClaims (s : State) : List (Nat × Nat) :=
  (s.clock.claims.filter (fun e => (decide (now s - e.2.2.2 ≤ claimLife s e.1) ||
    decide (rd s (Reg.PORT_STATE e.1) = 6 ∨ rd s (Reg.PORT_STATE e.1) = 7)) &&
    decide (e.2.2.1 ≠ rd s Reg.IDENTITY_SERIAL))).map (fun e => (e.2.1, e.2.2.1))

/-- Every competing claim: of candidates, of keepalives, and of a root kept for HOLD_ELECT (R396). -/
def claims (s : State) : List (Nat × Nat) :=
  (sources s).map (fun e => (e.2.prio, e.2.serial)) ++ keepaliveClaims s ++ s.clock.held.toList

/-- The best of a list of claims. -/
def bestClaim (cs : List (Nat × Nat)) : Nat × Nat :=
  match cs with
  | [] => (255, 0)
  | c :: rest => rest.foldl (fun b x => if claimLt x b then x else b) c

/-- The switch's own claim wins. -/
def winsRoot (s : State) (cs : List (Nat × Nat)) : Bool :=
  decide (s.clock.prio ≠ 255) && cs.all (fun c => claimLt (ownClaim s) c)

/-- EPOCH_ROOT with both claims. -/
def noteRoot (s : State) (other : Nat × Nat) : State :=
  raise s Code.EPOCH_ROOT 0xFF [(8, (ownClaim s).1), (64, (ownClaim s).2), (8, other.1), (64, other.2)]

/-- From now a non-root has no candidate, if it has none and was not without one before (R396). -/
def noteLapse (s : State) : State :=
  if sources s = [] then modClock s (fun c => { c with lapsed := some (c.lapsed.getD (now s)) }) else s

/-- A root gives up its role; it takes a root tuple with its source (R391). -/
def yieldRoot (b : Nat × Nat) (s : State) : State :=
  noteLapse (noteRoot (wr (wr s Reg.EPOCH_STATE EpochState.FOLLOWER) Reg.EPOCH_DIST 15) b)

/-- A root that sees a better claim yields (R391). -/
def yieldCheck (s : State) : State :=
  let b := bestClaim (claims s)
  if epochState s = EpochState.ROOT ∧ claimLt b (ownClaim s) = true then yieldRoot b s else s

/-- SOURCE changes. -/
def setSource (s : State) (p : Nat) : State :=
  if rd s Reg.EPOCH_SOURCE = p then s
  else raise (wr s Reg.EPOCH_SOURCE p) Code.EPOCH_SOURCE 0xFF [(16, twinPort s p)]

/-! ## EPOCH frames (R389, R390) -/

/-- The data blocks of an EPOCH frame; OFFSET is written as it leaves. -/
def epochBlocks (s : State) : List Block :=
  [BitVec.ofNat 128 (joinFields [(48, rd s Reg.EPOCH_NUMBER), (64, rd s Reg.EPOCH_ROOT_SERIAL),
     (8, rd s Reg.EPOCH_ROOT_PRIO), (4, rd s Reg.EPOCH_DIST), (1, boolBit (epochHoldover s)),
     (1, rd s Reg.EPOCH_SLEWING), (2, 0)]),
   BitVec.ofNat 128 (joinFields [(32, 0), (5, s.clock.period), (91, 0)])]

/-- One EPOCH frame is formed in the facet of its port and placed in that port's queue (R389). -/
def sendEpoch (s : State) (p : Nat) : State :=
  let h := mkHdr {
    kind := KindCode.EPOCH, msg := 3, tc := 7, ten := 0, dst := 0, src := ownEid s,
    seq := rd s Reg.EPOCH_NUMBER % 65536, len := 2 }
  let s := countFrameIn s (facetBank (p / 256)) (0x8100 + KindCode.EPOCH) h
  let r := newFrame s {
    hdr := h, rxHdr := h, blocks := epochBlocks s, facet := p / 256, egress := p, outVl := 6,
    arrival := now s, stamp := s.sets.stamp, whole := true, place := .asked }
  testRequest r.1 r.2

/-- UP ports whose partner advertises ROLE 0 or 1. -/
def epochPorts (s : State) : List Nat :=
  (listed s 0x0300 0 (fun v => decide (5 ≤ v ∧ v ≤ 7))).filter (fun p => decide (rd s (Reg.PORT_PEER_ROLE p) ≤ 1))

/-- R394's second case: a neighbour's number far above the one this switch would have at the same
boundary. -/
def aheadCheck (c : Candidate) (s : State) : State :=
  let st := epochState s
  if st = EpochState.STARTING ∨ st = EpochState.HOLDOVER ∨ s.clock.rejoining = true ∨ c.holdover = true ∨
      c.slewing = true then s
  else
    let p : Int := periodTicks s
    let mine := epochAdd (rd s Reg.EPOCH_NUMBER) ((c.boundary - rd s Reg.EPOCH_BOUNDARY + p / 2) / p)
    if (rd s Reg.EPOCH_SLEW_EPOCHS : Int) ≤ epochDiff c.number mine then
      modClock s (fun k => { k with jump := some (c.boundary, c.number, c.period) })
    else s

/-- EPOCH_FRAME_RECEIVED (R390, R391, R394). -/
def doEpochFrame (id : Nat) (s : State) : State :=
  match findFrame s id with
  | none => s
  | some f =>
    let b1 := (f.blocks.getD 0 0).toNat
    let b2 := (f.blocks.getD 1 0).toNat
    let p := f.ingress
    let period := field b2 91 5
    if f.place ≠ .localTo ∨ (f.whole = false ∧ f.poison = false) ∨ hdrKind f.hdr ≠ KindCode.EPOCH then s
    else if ¬ (rd s (Reg.PORT_PEER_ROLE p) ≤ 1) ∨ hdrHop f.hdr ≠ 1 ∨ hdrLen f.hdr ≠ 2 ∨ f.blocks.length < 2 ∨
        ¬ (16 ≤ period ∧ period ≤ 24) then dropIn s id 0x70
    else
      let s := removeFrame s id
      let c : Candidate := {
        serial := field b1 16 64, prio := field b1 8 8, dist := field b1 4 4,
        partner := rd s (Reg.PORT_PEER_SERIAL p), at_ := now s,
        boundary := (f.arrival : Int) - (rd s (Reg.PORT_RTT p) / 2 : Nat) - (field b2 96 32 : Nat),
        number := field b1 80 48, period := period, holdover := b1.testBit 3, slewing := b1.testBit 2 }
      let s := modClock s (fun k => { k with
        candidates := if c.dist ≤ 14 then Tab.set k.candidates p c else Tab.del k.candidates p })
      let s := if epochState s = EpochState.FOLLOWER then noteLapse s else s
      yieldCheck (aheadCheck c s)

/-! ## Holdover (R396) -/

/-- HOLDOVER begins: the last root's claim is kept, unless it was the switch's own. -/
def enterHoldover (src : Nat) (s : State) : State :=
  let root := (rd s Reg.EPOCH_ROOT_PRIO, rd s Reg.EPOCH_ROOT_SERIAL)
  let s := modClock s (fun c => { c with
    held := if root.2 = rd s Reg.IDENTITY_SERIAL ∨ root.1 = 255 then none else some root,
    heldSince := now s, srcHold := false })
  raise (setSource (wr s Reg.EPOCH_STATE EpochState.HOLDOVER) src) Code.HOLDOVER_ENTER 0xFF []

/-- An EPOCH_IN edge has been accepted within the last 3P ticks. -/
def edgesGood (s : State) : Bool :=
  decide (rd s Reg.EPOCH_EPOCH_IN_EN = 1) && (match s.clock.lastEdge with
    | some t => decide (now s - t ≤ 3 * periodTicks s)
    | none => false)

/-- The tick at which the last candidate lapsed: noted, or 3P ticks after the last frame of one. -/
def lapseTick (s : State) : Nat :=
  s.clock.lapsed.getD (s.clock.candidates.foldl (fun m e =>
    if e.2.serial = rd s Reg.IDENTITY_SERIAL then m else max m e.2.at_) 0 + 3 * periodTicks s)

/-- CANDIDATE_LAPSE (R396): 3P ticks after its last candidate lapsed a non-root enters HOLDOVER, with
EPOCH_IN_EN 1 only once EPOCH_IN has been lost too. -/
def doCandidateLapse (s : State) : State :=
  if epochState s = EpochState.FOLLOWER ∧ sources s = [] ∧ edgesGood s = false ∧
      lapseTick s + 3 * periodTicks s ≤ now s then enterHoldover 0xFFFF s else s

/-- HOLD_ELECT_EXPIRE (R396): HOLD_ELECT ms after the switch entered HOLDOVER the lost root is forgotten; the election that
follows acts at the next boundary. -/
def doHoldElect (s : State) : State :=
  if epochState s = EpochState.HOLDOVER ∧ s.clock.heldSince + rd s Reg.EPOCH_HOLD_ELECT * 1000000 ≤ now s then
    modClock s (fun c => { c with held := none })
  else s

/-! ## STARTING (R392) -/

/-- The root and distance of a source. -/
def follow (s : State) (e : Nat × Candidate) : State :=
  let s := setSource s e.1
  let s := wr (wr s Reg.EPOCH_ROOT_PRIO e.2.prio) Reg.EPOCH_ROOT_SERIAL e.2.serial
  let s := wr s Reg.EPOCH_DIST (min 15 (e.2.dist + 1))
  modClock s (fun c => { c with srcHold := e.2.holdover, period := e.2.period, lapsed := none })

/-- The switch becomes root. -/
def becomeRoot (s : State) (other : Nat × Nat) : State :=
  let o := ownClaim s
  let s := wr (wr (wr s Reg.EPOCH_ROOT_PRIO o.1) Reg.EPOCH_ROOT_SERIAL o.2) Reg.EPOCH_DIST 0
  let s := setSource s (if rd s Reg.EPOCH_EPOCH_IN_EN = 1 then 0xFFFE else 0xFFFF)
  noteRoot (modClock (wr s Reg.EPOCH_STATE EpochState.ROOT) (fun c => { c with
    srcHold := false, lapsed := none, held := none, waitsEdge := some (now s) })) other

/-- The number that a boundary of a source, moved by whole periods to lie within half of one of a tick,
has. -/
def numberAt (boundary : Int) (number period : Nat) (tick : Nat) : Nat :=
  let p : Int := 2 ^ period
  epochAdd number (((tick : Int) - boundary + p / 2) / p)

/-- STARTING_END (R392). -/
def doStartingEnd (s : State) : State :=
  if epochState s ≠ EpochState.STARTING then s
  else
    let s := modClock s (fun c => { c with prio := rd s Reg.EPOCH_PRIO })
    match bestSource s with
    | some e =>
      let n := numberAt e.2.boundary e.2.number e.2.period (rd s Reg.EPOCH_BOUNDARY)
      follow (wr (wr s Reg.EPOCH_STATE EpochState.FOLLOWER) Reg.EPOCH_NUMBER n) e
    | none =>
      if s.clock.prio ≠ 255 then becomeRoot s (bestClaim (claims s)) else enterHoldover 0xFFFF s

/-! ## The boundary -/

/-- The number rises by one, or jumps (R388, R394). -/
def nextNumber (s : State) : State :=
  let n := epochAdd (rd s Reg.EPOCH_NUMBER) 1
  let plain := modClock (wr s Reg.EPOCH_NUMBER n) (fun c => { c with jump := none, jumped := false })
  match s.clock.jump with
  | none => plain
  | some (b, e, p) =>
    let m := numberAt b e p (now s)
    if epochDiff m n ≤ 0 ∨ epochState s = EpochState.HOLDOVER ∨ s.clock.rejoining = true then plain
    else
      let s := inc (wr s Reg.EPOCH_NUMBER m) Reg.EPOCH_JUMPS 32
      raise (modClock s (fun c => { c with jump := none, jumped := true })) Code.EPOCH_JUMP 0xFF [(48, n), (48, m)]

/-- A root with EPOCH_IN_EN 1 has gone 3P ticks without an accepted edge (R396). -/
def rootLostEdges (s : State) : Bool :=
  decide (rd s Reg.EPOCH_EPOCH_IN_EN = 1) && !edgesGood s && (match s.clock.waitsEdge with
    | some t => decide (3 * periodTicks s < now s - t)
    | none => false)

/-- A root's part of a boundary's election; a root that stands sends its present claim, PRIO taking effect here (R422). -/
def electRoot (s : State) (cs : List (Nat × Nat)) : State :=
  let st := epochState s
  let own := decide (rd s Reg.EPOCH_ROOT_SERIAL = rd s Reg.IDENTITY_SERIAL)
  let s := if own then wr (wr s Reg.EPOCH_ROOT_PRIO (ownClaim s).1) Reg.EPOCH_DIST 0 else s
  let timed := decide (rd s Reg.EPOCH_EPOCH_IN_EN = 1)
  let src := if timed then 0xFFFE else 0xFFFF
  let since := if timed then some (s.clock.waitsEdge.getD (now s)) else none
  let s := modClock s (fun c => { c with waitsEdge := since })
  if st = EpochState.HOLDOVER then
    -- leaves HOLDOVER free-running, or on an accepted edge
    if rd s Reg.EPOCH_EPOCH_IN_EN = 0 ∨ s.clock.edgeD.isSome = true then
      let s := if own = true then setSource (wr s Reg.EPOCH_STATE EpochState.ROOT) src
        else becomeRoot s (bestClaim cs)
      modClock s (fun c => { c with rejoining := true, held := none })
    else s
  else if rootLostEdges s then enterHoldover src (if own then s else becomeRoot s (bestClaim cs))
  else if st = EpochState.ROOT then setSource s src
  else becomeRoot s (bestClaim cs)

/-- A follower's part: the best candidate is its source (R391, R396). While HOLDOVER stands because that source is in
HOLDOVER too, the switch keeps the root it lost for as long as it keeps that claim (R408). -/
def electSource (s : State) (e : Nat × Candidate) : State :=
  let st := epochState s
  if st = EpochState.HOLDOVER then
    if e.2.holdover then
      if s.clock.held.isSome then setSource s e.1 else follow s e
    else
      modClock (wr (follow s e) Reg.EPOCH_STATE EpochState.FOLLOWER) (fun c => { c with rejoining := true, held := none })
  else if st = EpochState.ROOT then
    noteRoot (wr (follow s e) Reg.EPOCH_STATE EpochState.FOLLOWER) (e.2.prio, e.2.serial)
  else follow s e

/-- Neither root nor candidate: the switch keeps its last root until HOLDOVER (R396), a root whose PRIO has become 255 its own
claim; EPOCH_IN may time it (R397). -/
def electNone (s : State) : State :=
  if epochState s = EpochState.HOLDOVER then setSource s 0xFFFF
  else
    let s := if epochState s = EpochState.ROOT then yieldRoot (bestClaim (claims s)) (wr s Reg.EPOCH_ROOT_PRIO (ownClaim s).1)
      else s
    let s := setSource s (if edgesGood s then 0xFFFE else 0xFFFF)
    modClock s (fun c => { c with srcHold := false, lapsed := some (lapseTick s) })

/-- Roles at a boundary (R391, R396). A follower whose candidates have gone keeps its root's claim. -/
def elect (s : State) : State :=
  let gone := if epochState s = EpochState.FOLLOWER ∧ sources s = [] ∧ s.clock.candidates ≠ [] then some (lapseTick s)
    else s.clock.lapsed
  let s := modClock s (fun c => { c with
    prio := rd s Reg.EPOCH_PRIO, candidates := freshCandidates s, lapsed := gone })
  let kept := if epochState s = EpochState.FOLLOWER ∧ sources s = [] ∧
      rd s Reg.EPOCH_ROOT_SERIAL ≠ rd s Reg.IDENTITY_SERIAL then
      [(rd s Reg.EPOCH_ROOT_PRIO, rd s Reg.EPOCH_ROOT_SERIAL)] else []
  let cs := claims s ++ kept
  if winsRoot s cs then electRoot s cs
  else match bestSource s with
  | some e => electSource s e
  | none => electNone s

/-- D at this boundary: against the source, or against EPOCH_IN (R388, R393). In HOLDOVER none is measured: epochs are P ticks
of the own timebase (R396). A root that runs free is its own source. -/
def measure (s : State) : Option Int :=
  if epochState s = EpochState.HOLDOVER then none
  else match Tab.find s.clock.candidates (rd s Reg.EPOCH_SOURCE) with
  | some c => some ((now s : Int) - (c.boundary + epochDiff (rd s Reg.EPOCH_NUMBER) c.number * 2 ^ c.period))
  | none =>
    if rd s Reg.EPOCH_EPOCH_IN_EN = 1 then s.clock.edgeD
    else if epochState s = EpochState.ROOT then some 0 else none

/-- D clipped to ±P/1,024. -/
def clip (cap d : Int) : Int := max (-cap) (min cap d)

/-- D reduced modulo P into [−P/2, P/2). -/
def reduceD (p d : Int) : Int := (d + p / 2) % p - p / 2

/-- D as R393 slews it: reduced modulo P where the source is far behind. -/
def slewedD (p slew d : Int) : Int := if d ≤ -(slew * p) then reduceD p d else d

/-- |D| ≤ 64 ticks. -/
def lockedD (d : Int) : Bool := decide (-64 ≤ d) && decide (d ≤ 64)

/-- c of R393 with the new SLEWING, and whether a jump is to be made; `d` is the D to be slewed. Until the jump SLEWING stands
as it was. -/
def phase (p slew d : Int) (rejoining slewing : Bool) : Int × Bool × Bool :=
  if lockedD d then (d / 8, false, false)
  else if slew * p ≤ d ∧ rejoining = false then (0, slewing, true)
  else (clip (p / 1024) d, true, false)

/-- The length of the next epoch (R393, R395). At a boundary with no D the epoch is P ticks, and SLEWING stands, or is set while
the switch rejoins (R394). -/
def setLength (s : State) : State :=
  let root := decide (epochState s = EpochState.ROOT)
  let s := if root then modClock s (fun c => { c with period := rd s Reg.EPOCH_PERIOD_LOG2 }) else s
  let p := periodTicks s
  let d := measure s
  let s := modClock s (fun c => { c with edgeD := none })
  match d with
  | none =>
    modClock (if s.clock.rejoining then wr s Reg.EPOCH_SLEWING 1 else s) (fun c => { c with next := now s + p })
  | some d =>
    let slew : Int := rd s Reg.EPOCH_SLEW_EPOCHS
    let e := slewedD p slew d
    let r := phase p slew e s.clock.rejoining (decide (rd s Reg.EPOCH_SLEWING = 1))
    let s := wr (wrI 64 s Reg.EPOCH_OFFSET d) Reg.EPOCH_SLEWING (boolBit r.2.1)
    let src := Tab.find s.clock.candidates (rd s Reg.EPOCH_SOURCE)
    modClock s (fun c => { c with
      next := ((now s : Int) + p - r.1).toNat,
      rejoining := c.rejoining && !lockedD e,
      jump := match src with
        | some k => if r.2.2 then some (k.boundary, k.number, k.period) else c.jump
        | none => c.jump })

/-- HOLDOVER_EXIT carries D. -/
def noteExit (before : Nat) (s : State) : State :=
  if before = EpochState.HOLDOVER ∧ epochState s ≠ EpochState.HOLDOVER then
    raise s Code.HOLDOVER_EXIT 0xFF [(64, rd s Reg.EPOCH_OFFSET)]
  else s

/-- Number, roles and phase of a boundary that is not one of STARTING. -/
def runBoundary (s : State) : State :=
  let was := epochState s
  noteExit was (setLength (elect (nextNumber s)))

/-- A boundary of STARTING: the number stays 0, and boundaries fall every P ticks from tick 0 (R392). -/
def startingBoundary (s : State) : State :=
  let s := modClock s (fun c => { c with
    period := rd s Reg.EPOCH_PERIOD_LOG2, prio := rd s Reg.EPOCH_PRIO, jumped := false })
  let p := periodTicks s
  modClock s (fun c => { c with next := (now s / p + 1) * p })

/-- FLAGS of R456. -/
def epochFlags (s : State) (starting : Bool) : Nat :=
  boolBit (epochHoldover s) + 2 * rd s Reg.EPOCH_SLEWING + 4 * boolBit starting + 8 * boolBit s.clock.jumped

/-- Engine ticks and yoke rows of the epoch that ends, kept for the load condition of a vet (R480). -/
def loadAtBoundary (c : Collective) : Tab Nat :=
  (List.range 8).foldl (fun m f =>
    let m := Tab.put 0 m (16 + f) (Tab.get 0 c.load f)
    let m := Tab.put 0 m (24 + f) (Tab.get 0 c.load (8 + f))
    Tab.put 0 m (32 + f) (Tab.get 0 c.fillRows (2 * f))) []

/-- FILL of a yoke: rows used of the rows of the epoch's passes, per mille of 64 rows a pass (R382). -/
def showFill (s : State) : State :=
  let s := (List.range 8).foldl (fun s f =>
    let rows := Tab.get 0 s.coll.fillRows (2 * f)
    let passes := Tab.get 0 s.coll.fillRows (2 * f + 1)
    wr s (Reg.YOKE_FILL f) (if passes = 0 then 0 else rows * 1000 / (64 * passes))) s
  modColl s (fun c => { c with fillRows := [], load := loadAtBoundary c })

/-- EPOCH_BOUNDARY (R388 to R397, R29, R382, R401, R406, R456, R488). -/
def doEpochBoundary (s : State) : State :=
  let starting := decide (epochState s = EpochState.STARTING)
  let s := if starting then startingBoundary s else runBoundary s
  let s := wr s Reg.EPOCH_BOUNDARY (now s)
  let s := modClock s (fun c => { c with out := true, outLong := unsettled s })
  let s := takeMirrors (rd s Reg.EPOCH_NUMBER) (epochFlags s starting) s
  let s := if starting then s else (epochPorts s).foldl sendEpoch s
  let s := showFill (balanceLattice s)
  let s := wr (wr s Reg.STUDBOOK_MARK_EPOCH (rd s Reg.EPOCH_NUMBER)) Reg.STUDBOOK_MARK_SEQ (rd s Reg.STUDBOOK_NEXT_SEQ)
  boundarySwap (unsettled s) s

/-! ## The pins (R397, R586) -/

/-- EPOCH_OUT_PULSE_END. -/
def doEpochOutEnd (s : State) : State := modClock s (fun c => { c with out := false, outLong := false })

/-- Distance of two ticks. -/
def tickGap (a b : Nat) : Nat := if a ≤ b then b - a else a - b

/-- EPOCH_IN_EDGE: accepted within 1,024 ticks of the nearest own boundary and not within 1 µs of an
accepted one. -/
def doEpochIn (s : State) : State :=
  if rd s Reg.EPOCH_EPOCH_IN_EN = 0 then s
  else
    let t := now s
    let b := rd s Reg.EPOCH_BOUNDARY
    let n := s.clock.next
    let own := if tickGap t b ≤ tickGap t n then b else n
    let again := match s.clock.lastEdge with
      | some e => decide (t - e < 1000)
      | none => false
    if 1024 < tickGap t own ∨ again = true then inc s Reg.EPOCH_EPIN_REJECTS 32
    else modClock s (fun c => { c with lastEdge := some t, edgeD := some ((own : Int) - t) })

/-! ## CONTROL_FLIT_RECEIVED -/

/-- The epoch part of a keepalive: the root it names counts as a claim (R391, R408). -/
def epochKeepalive (p serial prio : Nat) (s : State) : State :=
  yieldCheck (modClock s (fun c => { c with claims := Tab.set c.claims p (prio, serial, now s) }))

/-- What a new keepalive carries beyond the link's own fields (R408). -/
def keepalive (p pl : Nat) (s : State) : State :=
  let s := setKeepalive p (ctl pl 68 6) (ctl pl 74 8) (ctl pl 82 8) (ctl pl 90 6) s
  let s := epochKeepalive p (ctl pl 112 8) (ctl pl 120 1) s
  twinKeepalive p s

/-- CONTROL_FLIT_RECEIVED: the link's part, then the keepalive's if a new one arrived (R107 to R110,
R391, R409, R415). -/
def doControlFlit (p : Nat) (f : Flit) (s : State) : State :=
  let t := linkControl p f s
  if (link t p).peerKa = (link s p).peerKa ∨ rd t (Reg.PORT_STATE p) < 4 then t
  else keepalive p (payloadNat f.payload) t

/-- A flit has come off a port's lanes: a good one is what its FTYPE says; one that fails is what its slot should have held
(log entry 107). -/
def takeFlit (p : Nat) (control : Bool) (f : Flit) (s : State) : State :=
  let isControl := if f.decoded && crcGood f then decide (field f.hdr.toNat 92 4 = 2) else control
  if isControl then doControlFlit p f s else doDataFlit p f s

/-- Symbols arrive on a port's lanes, and the flits they complete are taken in order (R90, R100, R108): while the port carries
flits, trains with them or wakes, or its pair is in an announced dark. -/
def doSymbols (p : Nat) (control : Bool) (lanes : LaneSymbols) (s : State) : State :=
  let st := rd s (Reg.PORT_STATE p)
  if st = 4 ∨ st = 5 ∨ st = 7 ∨ rd s (Reg.EYE_STATE (pairOf p)) = 4 then
    let r := takeSymbols p lanes s
    r.2.foldl (fun s f => takeFlit p control f s) r.1
  else s

end Sys2Proof.Machine
end

