-- ==== Sys2Proof/Machine/Studbook.lean ====
section
/-! DEFINITION. The studbook (R487 to R496): how records pass the buckets and take their numbers, summary
records, the copy in flash, the start of the groom, CLEAR and ALERT_N. -/

namespace Sys2Proof.Machine

/-! ## Buckets (R488, R490) -/

/-- Tokens of a code's bucket; one not listed is full at its BURST. -/
def codeTokens (s : State) (code : Nat) : Nat :=
  match Tab.find s.book.tokens code with
  | some n => n
  | none => rd s (Reg.CODECFG_BURST code)

def setTokens (s : State) (code n : Nat) : State :=
  modBook s (fun b => { b with tokens := Tab.set b.tokens code n })

/-- Whole tokens the solid-wide bucket has gained by a tick: 262,144 per second of timebase. -/
def solidGained (t : Nat) : Nat := t * 262144 / 1000000000

/-- The solid-wide bucket credited up to now, 4,096 at most. -/
def creditSolid (s : State) : State :=
  modBook s (fun b => { b with
    solid := min 4096 (b.solid + (solidGained (now s) - solidGained b.solidAt)), solidAt := now s })

/-- The record takes no SEQ; its code's suppressed count rises, saturating. -/
def suppress (s : State) (code : Nat) : State :=
  let n := rd s (Reg.CODECFG_SUPPRESSED code)
  if n < 0xFFFFFFFF then wr s (Reg.CODECFG_SUPPRESSED code) (n + 1) else s

/-! ## Records (R488, R489, R495) -/

/-- A record's 256 bits. -/
def recordBits (seq code summary alert src data : Nat) : Nat :=
  let hi := joinFields [(48, seq), (16, code), (1, summary), (1, alert), (6, 0), (8, src), (160, data)]
  hi * 2 ^ 16 + crc16 240 hi

/-- RCRC of a record is good. -/
def recordGood (r : Nat) : Bool := decide (crc16 240 (r / 2 ^ 16) = r % 2 ^ 16)

def recordSeq (r : Nat) : Nat := field r 208 48
def recordCode (r : Nat) : Nat := field r 192 16

/-- A record is written under the next SEQ: into the ring, with what its code's ALERT asks for. -/
def writeRecord (s : State) (code src data summary : Nat) : State :=
  let seq := rd s Reg.STUDBOOK_NEXT_SEQ
  let alert := rd s (Reg.CODECFG_ALERT code)
  let r := recordBits seq code summary alert src data
  let s := modBook s (fun b => { b with
    ring := Tab.set b.ring (seq % 65536) r,
    last := if summary = 0 then Tab.put 0 b.last code seq else b.last,
    alert := if alert = 1 then some seq else b.alert,
    wrote := Tab.set b.wrote seq (now s) })
  let s := wr s Reg.STUDBOOK_NEXT_SEQ (seq + 1)
  let s := raiseTo s Reg.STUDBOOK_OLDEST (seq + 1 - 65536)
  let s := inc s (Reg.CODECFG_WRITTEN code) 64
  if summary = 0 ∧ (code = Code.VET_RESULT ∨ code = Code.VET_ABORTED) then
    wr s (Reg.VET_LAST_SEQ (data / 2 ^ 136)) seq
  else s

/-- A record of the groom that uses no bucket (R488). -/
def writeOwn (s : State) (code : Nat) (items : List (Nat × Nat)) : State :=
  writeRecord s code 8 (recordData items) 0

/-- The summaries that fell due are written while the solid-wide bucket has tokens (R488, R491). -/
def writeSummary (s : State) (code : Nat) : State :=
  if s.book.solid = 0 then s
  else
    let n := rd s (Reg.CODECFG_SUPPRESSED code)
    let s := modBook s (fun b => { b with solid := b.solid - 1, due := b.due.filter (fun c => decide (c ≠ code)) })
    let s := wr s (Reg.CODECFG_SUPPRESSED code) 0
    writeRecord s code 8 (recordData [(32, n), (48, Tab.get 0 s.book.last code)]) 1

def writeSummaries (s : State) : State :=
  let s := creditSolid s
  if s.groom.up then s.book.due.foldl writeSummary s else s

/-- The groom accepts a record: through its code's bucket, then the solid-wide one. -/
def acceptRecord (s : State) (r : Raised) : State :=
  let t := codeTokens s r.code
  if t = 0 ∨ s.book.solid = 0 then suppress s r.code
  else
    let s := setTokens s r.code (t - 1)
    let s := modBook s (fun b => { b with solid := b.solid - 1 })
    writeRecord s r.code r.source r.data 0

/-- STUDBOOK_RECORD (R488): the oldest record raised; they wait while the groom is down (R540). -/
def doStudbookRecord (s : State) : State :=
  if s.groom.up = false then s
  else match s.raised with
  | [] => s
  | r :: rest => acceptRecord (writeSummaries { s with raised := rest }) r

/-- Periods of PERIOD_MS that have passed since a code's bucket last gained a token (R490). -/
def periodsPassed (s : State) (code : Nat) : Nat :=
  (now s - Tab.get 0 s.book.gained code) / (rd s (Reg.CODECFG_PERIOD_MS code) * 1000000)

/-- CODE_BUCKET_TOKEN (R490, R491): the tokens of the periods that have passed. -/
def doBucketToken (code : Nat) (s : State) : State :=
  let n := periodsPassed s code
  if ¬ definedCodes.contains code ∨ n = 0 then s
  else
    let s := setTokens s code (min (rd s (Reg.CODECFG_BURST code)) (codeTokens s code + n))
    let at_ := Tab.get 0 s.book.gained code + n * (rd s (Reg.CODECFG_PERIOD_MS code) * 1000000)
    let s := modBook s (fun b => { b with gained := Tab.put 0 b.gained code at_ })
    let s := if rd s (Reg.CODECFG_SUPPRESSED code) = 0 ∨ s.book.due.contains code = true then s
      else modBook s (fun b => { b with due := b.due ++ [code] })
    writeSummaries s

/-- A write of BURST clips the bucket's tokens, and adds none (R490). -/
def clipBurst (code burst : Nat) (s : State) : State :=
  wr (setTokens s code (min (codeTokens s code) burst)) (Reg.CODECFG_BURST code) burst

/-- Facet records beyond 4,096 that waited for the groom are counted as suppressed (R540). -/
def trimRaised (s : State) : State :=
  let r := s.raised.foldl (fun (acc : List Raised × List Nat × List Nat) x =>
    let n := (acc.2.1.filter (fun f => decide (f = x.source))).length
    if x.source < 8 ∧ 4096 ≤ n then (acc.1, acc.2.1, acc.2.2 ++ [x.code])
    else (acc.1 ++ [x], acc.2.1 ++ [x.source], acc.2.2)) ([], [], [])
  r.2.2.foldl suppress { s with raised := r.1 }

/-! ## The copy in flash (R487, R492) -/

/-- Where the flash studbook begins, and the address of a record slot (R531). -/
def bookBase : Nat := 72 * 1048576
def slotAddr (slot : Nat) : Nat := bookBase + 32 * slot

/-- The record in a slot of the flash ring: a slot whose RCRC fails holds none. -/
def flashRecord (s : State) (slot : Nat) : Option Nat :=
  let r := natBE (s.flash.readBytes (slotAddr slot) 32)
  if recordGood r ∧ recordSeq r % 524288 = slot then some r else none

/-- A sector of the studbook made blank. -/
def eraseBookSector (s : State) (k : Nat) : State :=
  let s := modBook s (fun b => { b with erasing := b.erasing.filter (fun x => decide (x ≠ k)) })
  { s with flash := s.flash.eraseRange (bookBase + 65536 * k) 65536 }

/-- One record goes to flash. When it fills its sector the next one is erased, so one sector ahead is
always erased (R487). -/
def programRecord (s : State) (seq : Nat) : State :=
  let slot := seq % 524288
  let r := Tab.get 0 s.book.ring (seq % 65536)
  let s := { s with flash := s.flash.writeBytes (slotAddr slot) (bytesBE 32 r) }
  let s := wr s Reg.STUDBOOK_FLASH_NEXT (seq + 1)
  let s := match Tab.find s.book.wrote seq with
    | some t => raiseTo s Reg.STUDBOOK_LAG_MAX ((now s - t) / 1000)
    | none => s
  let s := modBook s (fun b => { b with wrote := Tab.del b.wrote seq })
  if slot % 2048 = 2047 then
    raiseTo (eraseBookSector s ((slot / 2048 + 1) % 256)) Reg.STUDBOOK_FLASH_OLDEST ((seq / 2048 - 254) * 2048)
  else s

/-- Every record not yet persisted is programmed, in SEQ order; a run that left the ring is lost and
recorded (R492). -/
def persistAll (s : State) : State :=
  let next := rd s Reg.STUDBOOK_FLASH_NEXT
  let oldest := rd s Reg.STUDBOOK_OLDEST
  let first := max next oldest
  let empty := decide (rd s Reg.STUDBOOK_FLASH_OLDEST = next)
  let s := (List.range (rd s Reg.STUDBOOK_NEXT_SEQ - first)).foldl (fun s i => programRecord s (first + i)) s
  if oldest ≤ next then s
  else
    let s := if empty then wr s Reg.STUDBOOK_FLASH_OLDEST oldest else s
    let s := modBook s (fun b => { b with wrote := b.wrote.filter (fun e => decide (oldest ≤ e.1)) })
    writeOwn s Code.PERSIST_GAP [(48, next), (48, oldest - 1)]

/-- PERSIST_PROGRAM (R492); the background erase moves on by a sector (R496). -/
def doPersist (s : State) : State :=
  if s.groom.up = false then s
  else
    let s := persistAll s
    match s.book.erasing with
    | [] => s
    | k :: _ => eraseBookSector s k

/-! ## The start of the groom (R493) -/

/-- Slots of the flash ring in which a byte stands. -/
def bookSlots (s : State) : List Nat :=
  ((s.flash.filter (fun c => decide (bookBase ≤ c.1) && decide (c.1 < bookBase + 16777216))).map
    (fun c => (c.1 - bookBase) / 32)).eraseDups

/-- The valid records of the flash. -/
def bookRecords (s : State) : List Nat := (bookSlots s).filterMap (flashRecord s)

def maxOf (xs : List Nat) : Option Nat :=
  match xs with
  | [] => none
  | x :: rest => some (rest.foldl max x)

/-- The flash scanned after VAUX has been lost: NEXT_SEQ, OLDEST and the flash's bounds, and the sectors
left without a record erased. -/
def scanBook (s : State) : State × Nat × Nat :=
  let all := bookRecords s
  let cleared := maxOf ((all.filter (fun r => decide (recordCode r = Code.CLEARED))).map recordSeq)
  let low := cleared.getD 0
  let live := (all.map recordSeq).filter (fun q => decide (low ≤ q))
  let next := match maxOf live with
    | some h => h + 1
    | none => 0
  let h := match maxOf live with
    | some h => h
    | none => 2 ^ 48 - 1
  let oldest := live.foldl min next
  let kept := live.map (fun q => q % 524288 / 2048)
  let stale := ((bookSlots s).map (fun x => x / 2048)).eraseDups.filter (fun k => !kept.contains k)
  let s := modBook s (fun b => { b with ring := [], wrote := [], due := [], last := [], alert := none, erasing := stale })
  let s := wr (wr s Reg.STUDBOOK_NEXT_SEQ next) Reg.STUDBOOK_OLDEST next
  let s := wr (wr s Reg.STUDBOOK_FLASH_OLDEST oldest) Reg.STUDBOOK_FLASH_NEXT next
  (wr s Reg.STUDBOOK_LAST_CLEARED low, h, live.length)

/-- The studbook's part of a start of the groom (R493). -/
def startBook (cold : Bool) (s : State) : State :=
  let seq := rd s Reg.STUDBOOK_NEXT_SEQ
  let r := if cold then scanBook s
    else (s, if seq = 0 then 2 ^ 48 - 1 else seq - 1, seq - rd s Reg.STUDBOOK_OLDEST)
  writeOwn r.1 Code.STUDBOOK_START [(8, boolBit (!cold)), (48, r.2.1), (32, min r.2.2 0xFFFFFFFF)]

/-! ## Commands (R495, R496) -/

/-- STUDBOOK_CLEAR, written under a key: CLEARED is persisted before anything is erased. -/
def doStudbookClear (key : Nat) (s : State) : State :=
  if s.groom.up = false then s
  else
    let c := rd s Reg.STUDBOOK_NEXT_SEQ
    let s := writeOwn s Code.CLEARED
      [(48, rd s Reg.STUDBOOK_OLDEST), (48, rd s Reg.STUDBOOK_FLASH_OLDEST), (16, key)]
    let s := persistAll s
    let s := wr (wr (wr s Reg.STUDBOOK_OLDEST c) Reg.STUDBOOK_FLASH_OLDEST c) Reg.STUDBOOK_LAST_CLEARED c
    let held := ((bookSlots s).map (fun x => x / 2048)).eraseDups
    modBook s (fun b => { b with
      ring := b.ring.filter (fun e => decide (c ≤ recordSeq e.2)),
      erasing := held.filter (fun k => decide (k ≠ c % 524288 / 2048)) })

/-- ALERT_ACK (R495). -/
def doAlertAck (seq : Nat) (s : State) : State :=
  let s := wr s Reg.STUDBOOK_ALERT_ACK seq
  match s.book.alert with
  | some a => if a ≤ seq then modBook s (fun b => { b with alert := none }) else s
  | none => s

/-- What STUDREC and STUDFLASH show of a slot (R496 step 3, R501). -/
def shownRecord (low : Nat) (r : Option Nat) : Nat :=
  match r with
  | some x => if low ≤ recordSeq x then x else 2 ^ 256 - 1
  | none => 2 ^ 256 - 1

end Sys2Proof.Machine
end

