-- ==== Sys2Proof/Machine/Flash.lean ====
section
/-! DEFINITION. The groom's flash (R530 to R535): its regions, its bytes, pages and sectors; and the checks of
a signed image or vet pack (R475 to R477, R536 to R538). -/

namespace Sys2Proof.Machine

/-- Regions of the flash: bank, offset and size in MiB, and the least role for a bulk write and a bulk read; 4
allows none (R531). -/
structure FlashRegion where
  bank : Nat
  offset : Nat
  size : Nat
  writeRole : Nat
  readRole : Nat
deriving DecidableEq, Repr

def flashRegions : List FlashRegion :=
  [⟨0, 0, 64, 3, 3⟩, ⟨1, 0, 64, 3, 3⟩, ⟨0, 64, 8, 2, 2⟩, ⟨1, 64, 8, 2, 2⟩, ⟨0, 72, 16, 4, 4⟩, ⟨1, 72, 8, 4, 4⟩,
   ⟨0, 88, 8, 4, 0⟩]

/-- Address of a region's first byte: bank x 128 MiB + offset. -/
def FlashRegion.base (r : FlashRegion) : Nat := r.bank * 134217728 + r.offset * 1048576
def FlashRegion.bytes (r : FlashRegion) : Nat := r.size * 1048576

/-- Manufacture fills image slot A and the calibration region (R531, log entry 31). -/
def factoryAddr (a : Nat) : Bool :=
  decide (a < 67108864) || (decide (92274688 ≤ a) && decide (a < 100663296))

/-- A byte of the flash: what manufacture left until its sector is first worked on. -/
def flashByte (s : State) (a : Nat) : Byte :=
  if factoryAddr a = true ∧ s.groom.worked.contains (a / 65536) = false then Config.factoryFlash a
  else s.flash.read a

def flashBytes (s : State) (a n : Nat) : List Byte := (List.range n).map (fun i => flashByte s (a + i))

/-- A field of the flash, most significant byte first. -/
def flashNat (s : State) (a n : Nat) : Nat := natBE (flashBytes s a n)

/-- A sector erased (R530). -/
def eraseSector (s : State) (k : Nat) : State :=
  let s := { s with flash := s.flash.eraseRange (65536 * k) 65536 }
  modGroom s (fun g => { g with
    worked := if g.worked.contains k then g.worked else g.worked ++ [k],
    pages := g.pages.filter (fun p => decide (p / 256 ≠ k)) })

/-- A page may be programmed: nothing has been since its sector was erased (R532). -/
def pageBlank (s : State) (p : Nat) : Bool :=
  !s.groom.pages.contains p && !(factoryAddr (256 * p) && !s.groom.worked.contains (p / 256))

/-- Bytes programmed from a page's first byte on. -/
def programPages (s : State) (a : Nat) (bs : List Byte) : State :=
  let s := { s with flash := s.flash.writeBytes a bs }
  modGroom s (fun g => { g with pages := g.pages ++ (List.range (bs.length / 256)).map (fun i => a / 256 + i) })

/-! ## Signed content (R475 to R477, R536) -/

/-- Address of an image slot, and of a pack slot. -/
def imageBase (slot : Nat) : Nat := slot * 134217728
def packBase (slot : Nat) : Nat := slot * 134217728 + 67108864

/-- Fields that images and packs share. -/
def signedSeq (s : State) (base : Nat) : Nat := flashNat s (base + 12) 8
def signedLength (s : State) (base : Nat) : Nat := flashNat s (base + 20) 4
def signedKey (s : State) (base : Nat) : Nat := (flashByte s (base + 11)).toNat

/-- The signature over all but itself verifies under the slot that KEY_ID names. -/
def signatureGood (s : State) (base : Nat) : Bool :=
  let n := signedLength s base - 96
  let digest := natBE (sha384 (flashBytes s base n))
  P384.verify (rd s (Reg.SIGNKEY_PUBKEY (signedKey s base))) digest (flashNat s (base + n) 48)
    (flashNat s (base + n + 48) 48)

/-- The outcome of R477 for the content at a base: the first check that fails. `seqOk` is the ROLLBACK test. -/
def signedCheck (s : State) (base magic most : Nat) (shapeOk seqOk tooLong : Bool) : Nat :=
  let len := signedLength s base
  if flashNat s base 4 ≠ magic ∨ (flashByte s (base + 10)).toNat ≠ 1 ∨ len % 16 ≠ 0 ∨ most < len ∨ len < 160 ∨
      shapeOk = false then 2
  else if flashNat s (base + 4) 2 ≠ rd s Reg.IDENTITY_VENDOR ∨ flashNat s (base + 6) 2 ≠ rd s Reg.IDENTITY_PART ∨
      (flashByte s (base + 8)).toNat ≠ rd s Reg.IDENTITY_STEPPING ∨
      rd s Reg.IDENTITY_MINOR < (flashByte s (base + 9)).toNat then 3
  else if 3 < signedKey s base ∨ rd s (Reg.SIGNKEY_STATE (signedKey s base)) ≠ 1 then 4
  else if signatureGood s base = false then 5
  else if seqOk = false then 6
  else if tooLong then 7
  else 0

/-- Headers of the pattern records: kind, points and time, or none where one is malformed or they do not fill
the space between `a` and `stop` (R476). -/
def packRecords (s : State) : Nat → Nat → Nat → Option (List (Nat × Nat × Nat))
  | 0, a, stop => if a = stop then some [] else none
  | n + 1, a, stop =>
    let kind := (flashByte s a).toNat
    let next := a + 16 + (flashNat s (a + 4) 4 + 15) / 16 * 16
    if 4 < kind ∨ stop < next then none
    else match packRecords s n next stop with
    | some rest => some ((kind, (flashByte s (a + 1)).toNat, flashNat s (a + 8) 4) :: rest)
    | none => none

/-- For some kind and point the run times sum to more than 30,000 µs (R477). -/
def packTooLong (rs : List (Nat × Nat × Nat)) : Bool :=
  (List.range 5).any (fun k => (List.range 8).any (fun p =>
    decide (30000 < (rs.filter (fun r => decide (r.1 = k) && r.2.1.testBit p)).foldl (fun n r => n + r.2.2) 0)))

/-- A vet pack judged (R477). A pack holds fewer records than an eighth of a MiB of headers. -/
def packCheck (s : State) (base : Nat) : Nat :=
  let len := signedLength s base
  let n := flashNat s (base + 28) 4
  let rs := if len ≤ 8388608 ∧ n ≤ 524288 then packRecords s n (base + 64) (base + len - 96) else none
  signedCheck s base 0x56455450 8388608 rs.isSome
    (decide (rd s Reg.VETPACK_MIN_SEQ < signedSeq s base)) (packTooLong (rs.getD []))

/-- A firmware image judged; at boot the confirmed image itself is no rollback (R538, R539). -/
def imageCheck (s : State) (slot : Nat) (boot : Bool) : Nat :=
  let seq := signedSeq s (imageBase slot)
  let low := rd s Reg.FIRMWARE_MIN_SEQ
  signedCheck s (imageBase slot) 0x47524F4D 67108864 true
    (decide (low < seq) || (boot && decide (low = seq))) false

end Sys2Proof.Machine
end

