-- ==== Sys2Proof/Machine/Vet.lean ====
section
/-! DEFINITION. Vet checks (R470 to R486): requests, the conditions of a start, drains, stress points, results
and what they do to the unit; and vet packs (R477). -/

namespace Sys2Proof.Machine

/-! ## Units (R470) -/

abbrev VetKind.STRING : Nat := 0
abbrev VetKind.YOKE : Nat := 1
abbrev VetKind.VERTEX : Nat := 2
abbrev VetKind.FACET : Nat := 3
abbrev VetKind.RINGROW : Nat := 4

def vetKind (u : Nat) : Nat := u / 4096
def vetIndex (u : Nat) : Nat := u % 4096

/-- Units of a kind. -/
def vetCount (k : Nat) : Nat :=
  match k with
  | 0 => 40
  | 1 => 8
  | 2 => 128
  | 3 => 8
  | 4 => 512
  | _ => 0

/-- The instance names a unit; the others are ABSENT (R498). -/
def vetExists (u : Nat) : Bool := decide (vetIndex u < vetCount (vetKind u))

/-- The facet of a unit; a RINGROW belongs to that of its FAU (R480). -/
def vetFacet (u : Nat) : Nat :=
  let i := vetIndex u
  match vetKind u with
  | 0 => i / 5
  | 1 => i
  | 2 => i / 16
  | 3 => i
  | _ => i / 64

/-- Islands that a vet tests as a whole. -/
def vetIslands (u : Nat) : List Nat :=
  let i := vetIndex u
  match vetKind u with
  | 0 => [8 * (i / 5) + 2 + i % 5]
  | 1 => [8 * i + 7]
  | 3 => [8 * i, 8 * i + 1]
  | _ => []

/-- Duplex pair of a ring row (R470). -/
def vetPair (u : Nat) : Nat := vetIndex u / 32 * 16 + vetIndex u % 32 % 16

/-- Ports that a unit takes with it; a chord keeps its own (R471). -/
def vetPorts (s : State) (u : Nat) : List Nat :=
  let i := vetIndex u
  let all := match vetKind u with
    | 2 => (List.range 16).map (fun k => 16 * i + k)
    | 3 => (List.range 256).map (fun k => 256 * i + k)
    | 4 => pairPorts (vetPair u)
    | _ => []
  all.filter (fun p => !chordHeld s p)

/-- UNIT instances that read REASON 4 while the unit is out (R471). -/
def vetNames (s : State) (u : Nat) : List Nat :=
  (vetPorts s u).map (fun p => 65536 + p) ++
    (match vetKind u with
    | 2 => [2 * 65536 + vetIndex u]
    | 3 => [3 * 65536 + vetIndex u]
    | _ => [])

def vetRun (s : State) (u : Nat) : Option VetRun := Tab.find s.vets.runs u

def setVet (s : State) (u : Nat) (r : VetRun) : State := modVets s (fun v => { v with runs := Tab.set v.runs u r })

/-- STATE of a unit whose vet has ended: another request may be PENDING. -/
def restState (s : State) (u : Nat) : Nat := if (Tab.find s.vets.requests u).isSome then 1 else 0

/-! ## Requests (R479, R481) -/

/-- VET_REQUEST, COMMAND 1. -/
def doVetRequest (u : Nat) (s : State) : State := if vetExists u then vetRequest s u 2 1 else s

/-- Hours between the periodic vets of a kind. -/
def vetPeriod (s : State) (k : Nat) : Nat :=
  match k with
  | 0 => rd s Reg.VETCFG_PERIOD_STRING
  | 1 => rd s Reg.VETCFG_PERIOD_YOKE
  | 2 => rd s Reg.VETCFG_PERIOD_VERTEX
  | _ => 0

/-- Ticks of an hour, and of a second. -/
def hourTicks : Nat := 3600 * 1000000000
def secondTicks : Nat := 1000000000

/-- The latest moment at which unit i of a kind's N has fallen due: i × PERIOD / N after reset and every PERIOD after that. -/
def lastDue (s : State) (u : Nat) : Option Nat :=
  let p := vetPeriod s (vetKind u) * hourTicks
  let first := vetIndex u * p / vetCount (vetKind u)
  if p = 0 ∨ now s < first then none else some (first + (now s - first) / p * p)

/-- PERIODIC_VET_DUE: the vet falls due, or it has waited PERIOD since it did. -/
def doPeriodicVet (u : Nat) (overdue : Bool) (s : State) : State :=
  if vetExists u = false ∨ vetPeriod s (vetKind u) = 0 then s
  else if overdue = false then
    match lastDue s u with
    | none => s
    | some t =>
      if t < Tab.get 0 s.vets.dues u then s
      else vetRequest (modVets s (fun v => { v with dues := Tab.put 0 v.dues u (t + 1) })) u 3 3
  else match Tab.find s.vets.requests u with
  | none => s
  | some r =>
    if r.periodic = false ∨ r.overdue = true ∨ now s < r.due + vetPeriod s (vetKind u) * hourTicks then s
    else raise (modVets s (fun v => { v with requests := Tab.set v.requests u { r with overdue := true } }))
      Code.VET_OVERDUE (vetFacet u) [(24, u)]

/-- VET_RETRY_TIMER (R481). -/
def doVetRetry (u : Nat) (s : State) : State :=
  match Tab.find s.vets.retry u with
  | none => s
  | some x =>
    if now s < x.2.2 + rd s Reg.VETCFG_RETRY_S * secondTicks then s
    else vetRequest (modVets s (fun v => { v with retry := Tab.del v.retry u })) u x.1 x.2.1

/-- VET_RECHECK_TIMER (R486). -/
def doVetRecheck (u : Nat) (s : State) : State :=
  match Tab.find s.vets.recheck u with
  | none => s
  | some x =>
    if now s < x.2.2 + rd s Reg.VETCFG_RECHECK * hourTicks then s
    else vetRequest (modVets s (fun v => { v with recheck := Tab.del v.recheck u })) u x.1 x.2.1

/-! ## Ends (R483, R503) -/

/-- What every end of a vet leaves in its object, and its record. -/
def endVet (s : State) (u result points cause pack map : Nat) : State :=
  let s := modVets s (fun v => { v with runs := Tab.del v.runs u })
  let s := wr (wr s (Reg.VET_LAST_RESULT u) result) (Reg.VET_LAST_POINTS u) points
  let s := inc s (Reg.VET_RUNS u) 32
  let s := if result = 3 then inc s (Reg.VET_FAILS u) 32 else s
  let s := wr s (Reg.VET_MARGINAL_RUN u) (if result = 2 then min 255 (rd s (Reg.VET_MARGINAL_RUN u) + 1) else 0)
  let s := wr s (Reg.VET_STATE u) (restState s u)
  if result ≤ 3 then
    raise s Code.VET_RESULT (vetFacet u) [(24, u), (8, result), (8, points), (8, map), (64, pack)]
  else raise s Code.VET_ABORTED (vetFacet u) [(24, u), (8, result), (8, cause)]

/-! ## Aborts (R481) -/

/-- A running vet is aborted: it stops at the next pattern boundary. -/
def abortVet (u cause : Nat) (s : State) : State :=
  match vetRun s u with
  | none => s
  | some r =>
    if r.stage = 4 then s
    else wr (setVet s u { r with stage := 4, result := 4, cause := cause }) (Reg.VET_STATE u) 4

/-- Every vet of a facet is aborted. -/
def abortFacet (f cause : Nat) (s : State) : State :=
  (s.vets.runs.filter (fun e => decide (vetFacet e.1 = f))).foldl (fun s e => abortVet e.1 cause s) s

/-- VET_WITHDRAW, COMMAND 2: a running vet is aborted, a PENDING request withdrawn. -/
def doVetWithdraw (u : Nat) (s : State) : State :=
  match vetRun s u with
  | some _ => abortVet u 4 s
  | none =>
    let s := modVets s (fun v => { v with requests := Tab.del v.requests u })
    if rd s (Reg.VET_STATE u) = 1 then wr s (Reg.VET_STATE u) 0 else s

/-- A stint of the facet that a vet has kept waiting longer than YIELD: any claimable one, or a fallback one (R481). -/
def vetDelays (s : State) (u : Nat) (x : Stint) : Bool :=
  decide (x.facet = vetFacet u) && decide (x.made + rd s Reg.VETCFG_YIELD * 1000 < now s) && (match vetKind u with
    | 0 => claimable s x
    | 1 => decide (x.kind = 2) && x.claimed.isNone
    | _ => false)

/-- VET_YIELD_TIMEOUT. -/
def doVetYield (u : Nat) (s : State) : State :=
  if s.coll.stints.any (vetDelays s u) then abortVet u 2 s else s

/-! ## Conditions (R480) -/

/-- What a PENDING vet may do now. -/
inductive VetMay where
  | wait | refuse | start
deriving DecidableEq, Repr

/-- Every ACTIVE team fits in the facets in service but one (R480). -/
def fitsWithout (s : State) (f : Nat) : Bool :=
  let fs := (homeFacets s).filter (fun x => decide (x ≠ f))
  ((teamsIn s TeamState.ACTIVE).foldl (fun (r : State × Bool) t =>
    match reserve r.1 t (team r.1 t) fs with
    | none => (r.1, false)
    | some (n, place) => (modTeam r.1 t (fun x => { x with resv := n, facets := fs, place := place }), r.2)) (s, true)).2

/-- The kind's own condition. -/
def vetKindMay (s : State) (u : Nat) (r : VetRequest) : VetMay :=
  let f := vetFacet u
  let most := rd s Reg.VETCFG_LOAD_MAX
  match vetKind u with
  | 0 =>
    let e := (enginesIn s f).length
    if 16 ≤ e ∧ Tab.get 0 s.coll.load (16 + f) * 1000 ≤ most * (e - 8) * periodTicks s then .start else .wait
  | 1 =>
    if Tab.get 0 s.coll.load (32 + f) * 4300 ≤ most * Tab.get 0 s.coll.load (24 + f) then .start else .wait
  | 3 =>
    if r.commanded = false ∧ rd s Reg.VETCFG_AUTO_FACET = 0 then .wait
    else if fitsWithout s f then .start else .refuse
  | 4 =>
    if (chordsOnPair s (vetPair u)).any (fun c =>
        decide (rd s (Reg.CHORD_STATE c) = 3) || decide (rd s (Reg.CHORD_STATE c) = 4)) then .refuse else .start
  | _ => .start

/-- The conditions of R480 but for the grant. -/
def vetMay (s : State) (u : Nat) (r : VetRequest) : VetMay :=
  let f := vetFacet u
  if s.vets.runs.any (fun e => decide (vetFacet e.1 = f)) = true ∨
      rd s Reg.VETCFG_MAX_CONCURRENT ≤ s.vets.runs.length ∨
      (List.range 8).any (fun i => decide (900 ≤ rdI 16 s (Reg.ISLAND_TJ (8 * f + i)))) = true then .wait
  else vetKindMay s u r

/-- A request starts before another (R479). -/
def vetBefore (a b : Nat × VetRequest) : Bool :=
  decide (a.2.prio < b.2.prio) || (decide (a.2.prio = b.2.prio) && (decide (a.2.order < b.2.order) ||
    (decide (a.2.order = b.2.order) && decide (a.1 < b.1))))

/-! ## The start (R471 to R473, R478, R482) -/

/-- Percent of V_b at a point (R472). -/
def pointPercent (p : Nat) : Nat :=
  match p with
  | 2 => 94
  | 3 => 91
  | 5 => 94
  | 6 => 94
  | _ => 100

/-- VCORE of an island at a point, never below 0.62 V (R472, R473). -/
def pointVcore (s : State) (island p : Nat) : Nat :=
  max 620 (max 700 (rd s (Reg.ISLAND_VFLOOR island)) * pointPercent p / 100)

/-- A point is set up: voltage and trims. -/
def setPoint (s : State) (u : Nat) (r : VetRun) (p : Nat) : State :=
  let s := (vetIslands u).foldl (fun s i => wr s (Reg.ISLAND_VCORE i) (pointVcore s i p)) s
  setVet s u { r with point := p, trims := decide (4 ≤ p) }

/-- Engines of a string that are QUARANTINED, as a map. -/
def quarantineMap (s : State) (str : Nat) : Nat :=
  (List.range 8).foldl (fun m i => if rd s (Reg.HENGINE_STATE (8 * str + i)) = 3 then m + 2 ^ i else m) 0

/-- The unit is taken out: an engine or yoke is VETTING, a drain begins (R470, R471). -/
def takeOut (s : State) (u : Nat) : State :=
  let i := vetIndex u
  match vetKind u with
  | 0 => (List.range 8).foldl (fun s k =>
      let a := Reg.HENGINE_STATE (8 * i + k)
      let degraded := decide (rd s a = 4) && (vetIslands u).any (fun i => decide (rd s (Reg.ISLAND_STATE i) = 2))
      if rd s a = 0 ∨ rd s a = 3 ∨ degraded = true then wr s a 2 else s) s
  | 1 =>
    let was := rd s (Reg.YOKE_STATE i)
    let s := wr s (Reg.YOKE_STATE i) 2
    if was = 0 then yokeLeft s i else s
  | 3 => retirePorts (loseHome s i) (vetPorts s u)
  | _ => retirePorts s (vetPorts s u)

/-- A granted vet starts (R478, R482). -/
def startVet (s : State) (u : Nat) (q : VetRequest) : State :=
  let k := vetKind u
  let drains := decide (2 ≤ k)
  let mask := if k = 0 then quarantineMap s (vetIndex u)
    else if k = 1 then boolBit (decide (rd s (Reg.YOKE_STATE (vetIndex u)) = 3))
    else if k = 2 then boolBit (s.lattice.outVertices.contains (vetIndex u))
    else if k = 3 then boolBit (s.lattice.outFacets.contains (vetIndex u)) else 0
  let r : VetRun := {
    prio := q.prio, trig := if q.commanded then 1 else q.trig, stage := if drains then 0 else 2,
    vcores := (vetIslands u).map (fun i => rd s (Reg.ISLAND_VCORE i)), quarantined := mask,
    packSeq := rd s Reg.VETPACK_PACK_SEQ, packSlot := rd s Reg.VETPACK_ACTIVE_SLOT }
  let s := wr (setVet s u r) (Reg.VET_STATE u) (if drains then 2 else 3)
  let s := takeOut s u
  if drains then s else setPoint s u r 1

/-- VET_START (R479, R480). `scan` says that the scan store holds patterns of the kind, `granted` that the
arbiter grants the vet. -/
def doVetStart (u : Nat) (scan granted : Bool) (s : State) : State :=
  match Tab.find s.vets.requests u with
  | none => s
  | some q =>
    let first := s.vets.requests.all (fun e => !vetBefore e (u, q) || e.2.denied ||
      decide (vetMay s e.1 e.2 = .wait))
    let may := vetMay s u q
    let pack := rd s Reg.VETPACK_PACK_SEQ
    let taken := modVets s (fun v => { v with requests := Tab.del v.requests u })
    if (vetRun s u).isSome ∨ first = false ∨ may = .wait then s
    else if may = .refuse then endVet taken u 5 0 6 pack 0
    else if granted = false then
      modVets s (fun v => { v with requests := Tab.set v.requests u { q with denied := true } })
    else
      let s := taken
      if vetKind u ≠ 4 ∧ scan = false ∧ (rd s Reg.VETPACK_KINDS).testBit (vetKind u) = false then
        endVet s u 6 0 7 pack 0
      else startVet s u q

/-! ## Drains (R471) -/

/-- The drain is over: the ports go down, the unit is out, and the first test runs. -/
def drainOver (s : State) (u : Nat) (r : VetRun) : State :=
  let ports := vetPorts s u
  let names := vetNames s u
  let s := modLattice s (fun l => { l with vetUnits := (l.vetUnits ++ names).eraseDups })
  let s := match vetKind u with
    | 2 => doVertexOut (vetIndex u) s
    | 3 => facetOut (vetIndex u) s
    | _ => portsDown s ports 10
  let s := wr s (Reg.VET_STATE u) 3
  setPoint s u { r with stage := 2 } (if vetKind u = 4 then 0 else 1)

/-- VET_DRAIN_DONE. -/
def doVetDrainDone (u : Nat) (s : State) : State :=
  match vetRun s u with
  | none => s
  | some r =>
    let ports := vetPorts s u
    if 2 ≤ r.stage then s
    else if allDrained s ports = false then
      if r.stage = 0 ∧ allAcked s ports = true then setVet s u { r with stage := 1 } else s
    else if r.stage = 0 ∧ allAcked s ports = false then s
    else drainOver s u r

/-- VET_DRAIN_LIMIT: first of the acknowledgements, then of the queues (R72). -/
def doVetDrainLimit (u : Nat) (s : State) : State :=
  match vetRun s u with
  | none => s
  | some r =>
    if r.stage = 0 then setVet s u { r with stage := 1 }
    else if r.stage = 1 then
      let ports := vetPorts s u
      drainOver (repinPorts (ports.foldl (fun s p => flushPort s p) s) ports) u r
    else s

/-! ## Points (R472, R473, R482, R485) -/

/-- The point after one, and whether it is heated. -/
def nextPoint (k p : Nat) : Option (Nat × Bool) :=
  if k = 2 then
    match p with
    | 1 => some (4, false)
    | 4 => some (7, true)
    | _ => none
  else
    match p with
    | 5 => some (6, true)
    | 6 => none
    | n => some (n + 1, false)

/-- All results are held: stress is restored next (R483, R486). -/
def holdResults (s : State) (u : Nat) (r : VetRun) : State :=
  let margin := if 1 ≤ rd s (Reg.VET_MARGINAL_RUN u) then 3 else 2
  let result := if r.failed.testBit 0 then 3 else if r.passed then 1 else if vetKind u = 4 then 3 else margin
  wr (setVet s u { r with stage := 4, result := result }) (Reg.VET_STATE u) 4

/-- VET_POINT_DONE: a point, or the optical tests of a row. `localised` names the engines to which a failing
pattern localised the fault, or the rings of the row that failed. -/
def doVetPoint (u : Nat) (passed : Bool) (localised : Nat) (s : State) : State :=
  match vetRun s u with
  | none => s
  | some r =>
    let k := vetKind u
    if r.stage ≠ 2 then s
    else if k = 4 then
      if 16 ≤ vetIndex u % 32 ∧ rdI 16 s (Reg.EYE_RX_DBM (vetPair u)) < -1700 then abortVet u 5 s
      else holdResults s u { r with localised := localised, passed := passed && decide (localised = 0) }
    else
      let r := if passed then r
        else { r with
          passed := false, failed := r.failed ||| 2 ^ (r.point - 1), localised := r.localised ||| localised }
      if r.failed.testBit 0 then holdResults s u r
      else match nextPoint k r.point with
      | none => holdResults s u r
      | some (p, heat) => setPoint s u (if heat then { r with stage := 3 } else r) p

/-- VET_HEAT_REACHED. -/
def doVetHeat (u : Nat) (s : State) : State :=
  match vetRun s u with
  | none => s
  | some r => if r.stage = 3 then setVet s u { r with stage := 2, heated := true } else s

/-! ## The return of the unit (R471, R484 to R486) -/

/-- VCORE as it was, or at a floor raised since. -/
def restoreIslands (s : State) (u : Nat) (r : VetRun) : State :=
  (List.zip (vetIslands u) r.vcores).foldl (fun s x =>
    wr s (Reg.ISLAND_VCORE x.1) (max x.2 (rd s (Reg.ISLAND_VFLOOR x.1)))) s

/-- An engine comes back: QUARANTINED, with a record where it was not before (R387); out by administration; or in service, with
SUSPECT 0 and a record where it had been quarantined. -/
def engineBack (s : State) (e : Nat) (stays wasQ aborted : Bool) : State :=
  let a := Reg.HENGINE_STATE e
  if rd s a ≠ 2 then s
  else if stays then
    let s := wr s a 3
    if wasQ then s else raise s Code.ENGINE_QUARANTINED (e / 40) []
  else if wasQ ∧ aborted then wr s a 3
  else
    let s := wr s a (rd s (Reg.HENGINE_ADMIN e))
    if wasQ then raise (wr s (Reg.HENGINE_SUSPECT e) 0) Code.ENGINE_RETURNED (e / 40) [] else s

/-- A string's engines at the end of its vet (R484). -/
def stringBack (s : State) (i : Nat) (r : VetRun) : State :=
  let s := (List.range 8).foldl (fun s k =>
    engineBack s (8 * i + k) (decide (r.result = 3) && (decide (r.localised % 256 = 0) || r.localised.testBit k))
      (r.quarantined.testBit k) (decide (r.result = 4))) s
  if r.result = 3 then engineLeft s (8 * i) else s

/-- A yoke at the end of its vet. -/
def yokeAfter (s : State) (f : Nat) (r : VetRun) : State :=
  if rd s (Reg.YOKE_STATE f) ≠ 2 then s
  else if r.result = 3 then
    let s := wr s (Reg.YOKE_STATE f) 3
    if r.quarantined = 1 then s else raise s Code.ENGINE_QUARANTINED f []
  else if r.result = 4 ∧ r.quarantined = 1 then wr s (Reg.YOKE_STATE f) 3
  else
    let s := if r.quarantined = 1 then raise (wr s (Reg.YOKE_SUSPECT f) 0) Code.ENGINE_RETURNED f [] else s
    if rd s (Reg.YOKE_ADMIN f) = 1 then wr s (Reg.YOKE_STATE f) 1 else yokeBack s f

/-- A drained unit returns: its ports may train again (R471). -/
def portsBack (s : State) (u : Nat) : State :=
  let ports := vetPorts s u
  let gone := vetNames s u
  let s := modLattice s (fun l => { l with vetUnits := l.vetUnits.filter (fun x => !gone.contains x) })
  let s := match vetKind u with
    | 2 => if s.lattice.outVertices.contains (vetIndex u) then vertexBack s (vetIndex u) else s
    | 3 => if s.lattice.outFacets.contains (vetIndex u) then facetBack s (vetIndex u) else s
    | _ => s
  reinstatePorts ports s

/-- The rings of a row after its optical tests (R485). -/
def rowRings (s : State) (u : Nat) (r : VetRun) : State :=
  let side := if vetIndex u % 32 < 16 then 0 else 1
  let rings := (List.range 32).zip (fibreRings (vetPair u) side)
  rings.foldl (fun s x =>
    if r.localised.testBit x.1 then
      if rd s (Reg.RING_STATE x.2) = 6 then s
      else raise (wr (wr s (Reg.RING_STATE x.2) 6) (Reg.RING_HEATER x.2) 0) Code.RING_FAULT 9 []
    else if rd s (Reg.RING_STATE x.2) = 6 then parkRing s x.2 else s) s

/-- The result acts on the unit (R484, R485). -/
def applyResult (s : State) (u : Nat) (r : VetRun) : State :=
  let s := restoreIslands s u r
  match vetKind u with
  | 0 => stringBack s (vetIndex u) r
  | 1 => yokeAfter s (vetIndex u) r
  | 4 => portsBack (if r.result = 4 then s else rowRings s u r) u
  | _ => if r.result = 3 ∨ (r.result = 4 ∧ (r.quarantined = 1 ∨ (vetKind u = 3 ∧ r.cause = 3))) then s
    else portsBack s u

/-- A failed point lowered VCORE: the floors of the islands rise by 20 mV (R486). -/
def raiseFloors (s : State) (u : Nat) (r : VetRun) : State :=
  if r.failed &&& 0x36 = 0 then s
  else (vetIslands u).foldl (fun s i =>
    let f := min 850 (rd s (Reg.ISLAND_VFLOOR i) + 20)
    let s := wr s (Reg.ISLAND_VFLOOR i) f
    let s := raiseTo s (Reg.ISLAND_VCORE i) f
    if rd s (Reg.ISLAND_STATE i) = 0 then wr s (Reg.ISLAND_STATE i) 1 else s) s

/-- VET_ABORT_STOP (R481): a triggered or commanded vet is to be requested again. -/
def doVetAbortStop (u : Nat) (s : State) : State :=
  match vetRun s u with
  | none => s
  | some r =>
    if r.stage ≠ 4 ∨ r.result ≠ 4 then s
    else
      let s := applyResult s u r
      let s := if r.trig = 3 then s
        else modVets s (fun v => { v with retry := Tab.set v.retry u (r.prio, r.trig, now s) })
      endVet s u 4 r.failed r.cause r.packSeq 0

/-- VET_END (R484, R486). -/
def doVetEnd (u : Nat) (s : State) : State :=
  match vetRun s u with
  | none => s
  | some r =>
    if r.stage ≠ 4 ∨ r.result = 4 then s
    else
      let s := if r.result = 2 then raiseFloors s u r else s
      let s := applyResult s u r
      let s := if r.result = 2 then modVets s (fun v => { v with recheck := Tab.set v.recheck u (2, 2, now s) }) else s
      endVet s u r.result r.failed 0 r.packSeq (if vetKind u = 0 then quarantineMap s (vetIndex u) else 0)

/-! ## Vet packs (R477, R478) -/

/-- The slot a pack is staged in: the one that is not active. -/
def stagedPack (s : State) : Nat := if rd s Reg.VETPACK_ACTIVE_SLOT = 0 then 1 else 0

/-- A running vet uses a pack slot. -/
def packInUse (s : State) (slot : Nat) : Bool := s.vets.runs.any (fun e => decide (e.2.packSlot = slot))

/-- PACK_VERIFY, VETPACK COMMAND 1. `flashFails`: the commit does not program. -/
def doPackVerify (flashFails : Bool) (s : State) : State :=
  if s.groom.up = false then s
  else
    let slot := stagedPack s
    let base := packBase slot
    let seq := signedSeq s base
    let judged := if packInUse s slot then 1 else packCheck s base
    let code := if judged = 0 ∧ flashFails = true then 8 else judged
    let s := wr s Reg.VETPACK_RESULT code
    if code ≠ 0 then raise s Code.VETPACK_REJECTED 8 [(8, code), (64, seq)]
    else
      let s := wr (wr s Reg.VETPACK_ACTIVE_SLOT slot) Reg.VETPACK_PACK_SEQ seq
      let s := wr (wr s Reg.VETPACK_MIN_SEQ seq) Reg.VETPACK_KINDS (flashNat s (base + 24) 2)
      raise s Code.VETPACK_LOADED 8 [(64, seq), (8, signedKey s base), (8, slot)]

/-! ## Faults that make vets (R21, R380) -/

/-- PACE_WINDOW_END: the island's part, and the engines of an island that is set DEGRADED (R380). -/
def doPaceEnd (i hsr : Nat) (s : State) : State :=
  let t := doPaceWindow i hsr s
  if rd s (Reg.ISLAND_STATE i) = 2 ∨ rd t (Reg.ISLAND_STATE i) ≠ 2 then t
  else
    let f := i / 8
    if i % 8 < 2 then t
    else if i % 8 = 7 then
      if rd t (Reg.YOKE_STATE f) = 0 then yokeLeft (wr t (Reg.YOKE_STATE f) 4) f else t
    else
      let e := 40 * f + 8 * (i % 8 - 2)
      let t := (List.range 8).foldl (fun s k =>
        if rd s (Reg.HENGINE_STATE (e + k)) = 0 then wr s (Reg.HENGINE_STATE (e + k)) 4 else s) t
      engineLeft t e

/-- FACET_OUT_OF_SERVICE: vets that run in the facet are aborted (R481). -/
def doFacetLeaves (g : Nat) (s : State) : State :=
  if s.lattice.outFacets.contains g then s else abortFacet g 3 (doFacetOut g s)

end Sys2Proof.Machine
end

