-- ==== Sys2Proof/Machine/Power.lean ====
section
/-! DEFINITION. Power, cooling and resets (R550 to R577): the arbiter's grants, temperatures and their
thresholds, trips, supplies, the kinds of reset and the power-up sequence. -/

namespace Sys2Proof.Machine

/-! ## Levels -/

/-- The islands have power: their rails are in regulation and nothing has tripped (R553, R566, R571). -/
def powered (s : State) : Bool := decide (2 ≤ s.power.phase) && s.power.tripped.isNone

/-- Levels of a THERMAL instance in tenths of a degree: warning, throttle, maximum operating, trip (R562). -/
structure ThermLevels where
  warn : Int
  throttle : Option Int
  most : Int
  trip : Int
deriving DecidableEq, Repr

def thermLevels (inst : Nat) : ThermLevels :=
  if inst < 8 then ⟨950, some 1000, 1050, 1150⟩
  else if inst < 16 then ⟨850, some 950, 950, 1050⟩
  else if inst < 32 then ⟨1000, none, 1100, 1120⟩
  else ⟨1100, none, 1200, 1250⟩

/-- Some sensor is at or above its warning level (R563, R567). -/
def anyWarm (s : State) : Bool :=
  (List.range 33).any (fun i => decide ((thermLevels i).warn ≤ rdI 16 s (Reg.THERMAL_TEMP i)))

def thermFlags (s : State) (inst : Nat) : Nat := Tab.get 0 s.power.flags inst

/-- A sensor reads above its maximum operating level (R565). -/
def anyOver (s : State) : Bool := (List.range 33).any (fun i => (thermFlags s i).testBit 2)

/-- ALERT_N is asserted (R573). -/
def alertN (s : State) : Bool :=
  s.book.alert.isSome || anyWarm s || anyOver s || decide (rd s Reg.POWER_OVER_LIMIT = 1) || s.power.vinBad ||
    s.power.vauxBad

/-! ## The arbiter (R554 to R558) -/

/-- Islands that a class feeds in a facet. -/
def classIslands (f c : Nat) : List Nat :=
  match c with
  | 2 => [8 * f + 7]
  | 3 => (List.range 5).map (fun k => 8 * f + 2 + k)
  | _ => []

/-- Minimum grant of a class in a facet (R554, R558). -/
def minimumGrant (s : State) (demand : Nat → Nat) (f c : Nat) : Nat :=
  if c = 0 then 0
  else if c = 5 then demand (6 * f + 5)
  else Config.minimumMw f c ((classIslands f c).map (fun i => rd s (Reg.ISLAND_VFLOOR i)))

def sumNat (xs : List Nat) : Nat := xs.foldl (fun a b => a + b) 0

/-- The grants of the classes 0 to 4, the most protected first: each its floor, then what is left up to its
demand (R555). Both lists run from class 4 down to class 0. -/
def classGrants (avail : Int) : List Nat → List Nat → List Nat
  | floor :: floors, want :: wants =>
    let extra := min ((want - floor : Nat) : Int) (max avail 0)
    (floor + extra.toNat) :: classGrants (avail - extra) floors wants
  | _, _ => []

/-- A grant shared among facets in proportion to demand. Facets whose part would lie below their minimum are
given it, and the rest is shared again. A facet is (demand, minimum, pinned). -/
def shareOnce (grant : Nat) (xs : List (Nat × Nat × Bool)) : List (Nat × Nat × Bool) :=
  let fixed := sumNat (xs.map (fun x => if x.2.2 then x.2.1 else 0))
  let total := sumNat (xs.map (fun x => if x.2.2 then 0 else x.1))
  xs.map (fun x => (x.1, x.2.1, x.2.2 || decide ((grant - fixed) * x.1 < x.2.1 * total) || decide (total = 0)))

def shareRounds : Nat → Nat → List (Nat × Nat × Bool) → List (Nat × Nat × Bool)
  | 0, _, xs => xs
  | n + 1, grant, xs => shareRounds n grant (shareOnce grant xs)

/-- Parts of the facets in a class's grant. -/
def shareGrant (grant : Nat) (demands minima : List Nat) : List Nat :=
  let xs := shareRounds 8 grant ((demands.zip minima).map (fun x => (x.1, x.2, false)))
  let fixed := sumNat (xs.map (fun x => if x.2.2 then x.2.1 else 0))
  let total := sumNat (xs.map (fun x => if x.2.2 then 0 else x.1))
  xs.map (fun x => if x.2.2 then x.2.1 else (grant - fixed) * x.1 / total)

/-- A cut taken from the classes 0 to 4 of a facet in throttle order, each down to its minimum (R564). -/
def cutClasses : Nat → List Nat → List Nat → List Nat
  | cut, g :: gs, m :: ms => let take := min cut (g - m); (g - take) :: cutClasses (cut - take) gs ms
  | _, _, _ => []

/-- A facet's grants of one period after those of the period before: classes 0 to 4 together move by at most
60 W, in one proportion, none below its minimum (R556). -/
def limitStep (old new minima : List Nat) : List Nat :=
  let d : Int := (sumNat new : Int) - sumNat old
  let k : Int := if d < 0 then -d else d
  if k ≤ 60000 then new
  else ((old.zip new).zip minima).map (fun x =>
    max x.2 ((x.1.1 : Int) + ((x.1.2 : Int) - x.1.1) * 60000 / k).toNat)

/-- The caps of HBM traffic halve while the facet's stack is at its throttle level (R564). -/
def hbmHalved (s : State) (f c g m : Nat) : Nat :=
  if (c = 1 ∨ c = 4) ∧ (thermFlags s (8 + f)).testBit 1 = true then max m (g / 2) else g

/-- Grants in force, and those fixed last. -/
def grantsInForce (s : State) : List Nat := (List.range 48).map (fun i => rd s (Reg.ARBCLASS_GRANT_MW i))
def grantsLast (s : State) : List Nat := s.power.pipe.getLast?.getD (grantsInForce s)

/-- The grants that a measurement fixes, facet x 6 + class (R555, R556, R564). -/
def computeGrants (s : State) (demands : List Nat) (lossW : Nat) : List Nat :=
  let demand := fun i => demands.getD i 0
  let minimum := fun f c => minimumGrant s demand f c
  let facets := List.range 8
  let floors := fun c => sumNat (facets.map (fun f => minimum f c))
  let wants := fun c => sumNat (facets.map (fun f => demand (6 * f + c)))
  let order := [4, 3, 2, 1, 0]
  let avail : Int := (rd s Reg.POWER_LIMIT * 1000 : Int) - (lossW * 1000 : Int) - wants 5 - sumNat (order.map floors)
  let totals := classGrants avail (order.map floors) (order.map wants)
  let shares := (order.zip totals).map (fun x => (x.1,
    shareGrant x.2 (facets.map (fun f => demand (6 * f + x.1))) (facets.map (fun f => minimum f x.1))))
  let last := grantsLast s
  facets.flatMap (fun f =>
    let minima := (List.range 5).map (minimum f)
    let fair := (List.range 5).map (fun c =>
      let g := ((shares.find? (fun x => decide (x.1 = c))).map (fun x => x.2.getD f 0)).getD 0
      hbmHalved s f c g (minima.getD c 0))
    let cool := cutClasses (Tab.get 0 s.power.cut f) fair minima
    limitStep ((List.range 5).map (fun c => last.getD (6 * f + c) 0)) cool minima ++ [demand (6 * f + 5)])

/-- An island is under vet. -/
def underVet (s : State) (i : Nat) : Bool := s.vets.runs.any (fun e => (vetIslands e.1).contains i)

/-- VCORE of the islands of a class, and its duty, under a grant (R557). -/
def applyGrant (f c grant : Nat) (s : State) : State :=
  let islands := (classIslands f c).filter (fun i => decide (rd s (Reg.ISLAND_STATE i) ≠ 3) && !underVet s i)
  let s := islands.foldl (fun s i =>
    wr s (Reg.ISLAND_VCORE i) (max (rd s (Reg.ISLAND_VFLOOR i)) (min 850 (Config.grantVcore i grant / 10 * 10)))) s
  let low := !islands.isEmpty &&
    islands.all (fun i => decide (rd s (Reg.ISLAND_VCORE i) ≤ rd s (Reg.ISLAND_VFLOOR i)))
  wr s (Reg.ARBCLASS_DUTY (6 * f + c)) (if low then max 1 (min 16 (Config.grantDuty f c grant)) else 16)

/-- The grants of a period come into force (R557): VCORE and duty; a class 0 grant of 0 against demand aborts
the facet's vet (R481). -/
def takeGrants (grants : List Nat) (s : State) : State :=
  let s := (List.range 48).foldl (fun s i => wr s (Reg.ARBCLASS_GRANT_MW i) (grants.getD i 0)) s
  (List.range 8).foldl (fun s f =>
    let s := applyGrant f 2 (grants.getD (6 * f + 2) 0) s
    let s := applyGrant f 3 (grants.getD (6 * f + 3) 0) s
    if grants.getD (6 * f) 0 = 0 ∧ 0 < rd s (Reg.ARBCLASS_DEMAND_MW (6 * f)) then abortFacet f 0 s else s) s

/-- The arbiter's warnings of a change of grants: each island's predicted change of power joins what feed-forward steps
toward, while it is enabled (R58, R88). -/
def warnRings (old new : List Nat) (s : State) : State :=
  if rd s Reg.OPTICS_FF_ENABLE = 0 then s
  else (List.range 8).foldl (fun s f =>
    let a := (List.range 6).map (fun c => old.getD (6 * f + c) 0)
    let b := (List.range 6).map (fun c => new.getD (6 * f + c) 0)
    if a = b then s
    else (List.range 8).foldl (fun s k =>
      let i := 8 * f + k
      let x := Tab.get {} s.light.forward i
      modLight s (fun l => { l with
        forward := Tab.put {} l.forward i { x with target := x.target + Config.islandDelta i a b } })) s) s

/-- The island over a ring of a port. -/
def islandOver (p ring : Nat) : Nat := 8 * facetOf p + (Config.ringIsland ring).val

/-- A heater code corrected by -K times a change of power, which is the change from `a` to `b` in mW (R58). -/
def correctHeater (ring : Nat) (a b : Int) (heater : Nat) : Nat :=
  (min 65535 (max 0 ((heater : Int) - (Config.ringGain ring b - Config.ringGain ring a)))).toNat

/-- The heaters of the rings beneath an island follow its feed-forward from `a` to `b`: rings in LOCKED or HOLD, and chord
rings (R56, R58, R130). -/
def forwardHeaters (i : Nat) (a b : Int) (s : State) : State :=
  let s := ((ringsIn s 3 ++ ringsIn s 4).filter (fun r => decide (islandOver (r / 8) r = i))).foldl (fun s r =>
    wr s (Reg.RING_HEATER r) (correctHeater r a b (rd s (Reg.RING_HEATER r)))) s
  modLight s (fun l => { l with
    chordHeaters := l.chordHeaters.map (fun e =>
      if islandOver (e.1 / 8) (16384 + e.1) = i then (e.1, correctHeater (16384 + e.1) a b e.2) else e) })

/-- One microsecond of the first-order step of every island (R58). -/
def stepForward (s : State) : State :=
  s.light.forward.foldl (fun s e =>
    let b := e.2.power + (e.2.target - e.2.power) / (max 1 (rd s Reg.OPTICS_FF_TAU) : Int)
    if rd s Reg.OPTICS_FF_ENABLE = 0 ∨ b = e.2.power then s
    else forwardHeaters e.1 e.2.power b (modLight s (fun l => { l with
      forward := Tab.put {} l.forward e.1 { e.2 with power := b } }))) s

/-- The reserved demand and the minimums exceed LIMIT (R558). -/
def overLimit (s : State) (demands : List Nat) : Bool :=
  let demand := fun i => demands.getD i 0
  decide (rd s Reg.POWER_LIMIT * 1000 <
    sumNat ((List.range 48).map (fun i => minimumGrant s demand (i / 6) (i % 6))))

/-- ARB_GRANT_PERIOD (R555 to R558): measurement, the grants of the period two later, and those of the period
that begins. -/
def doGrantPeriod (demands : List Nat) (inputW lossW : Nat) (s : State) : State :=
  if powered s = false then s
  else
    let s := wr (wr s Reg.POWER_INPUT_W inputW) Reg.POWER_LOSS_W lossW
    let s := (List.range 48).foldl (fun s i =>
      let s := wr s (Reg.ARBCLASS_DEMAND_MW i) (demands.getD i 0)
      wr s (Reg.ARBCLASS_MIN_MW i) (minimumGrant s (fun k => demands.getD k 0) (i / 6) (i % 6))) s
    let above := overLimit s demands
    let was := rd s Reg.POWER_OVER_LIMIT
    let s := wr s Reg.POWER_OVER_LIMIT (boolBit above)
    let s := if above = true ∧ was = 0 then
        raise s Code.POWER_OVER_LIMIT 8 [(16, inputW), (16, rd s Reg.POWER_LIMIT)] else s
    let new := computeGrants s demands lossW
    let s := match s.power.pipe with
      | a :: b :: _ => takeGrants a (warnRings (grantsInForce s) a (modPower s (fun p => { p with pipe := [b, new] })))
      | xs => modPower s (fun p => { p with pipe := xs ++ [new] })
    let s := stepForward s
    modPower s (fun p => { p with period := now s })

/-- The claim duty of a facet and class admits a claim now: only in the first part of a period (R554). -/
def dutyAdmits (s : State) (f c : Nat) : Bool :=
  let d := rd s (Reg.ARBCLASS_DUTY (6 * f + c))
  decide (16 ≤ d) || decide ((now s - s.power.period) % 1000 * 16 < d * 1000)

/-- SWITCH_VCORE takes effect on the SWITCH and LATTICE islands (R558). -/
def applySwitchVcore (s : State) : State :=
  if powered s = false then s
  else (List.range 64).foldl (fun s i =>
    if i % 8 < 2 ∧ rd s (Reg.ISLAND_STATE i) ≠ 3 ∧ underVet s i = false then
      wr s (Reg.ISLAND_VCORE i) (max (rd s Reg.POWER_SWITCH_VCORE) (rd s (Reg.ISLAND_VFLOOR i)))
    else s) s

/-! ## Trips (R566 to R568) -/

/-- Elements of an object removed from the listed values: they read their defaults. -/
def clearElements (p : Addr → Bool) (s : State) : State := { s with regs := s.regs.filter (fun e => !p e.1) }

/-- Elements that read as a dark, unpowered solid has them. -/
def darkElement (a : Addr) : Bool :=
  (decide (a.obj = 0x0203) && decide (a.el ≤ 3)) ||
    (decide (a.obj = 0x0300) && [0, 4, 5, 13].contains a.el)

/-- Islands, HBM, heaters and comb light are off; every port is dark (R553, R566). -/
def darken (s : State) : State :=
  let s := wr s Reg.POWER_READY 0
  let s := (List.range 64).foldl (fun s i => wr (wr s (Reg.ISLAND_STATE i) 3) (Reg.ISLAND_VCORE i) 0) s
  let s := (List.range 320).foldl (fun s e => wr s (Reg.HENGINE_STATE e) 4) s
  let s := (List.range 8).foldl (fun s f => wr s (Reg.YOKE_STATE f) 4) s
  let s := (List.range 16).foldl (fun s n => wr s (Reg.CLS_EN_STATE n) 0) s
  { clearElements darkElement s with
    links := [], frames := [], light := {}, egress := {}, coll := {}, vets := {},
    forward := { s.forward with holds := [], insertions := [], echoes := [], telem := [], replies := [] } }

/-- The groom stops: what it held of requests and responses is lost (R540, R528). -/
def groomDown (s : State) : State :=
  { modGroom s (fun g => { g with up := false, verified := false, kept := [] }) with requests := [] }

/-- The groom's own trip (R568). -/
def groomTrip (s : State) : State :=
  let s := inc s (Reg.THERMAL_TRIPS 32) 32
  let s := if s.groom.up then acceptRecord s ⟨Code.GROOM_TRIP, 8, 0⟩ else raise s Code.GROOM_TRIP 8 []
  let s := groomDown s
  modGroom (wr s (Reg.THERMAL_STATE 32) 4) (fun g => { g with halted := true, suspended := s.book.erasing.take 1 })

/-- GROOM_COOLED: its sensor has read below 100 °C for 1 s, by the timebase while that runs; its boot ROM may start it again. -/
def doGroomCooled (s : State) : State :=
  if s.groom.halted = false ∨ 1000 ≤ rdI 16 s (Reg.THERMAL_TEMP 32) ∨
      (s.time.running = true ∧ now s < Tab.get 0 s.power.noted 32 + 1000000000) then s
  else modGroom (wr s (Reg.THERMAL_STATE 32) 0) (fun g => { g with halted := false })

/-- A trip of any sensor but the groom's (R566, R567). -/
def tripSolid (inst temp : Nat) (s : State) : State :=
  if s.power.tripped.isSome then s
  else
    let s := inc (wr s (Reg.THERMAL_STATE inst) 4) (Reg.THERMAL_TRIPS inst) 32
    let s := unitRefresh s (darken (modPower s (fun p => { p with tripped := some inst, pipe := [] })))
    raise s Code.THERMTRIP 8 [(24, inst), (16, temp)]

/-! ## Temperatures (R561 to R565) -/

/-- THERMAL instance of a sensor: 64 islands, 8 stacks, 16 photonic sensors and the groom's. -/
def sensorInstance (sensor : Nat) : Nat :=
  if sensor < 64 then sensor / 8 else sensor - 56

/-- A record's SOURCE for a sensor. -/
def thermSource (inst : Nat) : Nat := if inst < 16 then inst % 8 else if inst < 32 then 9 else 8

/-- A sensor's own element takes the sample. -/
def storeSample (sensor temp : Nat) (s : State) : State :=
  if sensor < 64 then wr s (Reg.ISLAND_TJ sensor) temp
  else if 72 ≤ sensor ∧ sensor < 88 then wr s (Reg.FAU_TJ_PHOTONIC (sensor - 72)) temp
  else s

/-- Temperature of an instance after a sample: a facet's is its hottest island's. -/
def instanceTemp (s : State) (sensor temp : Nat) : Int :=
  if sensor < 64 then
    let f := sensor / 8
    (List.range 7).foldl (fun m k => max m (rdI 16 s (Reg.ISLAND_TJ (8 * f + k + 1)))) (rdI 16 s (Reg.ISLAND_TJ (8 * f)))
  else ofRaw 16 temp

/-- A threshold after a reading: passed at its level, cleared 3 °C below it (R562). -/
def threshold (was : Bool) (level t : Int) (reached : Bool) : Bool :=
  if reached then true else if t ≤ level - 30 then false else was

/-- Flags of an instance after a reading: 0 warning, 1 throttle, 2 over, 3 its throttling has not ended. -/
def flagsAfter (inst old : Nat) (t : Int) : Nat :=
  let l := thermLevels inst
  let warn := threshold (old.testBit 0) l.warn t (decide (l.warn ≤ t))
  let hot := match l.throttle with
    | some x => threshold (old.testBit 1) x t (decide (x ≤ t))
    | none => false
  let above := threshold (old.testBit 2) l.most t (decide (l.most < t))
  let cutting := decide (inst < 8) && (decide (1000 ≤ t) || (old.testBit 3 && decide (980 < t)))
  boolBit warn + 2 * boolBit hot + 4 * boolBit above + 8 * boolBit cutting

/-- STATE that flags show. -/
def thermState (flags : Nat) : Nat :=
  if flags.testBit 2 then 3 else if flags.testBit 1 then 2 else if flags.testBit 0 then 1 else 0

/-- Records of the levels newly passed. -/
def thermRecords (inst old new : Nat) (t : Int) (s : State) : State :=
  [(0, Code.THERM_WARN), (1, Code.THERM_THROTTLE), (2, Code.THERM_OVER)].foldl (fun s x =>
    if new.testBit x.1 = true ∧ old.testBit x.1 = false then
      raise s x.2 (thermSource inst) [(24, inst), (16, toRaw 16 t)]
    else s) s

/-- A reading judged against the levels of its instance (R562 to R565). -/
def judgeTemp (inst : Nat) (t : Int) (s : State) : State :=
  let old := thermFlags s inst
  let new := flagsAfter inst old t
  let s := wrI 16 s (Reg.THERMAL_TEMP inst) t
  let s := if rdI 16 s (Reg.THERMAL_PEAK inst) < t then wrI 16 s (Reg.THERMAL_PEAK inst) t else s
  let s := modPower s (fun p => { p with flags := Tab.put 0 p.flags inst new })
  let s := if (inst < 8 ∧ new.testBit 1 = true ∧ old.testBit 1 = false) ∨ (inst = 32 ∧ 1000 ≤ t) then
      modPower s (fun p => { p with noted := Tab.put 0 p.noted inst (now s) }) else s
  let s := if rd s (Reg.THERMAL_STATE inst) = 4 then s else wr s (Reg.THERMAL_STATE inst) (thermState new)
  thermRecords inst old new t s

/-- A sample that reaches the trip level of its sensor. -/
def tripSample (sensor temp : Nat) (s : State) : State :=
  let inst := sensorInstance sensor
  if ofRaw 16 temp < (thermLevels inst).trip then s
  else if inst = 32 then (if s.groom.halted then s else groomTrip s)
  else tripSolid inst temp s

/-- TEMP_SAMPLE (R561 to R566). -/
def doTempSample (sensor temp : Nat) (s : State) : State :=
  let inst := sensorInstance sensor
  let s := storeSample sensor temp s
  let s := judgeTemp inst (instanceTemp s sensor temp) s
  let s := if sensor < 64 ∧ 950 ≤ ofRaw 16 temp then abortFacet (sensor / 8) 1 s else s
  tripSample sensor temp s

/-- THERMAL_TRIP: the comparator's sample (R566). -/
def doThermalTrip (sensor temp : Nat) (s : State) : State := tripSample sensor temp s

/-- THROTTLE_STEP (R564): 10 W a millisecond, down while the facet throttles and up again after; with every
class at its minimum THERM_THROTTLE is repeated once per second. -/
def doThrottleStep (f : Nat) (s : State) : State :=
  let cut := Tab.get 0 s.power.cut f
  let last := grantsLast s
  let least := (List.range 5).all (fun c => decide (last.getD (6 * f + c) 0 ≤ rd s (Reg.ARBCLASS_MIN_MW (6 * f + c))))
  if (thermFlags s f).testBit 3 = false then
    modPower s (fun p => { p with cut := Tab.put 0 p.cut f (cut - 10000) })
  else if least = false then
    modPower s (fun p => { p with cut := Tab.put 0 p.cut f (cut + 10000) })
  else if 1000 ≤ rdI 16 s (Reg.THERMAL_TEMP f) ∧ 1000000000 ≤ now s - Tab.get 0 s.power.noted f then
    let s := modPower s (fun p => { p with noted := Tab.put 0 p.noted f (now s) })
    raise s Code.THERM_THROTTLE f [(24, f), (16, rd s (Reg.THERMAL_TEMP f))]
  else s

/-! ## Resets (R569) -/

/-- Elements that flash restores after any reset (R508, R535, R545 to R548). -/
def flashElement (a : Addr) : Bool :=
  match a.obj with
  | 0x1102 => true
  | 0x1103 => true
  | 0x1104 => decide (a.el ≠ 0)
  | 0x1106 => decide (a.el ≠ 0)
  | 0x1101 => decide (a.el < 6)
  | 0x1002 => decide (a.el ≠ 0)
  | 0x0202 => decide (a.el = 2 ∨ a.el = 3)
  | 0x0201 => decide (a.el = 8)
  | 0x0204 => decide (a.el = 6)
  | 0x1202 => decide (a.el = 3)
  | _ => false

/-- Elements that a SOLID reset keeps beside them: the studbook's bounds, which the groom's SRAM holds, the
reference in use, and readings and levels that no reset changes (log entry 34). -/
def solidElement (a : Addr) : Bool :=
  flashElement a || (match a.obj with
    | 0x1003 => decide (a.el ≤ 3 ∨ a.el = 7)
    | 0x0102 => decide (a.el = 2 ∨ a.el = 3)
    | 0x0101 => decide (a.el = 5)
    | 0x0200 => decide (a.el = 4)
    | 0x1202 => decide (a.el = 0)
    | 0x1200 => decide (4 ≤ a.el ∧ a.el ≤ 5)
    | 0x1101 => decide (a.el = 6)
    | 0x0204 => decide (a.el = 2)
    | _ => false)

/-- What a SOLID reset leaves of the sensors' thresholds. -/
def powerAfterReset (s : State) (hot : Bool) : Power :=
  { resetN := s.power.resetN, pwrgd := s.power.pwrgd, tripped := if hot then s.power.tripped else none,
    vinBad := s.power.vinBad, vauxBad := s.power.vauxBad, flags := s.power.flags, straps := s.power.straps }

/-- The studbook after a SOLID reset: full buckets, and ticks counted anew (R490, R493). -/
def bookAfterReset (b : Book) : Book :=
  { b with tokens := [], gained := [], solid := 4096, solidAt := 0, due := [], wrote := b.wrote.map (fun e => (e.1, 0)) }

/-- A SOLID reset with its cause (R569): the groom restarts. -/
def solidReset (cause : Nat) (s : State) : State :=
  let why := if s.power.tripped.isSome then 5 else cause
  let kept : State := { State.reset with
    pending := s.pending, outputs := s.outputs, flash := s.flash, nextFrame := s.nextFrame,
    regs := s.regs.filter (fun e => solidElement e.1),
    book := bookAfterReset s.book,
    groom := { s.groom with up := false, verified := false, kept := [] },
    power := powerAfterReset s (anyWarm s),
    pins := s.pins,
    raised := s.raised.filter (fun r => decide (8 ≤ r.source)) }
  let kept := wr kept Reg.POWER_RESET_CAUSE why
  (List.range 33).foldl (fun s i =>
    let flags := thermFlags s i
    let trip := decide (s.power.tripped = some i) || (decide (i = 32) && s.groom.halted)
    wr s (Reg.THERMAL_STATE i) (if trip then 4 else thermState flags)) kept

/-- VAUX_APPLIED (R569, R570, R590): a COLD reset; the straps are sampled. -/
def doVauxApplied (straps : Nat) (s : State) : State :=
  { State.reset with
    pending := s.pending, outputs := s.outputs, flash := s.flash, nextFrame := s.nextFrame,
    regs := s.regs.filter (fun e => flashElement e.1),
    groom := { up := false, cold := true, activated := s.groom.activated, secrets := s.groom.secrets,
               worked := s.groom.worked, pages := s.groom.pages, suspended := s.groom.suspended,
               saved := s.groom.saved },
    power := { straps := straps } }

/-- RESET_N_FALL (R569, R570, R585). -/
def doResetFall (s : State) : State :=
  if s.power.resetN = false then s
  else
    let s := modPower s (fun p => { p with resetN := false })
    if s.groom.up then solidReset 1 s else s

/-- SUPPLY_FAULT with both readings (R577). -/
def supplyFault (s : State) : State :=
  raise s Code.SUPPLY_FAULT 8 [(16, rd s Reg.POWER_VIN_MV), (16, rd s Reg.POWER_VAUX_MV)]

/-- The islands of a solid whose supply is gone read OFF (R553). -/
def islandsOff (s : State) : State := (List.range 64).foldl (fun s i => wr s (Reg.ISLAND_STATE i) 3) s

/-- PWRGD_IN_FALL (R553, R570). -/
def doPwrgdFall (s : State) : State :=
  if s.power.pwrgd = false then s
  else
    let s := modPower s (fun p => { p with pwrgd := false })
    if s.groom.up then islandsOff (solidReset 3 (supplyFault s)) else s

/-- VAUX_LOSS (R553): the groom is without power too. -/
def doVauxLoss (s : State) : State :=
  let s := if s.power.vauxBad then s else supplyFault s
  islandsOff (solidReset 4 s)

/-- A reset is refused while a trip is latched and a sensor is warm (R567). -/
def tripHolds (s : State) : Bool := s.power.tripped.isSome && anyWarm s

/-- SOLID_RESET_COMMAND, POWER COMMAND 1 (R567, R574). -/
def doSolidReset (s : State) : State := if s.groom.up = false ∨ tripHolds s = true then s else solidReset 2 s

/-! ## Power-up (R570 to R572) -/

/-- EFFECTIVE_RELEASE: both pins are high and the groom runs; the timebase starts from 0. -/
def doEffectiveRelease (s : State) : State :=
  if s.groom.up = false ∨ s.power.phase ≠ 0 ∨ tripHolds s = true then s
  else
    let s := modPower s (fun p => { p with phase := 1, resetN := true, pwrgd := true, tripped := none })
    { s with time := { running := true } }

/-- RAILS_IN_REGULATION: SWITCH and LATTICE islands at SWITCH_VCORE, the others at 0.70 V (R558, R571). -/
def doRails (s : State) : State :=
  if s.power.phase ≠ 1 ∨ s.power.tripped.isSome then s
  else
    let s := modPower s (fun p => { p with phase := 2 })
    (List.range 64).foldl (fun s i =>
      let v := if i % 8 < 2 then rd s Reg.POWER_SWITCH_VCORE else 700
      wr (wr s (Reg.ISLAND_VCORE i) (max v (rd s (Reg.ISLAND_VFLOOR i)))) (Reg.ISLAND_STATE i) 0) s

/-- SELF_TEST_DONE: a facet that fails stays out of service (R38). -/
def doSelfTest (failed : Nat) (s : State) : State :=
  if s.power.phase ≠ 2 ∨ s.power.tripped.isSome then s
  else
    let s := modPower s (fun p => { p with phase := 3 })
    (List.range 8).foldl (fun s f => if failed.testBit f then doFacetOut f s else s) s

/-- HBM_TRAINING_DONE: a stack that fails takes its facet's HBM out of service. -/
def doHbmTraining (failed : Nat) (s : State) : State :=
  if s.power.phase ≠ 3 ∨ s.power.tripped.isSome then s
  else
    let s := modPower s (fun p => { p with phase := 4 })
    (List.range 8).foldl (fun s f => if failed.testBit f then doHbmCgOut f 1 (doHbmCgOut f 0 s) else s) s

/-- The boot set (R541): swapped in where its digest is good, otherwise ignored and recorded. -/
def loadBootset (s : State) : State :=
  match s.groom.saved with
  | none => s
  | some m =>
    let want := rd s Reg.BOOTSET_SAVED_HI * 2 ^ 64 + rd s Reg.BOOTSET_SAVED_LO
    if setDigest m = want then
      let s := applySwap [] { s with shadow := m }
      raise (modPower s (fun p => { p with loaded := true })) Code.BOOTSET_LOADED 8 [(128, want)]
    else raise (wr s Reg.BOOTSET_STATE 2) Code.BOOTSET_BAD 8 []

/-- BOOT_READY (R571 step 5, R572, R577). -/
def doBootReady (s : State) : State :=
  if s.power.phase ≠ 4 ∨ s.power.tripped.isSome then s
  else
    let s := loadBootset (modPower s (fun p => { p with phase := 5 }))
    let s := wr (wr s Reg.POWER_READY 1) Reg.EPOCH_STATE EpochState.STARTING
    raise s Code.SOLID_RESET 0xFF [(8, rd s Reg.POWER_RESET_CAUSE), (8, boolBit s.power.loaded)]

/-! ## Supplies (R573, R577) -/

/-- SUPPLY_OUT_OF_RANGE: outside its range for more than 100 µs. -/
def doSupplyOut (aux : Bool) (mv : Nat) (s : State) : State :=
  if aux then
    let s := wr s Reg.POWER_VAUX_MV mv
    if s.power.vauxBad then s else supplyFault (modPower s (fun p => { p with vauxBad := true }))
  else
    let s := wr s Reg.POWER_VIN_MV mv
    if s.power.vinBad then s else supplyFault (modPower s (fun p => { p with vinBad := true }))

/-- SUPPLY_IN_RANGE. -/
def doSupplyIn (aux : Bool) (mv : Nat) (s : State) : State :=
  if aux then modPower (wr s Reg.POWER_VAUX_MV mv) (fun p => { p with vauxBad := false })
  else modPower (wr s Reg.POWER_VIN_MV mv) (fun p => { p with vinBad := false })

end Sys2Proof.Machine
end

