-- ==== Sys2Proof/Machine/Read.lean ====
section
/-! DEFINITION. Reads of the dictionary (R504 to R509): most elements are stored; the rest are derived
here from what the machine holds, as the chapters' object tables say, and a few reads have an effect. -/

namespace Sys2Proof.Machine

/-- Least and greatest of a measure over a list. -/
def leastOf (top : Nat) (xs : List Nat) : Nat := xs.foldl min top
def greatestOf (xs : List Nat) : Nat := xs.foldl max 0

/-- A word of a map: bit `b` of word `k` is `p (64k + b)`. -/
def mapWord (p : Nat → Bool) (k : Nat) : Nat :=
  (List.range 64).foldl (fun w b => if p (64 * k + b) then w + 2 ^ b else w) 0

/-! ## Units (R16, R17, R41) -/

/-- STATE, REASON and PORTS_UP of a unit. -/
structure UnitView where
  state : Nat
  reason : Nat
  up : Nat
deriving DecidableEq, Repr

/-- A port: the reason of one that is down is that of its unit, administration, or its link. -/
def portView (s : State) (p : Nat) : UnitView :=
  if s.lattice.vetUnits.contains (65536 + p) then ⟨2, 4, 0⟩
  else if s.lattice.outFacets.contains (facetOf p) then ⟨2, 5, 0⟩
  else if s.lattice.vetUnits.contains (2 * 65536 + vertexOf p) then ⟨2, 4, 0⟩
  else if s.lattice.outVertices.contains (vertexOf p) then ⟨2, 3, 0⟩
  else match portStateOf s p with
    | 0 => ⟨0, 0, 1⟩
    | 1 => ⟨1, 2, 1⟩
    | _ => ⟨2, if rd s (Reg.PORT_ADMIN p) = 1 ∨ chordHeld s p = true then 6 else 1, 0⟩

/-- A lane by its port and the directions that exclude it. -/
def laneView (s : State) (l : Nat) : UnitView :=
  let v := portView s (l / 4)
  if v.up = 0 then v
  else
    let rx := (rd s (Reg.PORT_RXMASK (l / 4))).testBit (l % 4)
    let tx := (rd s (Reg.PORT_TXMASK (l / 4))).testBit (l % 4)
    if rx && tx then ⟨0, 0, 1⟩ else if rx || tx then ⟨1, 2, 1⟩ else ⟨2, 2, 1⟩

/-- A unit made of others; its reason is that of its lowest one that is not ACTIVE (log entry 11). -/
def composeViews (vs : List UnitView) : UnitView :=
  ⟨combine (vs.map (fun v => v.state)),
   (match vs.find? (fun v => decide (v.state ≠ 0)) with
    | some v => v.reason
    | none => 0),
   vs.foldl (fun n v => n + v.up) 0⟩

def vertexView (s : State) (v : Nat) : UnitView :=
  if s.lattice.outFacets.contains (v / 16) then ⟨2, 5, 0⟩
  else if s.lattice.vetUnits.contains (2 * 65536 + v) then ⟨2, 4, 0⟩
  else if s.lattice.outVertices.contains v then ⟨2, 3, 0⟩
  else composeViews ((List.range 16).map (fun i => portView s (v * 16 + i)))

def facetView (s : State) (g : Nat) : UnitView :=
  if s.lattice.vetUnits.contains (3 * 65536 + g) then ⟨2, 4, 0⟩
  else if s.lattice.outFacets.contains g then ⟨2, 5, 0⟩
  else
    let v := composeViews ((List.range 16).map (fun i => vertexView s (g * 16 + i)))
    if facetDark s g then ⟨2, 5, v.up⟩ else v

def solidView (s : State) : UnitView := composeViews ((List.range 8).map (facetView s))

/-- The peer's solid: lost while ALONE; otherwise its state is not known here (log entry 33). -/
def peerView (s : State) : UnitView :=
  if rd s Reg.TWIN_STATE = TwinState.ALONE then ⟨2, 1, 0⟩
  else
    let st := (Config.peerState (now s)).val
    ⟨st, if st = 0 then 0 else 1, (Config.peerPortsUp (now s)).val⟩

def unitView (s : State) (inst : Nat) : UnitView :=
  let i := inst % 65536
  match inst / 65536 with
  | 0 => laneView s i
  | 1 => portView s i
  | 2 => vertexView s i
  | 3 => facetView s i
  | 4 => solidView s
  | _ =>
    if rd s Reg.TWIN_STATE = TwinState.NONE then ⟨3, 0, 0⟩
    else composeViews (if rd s Reg.TWIN_POSITION = 1 then [peerView s, solidView s] else [solidView s, peerView s])

/-- The solid's own unit that a UNIT instance names, if it is one: in a twin the member in position 1 numbers its
units after those of the other (R14, R41, log entry 54). -/
def ownUnit (s : State) (inst : Nat) : Option Nat :=
  let b := unitBase s (inst / 65536)
  if b ≤ inst % 65536 ∧ unitInstance (inst - b) = true then some (inst - b) else none

/-- The row of an element, or none where the address is answered NO_OBJECT (R504): a UNIT instance of the twin peer
is not here (log entry 33). -/
def rowHere (s : State) (a : Addr) : Option Row :=
  if a.obj = 0x0100 then (match ownUnit s a.inst with
    | some i => rowOf ⟨0x0100, i, a.el⟩
    | none => none)
  else rowOf a

/-- Width of an element in bits; 0 for an address that is not here. -/
def bitsHere (s : State) (a : Addr) : Nat :=
  match rowHere s a with
  | none => 0
  | some r => 8 * r.bytes

/-- An element of one of the solid's own units, numbers as a twin has them (R14). -/
def readOwnUnit (s : State) (inst el : Nat) : Nat :=
  let level := inst / 65536
  match el with
  | 1 => rd s (Reg.UNIT_INDEX inst) + unitBase s level
  | 2 =>
    if 4 ≤ level then (if level = 4 ∧ rd s Reg.TWIN_STATE ≠ TwinState.NONE then 5 * 65536 else 0xFFFFFFFF)
    else rd s (Reg.UNIT_PARENT inst) + unitBase s (level + 1)
  | 3 => if level = 5 then 0 else twinPort s (rd s (Reg.UNIT_FIRST_PORT inst))
  | 5 => (unitView s inst).up
  | 6 => (unitView s inst).state
  | 7 => (unitView s inst).reason
  | _ => rd s ⟨0x0100, inst, el⟩

def readUnit (s : State) (inst el : Nat) : Nat :=
  match ownUnit s inst with
  | some i => readOwnUnit s i el
  | none => 0

/-! ## The lattice (R44) -/

def readLattice (s : State) (inst el : Nat) : Nat :=
  let f := inst / 8
  let r := inst % 8
  let stored := rd s ⟨0x0103, inst, el⟩
  match el with
  | 1 => (poolsServing s f r).length
  | 3 =>
    if stored = 0 ∧ (List.range 5).any (fun g => decide ((poolGroup s f g).target = some r)) = true then 1 else stored
  | _ => stored

/-! ## Forwarding (R208 to R213) -/

/-- ENTRY of a destination (R184, R208). -/
def destEntry (get : Addr → Nat) (d : Nat) : Nat :=
  get (Reg.DEST_ACTION d) * 2 ^ 29 + get (Reg.DEST_TENCHK d) * 2 ^ 28 + get (Reg.DEST_TEN d) * 2 ^ 18 +
    get (Reg.DEST_TARGET d)

/-- Hold-pool cells of a route group, and of a facet (R198). -/
def groupHeldCells (s : State) (g : Nat) : Nat :=
  sumFrames s (fun f => decide (f.place = .held) && decide (f.group = g)) (fun f => hdrCells f.hdr)

def readRGroup (s : State) (g el : Nat) : Nat :=
  let ms := members s s.sets.stamp g
  match el with
  | 0 => ms.length
  | 1 => (liveMembers s s.sets.stamp g).length
  | 3 => groupHeldCells s g
  | 5 =>
    let n := (liveMembers s s.sets.stamp g).length
    if ms = [] then 0 else if n = ms.length then 1 else if n = 0 then 3 else 2
  | _ =>
    if 64 ≤ el then mapWord (fun p => groupHas s s.sets.stamp g p && live s p) (el - 64)
    else rd s ⟨0x0601, g, el⟩

def readPinSlot (s : State) (i el : Nat) : Nat :=
  match el with
  | 2 => (match Tab.find s.forward.repinEnd i with
    | some t => t - now s
    | none => 0)
  | 3 => boolBit ((List.range 8).any (fun f => !(holdList s (i / 256) (i % 256) f).isEmpty))
  | _ => rd s ⟨0x0602, i, el⟩

/-- FACETS of a multicast group: a facet is four words of the map. -/
def mcastFacets (get : Addr → Nat) (t : Nat) : Nat :=
  (List.range 8).foldl (fun m f =>
    if (List.range 4).any (fun i => decide (get (Reg.MCAST_PORTS t (4 * f + i)) ≠ 0)) then m + 2 ^ f else m) 0

/-- A LEARN entry: static from the set, or learned (R202, R204, R212). -/
def readLearn (s : State) (i el : Nat) : Nat :=
  if rd s (Reg.LEARN_STATE i) = 2 then (if el < 4 then rd s ⟨0x0604, i, el⟩ else if el = 4 then boolBit (s.forward.staticHits.contains i) else 0)
  else match Tab.find s.forward.learned i with
  | none => if el = 0 ∨ 3 < el then 0 else rd s ⟨0x0604, i, el⟩
  | some e => match el with
    | 0 => 1
    | 1 => e.ten
    | 2 => e.mac
    | 3 => e.eid
    | 4 => boolBit e.hit
    | _ => e.sweeps

def readForward (s : State) (el : Nat) : Nat :=
  match el with
  | 1 => repinWindow s
  | 4 => (listed s 0x0604 0 (fun v => decide (v = 2))).length + s.forward.learned.length
  | 5 => leastOf 8192 ((List.range 8).map (fun f => 8192 - holdUsed s f))
  | _ => rd s ⟨0x0605, 0, el⟩

/-! ## Buffers (R240 to R244) -/

def cellsToMib (n : Nat) : Nat := (n + 4095) / 4096

def readTenBuf (s : State) (t el : Nat) : Nat :=
  match el with
  | 2 => greatestOf ((List.range 8).map (fun g => tenantShared s g t))
  | 3 => cellsToMib ((List.range 8).foldl (fun n g => n + tenantSpill s g t) 0)
  | _ => rd s ⟨0x0702, t, el⟩

/-- Queues of a facet in spill state. -/
def spillingQueues (s : State) (g : Nat) : List Nat :=
  (s.egress.queues.filter (fun e => decide (queueFacet e.1 = g) && e.2.spill)).map (fun e => e.1)

def readFacetBuf (s : State) (g el : Nat) : Nat :=
  match el with
  | 0 => sharedTotal s
  | 1 => sharedFree s g
  | 2 => min (rd s (Reg.FACETBUF_SHARED_FREE_LOW g)) (sharedFree s g)
  | 3 => headroomUsed s g
  | 4 => prefetchUsed s g
  | 5 => openUsed s g
  | 6 => mirrorUsed s g
  | 7 => cellsToMib (facetSpill s g)
  | _ => (spillingQueues s g).length

/-- STATE of a queue: 2 while it spills and its next segment could not be written (R230). -/
def queueState (s : State) (q : Nat) : Nat :=
  if (equeue s q).spill = false then 0
  else
    let r := cutAt s 32 0 (spillTail s q)
    let ten := match r.1.head? with
      | some id => (match findFrame s id with
        | some f => hdrTen f.hdr
        | none => 0)
      | none => 0
    if spillStopped s q ten (max 32 (listCells s r.1)) then 2 else 1

def queueCells (s : State) (q : Nat) : Nat := dieCells s q + spillCells s q

def readQueue (s : State) (q el : Nat) : Nat :=
  match el with
  | 0 => dieCells s q
  | 1 => spillCells s q
  | 2 => depthBytes s q
  | 3 => queueState s q
  | _ => max (rd s (Reg.QUEUE_PEAK_CELLS q)) (queueCells s q)

/-! ## Schedulers (R265 to R268) -/

def readPortSched (s : State) (p el : Nat) : Nat :=
  match el with
  | 3 => toRaw 64 (shaper s (ctrlKey p)).credit
  | _ => rd s ⟨0x0800, p, el⟩

def readShaper (s : State) (q el : Nat) : Nat :=
  let x := shaper s q
  match el with
  | 2 => toRaw 64 x.credit
  | 3 => x.slot
  | 5 =>
    if x.swapOld.isSome then 3 else if shaperRate s q = 0 then 0 else if x.slot ≠ 0 then 2 else 1
  | _ => rd s ⟨0x0802, q, el⟩

/-- TOKENS_LOW: the least of a tenant's eight policers. -/
def tokensLow (s : State) (t : Nat) : Int :=
  (List.range 8).foldl (fun m g => min m (policer s t g).tokens) (policer s t 0).tokens

def readPolicer (s : State) (t el : Nat) : Nat :=
  match el with
  | 3 => toRaw 64 (tokensLow s t)
  | _ => rd s ⟨0x0803, t, el⟩

/-! ## Teams (R323 to R326) -/

/-- Chunks of a team in OPEN or SENT. -/
def openChunks (s : State) (t : Nat) : Nat :=
  (s.coll.slots.filter (fun e => decide (e.1 / 1024 = t) && decide (e.2.state ≠ 0))).length

def readMember (s : State) (e el : Nat) : Nat :=
  match el with
  | 6 =>
    let has := fun (c : Nat) => s.coll.notices.any (fun n => decide (n.entry = e) && decide (n.cause = c))
    boolBit (has Cause.TEAM_RETIRED) + 2 * boolBit (has Cause.OUTSIDE_WINDOW)
  | _ => rd s ⟨0x0A01, e, el⟩

def readChunk (s : State) (i el : Nat) : Nat :=
  let k := Tab.get {} s.coll.slots i
  match el with
  | 0 => k.state
  | 1 => k.chunk
  | 2 => k.bits.length
  | 3 => k.tries
  | 4 => homeOf s (i / 1024) (i % 1024)
  | 5 => min (now s - k.entered) 0xFFFFFFFF
  | 6 => boolBit k.reopened
  | 7 => k.outState
  | _ => k.outChunk

/-- Unreserved accumulator room of a facet, in bytes. -/
def roomFree (s : State) (f : Nat) : Nat :=
  (residentBytes s - residentUsed s f 0xFFFF) + (hbmAccBytes s f - hbmAccUsed s f 0xFFFF)

def readTeams (s : State) (el : Nat) : Nat :=
  let fs := homeFacets s
  match el with
  | 0 => (teamsIn s TeamState.ACTIVE).length
  | 1 => reuseGap s
  | 2 => leastOf 8192 (fs.map (fun f => 8192 - slotsUsed s f 0xFFFF))
  | 3 => leastOf ((residentBytes s + rd s Reg.ARITHCFG_ACC_GIB * 2 ^ 30) / 1024) (fs.map (fun f => roomFree s f / 1024))
  | _ => 2097152 - (listed s 0x0A00 2 (fun v => decide (v ≠ 0))).foldl (fun n t => n + (team s t).members) 0

/-! ## Engines (R381 to R385) -/

def readFacetArith (s : State) (f el : Nat) : Nat :=
  match el with
  | 0 => (residentBytes s - residentUsed s f 0xFFFF) / 1024
  | 1 => (hbmAccBytes s f - hbmAccUsed s f 0xFFFF) / 1048576
  | 2 => rd s Reg.ARITHCFG_TRACE_POOL * 4096 - poolUsed s f
  | 3 => (stagedIn s f).length
  | 4 => (enginesIn s f).length
  | 5 => boolBit (homeService s f)
  | _ => rd s ⟨0x0C03, f, el⟩

def readTeamHome (s : State) (t el : Nat) : Nat :=
  match el with
  | 0 => teamHash t
  | 1 => (team s t).place
  | _ => ((team s t).homes.filter (fun f => decide (f = el - 8))).length

/-! ## Sets, links and drains (R424 to R426) -/

def readConfset (s : State) (el : Nat) : Nat :=
  match el with
  | 6 => ((listed s 0x0D03 7 (fun v => decide (v = 2 ∨ v = 4))).filter (fun p =>
      decide (rd s (Reg.LINKSET_EXP_EPOCH p) ≠ 0))).length
  | 8 => leastOf 65536 ((List.range 8).map (fun f =>
      65536 - ((cacheEntries s (fun _ _ => true)).filter (fun e => decide (e.1 / 65536 = f))).length))
  | _ => rd s ⟨0x0D02, 0, el⟩

def readLinkset (s : State) (p el : Nat) : Nat :=
  match el with
  | 7 => if rd s (Reg.LINKSET_EXP_EPOCH p) = 0 then 0 else rd s (Reg.LINKSET_STATE p)
  | 8 => (List.range 9).foldl (fun m v => if vlEmpty s p v then m + 2 ^ v else m) 0
  | _ => rd s ⟨0x0D03, p, el⟩

/-- COMMAND reads 1 while the drain it started is MARKING. -/
def readDrain (s : State) (g el : Nat) : Nat :=
  match el with
  | 0 => boolBit (decide (rd s (Reg.DRAIN_STATE g) = 1))
  | 4 => (untrackedSlots s g).length
  | _ => rd s ⟨0x0D04, g, el⟩

/-! ## Tenants (R444, R445) -/

/-- Tenants of a port's permitted set in a set of values. -/
def permittedCount (get : Addr → Nat) (p : Nat) : Nat :=
  if get (Reg.PORTTEN_ALL p) = 1 then 1024
  else (List.range 16).foldl (fun n k => n + popcount 64 (get (Reg.PORTTEN_PERMIT p k))) 0

def readPortTen (get : Addr → Nat) (p el : Nat) : Nat :=
  match el with
  | 2 =>
    if permittedCount get p ≠ 1 then 0xFFFF
    else (List.range 16).foldl (fun t k =>
      match wordBits (get (Reg.PORTTEN_PERMIT p k)) with
      | b :: _ => 64 * k + b
      | [] => t) 0xFFFF
  | 3 => permittedCount get p
  | _ => get ⟨0x0E00, p, el⟩

def readTenant (s : State) (t el : Nat) : Nat :=
  match el with
  | 1 => ((teamsIn s TeamState.ACTIVE).filter (fun k => decide ((team s k).ten = t))).length
  | 5 => ((List.range 2048).filter (fun p => permitted s s.sets.stamp p t)).length
  | 6 => (listed s 0x0E00 1 (fun v => decide (v = t))).length
  | _ => rd s ⟨0x0E01, t, el⟩

/-! ## The studbook (R501) -/

/-- A 64-bit word of a record, W0 the most significant. -/
def recordWord (r el : Nat) : Nat := field r (64 * (3 - el)) 64

def readRecord (s : State) (r : Option Nat) (el : Nat) : Nat :=
  recordWord (shownRecord (rd s Reg.STUDBOOK_LAST_CLEARED) r) el

/-! ## Pins (R600) -/

def readPackage (s : State) (el : Nat) : Nat :=
  match el with
  | 0 => 0x48 + s.power.straps
  | 1 => boolBit s.power.resetN + 2 * boolBit s.power.pwrgd + 4 * (Config.epochInLevel (now s)).val +
      8 * s.power.straps + 64 * boolBit s.pins.trstN
  | 2 => rd s Reg.POWER_READY + 2 * boolBit (alertN s) + 4 * boolBit s.power.tripped.isSome + 8 * boolBit s.clock.out
  | _ => rd s ⟨0x1300, 0, el⟩

/-! ## One read (R509) -/

/-- Elements that are commands, and the write-only secret: they read 0. -/
def readsZero (a : Addr) : Bool :=
  match a.obj, a.el with
  | 0x0302, _ => decide (8 < a.inst % 16)
  | 0x0903, _ => decide (7 < a.inst % 16)
  | 0x0A00, 0 => true
  | 0x0D01, 0 => true
  | 0x0D04, 0 => true
  | 0x0F00, 12 => true
  | 0x1001, 0 => true
  | 0x1002, 0 => true
  | 0x1003, 6 => true
  | 0x1102, 3 => true
  | 0x1104, 0 => true
  | 0x1106, 0 => true
  | 0x1200, 8 => true
  | _, _ => false

/-- What an element reads as from the active values (R509, SHADOW 0). -/
def readActive (s : State) (a : Addr) : Nat :=
  if readsZero a then 0
  else match a.obj with
  | 0x0100 => readUnit s a.inst a.el
  | 0x0102 => if a.el = 0 then now s else rd s a
  | 0x0200 => if a.el = 1 then twinPort s (rd s a) else rd s a
  | 0x0103 => readLattice s a.inst a.el
  | 0x0300 => if a.el = 3 ∧ isPairPort s a.inst = true then 0 else rd s a
  | 0x0600 => if a.el = 4 then destEntry (rd s) a.inst else rd s a
  | 0x0601 => readRGroup s a.inst a.el
  | 0x0602 => readPinSlot s a.inst a.el
  | 0x0603 => if a.el = 2 then mcastFacets (rd s) a.inst else rd s a
  | 0x0604 => readLearn s a.inst a.el
  | 0x0605 => readForward s a.el
  | 0x0702 => readTenBuf s a.inst a.el
  | 0x0703 => readFacetBuf s a.inst a.el
  | 0x0704 => readQueue s a.inst a.el
  | 0x0800 => readPortSched s a.inst a.el
  | 0x0802 => readShaper s a.inst a.el
  | 0x0803 => readPolicer s a.inst a.el
  | 0x0A00 => if a.el = 29 then openChunks s a.inst else rd s a
  | 0x0A01 => readMember s a.inst a.el
  | 0x0A02 => readChunk s a.inst a.el
  | 0x0A03 => readTeams s a.el
  | 0x0C00 => if a.el = 8 then queuedOn s a.inst else rd s a
  | 0x0C02 => if a.el = 5 then residentBytes s / 1024 else rd s a
  | 0x0C03 => readFacetArith s a.inst a.el
  | 0x0C04 => readTeamHome s a.inst a.el
  | 0x0D00 => if a.el = 6 then twinPort s (rd s a) else rd s a
  | 0x0D02 => readConfset s a.el
  | 0x0D03 => readLinkset s a.inst a.el
  | 0x0D04 => readDrain s a.inst a.el
  | 0x0E00 => readPortTen (rd s) a.inst a.el
  | 0x0E01 => readTenant s a.inst a.el
  | 0x0F00 => if a.el = 1 then bankTick s a.inst else rd s a
  | 0x1001 => if a.el = 1 ∧ vetExists a.inst = false then 5 else rd s a
  | 0x1004 => readRecord s (Tab.find s.book.ring a.inst) a.el
  | 0x1005 => readRecord s (flashRecord s a.inst) a.el
  | 0x1300 => readPackage s a.el
  | _ => rd s a

/-- What an element reads as with SHADOW 1: the shadow copy of a set element, and what is derived from set
elements alone is derived from the shadow (R509). -/
def readShadow (s : State) (a : Addr) : Nat :=
  if inSet a then
    (if a.obj = 0x0600 ∧ a.el = 4 then destEntry (shadowRd s) a.inst else shadowRd s a)
  else if a.obj = 0x0603 ∧ a.el = 2 then mcastFacets (shadowRd s) a.inst
  else if a.obj = 0x0E00 ∧ (a.el = 2 ∨ a.el = 3) then readPortTen (shadowRd s) a.inst a.el
  else readActive s a

def readEl (s : State) (shadow : Bool) (a : Addr) : Nat := if shadow then readShadow s a else readActive s a

/-- Reads that start a measure anew: PEAK, SHARED_FREE_LOW and PEAK_CELLS (R243, R244, R576). -/
def readEffect (s : State) (a : Addr) : State :=
  if a.obj = 0x1202 ∧ a.el = 1 then wr s a (rd s (Reg.THERMAL_TEMP a.inst))
  else if a.obj = 0x0703 ∧ a.el = 2 then wr s a (sharedFree s a.inst)
  else if a.obj = 0x0704 ∧ a.el = 4 then wr s a (queueCells s a.inst)
  else s

end Sys2Proof.Machine
end

