-- ==== Sys2Proof/Machine/Pins.lean ====
section
/-! DEFINITION. Package, Balls and Fibres (R590 to R593): the board management target and the test access
port. -/

namespace Sys2Proof.Machine

/-! ## The board management target -/

/-- A value as bytes, most significant first (R590). -/
def beBytes : Nat → Nat → List Nat
  | 0, _ => []
  | n + 1, v => v / 256 ^ n % 256 :: beBytes n v

/-- Hottest of some THERMAL instances, as 16 bits. -/
def hottest (s : State) (insts : List Nat) : Nat :=
  match insts with
  | [] => 0
  | i :: is => toRaw 16 (is.foldl (fun m k => max m (rdI 16 s (Reg.THERMAL_TEMP k))) (rdI 16 s (Reg.THERMAL_TEMP i)))

/-- CLS_EN as driven: EXTEST holds every one low (R593). -/
def clsDriven (s : State) : Nat :=
  if s.pins.tap = 3 ∧ s.power.resetN = false then 0
  else (List.range 16).foldl (fun m n => m + 2 ^ n * rd s (Reg.CLS_EN_STATE n)) 0

/-- CLS_FLT_N asserted, by module. -/
def clsFaults (s : State) : Nat := (List.range 16).foldl (fun m n => m + 2 ^ n * rd s (Reg.CLS_FLT n)) 0

/-- Status register 0x10 without its STALE bit (R590). -/
def bmiStatus (s : State) : Nat :=
  rd s Reg.POWER_READY + 2 * boolBit (alertN s) + 4 * boolBit s.power.tripped.isSome +
    8 * rd s Reg.POWER_OVER_LIMIT + 32 * boolBit (decide (rd s Reg.FIRMWARE_RUNNING_SLOT = 0xFF)) + 64 * boolBit (epochHoldover s)

/-- The register image as the groom writes it, 0x00 to 0x3F (R590). -/
def bmiImage (s : State) : List Nat :=
  beBytes 2 (rd s Reg.IDENTITY_VENDOR) ++ beBytes 2 (rd s Reg.IDENTITY_PART) ++
  beBytes 1 (rd s Reg.IDENTITY_STEPPING) ++ beBytes 1 (rd s Reg.IDENTITY_MINOR) ++ beBytes 2 0 ++
  beBytes 8 (rd s Reg.IDENTITY_SERIAL) ++
  beBytes 1 (bmiStatus s) ++ beBytes 1 (rd s Reg.POWER_RESET_CAUSE) ++ beBytes 2 (rd s Reg.POWER_INPUT_W) ++
  beBytes 2 (rd s Reg.POWER_VIN_MV) ++ beBytes 2 (rd s Reg.POWER_VAUX_MV) ++
  beBytes 2 (hottest s (List.range 8)) ++ beBytes 2 (hottest s ((List.range 8).map (8 + ·))) ++
  beBytes 2 (hottest s ((List.range 16).map (16 + ·))) ++ beBytes 2 (hottest s [32]) ++
  beBytes 4 (rd s Reg.STUDBOOK_NEXT_SEQ) ++ beBytes 2 (clsDriven s) ++ beBytes 2 (clsFaults s) ++
  List.replicate 24 0

/-- BMI_IMAGE_REFRESH (R591), by the groom while it runs. -/
def doBmiRefresh (s : State) : State :=
  if s.groom.up = false then s else modPins s (fun p => { p with image := bmiImage s, age := 0 })

/-- The image is stale: 5 ms without a refresh. -/
def bmiStale (s : State) : Bool := decide (5000000 ≤ s.pins.age)

/-- A byte of the image that one transaction reads: status bits 2 and 3 and register 0x24 are current. -/
def bmiByte (s : State) (r : Nat) : Nat :=
  if 0x3F < r then 0xFF
  else
    let b := s.pins.image.getD r 0
    if r = 0x10 then
      b % 4 + 4 * boolBit s.power.tripped.isSome + 8 * rd s Reg.POWER_OVER_LIMIT + 16 * boolBit (bmiStale s) +
        b / 32 % 4 * 32
    else if r = 0x24 then clsDriven s / 256
    else if r = 0x25 then clsDriven s % 256
    else b

/-- BMI_READ (R590, R591): the pointer rises by one for each byte. -/
def doBmiRead (pointer count : Nat) (s : State) : State :=
  if rd s Reg.PACKAGE_BMI_EN = 0 then s
  else emit (inc s Reg.PACKAGE_BMI_READS 64) (.bmi ((List.range count).map (fun k => bmiByte s (pointer + k))))

/-- BMI_LINE_HELD_LOW (R592): the record's line is 0 for BMI_SCL, 1 for BMI_SDA. -/
def doBmiHeldLow (scl : Bool) (s : State) : State :=
  raise (inc s Reg.PACKAGE_BMI_FAULTS 32) Code.BMI_BUS_FAULT 8 [(8, if scl then 0 else 1)]

/-! ## The test access port (R593) -/

/-- An instruction is selected; TRST_N is high while the port takes instructions. -/
def selectTap (k : Nat) (s : State) : State := modPins s (fun p => { p with tap := k, trstN := true })

/-- BYPASS: the one-bit register captures 0. -/
def doBypass (s : State) : State := emit (selectTap 0 s) (.jtag "BYPASS" 1 0)

/-- IDCODE: version 0xA, part 0x2048, manufacturer 0x2D5, and the 1 that ends it. -/
def doIdcode (s : State) : State := emit (selectTap 1 s) (.jtag "IDCODE" 32 0xA20485AB)

/-- SAMPLE/PRELOAD: the pins are sampled, and the boundary register is loaded. -/
def doSamplePreload (cells : BitVec 128) (s : State) : State :=
  let sample := Config.boundarySample s.pins.samples
  emit (modPins (selectTap 2 s) (fun p => { p with cells := cells, samples := p.samples + 1 }))
    (.jtag "SAMPLE" 128 sample)

/-- EXTEST: the cells drive the pins, but for every CLS_EN, while RESET_N is low; otherwise BYPASS. -/
def doExtest (s : State) : State :=
  if s.power.resetN then doBypass s
  else
    let s := selectTap 3 s
    let s := (List.range 16).foldl (fun s n => wr s (Reg.CLS_EN_STATE n) 0) s
    emit s (.jtag "EXTEST" 128 s.pins.cells.toNat)

end Sys2Proof.Machine
end

