-- ==== Sys2Proof/Machine/Groom.lean ====
section
/-! DEFINITION. The groom (R512 to R515, R528, R536 to R541): its start and its boot ROM, firmware commands,
signing keys and key slots, and the boot set. -/

namespace Sys2Proof.Machine

/-! ## Key slots (R512 to R515) -/

/-- Slot 0's manufactured secret stands until its SECRET is written (R513). -/
def secretOf (s : State) (k : Nat) : List Byte :=
  bytesBE 32 (match Tab.find s.groom.secrets k with
    | some v => v
    | none => if k = 0 then Config.slot0Secret else 0)

/-- SECRET of a slot has been written; the manufactured one of slot 0 does not count (R515). -/
def secretWritten (s : State) (k : Nat) : Bool := (Tab.find s.groom.secrets k).isSome

/-- W of R514 for a message under slot `key`. -/
def secretMask (s : State) (key counter slot : Nat) : Nat :=
  natBE (hmacSha256 (secretOf s key) (bytesBE 8 counter ++ bytesBE 2 slot))

def keyChanged (slot key : Nat) (s : State) : State := raise s Code.KEY_CHANGED 8 [(16, slot), (16, key)]

/-- An unwrapped secret is written: FLOOR and CEILING start from 0, and an INITIAL slot becomes VALID. -/
def storeSecret (slot value : Nat) (s : State) : State :=
  let s := modGroom s (fun g => { g with secrets := Tab.set g.secrets slot value })
  let s := wr (wr s (Reg.KEY_FLOOR slot) 0) (Reg.KEY_CEILING slot) 0
  if rd s (Reg.KEY_STATE slot) = 3 then wr s (Reg.KEY_STATE slot) 1 else s

/-- A slot authenticates messages (R527 check 2). -/
def keyGood (s : State) (k : Nat) : Bool :=
  decide (k < 2048) && (decide (rd s (Reg.KEY_STATE k) = 1) || decide (rd s (Reg.KEY_STATE k) = 3))

/-- SECRET_WRITE (R513, R514): the value as it was sent, under a slot that may write KEY. -/
def doSecretWrite (slot value key counter : Nat) (s : State) : State :=
  if s.groom.up = false ∨ keyGood s key = false ∨ rd s (Reg.KEY_ROLE key) ≠ 3 then s
  else keyChanged slot key (storeSecret slot (value ^^^ secretMask s key counter slot) s)

/-! ## Signing keys (R537) -/

def signkeyChanged (s : State) : State := raise s Code.SIGNKEY_CHANGED 8 []

/-- PUBKEY_WRITE: only an EMPTY slot takes a key. -/
def doPubkeyWrite (slot value : Nat) (s : State) : State :=
  if s.groom.up = false ∨ rd s (Reg.SIGNKEY_STATE slot) ≠ 0 then s
  else signkeyChanged (wr (wr s (Reg.SIGNKEY_PUBKEY slot) value) (Reg.SIGNKEY_STATE slot) 1)

/-- A slot may be revoked: it is VALID, another VALID slot is left, and it did not sign the running image. -/
def mayRevoke (s : State) (slot : Nat) : Bool :=
  let run := rd s Reg.FIRMWARE_RUNNING_SLOT
  decide (rd s (Reg.SIGNKEY_STATE slot) = 1) &&
    (List.range 4).any (fun k => decide (k ≠ slot) && decide (rd s (Reg.SIGNKEY_STATE k) = 1)) &&
    !(decide (run < 2) && decide (signedKey s (imageBase run) = slot))

/-- SIGNKEY_REVOKE, a write of STATE 2. -/
def doSignkeyRevoke (slot : Nat) (s : State) : State :=
  if s.groom.up = false ∨ mayRevoke s slot = false then s else signkeyChanged (wr s (Reg.SIGNKEY_STATE slot) 2)

/-! ## Firmware commands (R538) -/

/-- The image slot that does not run; in recovery neither does, and slot A is taken (log entry 35). -/
def idleSlot (s : State) : Nat := if rd s Reg.FIRMWARE_RUNNING_SLOT = 0 then 1 else 0

/-- VERIFY. -/
def doVerify (s : State) : State :=
  if s.groom.up = false then s
  else
    let code := imageCheck s (idleSlot s) false
    let s := modGroom (wr s Reg.FIRMWARE_RESULT code) (fun g => { g with verified := decide (code = 0) })
    raise s Code.FW_VERIFIED 8 [(8, code), (64, signedSeq s (imageBase (idleSlot s)))]

/-- ACTIVATE, allowed after VERIFY gave OK. -/
def doActivate (s : State) : State :=
  if s.groom.up = false ∨ s.groom.verified = false then s
  else modGroom (wr s Reg.FIRMWARE_NEXT_SLOT (idleSlot s)) (fun g => { g with activated := true })

/-- CONFIRM, allowed while TRIAL is 1. -/
def doConfirm (s : State) : State :=
  if s.groom.up = false ∨ rd s Reg.FIRMWARE_TRIAL ≠ 1 then s
  else
    let s := wr (wr s Reg.FIRMWARE_TRIAL 0) Reg.FIRMWARE_MIN_SEQ (rd s Reg.FIRMWARE_RUNNING_SEQ)
    let s := if s.groom.activated then s else wr s Reg.FIRMWARE_NEXT_SLOT (rd s Reg.FIRMWARE_RUNNING_SLOT)
    raise s Code.FW_CONFIRMED 8 []

/-- RESTART: the groom goes down until its boot ROM starts it (R539, R540). -/
def doRestart (s : State) : State := if s.groom.up then groomDown s else s

/-- CANCEL withdraws an ACTIVATE not yet booted. -/
def doCancel (s : State) : State :=
  if s.groom.up = false ∨ s.groom.activated = false then s
  else
    let run := rd s Reg.FIRMWARE_RUNNING_SLOT
    let next := if rd s Reg.FIRMWARE_TRIAL = 1 then idleSlot s else run
    modGroom (wr s Reg.FIRMWARE_NEXT_SLOT next) (fun g => { g with activated := false })

/-- CONFIRM_TIMEOUT: an image in trial was not confirmed within CONFIRM_S; the groom restarts (R539). -/
def doConfirmTimeout (s : State) : State :=
  if s.groom.up = false ∨ rd s Reg.FIRMWARE_TRIAL ≠ 1 ∨
      now s < s.groom.startedAt + rd s Reg.FIRMWARE_CONFIRM_S * 1000000000 then s
  else groomDown s

/-! ## The boot ROM (R539) -/

/-- An image slot passes the boot ROM's checks. -/
def bootable (s : State) (slot : Nat) : Bool := decide (imageCheck s slot true = 0)

/-- An image runs. -/
def runImage (slot : Nat) (s : State) : State :=
  let s := wr (wr s Reg.FIRMWARE_RUNNING_SLOT slot) Reg.FIRMWARE_EXEC_BANK slot
  let s := wr s Reg.FIRMWARE_RUNNING_SEQ (signedSeq s (imageBase slot))
  wr s Reg.FIRMWARE_RUNNING_VERSION (flashNat s (imageBase slot + 24) 4)

/-- Both slots fail: recovery. -/
def recover (s : State) : State :=
  let s := wr (wr s Reg.FIRMWARE_RUNNING_SLOT 0xFF) Reg.FIRMWARE_TRIAL 0
  let s := wr (wr s Reg.FIRMWARE_RUNNING_SEQ 0) Reg.FIRMWARE_RUNNING_VERSION 0
  raise s Code.GROOM_RECOVERY 8 []

/-- The previous slot boots in place of another, or the first that verifies. -/
def revertTo (bad good : Nat) (s : State) : State :=
  let s := wr s Reg.FIRMWARE_TRIAL 0
  if bootable s good then
    raise (wr (runImage good s) Reg.FIRMWARE_NEXT_SLOT good) Code.FW_REVERTED 8 [(8, bad), (8, good)]
  else recover s

/-- The boot ROM's choice: an unconfirmed trial gives way to the previous slot; an activated slot boots in
trial; a slot that fails gives way to the other. -/
def bootRom (s : State) : State :=
  let run := rd s Reg.FIRMWARE_RUNNING_SLOT
  let next := rd s Reg.FIRMWARE_NEXT_SLOT % 2
  let fresh := s.groom.activated
  let s := modGroom s (fun g => { g with activated := false })
  if rd s Reg.FIRMWARE_TRIAL = 1 then
    (if bootable s (1 - run) then revertTo run (1 - run) s else revertTo (1 - run) run s)
  else if bootable s next then
    let s := runImage next s
    if fresh then
      raise (wr (wr s Reg.FIRMWARE_TRIAL 1) Reg.FIRMWARE_NEXT_SLOT (1 - next)) Code.FW_ACTIVATED 8 []
    else s
  else revertTo next (1 - next) s

/-- FLOOR of every slot becomes its CEILING once VAUX has been lost (R528). -/
def raiseKeyFloors (s : State) : State :=
  (listed s 0x1102 5 (fun _ => true)).foldl (fun s k => wr s (Reg.KEY_FLOOR k) (rd s (Reg.KEY_CEILING k))) s

/-- Sectors whose erase a trip suspended are erased again in full (R568). -/
def resumeErases (s : State) : State :=
  let ks := s.groom.suspended
  let s := modGroom s (fun g => { g with suspended := [] })
  ks.foldl (fun s k => raise (eraseBookSector s k) Code.ERASE_RESUMED 8 [(16, k)]) s

/-- GROOM_START (R493, R528, R539, R540, R570): one that finds RESET_N or PWRGD_IN low makes the reset that
it missed. -/
def doGroomStart (s : State) : State :=
  if s.groom.up ∨ s.groom.halted then s
  else
    let cold := s.groom.cold
    let s := modGroom s (fun g => { g with
      up := true, cold := false, verified := false, kept := [], startedAt := now s })
    let s := if cold then raiseKeyFloors s else s
    let s := bootRom (trimRaised (startBook cold s))
    let s := resumeErases s
    if s.power.phase = 0 then s
    else if s.power.resetN = false then solidReset 1 s
    else if s.power.pwrgd = false then islandsOff (solidReset 3 s)
    else s

/-! ## The boot set (R541) -/

/-- BOOTSET_SAVE: the active set, with its digest. -/
def doBootsetSave (s : State) : State :=
  if s.groom.up = false then s
  else
    let m := s.regs.filter (fun e => inDigest e.1)
    let d := setDigest m
    let s := modGroom s (fun g => { g with saved := some m })
    let s := wr (wr s Reg.BOOTSET_SAVED_HI (d / 2 ^ 64)) Reg.BOOTSET_SAVED_LO (d % 2 ^ 64)
    wr (wr s Reg.BOOTSET_SAVED_EPOCH (rd s Reg.CONFSET_ACTIVE_EPOCH)) Reg.BOOTSET_STATE 1

/-- BOOTSET_ERASE. -/
def doBootsetErase (s : State) : State :=
  if s.groom.up = false then s
  else
    let s := modGroom s (fun g => { g with saved := none })
    let s := wr (wr s Reg.BOOTSET_SAVED_HI 0) Reg.BOOTSET_SAVED_LO 0
    wr (wr s Reg.BOOTSET_SAVED_EPOCH 0) Reg.BOOTSET_STATE 0

/-- MGMT_LINK_CHANGE (R549). -/
def doMgmtLink (m : Nat) (up : Bool) (s : State) : State :=
  if rd s (Reg.MGMTPORT_LINK m) = boolBit up then s
  else raise (wr s (Reg.MGMTPORT_LINK m) (boolBit up)) Code.MGMT_LINK 8 []

end Sys2Proof.Machine
end

