-- ==== Sys2Proof/Machine/Access.lean ====
section
/-! DEFINITION. Writes to the dictionary (R504 to R511, R524): the checks of a SET item by item, the rules
that judge an item against the values the whole SET would leave, and what each write starts. -/

namespace Sys2Proof.Machine

/-- Outcome codes (R526). -/
abbrev Status.OK : Nat := 0x00
abbrev Status.UNKNOWN_OP : Nat := 0x01
abbrev Status.MALFORMED : Nat := 0x02
abbrev Status.REPLAY : Nat := 0x03
abbrev Status.ACCESS : Nat := 0x04
abbrev Status.NO_OBJECT : Nat := 0x05
abbrev Status.READ_ONLY : Nat := 0x06
abbrev Status.WRITE_ONLY : Nat := 0x07
abbrev Status.RANGE : Nat := 0x08
abbrev Status.REFUSED : Nat := 0x09
abbrev Status.LOCKED : Nat := 0x0A
abbrev Status.BUSY : Nat := 0x0B
abbrev Status.TOO_BIG : Nat := 0x0C
abbrev Status.BANK_XIP_BUSY : Nat := 0x0D
abbrev Status.FLASH : Nat := 0x0E
abbrev Status.TEN_MISMATCH : Nat := 0x0F

/-- One write of a SET: address, LEN of its item, value as a number. -/
structure Write where
  addr : Addr
  len : Nat
  value : Nat
deriving DecidableEq, Repr

/-- Instances inside the declared range that a chapter describes as absent (R504). -/
def absentInstance (s : State) (a : Addr) : Bool :=
  match a.obj with
  | 0x0100 => decide (a.inst / 65536 = 5) && decide (rd s Reg.TWIN_STATE = TwinState.NONE)
  | 0x0103 => decide (a.inst / 8 = a.inst % 8)
  | 0x0302 => decide (8 < a.inst % 16)
  | 0x0901 => decide (48 ≤ a.inst ∧ a.inst < 64)
  | 0x0903 => decide (7 < a.inst % 16)
  | 0x1001 => !vetExists a.inst
  | 0x1006 => !definedCodes.contains a.inst
  | _ => false

/-- A command that stands in the way of the write (R526, R567, R399, R83). -/
def writeBusy (s : State) (a : Addr) (v : Nat) : Bool :=
  match a.obj, a.el with
  | 0x0201, 5 => decide (rd s (Reg.FEED_STATE a.inst) = 3)
  | 0x0D01, 0 => decide (rd s Reg.SWAP_STATE = 1 ∨ rd s Reg.SWAP_STATE = 4 ∨ rd s Reg.SWAP_STATE = 5)
  | 0x1200, 8 => decide (v = 1) && tripHolds s
  | _, _ => false

/-- The checks of R524 that one item decides alone. OBSERVER and TENANT write nothing (R511). -/
def itemStatus (s : State) (role : Nat) (initial : Bool) (w : Write) : Nat :=
  match rowHere s w.addr with
  | none => Status.NO_OBJECT
  | some r =>
    if w.len ≠ r.bytes then Status.MALFORMED
    else if role < 2 ∨ role < r.role ∨ (initial = true ∧ w.addr.obj ≠ 0x1102) then Status.ACCESS
    else if r.access = .RO then Status.READ_ONLY
    else if r.kind = .configSet ∧ s.sets.locked = true then Status.LOCKED
    else if writeBusy s w.addr w.value then Status.BUSY
    else if r.inRange w.value = false then Status.RANGE
    else if absentInstance s w.addr then Status.REFUSED
    else Status.OK

/-! ## Values after a SET -/

/-- The elements that a write of ENTRY sets (R184, R208); any other write sets its own element. -/
def expandWrite (w : Write) : List (Addr × Nat) :=
  if w.addr.obj = 0x0600 ∧ w.addr.el = 4 then
    [(Reg.DEST_ACTION w.addr.inst, field w.value 29 3), (Reg.DEST_TENCHK w.addr.inst, field w.value 28 1),
     (Reg.DEST_TEN w.addr.inst, field w.value 18 10), (Reg.DEST_TARGET w.addr.inst, field w.value 0 16)]
  else [(w.addr, w.value)]

/-- A value goes to the shadow, or to the element itself (R509). -/
def storeOne (s : State) (e : Addr × Nat) : State :=
  if inSet e.1 then { s with shadow := s.shadow.put e.1 e.2 } else wr s e.1 e.2

def storeWrite (s : State) (w : Write) : State := (expandWrite w).foldl storeOne s

/-- The stored values with every item of a message applied, the shadow for a set element (R524). -/
def valueAfter (s : State) (ws : List Write) : Addr → Nat :=
  let t := ws.foldl storeWrite s
  fun a => if inSet a then shadowRd t a else rd t a

/-- A write of an element is among the items. -/
def writes (ws : List Write) (a : Addr) : Bool := ws.any (fun w => decide (w.addr = a))
def writesValue (ws : List Write) (a : Addr) (v : Nat) : Bool :=
  ws.any (fun w => decide (w.addr = a) && decide (w.value = v))

/-! ## Rules of the chapters (R526 code 0x09) -/

/-- At least one slot would be left VALID and of role OFFICER, or none was (R515). -/
def officerSlots (get : Addr → Nat) (slots : List Nat) : List Nat :=
  slots.filter (fun k => decide (get (Reg.KEY_STATE k) = 1) && decide (get (Reg.KEY_ROLE k) = 3))

/-- Key slots that hold something or that the items name. -/
def keySlots (s : State) (ws : List Write) : List Nat :=
  (0 :: listed s 0x1102 0 (fun _ => true) ++
    (ws.filter (fun w => decide (w.addr.obj = 0x1102))).map (fun w => w.addr.inst)).eraseDups

/-- The number of VALID OFFICER slots would fall to none. -/
def lastOfficer (s : State) (ws : List Write) : Bool :=
  let after := valueAfter s ws
  let get := fun (a : Addr) =>
    if a.el = 0 ∧ after a = 3 ∧ writes ws (Reg.KEY_SECRET a.inst) = true then 1 else after a
  let slots := keySlots s ws
  !(officerSlots (rd s) slots).isEmpty && (officerSlots get slots).isEmpty

/-- A KEY write that R515 names: it changes STATE or ROLE of a slot that was VALID and OFFICER. -/
def namesOfficer (s : State) (w : Write) : Bool :=
  decide (w.addr.el < 2) && decide (rd s (Reg.KEY_STATE w.addr.inst) = 1) &&
    decide (rd s (Reg.KEY_ROLE w.addr.inst) = 3) && decide (rd s w.addr ≠ w.value)

def keyRefused (s : State) (ws : List Write) (w : Write) : Bool :=
  (decide (w.addr.el = 0) && decide (w.value = 3)) ||
    (decide (w.addr.el = 0) && decide (w.value = 1) && !secretWritten s w.addr.inst &&
      !writes ws (Reg.KEY_SECRET w.addr.inst)) ||
    (namesOfficer s w && lastOfficer s ws)

/-- STATE of a signing slot after the items. -/
def signStateAfter (s : State) (ws : List Write) (k : Nat) : Nat :=
  if writesValue ws (Reg.SIGNKEY_STATE k) 2 then 2
  else if writes ws (Reg.SIGNKEY_PUBKEY k) then 1 else rd s (Reg.SIGNKEY_STATE k)

def signkeyRefused (s : State) (ws : List Write) (w : Write) : Bool :=
  let k := w.addr.inst
  if w.addr.el = 1 then decide (rd s (Reg.SIGNKEY_STATE k) ≠ 0)
  else
    let run := rd s Reg.FIRMWARE_RUNNING_SLOT
    decide (w.value ≠ 2) || decide (rd s (Reg.SIGNKEY_STATE k) ≠ 1) ||
      (List.range 4).all (fun j => decide (signStateAfter s ws j ≠ 1)) ||
      (decide (run < 2) && decide (signedKey s (imageBase run) = k))

/-- Elements 1 to 3 of LEARN go only with STATE 2, and a static entry only to its key's bucket (R212). -/
def learnRefused (after : Addr → Nat) (ws : List Write) (w : Write) : Bool :=
  let i := w.addr.inst
  if w.addr.el = 0 ∧ w.value < 2 then decide (w.value = 1)
  else !writesValue ws (Reg.LEARN_STATE i) 2 ||
    decide (learnBucket (after (Reg.LEARN_TEN i)) (after (Reg.LEARN_MAC i)) ≠ i / 4)

/-- Three LONG ports in the vertex of a port, one of them written by the items (R104). -/
def longRefused (after : Addr → Nat) (ws : List Write) (p : Nat) : Bool :=
  let ps := (List.range 16).map (fun i => p / 16 * 16 + i)
  decide (2 < (ps.filter (fun q => decide (after (Reg.PORT_LONG q) = 1))).length) &&
    ps.any (fun q => writesValue ws (Reg.PORT_LONG q) 1)

/-- A rule of the element's chapter refuses an item, judged against the values that all the items leave. -/
def ruleRefuses (s : State) (ws : List Write) (w : Write) : Bool :=
  let after := valueAfter s ws
  let i := w.addr.inst
  let el := w.addr.el
  match w.addr.obj with
  | 0x0103 => decide (5 < (List.range 8).foldl (fun n r => n + after (Reg.LATTICE_POOL_PIN (i / 8 * 8 + r))) 0)
  | 0x0300 => decide (el = 2) && longRefused after ws i
  | 0x0600 =>
    [0, 3, 4].contains el && decide (after (Reg.DEST_ACTION i) = 1) && decide (4095 < after (Reg.DEST_TARGET i))
  | 0x0604 => learnRefused after ws w
  | 0x0701 => decide (el = 2) && decide (w.value = 1) && decide (48 ≤ i) && decide (i < 64)
  | 0x0801 => decide (48 ≤ i) && decide (i < 64) && (decide (el = 0) || decide (w.value = 0))
  | 0x0900 => writesValue ws (Reg.FLOWPORT_DATELINE i) 1 && decide (after (Reg.FLOWPORT_DATELINE i) = 1) &&
      decide (after (Reg.FLOWPORT_ORIENT i) ≠ 3)
  | 0x0901 => decide (el < 2) && decide (after (Reg.ECNCLASS_MARK_HI i) ≤ after (Reg.ECNCLASS_MARK_LO i))
  | 0x0A01 => (listed s 0x0A00 2 (fun v => decide (v ≠ 0))).any (fun t =>
      decide ((team s t).firstMember ≤ i) && decide (i < (team s t).firstMember + (team s t).members))
  | 0x0D04 => decide (rd s (Reg.DRAIN_STATE i) = 1)
  | 0x0E00 => decide (el = 1) && decide (1024 ≤ w.value) && decide (w.value < 0xFFFF)
  | 0x0F01 => [0, 1, 5].contains el && !counterLawful (bankType (i / 8 % 26)) (after (Reg.CCOUNTER_SELECT i))
      (after (Reg.CCOUNTER_UNIT i)) (after (Reg.CCOUNTER_TENFILT i))
  | 0x0F03 => decide (w.value ≤ rd s Reg.EPOCH_NUMBER)
  | 0x1006 => decide (i = Code.FADE_WARN) && decide (el = 2) && decide (w.value = 0)
  | 0x1101 => decide (el = 0) && decide (after (Reg.MGMTPORT_ENABLE 0) = 0) && decide (after (Reg.MGMTPORT_ENABLE 1) = 0)
  | 0x1102 => keyRefused s ws w
  | 0x1103 => signkeyRefused s ws w
  | 0x1104 => decide (el = 0) && ((decide (w.value = 2) && !s.groom.verified) ||
      (decide (w.value = 3) && decide (rd s Reg.FIRMWARE_TRIAL ≠ 1)))
  | _ => false

/-- The outcome of a SET: the first item that fails, in item order, with its number (R524). -/
def setStatusFrom (s : State) (role : Nat) (initial : Bool) (ws : List Write) : Nat → List Write → Nat × Nat
  | _, [] => (Status.OK, 0)
  | n, w :: rest =>
    let st := itemStatus s role initial w
    if st ≠ Status.OK then (st, n)
    else if ruleRefuses s ws w then (Status.REFUSED, n)
    else setStatusFrom s role initial ws (n + 1) rest

def setStatus (s : State) (role : Nat) (initial : Bool) (ws : List Write) : Nat × Nat :=
  setStatusFrom s role initial ws 0 ws

/-! ## What a write starts -/

/-- TEAM COMMAND (R301). -/
def teamCommand (t v : Nat) (s : State) : State :=
  match v with
  | 1 => doSetup t s
  | 2 => doRetire t s
  | 3 => doRevise t s
  | 4 => doFree t s
  | _ => s

/-- FEED COMMAND (R83). -/
def feedCommand (feed v : Nat) (s : State) : State :=
  match v with
  | 1 => doMigrate feed s
  | 2 => doCommission feed 0 s
  | 3 => doCommission feed 1 s
  | _ => s

/-- FIRMWARE COMMAND but RESTART, which follows the response (R519, R538). -/
def firmwareCommand (v : Nat) (s : State) : State :=
  match v with
  | 1 => doVerify s
  | 2 => doActivate s
  | 3 => doConfirm s
  | 5 => doCancel s
  | _ => s

/-- A set point is written to a module that answers (R86). -/
def writeSetpoint (n v : Nat) (s : State) : State :=
  let s := wr s (Reg.CLS_SETPOINT n) v
  if (Tab.get {} s.light.modules n).answered then emit s (.clsWrite n 0x50 v) else s

/-- Where a write does more than store its value: what it does, under key slot `key` (R509, R524). -/
def writeEffect (key : Nat) (a : Addr) (v : Nat) : Option (State → State) :=
  let i := a.inst
  match a.obj, a.el with
  | 0x0102, 1 => some (doRefPrimary v)
  | 0x0201, 5 => some (feedCommand i v)
  | 0x0204, 0 => some (if v = 1 then doClsEnable i else doClsDisable i)
  | 0x0204, 6 => some (writeSetpoint i v)
  | 0x0300, 1 => some (if v = 1 then doAdminDown i else doAdminUp i)
  | 0x0601, 2 => some (if v = 1 then doHoldSet i else doHoldClear i)
  | 0x0A00, 0 => some (teamCommand i v)
  | 0x0C00, 1 => some (if v = 1 then doEngineOut i else doEngineReturn i)
  | 0x0C01, 1 => some (if v = 1 then doYokeOut i else doYokeReturn i)
  | 0x0D01, 0 => some (fun s => if v = 1 then doSwapArm s else if v = 2 then doSwapDisarm s else s)
  | 0x0D04, 0 => some (fun s => if v = 1 then doDrainStart i s else s)
  | 0x0F00, 12 => some (fun s => if v = 1 then doBankClear i s else s)
  | 0x0F03, 0 => some (doCaptureArm v)
  | 0x1001, 0 => some (fun s => if v = 1 then doVetRequest i s else if v = 2 then doVetWithdraw i s else s)
  | 0x1002, 0 => some (fun s => if v = 1 then doPackVerify false s else s)
  | 0x1003, 6 => some (fun s => if v = 1 then doStudbookClear key s else s)
  | 0x1003, 8 => some (doAlertAck v)
  | 0x1006, 0 => some (clipBurst i v)
  | 0x1102, 3 => some (fun s => keyChanged i key (storeSecret i v s))
  | 0x1102, _ => some (fun s => keyChanged i key (wr s a v))
  | 0x1103, 0 => some (doSignkeyRevoke i)
  | 0x1103, _ => some (doPubkeyWrite i v)
  | 0x1104, 0 => some (firmwareCommand v)
  | 0x1106, 0 => some (fun s => if v = 1 then doBootsetSave s else if v = 2 then doBootsetErase s else s)
  | 0x1200, 1 => some (fun s => applySwitchVcore (wr s a v))
  | 0x1200, 8 => some (fun s => s)
  | _, _ => none

/-- Counters that the items write, each once. -/
def countersWritten (ws : List Write) : List Nat :=
  ((ws.filter (fun w => decide (w.addr.obj = 0x0F01))).map (fun w => w.addr.inst)).eraseDups

/-- The items take effect at one tick: values are stored, counters programmed, and what the other writes
start is started in item order. -/
def applyWrites (key : Nat) (ws : List Write) (s : State) : State :=
  let plain := ws.filter (fun w => (writeEffect key w.addr w.value).isNone && decide (w.addr.obj ≠ 0x0F01))
  let s := plain.foldl storeWrite s
  let s := (countersWritten ws).foldl (fun s c =>
    doCounterProgram (c / 8) (c % 8)
      ((ws.filter (fun w => decide (w.addr.obj = 0x0F01) && decide (w.addr.inst = c))).map
        (fun w => (w.addr.el, w.value))) s) s
  ws.foldl (fun s w => match writeEffect key w.addr w.value with
    | some f => f s
    | none => s) s

/-- The items of a SET that failed: a COMMAND refused because its position is MIGRATING sets RESULT (R83). -/
def setRefused (ws : List Write) (outcome : Nat × Nat) (s : State) : State :=
  match ws[outcome.2]? with
  | some w =>
    if outcome.1 = Status.BUSY ∧ w.addr = Reg.FEED_COMMAND w.addr.inst then refuseBusy w.addr.inst w.value s else s
  | none => s

/-- Writes whose effect stops the groom follow the response (R519). -/
def afterResponse (ws : List Write) (s : State) : State :=
  ws.foldl (fun s w =>
    if w.addr = Reg.FIRMWARE_COMMAND ∧ w.value = 4 then doRestart s
    else if w.addr = Reg.POWER_COMMAND ∧ w.value = 1 then doSolidReset s
    else s) s

/-- REGISTER_WRITE (R509): one write that passes the checks of a SET by a principal that may make it. A SECRET
has a row of its own, for it needs its message (R514). -/
def doRegisterWrite (a : Addr) (v : Nat) (s : State) : State :=
  let ws : List Write := [⟨a, bitsOf a / 8, v⟩]
  let st := setStatus s 3 false ws
  if s.groom.up = false ∨ (a.obj = 0x1102 ∧ a.el = 3) ∨ 2 ^ bitsOf a ≤ v then s
  else if st ≠ (Status.OK, 0) then setRefused ws st s
  else afterResponse ws (applyWrites (Config.writerKey (now s)).val ws s)

end Sys2Proof.Machine
end

