-- ==== Sys2Proof/Machine/Sirgo.lean ====
section
/-! DEFINITION. Sirgo messages (R516 to R534): packets of the management ports, the request queue, the checks
of a message in their order, its items and bulk transfers, and its response. -/

namespace Sys2Proof.Machine

/-! ## The message (R520, R522) -/

/-- A big-endian field of a byte string. -/
def bytesAt (bs : List Byte) (off n : Nat) : Nat := natBE ((bs.drop off).take n)

def msgOp (bs : List Byte) : Nat := bytesAt bs 3 1
def msgFlags (bs : List Byte) : Nat := bytesAt bs 4 1
def msgKey (bs : List Byte) : Nat := bytesAt bs 6 2
def msgCounter (bs : List Byte) : Nat := bytesAt bs 8 8
def msgReqId (bs : List Byte) : Nat := bytesAt bs 16 4
def msgItems (bs : List Byte) : Nat := bytesAt bs 20 2
def msgMlen (bs : List Byte) : Nat := bytesAt bs 22 2
def msgBody (bs : List Byte) : List Byte := (bs.drop 32).take (bs.length - 48)

/-- Operations (R521). -/
abbrev Op.GET : Nat := 1
abbrev Op.SET : Nat := 2
abbrev Op.GET_RANGE : Nat := 3
abbrev Op.BULK_WRITE : Nat := 4
abbrev Op.BULK_READ : Nat := 5

/-- The MAC of R520 over everything before it. -/
def msgMac (secret bs : List Byte) : List Byte := (hmacSha256 secret bs).take 16

/-- An item of a message. -/
structure Item where
  addr : Addr
  shadow : Bool
  data : List Byte
deriving DecidableEq, Repr

/-- The items of a body; none where they do not fill it (R522). -/
def parseItems : Nat → List Byte → Option (List Item)
  | _, [] => some []
  | 0, _ => none
  | n + 1, bs =>
    let len := bytesAt bs 7 1
    let size := 8 + (len + 7) / 8 * 8
    if bs.length < 8 ∨ bs.length < size then none
    else match parseItems n (bs.drop size) with
    | none => none
    | some rest =>
      some (⟨⟨bytesAt bs 0 2, bytesAt bs 2 3, bytesAt bs 5 1⟩, (bytesAt bs 6 1).testBit 0, (bs.drop 8).take len⟩ :: rest)

/-- An item as bytes. -/
def itemBytes (a : Addr) (shadow : Bool) (data : List Byte) : List Byte :=
  bytesBE 2 a.obj ++ bytesBE 3 a.inst ++ bytesBE 1 a.el ++ bytesBE 1 (boolBit shadow) ++ bytesBE 1 data.length ++
    data ++ List.replicate ((data.length + 7) / 8 * 8 - data.length) 0#8

/-- What a response says. -/
structure Reply where
  status : Nat
  detail : Nat := 0
  flags : Nat := 0
  items : Nat := 0
  body : List Byte := []
deriving DecidableEq, Repr

/-! ## Reads (R441, R507, R511, R525) -/

/-- Destinations whose entry checks a tenant. -/
def tenantDests (s : State) (t : Nat) : List Nat :=
  (listed s 0x0600 1 (fun v => decide (v = 1))).filter (fun d => decide (rd s (Reg.DEST_TEN d) = t))

/-- A route group is the TARGET of a FORWARD entry of the tenant. -/
def tenantGroup (s : State) (t g : Nat) : Bool :=
  (tenantDests s t).any (fun d => decide (rd s (Reg.DEST_ACTION d) = 1) && decide (rd s (Reg.DEST_TARGET d) = g))

/-- A context that is not FREE and has the tenant's TEN. -/
def tenantTeam (s : State) (t k : Nat) : Bool := decide (teamState s k ≠ 0) && decide ((team s k).ten = t)

def tenantCounter (s : State) (t c : Nat) : Bool := decide (rd s (Reg.CCOUNTER_TENFILT c) = t)

/-- What a TENANT may read of a bank, or of its mirror: its own counters, and TICK and the mirror's EPOCH, FLAGS
and CFG_GEN where one is its own. -/
def tenantBank (s : State) (t bank el first : Nat) (shared : List Nat) : Bool :=
  if shared.contains el then (List.range 8).any (fun i => tenantCounter s t (bank * 8 + i))
  else decide (first ≤ el) && decide (el < first + 8) && tenantCounter s t (bank * 8 + (el - first))

/-- The scope of a TENANT principal (R441). -/
def inScope (s : State) (t : Nat) (a : Addr) : Bool :=
  match a.obj with
  | 0x0E01 => decide (a.inst = t)
  | 0x0702 => decide (a.inst = t)
  | 0x0803 => decide (a.inst = t)
  | 0x0A00 => tenantTeam s t a.inst
  | 0x0B00 => tenantTeam s t a.inst
  | 0x0C04 => tenantTeam s t a.inst
  | 0x0D06 => tenantTeam s t a.inst
  | 0x0A02 => tenantTeam s t (a.inst / 1024)
  | 0x0A01 => (listed s 0x0A00 2 (fun v => decide (v ≠ 0))).any (fun k =>
      tenantTeam s t k && decide ((team s k).firstMember ≤ a.inst) &&
        decide (a.inst < (team s k).firstMember + (team s k).members))
  | 0x0600 => decide (rd s (Reg.DEST_TENCHK a.inst) = 1) && decide (rd s (Reg.DEST_TEN a.inst) = t)
  | 0x0601 => tenantGroup s t a.inst
  | 0x0D04 => tenantGroup s t a.inst
  | 0x0602 => tenantGroup s t (a.inst / 256)
  | 0x0603 => decide (rd s (Reg.MCAST_GTEN a.inst) = t)
  | 0x0F01 => tenantCounter s t a.inst
  | 0x0F00 => tenantBank s t a.inst a.el 2 [1]
  | 0x0F02 => tenantBank s t (a.inst / 5) a.el 8 [0, 1, 2, 3]
  | _ => false

/-- The outcome of one read (R504, R507, R511). -/
def readStatus (s : State) (role ten : Nat) (a : Addr) : Nat :=
  match rowHere s a with
  | none => Status.NO_OBJECT
  | some r =>
    if role < r.role ∨ (role = 1 ∧ inScope s ten a = false) then Status.ACCESS
    else if r.access = .WO then Status.WRITE_ONLY
    else Status.OK

/-- The item that answers a read. -/
def answerItem (s : State) (shadow : Bool) (a : Addr) : List Byte :=
  itemBytes a shadow (bytesBE (bitsHere s a / 8) (readEl s shadow a))

/-- GET: items in order; the first that fails ends the message (R524). -/
def getItems (role ten : Nat) : Nat → List Item → State → List Byte → State × Reply
  | n, [], s, body => (s, { status := Status.OK, items := n, body := body })
  | n, x :: rest, s, body =>
    if x.data ≠ [] then (s, { status := Status.MALFORMED, detail := n })
    else
      let st := readStatus s role ten x.addr
      if st ≠ Status.OK then (s, { status := st, detail := n })
      else getItems role ten (n + 1) rest (readEffect s x.addr) (body ++ answerItem s x.shadow x.addr)

/-- What a GET_RANGE has gathered. -/
structure RangeRun where
  s : State
  body : List Byte := []
  items : Nat := 0
  skipped : Nat := 0
  more : Bool := false

/-- One element of a GET_RANGE. -/
def rangeStep (limit role ten : Nat) (shadow : Bool) (x : RangeRun) (a : Addr) : RangeRun :=
  if x.more ∨ (rowHere x.s a).isNone = true then x
  else if readStatus x.s role ten a ≠ Status.OK then { x with skipped := x.skipped + 1 }
  else
    let b := answerItem x.s shadow a
    if limit < 48 + x.body.length + b.length then { x with more := true }
    else { x with s := readEffect x.s a, body := x.body ++ b, items := x.items + 1 }

/-- GET_RANGE (R525). -/
def getRange (limit role ten : Nat) (items : List Item) (s : State) : State × Reply :=
  match items with
  | [x] =>
    if x.data.length ≠ 4 then (s, { status := Status.MALFORMED })
    else if objects.all (fun o => decide (o.index ≠ x.addr.obj)) then (s, { status := Status.NO_OBJECT })
    else
      let n := bytesAt x.data 0 2
      let k := bytesAt x.data 2 1
      let r := (List.range n).foldl (fun r i => (List.range k).foldl (fun r e =>
        rangeStep limit role ten x.shadow r ⟨x.addr.obj, x.addr.inst + i, x.addr.el + e⟩) r) { s := s }
      (r.s, { status := Status.OK, detail := r.skipped, flags := if r.more then 2 else 0, items := r.items, body := r.body })
  | _ => (s, { status := Status.MALFORMED })

/-! ## Writes -/

/-- The writes that a SET's items make; a SECRET is unwrapped (R514). -/
def itemWrite (s : State) (key counter : Nat) (x : Item) : Write :=
  let v := natBE x.data
  ⟨x.addr, x.data.length,
   if x.addr.obj = 0x1102 ∧ x.addr.el = 3 then v ^^^ secretMask s key counter x.addr.inst else v⟩

/-! ## Bulk transfers (R523, R530 to R534) -/

/-- A bulk request's region, data length and offset. -/
def bulkRegion (body : List Byte) : Nat := bytesAt body 0 1
def bulkLen (body : List Byte) : Nat := bytesAt body 2 2
def bulkOffset (body : List Byte) : Nat := bytesAt body 4 4

/-- The first check that a bulk transfer fails, of those that writes and reads share: `unit` is the
granularity and `size` the length its body must have. -/
def bulkStatus (role : Nat) (initial : Bool) (items size unit : Nat) (body : List Byte) (need : FlashRegion → Nat) : Nat :=
  let len := bulkLen body
  let off := bulkOffset body
  if items ≠ 1 ∨ body.length ≠ size ∨ len % unit ≠ 0 ∨ 7936 < len then Status.MALFORMED
  else match flashRegions[bulkRegion body]? with
  | none => Status.NO_OBJECT
  | some r =>
    if r.bytes < off + len then Status.NO_OBJECT
    else if role = 1 ∨ role < need r ∨ initial = true then Status.ACCESS
    else if off % unit ≠ 0 then Status.RANGE
    else Status.OK

/-- A region that a bulk write may not touch now (R532). -/
def regionBusy (s : State) (region : Nat) : Bool :=
  if region < 2 then
    decide (rd s Reg.FIRMWARE_RUNNING_SLOT = region) ||
      (s.groom.activated && decide (rd s Reg.FIRMWARE_NEXT_SLOT = region))
  else decide (rd s Reg.VETPACK_ACTIVE_SLOT = region - 2) || packInUse s (region - 2)

/-- Every page of a write is blank, or in the sector that the write first erases (R532). -/
def pagesBlank (s : State) (a len : Nat) : Bool :=
  (List.range (len / 256)).all (fun i =>
    pageBlank s (a / 256 + i) || (decide (a % 65536 = 0) && decide ((a + 256 * i) / 65536 = a / 65536)))

/-- BULK_WRITE. `flashFails`: a program or erase fails. -/
def bulkWriteBody (role : Nat) (initial stub flashFails : Bool) (items : Nat) (body : List Byte) (s : State) :
    State × Reply :=
  let st := bulkStatus role initial items (8 + bulkLen body) 256 body (fun r => r.writeRole)
  if st ≠ Status.OK then (s, { status := st })
  else match flashRegions[bulkRegion body]? with
  | none => (s, { status := Status.NO_OBJECT })
  | some r =>
    let a := r.base + bulkOffset body
    let same := decide (r.bank = rd s Reg.FIRMWARE_EXEC_BANK)
    if regionBusy s (bulkRegion body) then (s, { status := Status.BUSY })
    else if same = true ∧ stub = false then (s, { status := Status.BANK_XIP_BUSY })
    else
      let s := if same then raise s Code.BANK_XIP_STUB 8 [] else s
      if flashFails = true ∨ pagesBlank s a (bulkLen body) = false then (s, { status := Status.FLASH })
      else
        let s := if a % 65536 = 0 then eraseSector s (a / 65536) else s
        (programPages s a (body.drop 8), { status := Status.OK, items := 1, body := body.take 8 })

/-- BULK_READ. -/
def bulkReadBody (role : Nat) (initial : Bool) (items : Nat) (body : List Byte) (s : State) : State × Reply :=
  let st := bulkStatus role initial items 8 16 body (fun r => r.readRole)
  if st ≠ Status.OK then (s, { status := st })
  else match flashRegions[bulkRegion body]? with
  | none => (s, { status := Status.NO_OBJECT })
  | some r =>
    (s, { status := Status.OK, items := 1,
          body := body.take 8 ++ flashBytes s (r.base + bulkOffset body) (bulkLen body) })

/-! ## Responses (R517, R520, R525, R529) -/

/-- The longest response a transport carries. -/
def replyLimit (s : State) (transport : Nat) : Nat :=
  if transport < 2 then min 8192 (rd s (Reg.MGMTPORT_MTU transport) - 48) else 8192

/-- A response's bytes; it is authenticated with the secret that the request was. -/
def replyBytes (secret bs : List Byte) (x : Reply) : List Byte :=
  let head := bytesBE 2 0x5347 ++ bytesBE 1 1 ++ bytesBE 1 (msgOp bs) ++ bytesBE 1 (1 ||| x.flags) ++
    bytesBE 1 x.status ++ bytesBE 2 (msgKey bs) ++ bytesBE 8 (msgCounter bs) ++ bytesBE 4 (msgReqId bs) ++
    bytesBE 2 x.items ++ bytesBE 2 (48 + x.body.length) ++ bytesBE 8 x.detail
  let m := head ++ x.body
  m ++ msgMac secret m

/-- Blocks of a byte string, padded with zeros. -/
def padBlocks (bs : List Byte) : List Block := (chunks 16 bs.length bs).map (fun b =>
  BitVec.ofNat 128 (natBE (b ++ List.replicate (16 - b.length) 0#8)))

/-- In-band responses that their facets' output staging can take are originated, oldest first (R603). -/
def sendReplies (s : State) : State :=
  (List.range s.forward.replies.length).foldl (fun s _ =>
    match s.forward.replies.find? (fun e => stagingRoom s e.1 3 e.2.2.length) with
    | none => s
    | some e => originate (modForward s (fun w => { w with replies := w.replies.erase e })) e.1 e.2.1 e.2.2) s

/-- A response leaves by the way its request came. -/
def sendReply (r : Request) (bytes : List Byte) (s : State) : State :=
  if r.transport < 2 then emit s (.sirgo r.transport r.addr r.udpPort bytes)
  else
    let bl := padBlocks bytes
    let h := mkHdr {
      kind := KindCode.CONTROL, msg := 3, tc := hdrTc r.hdr, ten := hdrTen r.hdr, dst := hdrSrc r.hdr,
      src := ownEid s, chan := hdrChan r.hdr, seq := hdrSeq r.hdr, len := bl.length }
    sendReplies (modForward s (fun w => { w with replies := w.replies ++ [(r.facet, h, bl)] }))

/-- A response too long for its transport has TOO_BIG and no body. -/
def fitReply (s : State) (r : Request) (x : Reply) : Reply :=
  if replyLimit s r.transport < 48 + x.body.length then { status := Status.TOO_BIG } else x

/-- The response is counted (R543), kept where it may be asked for again (R529), and sent. `keep`: the message was executed. -/
def answer (keep : Bool) (secret bs : List Byte) (r : Request) (x : Reply) (s : State) : State :=
  let x := fitReply s r x
  let k := msgKey bs
  let s := if keep = true ∧ msgReqId bs ≠ 0 then
      let e : Kept := ⟨msgReqId bs, sha256 (bytesBE 1 (msgOp bs) ++ msgBody bs), x.status, x.detail, x.flags, x.items, x.body⟩
      let old := Tab.get [] s.groom.kept k
      modGroom s (fun g => { g with kept := Tab.put [] g.kept k ((old ++ [e]).drop (old.length + 1 - 16)) })
    else s
  let s := if x.status = Status.OK then (if keep then inc s Reg.SIRGO_ACCEPTED 64 else s)
    else inc s (if x.status = Status.REPLAY then Reg.SIRGO_REPLAYS else Reg.SIRGO_REFUSED) 64
  sendReply r (replyBytes secret bs x) s

/-! ## Execution (R518, R527 to R529) -/

/-- The message of a request: an in-band one ends at MLEN, where LEN agrees with it (R517). -/
def requestBytes (r : Request) : List Byte :=
  if r.transport < 2 then r.bytes
  else
    let n := bytesAt r.bytes 22 2
    if 24 ≤ r.bytes.length ∧ (n + 15) / 16 * 16 = r.bytes.length then r.bytes.take n else r.bytes

/-- Check 1 of R527. -/
def formatGood (bs : List Byte) : Bool :=
  decide (48 ≤ bs.length) && decide (bs.length = msgMlen bs) && decide (bs.length ≤ 8192) && decide (bs.length % 8 = 0)

/-- Checks 2 to 4 of R527. -/
def authGood (s : State) (bs : List Byte) : Bool :=
  keyGood s (msgKey bs) && decide (msgMac (secretOf s (msgKey bs)) (bs.take (bs.length - 16)) = bs.drop (bs.length - 16)) &&
    !(msgFlags bs).testBit 0

/-- Check 6 of R527 (R517). -/
def inbandStatus (s : State) (r : Request) (k : Nat) : Nat :=
  if r.transport < 2 then Status.OK
  else if rd s (Reg.KEY_ROLE k) = 1 ∧ hdrTen r.hdr ≠ rd s (Reg.KEY_TEN k) then Status.TEN_MISMATCH
  else if rd s Reg.SIRGO_INBAND_MAX_ROLE < rd s (Reg.KEY_ROLE k) then Status.ACCESS
  else Status.OK

/-- Check 7 of R527. -/
def headStatus (bs : List Byte) : Nat :=
  if bytesAt bs 0 2 ≠ 0x5347 ∨ bytesAt bs 2 1 ≠ 1 then Status.MALFORMED
  else if msgOp bs = 0 ∨ 5 < msgOp bs then Status.UNKNOWN_OP
  else Status.OK

/-- What a groom in recovery answers, on the management ports (R539). -/
def recoveryAnswers (r : Request) (bs : List Byte) : Bool :=
  decide (r.transport < 2) && (match msgOp bs with
    | 1 => ((parseItems (msgBody bs).length (msgBody bs)).getD []).all (fun x =>
        [0x0000, 0x1102, 0x1103, 0x1104].contains x.addr.obj)
    | 2 => ((parseItems (msgBody bs).length (msgBody bs)).getD []).all (fun x => [0x1102, 0x1104].contains x.addr.obj)
    | 4 => decide (bulkRegion (msgBody bs) < 2)
    | 5 => decide (bulkRegion (msgBody bs) < 2)
    | _ => false)

/-- Check 8 of R527 and the execution: the state, the response, and the writes whose effect follows it. -/
def runMessage (flashFails : Bool) (r : Request) (bs : List Byte) (s : State) : State × Reply × List Write :=
  let k := msgKey bs
  let role := rd s (Reg.KEY_ROLE k)
  let ten := rd s (Reg.KEY_TEN k)
  let initial := decide (rd s (Reg.KEY_STATE k) = 3)
  let body := msgBody bs
  if msgOp bs = Op.BULK_WRITE then
    let x := bulkWriteBody role initial ((msgFlags bs).testBit 2) flashFails (msgItems bs) body s
    (x.1, x.2, [])
  else if msgOp bs = Op.BULK_READ then
    let x := bulkReadBody role initial (msgItems bs) body s
    (x.1, x.2, [])
  else match parseItems body.length body with
  | none => (s, { status := Status.MALFORMED }, [])
  | some items =>
    if items.length ≠ msgItems bs then (s, { status := Status.MALFORMED }, [])
    else if msgOp bs = Op.GET then
      let x := getItems role ten 0 items s []
      (x.1, x.2, [])
    else if msgOp bs = Op.GET_RANGE then
      let x := getRange (replyLimit s r.transport) role ten items s
      (x.1, x.2, [])
    else
      let ws := items.map (itemWrite s k (msgCounter bs))
      let st := setStatus s role initial ws
      if st.1 ≠ Status.OK then (setRefused ws st s, { status := st.1, detail := st.2 }, [])
      else
        (applyWrites k ws s,
         { status := Status.OK, items := items.length, body := items.flatMap (fun x => itemBytes x.addr x.shadow []) }, ws)

/-- A message accepted under R528 that no kept response answers. -/
def executeNew (flashFails : Bool) (secret bs : List Byte) (r : Request) (s : State) : State :=
  let k := msgKey bs
  let c := msgCounter bs
  let s := if rd s (Reg.KEY_CEILING k) < c then wr s (Reg.KEY_CEILING k) (c + 1048576) else s
  let inb := inbandStatus s r k
  let head := headStatus bs
  if rd s Reg.FIRMWARE_RUNNING_SLOT = 0xFF ∧ recoveryAnswers r bs = false then s
  else if inb ≠ Status.OK then answer false secret bs r { status := inb } s
  else if head ≠ Status.OK then answer false secret bs r { status := head } s
  else
    let x := runMessage flashFails r bs s
    let s := wr x.1 (Reg.KEY_LAST_EPOCH k) (rd s Reg.EPOCH_NUMBER)
    afterResponse x.2.2 (answer true secret bs r x.2.1 s)

/-- A kept response to the same request. -/
def keptReply (s : State) (bs : List Byte) : Option Kept :=
  if msgReqId bs = 0 then none
  else
    let h := sha256 (bytesBE 1 (msgOp bs) ++ msgBody bs)
    (Tab.get [] s.groom.kept (msgKey bs)).find? (fun e => decide (e.req = msgReqId bs) && decide (e.hash = h))

/-- One message of the request queue, through the checks of R527 in their order. -/
def executeMessage (flashFails : Bool) (r : Request) (s : State) : State :=
  let bs := requestBytes r
  let k := msgKey bs
  if formatGood bs = false then inc s Reg.SIRGO_DROP_FORMAT 64
  else if authGood s bs = false then
    raise (inc s Reg.SIRGO_DROP_AUTH 64) Code.SIRGO_AUTH 8 [(8, r.transport), (16, k)]
  else
    let secret := secretOf s k
    let floor := rd s (Reg.KEY_FLOOR k)
    if msgCounter bs ≤ floor then answer false secret bs r { status := Status.REPLAY, detail := floor } s
    else
      let s := wr s (Reg.KEY_FLOOR k) (msgCounter bs)
      match keptReply s bs with
      | some e => answer false secret bs r ⟨e.status, e.detail, e.flags, e.items, e.body⟩ s
      | none => executeNew flashFails secret bs r s

/-- The request at the front of the queue is executed where its OP is the one asked for, or none of R521's. -/
def executeFront (op : Nat) (flashFails : Bool) (s : State) : State :=
  match s.requests with
  | [] => s
  | r :: rest =>
    let o := msgOp (requestBytes r)
    if s.groom.up = false ∨ ¬ (o = op ∨ o = 0 ∨ 5 < o) then s
    else executeMessage flashFails r { s with requests := rest }

/-- GET, SET, GET_RANGE, BULK_WRITE and BULK_READ. -/
def doGet (s : State) : State := executeFront Op.GET false s
def doSet (s : State) : State := executeFront Op.SET false s
def doGetRange (s : State) : State := executeFront Op.GET_RANGE false s
def doBulkWrite (flashFails : Bool) (s : State) : State := executeFront Op.BULK_WRITE flashFails s
def doBulkRead (s : State) : State := executeFront Op.BULK_READ false s

/-! ## Management ports (R516, R518) -/

/-- A packet that the port discards. -/
def discardPacket (m : Nat) (s : State) : State := inc s (Reg.MGMTPORT_DISCARDS m) 64

/-- Addresses of a management port: the link-local one, and the configured one where there is one (R516, R544). -/
def portAddresses (s : State) (m : Nat) : List Nat :=
  let own := 0xFE80 * 2 ^ 112 + (rd s Reg.IDENTITY_SERIAL ^^^ 0x0200000000000000) % 2 ^ 64
  let set := rd s (Reg.MGMTPORT_ADDR_HI m) * 2 ^ 64 + rd s (Reg.MGMTPORT_ADDR_LO m)
  if set = 0 then [own] else [own, set]

/-- MGMT_PACKET_RECEIVED. While the groom is down nothing is answered (R540). -/
def doMgmtPacket (m : Nat) (p : MgmtPacket) (s : State) : State :=
  if s.groom.up = false then s
  else if rd s (Reg.MGMTPORT_ENABLE m) = 0 then discardPacket m s
  else match p with
  | .udp dst src srcPort dstPort fragment checksumGood payload =>
    if fragment ∨ checksumGood = false ∨ dstPort ≠ 4731 ∨ (portAddresses s m).contains dst = false then discardPacket m s
    else if requestRoom s then enqueueRequest s ⟨m, src, srcPort, 0, 0, payload⟩
    else inc s Reg.SIRGO_DROP_QUEUE 64
  | .neighborSolicitation src target =>
    if (portAddresses s m).contains target then emit s (.advertisement m src target) else s
  | .echoRequest dst src payload =>
    if (portAddresses s m).contains dst then emit s (.packet m src payload) else discardPacket m s
  | .other => discardPacket m s

end Sys2Proof.Machine
end

