-- ==== Sys2Proof/Machine/Tick.lean ====
section
/-! DEFINITION. One tick of the timebase (R24): what counts ticks (R289, R295, R448, R452, R575), and what
waits only for room. It is what the block does when no command waits (log entry 40). -/

namespace Sys2Proof.Machine

/-! ## Ticks of links and queues -/

/-- (port, VL) pairs that hold a waiting head (R248). -/
def stalledPairs (s : State) : List (Nat × Nat) :=
  s.egress.scheds.flatMap (fun e => e.2.waitQueue.map (fun q => (e.1, queueVl q)))

/-- (ingress port, VL) pairs with a staged frame in WAIT (R289). -/
def waitingPairs (s : State) : List (Nat × Nat) :=
  ((s.frames.filter (fun e => decide (e.2.place = .waiting) && decide (e.2.ingress < 2048))).map
    (fun e => (e.2.ingress, hdrVl e.2.rxHdr))).eraseDups

/-- A stalled pair's ticks (R289, R295). -/
def stallTick (s : State) (e : Nat × Nat) : State :=
  let s := countIn s (vertexBank e.1) 0x3002 { port := some (e.1 % 16), vl := some e.2 }
  if 7 < e.2 then s
  else
    let i := e.1 * 16 + e.2
    let n := min (2 ^ 32 - 1) (rd s (Reg.STALL_CURRENT i) + 1)
    let s := wr (inc s (Reg.STALL_STALL_TICKS i) 64) (Reg.STALL_CURRENT i) n
    raiseTo s (Reg.STALL_LONGEST i) n

/-- A pair of the wait lists (R289, R295). -/
def waitTick (s : State) (e : Nat × Nat) : State :=
  let s := countIn s (vertexBank e.1) 0x3003 { port := some (e.1 % 16), vl := some e.2 }
  if 7 < e.2 then s else inc s (Reg.STALL_WAIT_TICKS (e.1 * 16 + e.2)) 64

/-- VLs of a port that no longer stall end their episodes (R290). -/
def endStalls (s : State) (p : Nat) : State :=
  let on := fun (v : Nat) => (waitingQueue s p v).isSome
  let x := sched s p
  if x.stalls.all (fun e => on e.1) = true ∧ x.starved.all on = true then s
  else modSched s p (fun x => { x with stalls := x.stalls.filter (fun e => on e.1), starved := x.starved.filter on })

/-- Stalls and admission waits. -/
def stallTicks (s : State) : State :=
  let now_ := stalledPairs s
  let over_ := (listed s 0x0903 2 (fun v => decide (0 < v))).filter
    (fun i => !now_.contains (i / 16, i % 16))
  let s := over_.foldl (fun s i => wr s (Reg.STALL_CURRENT i) 0) s
  let s := s.egress.scheds.foldl (fun s e => endStalls s e.1) s
  (waitingPairs s).foldl waitTick (now_.foldl stallTick s)

/-- Queues that hold a frame while their shaper is on the wheel (select 0x3005). -/
def shaperTicks (s : State) : State :=
  (s.egress.shapers.filter (fun e => !isCtrlKey e.1 && decide (e.2.slot ≠ 0) && !queueEmpty s e.1)).foldl
    (fun s e => countIn s (vertexBank (queuePort e.1)) 0x3005
      { port := some (queuePort e.1 % 16), vl := some (queueVl e.1), tc := some (queueTc e.1) }) s

/-- Ports with frames on a CTRL VL, and ports whose CTRL queues were waiting. -/
def ctrlPorts (s : State) : List Nat :=
  ((s.egress.scheds.filter (fun e => e.2.heldSince.isSome)).map (fun e => e.1) ++
   (s.frames.filter (fun e => decide (e.2.place = .queued) && (decide (e.2.outVl = 6) || decide (e.2.outVl = 7)))).map
    (fun e => e.2.egress)).eraseDups

/-- A CTRL queue of the port waits on its CTRL shaper (R250); the tick counts while the shaper is in debt (R265). -/
def ctrlTick (s : State) (p : Nat) : State :=
  let s := noteCtrlHeld s p
  if (sched s p).heldSince.isSome && ctrlInDebt s p then countPort (inc s (Reg.PORTSCHED_CTRL_HELD p) 64) p 0x3006 else s

/-- Ports in favour mode in either direction (R112), and ports asleep (R115). -/
def favourPorts (s : State) : List Nat :=
  ((listed s 0x0300 4 (fun m => decide (popcount 4 m = 3)) ++ listed s 0x0300 5 (fun m => decide (popcount 4 m = 3))).eraseDups).filter
    (portUp s)
def sleepingPorts (s : State) : List Nat := listed s 0x0300 0 (fun v => decide (v = 6))

def portTicks (s : State) : State :=
  let s := (favourPorts s).foldl (fun s p => countPort s p 0x200B) s
  (sleepingPorts s).foldl (fun s p => countPort s p 0x200C) s

/-! ## Ticks of the harness and the arbiter -/

/-- Engines at work: each holds a stint it claimed. -/
def busyEngines (s : State) : List Nat := s.coll.stints.filterMap (fun x => x.claimed)

/-- Traces of a facet that wait for a pool grant. -/
def poolWaits (s : State) (f : Nat) : Nat :=
  (s.frames.filter (fun e => decide (e.2.place = .poolWait) && decide (e.2.home = f))).length

/-- The facet's engine ticks of the epoch (R480), pool waits (R384) and yoke. -/
def facetTick (s : State) (f : Nat) : State :=
  let busy := ((busyEngines s).filter (fun e => decide (e / 40 = f))).length
  let idle := (enginesIn s f).length - busy
  let s := modColl s (fun c => { c with
    load := Tab.put 0 (Tab.put 0 c.load f (Tab.get 0 c.load f + busy)) (8 + f) (Tab.get 0 c.load (8 + f) + idle) })
  let w := poolWaits s f
  let s := if w = 0 then s
    else countIn (inc s (Reg.FACETARITH_POOL_WAIT_TICKS f) 64) (facetBank f) 0x8113 { events := w }
  if rd s (Reg.YOKE_STATE f) = 0 then s else countIn s (yokeBank f) 0x5004 {}

/-- A class of a facet is throttled: its grant lies below its demand, or its islands run below 0.70 V or
below duty 16 (R554, R575). -/
def throttledNow (s : State) (f c : Nat) : Bool :=
  let i := 6 * f + c
  decide (rd s (Reg.ARBCLASS_GRANT_MW i) < rd s (Reg.ARBCLASS_DEMAND_MW i)) ||
    ((decide (c = 2) || decide (c = 3)) &&
      (decide (rd s (Reg.ARBCLASS_DUTY i) < 16) ||
        (classIslands f c).any (fun k =>
          decide (rd s (Reg.ISLAND_STATE k) ≠ 3) && decide (rd s (Reg.ISLAND_VCORE k) < 700))))

def arbiterTick (s : State) : State :=
  if powered s = false then s
  else
    let s := if rd s Reg.POWER_OVER_LIMIT = 1 then inc s Reg.POWER_OVER_TICKS 64 else s
    (List.range 48).foldl (fun s i =>
      if throttledNow s (i / 6) (i % 6) then
        let s := inc s (Reg.ARBCLASS_THROTTLED_TICKS i) 64
        if i % 6 = 1 ∧ rd s (Reg.ARBCLASS_GRANT_MW i) < rd s (Reg.ARBCLASS_DEMAND_MW i) then
          countIn (countIn s (hbmBank (i / 6) 0) 0x6007 {}) (hbmBank (i / 6) 1) 0x6007 {}
        else s
      else s) s

/-! ## The tick -/

/-- Every counter of the timebase rises by one (R24). -/
def advance (s : State) : State :=
  { s with time := { s.time with groom := s.time.groom + 1, facets := s.time.facets.map (· + 1) } }

/-- One tick while the timebase runs. The CTRL shaper's wait is judged as the old tick ends, once its picks are made. -/
def runTick (s : State) : State :=
  let s := advance ((ctrlPorts s).foldl ctrlTick s)
  let s := portTicks (shaperTicks (stallTicks s))
  let s := (s.egress.queues.filter (fun e => e.2.spill)).foldl (fun s e => spillTick s e.1) s
  let s := (busyEngines s).foldl (fun s e => countIn s (stringBank e) 0x4008 {}) s
  let s := (List.range 8).foldl facetTick s
  let s := drainTick (latticeWaitTick (arbiterTick s))
  triggerSwap (sendReplies (writeSummaries s))

/-- One tick: the image of the board management target ages whatever the timebase does (R591). -/
def doTick (s : State) : State :=
  let s := modPins s (fun p => { p with age := p.age + 1 })
  if s.time.running then runTick s else s

end Sys2Proof.Machine
end

