-- ==== Sys2Proof/Machine/Finish.lean ====
section
/-! DEFINITION. What the commands' meanings share: how a command ends, and writes that only the groom carries
out. -/

namespace Sys2Proof.Machine

/-- What a command answers. -/
abbrev Answer := Host.Outcome State Fault Refusal

/-- What every command's end does beside the command's own effect: traces it delivered here go to their teams
(R307), a drain it finished triggers a swap that waits for it (R401), and what it changed is mirrored to a twin's
peer (R417). -/
def concluded (before after : State) : State := mirrorChanges before (triggerSwap (routeTraces after))

/-- The end of a command. -/
def finish (before after : State) : Answer := .next (concluded before after)

/-- A write to an element that has a row of its own: the groom carries it out (R540). -/
def written (s : State) (f : State → State) : State := if s.groom.up then f s else s

/-- MARGIN_MEASURE (R49, R85): side 1 of the lane. -/
def doMargin (lane margin : Nat) (s : State) : State := wr s (Reg.RING_MARGIN (lane * 2 + 1)) margin

/-- OPTICAL_START (R81, R571 step 6): once the solid is READY. -/
def doLightUp (s : State) : State := if rd s Reg.POWER_READY = 1 then doOpticalStart s else s

end Sys2Proof.Machine
end

