-- ==== Sys2Proof/Machine/EpochCommands.lean ====
section
/-! DEFINITION. The commands of Epochs, Configuration Sets and Twins, of Tenants, and of Counters and Telemetry (R387 to R463). -/

namespace Sys2Proof.Machine

/-- EPOCH_BOUNDARY (R388). -/
def execEpochBoundary (s : State) : Answer := finish s (doEpochBoundary s)

/-- EPOCH_FRAME_RECEIVED (R390). -/
def execEpochFrameReceived (frame : Nat) (s : State) : Answer := finish s (doEpochFrame frame s)

/-- CANDIDATE_LAPSE (R396). -/
def execCandidateLapse (s : State) : Answer := finish s (doCandidateLapse s)

/-- HOLD_ELECT_EXPIRE (R396). -/
def execHoldElectExpire (s : State) : Answer := finish s (doHoldElect s)

/-- STARTING_END (R392). -/
def execStartingEnd (s : State) : Answer := finish s (doStartingEnd s)

/-- EPOCH_IN_EDGE (R397). -/
def execEpochInEdge (s : State) : Answer := .next (doEpochIn s)

/-- EPOCH_OUT_PULSE_END (R397). -/
def execEpochOutPulseEnd (s : State) : Answer := .next (doEpochOutEnd s)

/-- SWAP_ARM (R399). -/
def execSwapArm (s : State) : Answer := finish s (written s (doSwapArm))

/-- SWAP_ARM_COMPLETE (R399). -/
def execSwapArmComplete (s : State) : Answer := finish s (doSwapArmed s)

/-- SWAP_DISARM (R399). -/
def execSwapDisarm (s : State) : Answer := finish s (written s (doSwapDisarm))

/-- SWAP_COPY_DONE (R403). -/
def execSwapCopyDone (s : State) : Answer := finish s (doSwapCopied s)

/-- CACHE_ENTRY_EXPIRE (R410). -/
def execCacheEntryExpire (facet : Facet) (entry : Fin 65536) (s : State) : Answer :=
  finish s (doCacheExpire facet.val entry.val s)

/-- DRAIN_START (R413). -/
def execDrainStart (group : Group) (s : State) : Answer := finish s (written s (doDrainStart group.val))

/-- ECHO_EMIT (R412). -/
def execEchoEmit (facet : Facet) (s : State) : Answer := finish s (doEchoEmit facet.val s)

/-- DRAIN_ECHO_RECEIVED (R413). -/
def execDrainEchoReceived (frame : Nat) (s : State) : Answer := finish s (doDrainEcho frame s)

/-- MARK_TIMEOUT (R413). -/
def execMarkTimeout (group : Group) (s : State) : Answer := finish s (doMarkTimeout group.val s)

/-- SLOT_UNTRACKED_END (R410). -/
def execSlotUntrackedEnd (group : Group) (slot : Fin 256) (s : State) : Answer :=
  finish s (doUntrackedEnd group.val slot.val s)

/-- TWIN_MIRROR_RECEIVED (R417). -/
def execTwinMirrorReceived (message : TwinMessage) (s : State) : Answer := finish s (doTwinMirror message s)

/-- PEER_LOSS (R418). -/
def execPeerLoss (s : State) : Answer := finish s (doPeerLoss s)

/-- TELEMETRY_REQUEST (R442). -/
def execTelemetryRequest (frame : Nat) (s : State) : Answer := finish s (doTelemRequest frame s)

/-- TELEMETRY_RESPONSE_EMIT (R461). -/
def execTelemetryResponseEmit (facet : Facet) (s : State) : Answer := finish s (doTelemEmit facet.val s)

/-- BANK_CLEAR (R449). -/
def execBankClear (bank : Bank) (s : State) : Answer := .next (written s (doBankClear bank.val))

/-- COUNTER_PROGRAM (R451). -/
def execCounterProgram (bank : Bank) (counter : Fin 8) (writes : List (Fin 6 × BitVec 16)) (s : State) : Answer :=
  .next (written s (doCounterProgram bank.val counter.val (writes.map (fun w => (w.1.val, w.2.toNat)))))

/-- CAPTURE_ARM (R458). -/
def execCaptureArm (epoch : BitVec 48) (s : State) : Answer := .next (written s (doCaptureArm epoch.toNat))

end Sys2Proof.Machine
end

