-- ==== Sys2Proof/Machine/FrameCommands.lean ====
section
/-! DEFINITION. The commands of Lamier Frames, Forwarding and Shared Buffers (R147 to R246). -/

namespace Sys2Proof.Machine

/-- FRAME_HEADER_RECEIVED (R170). -/
def execFrameHeaderReceived (port : Port) (s : State) : Answer := finish s (doFrameHeader port.val s)

/-- FRAME_BLOCK1_RECEIVED (R170). -/
def execFrameBlock1Received (port : Port) (s : State) : Answer := finish s (doFrameBlock1 port.val s)

/-- FRAME_TAIL_RECEIVED (R175). -/
def execFrameTailReceived (port : Port) (s : State) : Answer := finish s (doFrameTail port.val s)

/-- LEARN_INSERTION (R203). -/
def execLearnInsertion (facet : Facet) (s : State) : Answer := finish s (doLearnInsertion facet.val s)

/-- LEARN_SWEEP (R204). -/
def execLearnSweep (entry : Fin 262144) (s : State) : Answer := .next (doLearnSweep entry.val s)

/-- DEPTH_PUBLISH (R191). -/
def execDepthPublish (facet : Facet) (s : State) : Answer := .next (doDepthPublish facet.val s)

/-- REPIN_WINDOW_END (R196). -/
def execRepinWindowEnd (group : Group) (slot : Fin 256) (s : State) : Answer :=
  finish s (doRepinEnd group.val slot.val s)

/-- PIN_RESTORE_IDLE (R197). -/
def execPinRestoreIdle (group : Group) (slot : Fin 256) (s : State) : Answer :=
  finish s (doPinRestore group.val slot.val s)

/-- HOLD_SET (R198). -/
def execHoldSet (group : Group) (s : State) : Answer := finish s (written s (doHoldSet group.val))

/-- HOLD_CLEAR (R199). -/
def execHoldClear (group : Group) (s : State) : Answer := finish s (written s (doHoldClear group.val))

/-- ADMIT_REQUEST (R220). -/
def execAdmitRequest (frame : Nat) (s : State) : Answer := finish s (doAdmitRequest frame s)

/-- ADMISSION_RETRY (R221). -/
def execAdmissionRetry (facet : Facet) (s : State) : Answer := finish s (doAdmissionRetry facet.val s)

/-- QUOTA_NOTIFY_TIMER (R222). -/
def execQuotaNotifyTimer (frame : Nat) (s : State) : Answer := finish s (doQuotaNotify frame s)

/-- SEGMENT_WRITE_DONE (R227). -/
def execSegmentWriteDone (facet : Facet) (segment : Nat) (s : State) : Answer :=
  finish s (doSegmentWriteDone facet.val segment s)

/-- PREFETCH_ISSUE (R228). -/
def execPrefetchIssue (queue : Queue) (s : State) : Answer := .next (doPrefetchIssue queue.val s)

/-- PREFETCH_DONE (R228). -/
def execPrefetchDone (queue : Queue) (segment : Nat) (read : SegmentRead) (s : State) : Answer :=
  finish s (doPrefetchDone queue.val segment read.1 read.2 s)

/-- HBM_CG_OUT (R231). -/
def execHbmCgOut (facet : Facet) (cg : Fin 2) (s : State) : Answer := finish s (doHbmCgOut facet.val cg.val s)

/-- PF_STALL_TIMER (R281). -/
def execPfStallTimer (queue : Queue) (s : State) : Answer := .next (doPfStall queue.val s)

/-- RESIDENCE_SWEEP (R233). -/
def execResidenceSweep (facet : Facet) (s : State) : Answer := finish s (doResidenceSweep facet.val s)

end Sys2Proof.Machine
end

