-- ==== Sys2Proof/Machine/GroomCommands.lean ====
section
/-! DEFINITION. The commands of Sirgo Management (R504 to R549). -/

namespace Sys2Proof.Machine

/-- MGMT_PACKET_RECEIVED (R516). -/
def execMgmtPacketReceived (mgmt : Fin 2) (packet : MgmtPacket) (s : State) : Answer :=
  .next (doMgmtPacket mgmt.val packet s)

/-- GET (R521). -/
def execGetMsg (s : State) : Answer := .next (doGet s)

/-- SET (R524). -/
def execSetMsg (s : State) : Answer := finish s (doSet s)

/-- GET_RANGE (R525). -/
def execGetRange (s : State) : Answer := .next (doGetRange s)

/-- BULK_WRITE (R532). -/
def execBulkWrite (flashFails : Bool) (s : State) : Answer := .next (doBulkWrite flashFails s)

/-- BULK_READ (R532). -/
def execBulkRead (s : State) : Answer := .next (doBulkRead s)

/-- SECRET_WRITE (R514). -/
def execSecretWrite (slot : Fin 2048) (value : BitVec 256) (key : Fin 2048) (counter : BitVec 64)
    (s : State) : Answer :=
  .next (doSecretWrite slot.val value.toNat key.val counter.toNat s)

/-- PUBKEY_WRITE (R537). -/
def execPubkeyWrite (slot : Fin 4) (value : BitVec 776) (s : State) : Answer :=
  .next (doPubkeyWrite slot.val value.toNat s)

/-- SIGNKEY_REVOKE (R537). -/
def execSignkeyRevoke (slot : Fin 4) (s : State) : Answer := .next (doSignkeyRevoke slot.val s)

/-- VERIFY (R538). -/
def execVerify (s : State) : Answer := .next (doVerify s)

/-- ACTIVATE (R538). -/
def execActivate (s : State) : Answer := .next (doActivate s)

/-- CONFIRM (R538). -/
def execConfirm (s : State) : Answer := .next (doConfirm s)

/-- RESTART (R538). -/
def execRestart (s : State) : Answer := .next (doRestart s)

/-- CANCEL (R538). -/
def execCancel (s : State) : Answer := .next (doCancel s)

/-- CONFIRM_TIMEOUT (R539). -/
def execConfirmTimeout (s : State) : Answer := .next (doConfirmTimeout s)

/-- GROOM_START (R539). -/
def execGroomStart (s : State) : Answer := .next (doGroomStart s)

/-- BOOTSET_SAVE (R541). -/
def execBootsetSave (s : State) : Answer := .next (doBootsetSave s)

/-- BOOTSET_ERASE (R541). -/
def execBootsetErase (s : State) : Answer := .next (doBootsetErase s)

/-- MGMT_LINK_CHANGE (R549). -/
def execMgmtLinkChange (mgmt : Fin 2) (up : Bool) (s : State) : Answer := .next (doMgmtLink mgmt.val up s)

/-- REGISTER_WRITE (R509). -/
def execRegisterWrite (obj : BitVec 16) (inst : BitVec 24) (el : BitVec 8) (value : Nat) (s : State) : Answer :=
  finish s (doRegisterWrite ⟨obj.toNat, inst.toNat, el.toNat⟩ value s)

end Sys2Proof.Machine
end

