-- ==== Sys2Proof/Machine/LightCommands.lean ====
section
/-! DEFINITION. The commands of Light, Lanes and Feeds (R46 to R88). -/

namespace Sys2Proof.Machine

/-- RING_COUNT_START (R56). -/
def execRingCountStart (ring : Ring) (s : State) : Answer := .next (doRingCountStart ring.val s)

/-- RING_LINE_REACHED (R53). -/
def execRingLineReached (ring : Ring) (heater : BitVec 16) (s : State) : Answer :=
  .next (doRingLineReached ring.val heater.toNat s)

/-- RING_HEATER_FULL (R56). -/
def execRingHeaterFull (ring : Ring) (s : State) : Answer := finish s (doRingHeaterFull ring.val s)

/-- RING_LOCK_ERROR (R56). -/
def execRingLockError (ring : Ring) (err : BitVec 16) (s : State) : Answer :=
  finish s (doRingLockError ring.val err.toNat s)

/-- BUS_LIGHT_LOST (R56). -/
def execBusLightLost (ring : Ring) (s : State) : Answer := finish s (doBusLightLost ring.val s)

/-- HOLD_LIGHT_BACK (R56). -/
def execHoldLightBack (ring : Ring) (reacquired : Bool) (s : State) : Answer :=
  finish s (doHoldLightBack ring.val reacquired s)

/-- HOLD_TIMEOUT (R56). -/
def execHoldTimeout (ring : Ring) (s : State) : Answer := finish s (doHoldTimeout ring.val s)

/-- MARGIN_MEASURE (R49). -/
def execMarginMeasure (lane : Lane) (margin : BitVec 16) (s : State) : Answer :=
  .next (doMargin lane.val margin.toNat s)

/-- LANE_ID_MISMATCH (R59). -/
def execLaneIdMismatch (ring : Ring) (usedSlot : Fin 32) (s : State) : Answer :=
  finish s (doLaneIdMismatch ring.val usedSlot.val s)

/-- RELOCK_DONE (R59). -/
def execRelockDone (ring : Ring) (heater : BitVec 16) (idSlot : Fin 32) (s : State) : Answer :=
  finish s (doRelockDone ring.val heater.toNat idSlot.val s)

/-- RELOCK_TIMEOUT (R59). -/
def execRelockTimeout (ring : Ring) (s : State) : Answer := finish s (doRelockTimeout ring.val s)

/-- CLS_POLL (R66). -/
def execClsPoll (cls : Cls) (id : BitVec 32) (status : BitVec 8) (temp : BitVec 16) (lines : List Int)
    (s : State) : Answer :=
  .next (doClsPoll cls.val id.toNat status.toNat temp.toNat lines s)

/-- CLS_ANSWER_TIMEOUT (R66). -/
def execClsAnswerTimeout (cls : Cls) (s : State) : Answer := finish s (doClsAnswerTimeout cls.val s)

/-- FEED_MONITOR_SAMPLE (R75). -/
def execFeedMonitorSample (feed : Feed) (input : Fin 2) (total : Int) (lines : List Int) (s : State) : Answer :=
  finish s (doFeedMonitor feed.val input.val total lines s)

/-- FEED_WINDOW_EVAL (R68). -/
def execFeedWindowEval (feed : Feed) (input : Fin 2) (rows : List (List Int)) (s : State) : Answer :=
  finish s (doFeedWindow feed.val input.val rows s)

/-- MIGRATE (R69). -/
def execMigrate (feed : Feed) (s : State) : Answer := finish s (written s (doMigrate feed.val))

/-- COMMISSION_A (R67). -/
def execCommissionA (feed : Feed) (s : State) : Answer := finish s (written s (doCommission feed.val 0))

/-- COMMISSION_B (R67). -/
def execCommissionB (feed : Feed) (s : State) : Answer := finish s (written s (doCommission feed.val 1))

/-- MIGRATION_STANDBY_CHECKED (R70). -/
def execMigrationStandbyChecked (feed : Feed) (s : State) : Answer := finish s (doStandbyChecked feed.val s)

/-- MIGRATION_PARTNERS_ACKED (R71). -/
def execMigrationPartnersAcked (feed : Feed) (s : State) : Answer := finish s (doPartnersAcked feed.val s)

/-- MIGRATION_ACK_LIMIT (R72). -/
def execMigrationAckLimit (feed : Feed) (s : State) : Answer := finish s (doAckLimit feed.val s)

/-- MIGRATION_DRAINED (R71). -/
def execMigrationDrained (feed : Feed) (s : State) : Answer := finish s (doMigrationDrained feed.val s)

/-- MIGRATION_DRAIN_LIMIT (R72). -/
def execMigrationDrainLimit (feed : Feed) (s : State) : Answer := finish s (doDrainLimit feed.val s)

/-- MIGRATION_TX_LOCKED (R71). -/
def execMigrationTxLocked (feed : Feed) (s : State) : Answer := finish s (doTxLocked feed.val s)

/-- MIGRATION_PORTS_UP (R71). -/
def execMigrationPortsUp (feed : Feed) (s : State) : Answer := finish s (doPortsUp feed.val s)

/-- CLS_FAULT_ASSERT (R75). -/
def execClsFaultAssert (cls : Cls) (s : State) : Answer := finish s (doClsFault cls.val s)

/-- CLS_ENABLE (R76). -/
def execClsEnable (cls : Cls) (s : State) : Answer := finish s (written s (doClsEnable cls.val))

/-- CLS_DISABLE (R76). -/
def execClsDisable (cls : Cls) (s : State) : Answer := finish s (written s (doClsDisable cls.val))

/-- CLS_RISE_CHECK (R76). -/
def execClsRiseCheck (cls : Cls) (shortfalls : List Int) (s : State) : Answer :=
  finish s (doClsRise cls.val shortfalls s)

/-- LOSS_OF_LIGHT (R78). -/
def execLossOfLight (pair : Pair) (dbm : Int) (s : State) : Answer := finish s (doLossOfLight pair.val dbm s)

/-- PROBE_TIMER (R78). -/
def execProbeTimer (pair : Pair) (s : State) : Answer := finish s (doProbeTimer pair.val s)

/-- PARTNER_LIGHT_SEEN (R78). -/
def execPartnerLightSeen (pair : Pair) (dbm : Int) (s : State) : Answer := finish s (doPartnerLight pair.val dbm s)

/-- DARK_LIMIT_EXPIRED (R80). -/
def execDarkLimitExpired (pair : Pair) (s : State) : Answer := finish s (doDarkExpired pair.val s)

/-- OPTICAL_START (R81). -/
def execOpticalStart (s : State) : Answer := .next (written s (doLightUp))

/-- CLS_STAGGER_TIMER (R81). -/
def execClsStaggerTimer (s : State) : Answer := finish s (written s doClsStagger)

/-- PROBE_END (R78). -/
def execProbeEnd (pair : Pair) (s : State) : Answer := finish s (doProbeEnd pair.val s)

/-- CLS_FLT_N_DEASSERT (R86). -/
def execClsFltNDeassert (cls : Cls) (s : State) : Answer := finish s (doClsFltRelease cls.val s)

end Sys2Proof.Machine
end

