-- ==== Sys2Proof/Machine/LinkCommands.lean ====
section
/-! DEFINITION. The commands of Links and Chords (R89 to R146). -/

namespace Sys2Proof.Machine

/-- LINK_TRAIN_START (R96). -/
def execLinkTrainStart (port : Port) (s : State) : Answer := .next (startAttempt port.val s)

/-- MARKER_SEND (R91). -/
def execMarkerSend (port : Port) (s : State) : Answer := finish s (doMarkerSend port.val s)

/-- MARKER_RECEIVED (R91). -/
def execMarkerReceived (port : Port) (lane : PortLane) (copies : List MarkerCopy) (s : State) : Answer :=
  finish s (doMarkerReceived port.val lane.val copies s)

/-- TRAIN_ALIGN_DONE (R96). -/
def execTrainAlignDone (port : Port) (laneOk : BitVec 4) (s : State) : Answer :=
  finish s (doTrainAlignDone port.val laneOk.toNat s)

/-- TRAIN_TIMEOUT (R96). -/
def execTrainTimeout (port : Port) (s : State) : Answer := finish s (doTrainTimeout port.val s)

/-- TRAIN_RETRY_TIMER (R96). -/
def execTrainRetryTimer (port : Port) (s : State) : Answer := .next (startAttempt port.val s)

/-- FLIT_SLOT (R92). -/
def execFlitSlot (slot : SlotRead) (s : State) : Answer := finish s (doFlitSlot slot.1.val slot.2 s)

/-- DATA_FLIT_RECEIVED (R100). -/
def execDataFlitReceived (port : Port) (lanes : LaneSymbols) (s : State) : Answer :=
  finish s (doSymbols port.val false lanes s)

/-- RETRY_WAIT_TIMER (R101). -/
def execRetryWaitTimer (port : Port) (s : State) : Answer := finish s (doRetryWait port.val s)

/-- ACK_TIMEOUT (R101). -/
def execAckTimeout (port : Port) (s : State) : Answer := finish s (doAckTimeout port.val s)

/-- UNCORRECTABLE_WINDOW (R117). -/
def execUncorrectableWindow (port : Port) (codewords : Nat) (s : State) : Answer :=
  finish s (doUncorrectable port.val codewords s)

/-- CONTROL_FLIT_RECEIVED (R108). -/
def execControlFlitReceived (port : Port) (lanes : LaneSymbols) (s : State) : Answer :=
  finish s (doSymbols port.val true lanes s)

/-- KEEPALIVE_TIMER (R110). -/
def execKeepaliveTimer (port : Port) (s : State) : Answer := .next (doKeepaliveTimer port.val s)

/-- KA_LOST (R110). -/
def execKaLost (port : Port) (s : State) : Answer := finish s (doKaLost port.val s)

/-- LANE_EXCLUDE (R112). -/
def execLaneExclude (port : Port) (lane : PortLane) (cause : Fin 3) (s : State) : Answer :=
  finish s (doLaneExclude port.val lane.val cause.val s)

/-- LANE_RESTORE (R113). -/
def execLaneRestore (port : Port) (lane : PortLane) (s : State) : Answer := .next (doLaneRestore port.val lane.val s)

/-- SLEEP_IDLE_TIMER (R114). -/
def execSleepIdleTimer (port : Port) (s : State) : Answer := .next (doSleepIdle port.val s)

/-- SETTLE_WINDOW_CLOSE (R115). -/
def execSettleWindowClose (port : Port) (s : State) : Answer := .next (doSettleClose port.val s)

/-- WAKE_MODULATION_DETECTED (R116). -/
def execWakeModulationDetected (port : Port) (s : State) : Answer := .next (startWake port.val s)

/-- WAKE_RETRAIN_DONE (R116). -/
def execWakeRetrainDone (port : Port) (s : State) : Answer := .next (doWakeDone port.val s)

/-- WAKE_TIMEOUT (R116). -/
def execWakeTimeout (port : Port) (s : State) : Answer := finish s (doWakeTimeout port.val s)

/-- SLEEP_MAX_TIMER (R115). -/
def execSleepMaxTimer (port : Port) (s : State) : Answer := .next (startWake port.val s)

/-- PORT_DOWN (R118). -/
def execPortDown (port : Port) (reason : Fin 16) (s : State) : Answer :=
  finish s (Sys2Proof.Machine.portDown s port.val reason.val)

/-- ADMIN_DOWN (R120). -/
def execAdminDown (port : Port) (s : State) : Answer := finish s (written s (doAdminDown port.val))

/-- ADMIN_UP (R120). -/
def execAdminUp (port : Port) (s : State) : Answer := finish s (written s (doAdminUp port.val))

/-- CHORD_PENDING_READY (R132). -/
def execChordPendingReady (chord : Chord) (s : State) : Answer := finish s (doChordPendingReady chord.val s)

/-- CHORD_RINGS_LOCKED (R132). -/
def execChordRingsLocked (chord : Chord) (powerAB powerBA : BitVec 16) (s : State) : Answer :=
  finish s (doChordRingsLocked chord.val powerAB.toNat powerBA.toNat s)

/-- CHORD_SETTLE_TIMEOUT (R131). -/
def execChordSettleTimeout (chord : Chord) (strand : StrandEnd) (s : State) : Answer :=
  finish s (doChordSettleTimeout chord.val strand.1.val strand.2 s)

/-- CHORD_ADD_CLEAR (R134). -/
def execChordAddClear (chord : Chord) (s : State) : Answer := finish s (doChordAddClear chord.val s)

/-- CHORD_LOCAL_LOCKED (R134). -/
def execChordLocalLocked (chord : Chord) (s : State) : Answer := finish s (doChordLocalLocked chord.val s)

/-- CHORD_FILL_ENTER (R141). -/
def execChordFillEnter (chord : Chord) (strand : Fin 2) (s : State) : Answer :=
  .next (doChordFillEnter chord.val strand.val s)

/-- CHORD_FILL_EXIT (R141). -/
def execChordFillExit (chord : Chord) (strand : Fin 2) (s : State) : Answer :=
  .next (doChordFillExit chord.val strand.val s)

end Sys2Proof.Machine
end

