-- ==== Sys2Proof/Machine/PowerCommands.lean ====
section
/-! DEFINITION. The commands of Power, Cooling and Bring-Up, and of the package (R550 to R601). -/

namespace Sys2Proof.Machine

/-- ARB_GRANT_PERIOD (R555). -/
def execArbGrantPeriod (demands : List Nat) (inputW lossW : BitVec 16) (s : State) : Answer :=
  .next (doGrantPeriod demands inputW.toNat lossW.toNat s)

/-- TEMP_SAMPLE (R561). -/
def execTempSample (sensor : Fin 89) (temp : BitVec 16) (s : State) : Answer :=
  .next (doTempSample sensor.val temp.toNat s)

/-- THROTTLE_STEP (R564). -/
def execThrottleStep (facet : Facet) (s : State) : Answer := .next (doThrottleStep facet.val s)

/-- THERMAL_TRIP (R566). -/
def execThermalTrip (sensor : Fin 89) (temp : BitVec 16) (s : State) : Answer :=
  .next (doThermalTrip sensor.val temp.toNat s)

/-- GROOM_COOLED (R568). -/
def execGroomCooled (s : State) : Answer := .next (doGroomCooled s)

/-- PWRGD_IN_FALL (R553). -/
def execPwrgdInFall (s : State) : Answer := .next (doPwrgdFall s)

/-- VAUX_LOSS (R553). -/
def execVauxLoss (s : State) : Answer := .next (doVauxLoss s)

/-- VAUX_APPLIED (R570). -/
def execVauxApplied (straps : BitVec 3) (s : State) : Answer := .next (doVauxApplied straps.toNat s)

/-- RESET_N_FALL (R585). -/
def execResetNFall (s : State) : Answer := .next (doResetFall s)

/-- SOLID_RESET_COMMAND (R574). -/
def execSolidResetCommand (s : State) : Answer := .next (doSolidReset s)

/-- EFFECTIVE_RELEASE (R571). -/
def execEffectiveRelease (s : State) : Answer := .next (doEffectiveRelease s)

/-- RAILS_IN_REGULATION (R571). -/
def execRailsInRegulation (s : State) : Answer := .next (doRails s)

/-- SELF_TEST_DONE (R571). -/
def execSelfTestDone (failed : BitVec 8) (s : State) : Answer := finish s (doSelfTest failed.toNat s)

/-- HBM_TRAINING_DONE (R571). -/
def execHbmTrainingDone (failed : BitVec 8) (s : State) : Answer := finish s (doHbmTraining failed.toNat s)

/-- BOOT_READY (R571). -/
def execBootReady (s : State) : Answer := finish s (doBootReady s)

/-- SUPPLY_OUT_OF_RANGE (R573). -/
def execSupplyOutOfRange (aux : Bool) (mv : BitVec 16) (s : State) : Answer := .next (doSupplyOut aux mv.toNat s)

/-- SUPPLY_IN_RANGE (R573). -/
def execSupplyInRange (aux : Bool) (mv : BitVec 16) (s : State) : Answer := .next (doSupplyIn aux mv.toNat s)

/-- BMI_READ (R590). -/
def execBmiRead (pointer : BitVec 8) (count : Nat) (s : State) : Answer := .next (doBmiRead pointer.toNat count s)

/-- BMI_IMAGE_REFRESH (R591). -/
def execBmiImageRefresh (s : State) : Answer := .next (doBmiRefresh s)

/-- BMI_LINE_HELD_LOW (R592). -/
def execBmiLineHeldLow (scl : Bool) (s : State) : Answer := .next (doBmiHeldLow scl s)

/-- BYPASS (R593). -/
def execBypass (s : State) : Answer := .next (doBypass s)

/-- IDCODE (R593). -/
def execIdcode (s : State) : Answer := .next (doIdcode s)

/-- SAMPLE_PRELOAD (R593). -/
def execSamplePreload (cells : BitVec 128) (s : State) : Answer := .next (doSamplePreload cells s)

/-- EXTEST (R593). -/
def execExtest (s : State) : Answer := .next (doExtest s)

end Sys2Proof.Machine
end

