-- ==== Sys2Proof/Machine/QueueCommands.lean ====
section
/-! DEFINITION. The commands of Scheduling, Flow Control, Deadlock and Congestion (R247 to R296). -/

namespace Sys2Proof.Machine

/-- SCHED_PICK (R247). -/
def execSchedPick (port : Port) (eccBad : Bool) (s : State) : Answer := finish s (doSchedPick port.val eccBad s)

/-- FRAME_TX_DONE (R216). -/
def execFrameTxDone (port : Port) (s : State) : Answer := finish s (doFrameTxDone port.val s)

/-- WHEEL_SLOT_DUE (R260). -/
def execWheelSlotDue (facet : Facet) (s : State) : Answer := .next (doWheelSlotDue facet.val s)

/-- SHAPER_SWAP_REFILL (R258). -/
def execShaperSwapRefill (queue : Queue) (s : State) : Answer := .next (doShaperSwapRefill queue.val s)

/-- CTRL_HELD (R270). -/
def execCtrlHeld (port : Port) (s : State) : Answer := .next (doCtrlHeld port.val s)

/-- NOTIFY_TOKEN (R287). -/
def execNotifyToken (facet : Facet) (s : State) : Answer := finish s (doNotifyToken facet.val s)

/-- STALL_ALERT_TIMER (R290). -/
def execStallAlertTimer (port : Port) (vl : Fin 8) (s : State) : Answer := .next (doStallAlert port.val vl.val s)

end Sys2Proof.Machine
end

