-- ==== Sys2Proof/Machine/SolidCommands.lean ====
section
/-! DEFINITION. The commands of The Solid (R13 to R45). -/

namespace Sys2Proof.Machine

/-- PACE_WINDOW_END (R21). -/
def execPaceWindowEnd (island : Island) (hsr : BitVec 16) (s : State) : Answer :=
  finish s (doPaceEnd island.val hsr.toNat s)

/-- TIMEBASE_REALIGN (R25). -/
def execTimebaseRealign (counters : List Nat) (s : State) : Answer := .next (doRealign counters s)

/-- REF_LOSS (R26). -/
def execRefLoss (ref : Fin 4) (s : State) : Answer := finish s (doRefLoss ref.val s)

/-- REF_PRIMARY_WRITE (R43). -/
def execRefPrimaryWrite (ref : BitVec 8) (s : State) : Answer := finish s (written s (doRefPrimary ref.toNat))

/-- POOL_RETUNE_DONE (R29). -/
def execPoolRetuneDone (facet : Facet) (group : Fin 5) (s : State) : Answer :=
  .next (doPoolRetune facet.val group.val s)

/-- LATTICE_REQUEST (R30). -/
def execLatticeRequest (frame : Nat) (s : State) : Answer := finish s (doLatticeRequest frame s)

/-- LATTICE_GRANT (R30). -/
def execLatticeGrant (frame : Nat) (s : State) : Answer := finish s (doLatticeGrant frame s)

/-- LATTICE_RECEIVE (R31). -/
def execLatticeReceive (frame : Nat) (s : State) : Answer := finish s (doLatticeReceive frame s)

/-- FACET_OUT_OF_SERVICE (R38). -/
def execFacetOutOfService (facet : Facet) (s : State) : Answer := finish s (doFacetLeaves facet.val s)

/-- VERTEX_OUT_OF_SERVICE (R39). -/
def execVertexOutOfService (vertex : Vertex) (s : State) : Answer := finish s (doVertexOut vertex.val s)

/-- REF_REAPPEAR (R26). -/
def execRefReappear (ref : Fin 4) (s : State) : Answer := .next (doRefReappear ref.val s)

end Sys2Proof.Machine
end

