-- ==== Sys2Proof/Machine/TeamCommands.lean ====
section
/-! DEFINITION. The commands of Teams, Harness and Yoke (R297 to R386). -/

namespace Sys2Proof.Machine

/-- SETUP (R301). -/
def execSetup (team : Team) (s : State) : Answer := finish s (written s (doSetup team.val))

/-- RETIRE (R305). -/
def execRetire (team : Team) (s : State) : Answer := finish s (written s (doRetire team.val))

/-- REVISE (R306). -/
def execRevise (team : Team) (s : State) : Answer := finish s (written s (doRevise team.val))

/-- FREE (R301). -/
def execFree (team : Team) (s : State) : Answer := finish s (written s (doFree team.val))

/-- TRACE_POOL_GRANT (R358). -/
def execTracePoolGrant (facet : Facet) (s : State) : Answer := finish s (doPoolGrant facet.val s)

/-- TRACE_HOME_ARRIVAL (R358). -/
def execTraceHomeArrival (frame : TraceRead) (s : State) : Answer := finish s (doTraceHome frame.1 frame.2.val s)

/-- CHUNK_TIMER_EXPIRE (R310). -/
def execChunkTimerExpire (team : Team) (slot : Slot) (s : State) : Answer :=
  finish s (doChunkTimer team.val slot.val s)

/-- RESULT_TIMER_EXPIRE (R310). -/
def execResultTimerExpire (team : Team) (slot : Slot) (s : State) : Answer :=
  finish s (doResultTimer team.val slot.val s)

/-- RESULT_FROM_PARENT (R315). -/
def execResultFromParent (frame : Nat) (s : State) : Answer := finish s (doResultFromParent frame s)

/-- NOTIFY_FROM_PARENT (R315). -/
def execNotifyFromParent (frame : Nat) (s : State) : Answer := finish s (doNotifyFromParent frame s)

/-- BLOCK_STAGE_DONE (R362). -/
def execBlockStageDone (team : Team) (slot : BlockRead) (s : State) : Answer :=
  .next (doBlockStage team.val slot.1.val slot.2 s)

/-- BLOCK_WRITE_BACK_DONE (R362). -/
def execBlockWriteBackDone (team : Team) (slot : Slot) (s : State) : Answer :=
  .next (doBlockWriteBack team.val slot.val s)

/-- STINT_CLAIM (R365). -/
def execStintClaim (engine : Engine) (ecc : Fin 3) (s : State) : Answer :=
  finish s (if dutyAdmits s (engine.val / 40) 3 then doStintClaim engine.val ecc.val s else s)

/-- STINT_SECTION_COMMIT (R367). -/
def execStintSectionCommit (engine : Engine) (s : State) : Answer := finish s (doSectionCommit engine.val s)

/-- RESULT_SENDER_EMIT (R366). -/
def execResultSenderEmit (facet : SenderRead) (s : State) : Answer :=
  finish s (doResultSender facet.1.val facet.2 s)

/-- STINT_CHECK_FAIL (R367). -/
def execStintCheckFail (engine : Engine) (check : Fin 10) (s : State) : Answer :=
  finish s (doCheckFail engine.val check.val s)

/-- SUSPECT_DECAY (R370). -/
def execSuspectDecay (unit : Fin 328) (s : State) : Answer := .next (doSuspectDecay unit.val s)

/-- YOKE_PASS_ISSUE (R372). -/
def execYokePassIssue (facet : PassRead) (s : State) : Answer :=
  finish s (if dutyAdmits s facet.1.val 2 then doYokePass facet.1.val facet.2.1 facet.2.2 s else s)

/-- YOKE_BAND_COMMIT (R375). -/
def execYokeBandCommit (facet : Facet) (s : State) : Answer := finish s (doBandCommit facet.val s)

/-- YOKE_BAND_FAIL (R375). -/
def execYokeBandFail (facet : Facet) (check : Fin 2) (s : State) : Answer :=
  finish s (doBandFail facet.val check.val s)

/-- ENGINE_ADMIN_OUT (R380). -/
def execEngineAdminOut (engine : Engine) (s : State) : Answer := finish s (written s (doEngineOut engine.val))

/-- ENGINE_ADMIN_RETURN (R381). -/
def execEngineAdminReturn (engine : Engine) (s : State) : Answer := finish s (written s (doEngineReturn engine.val))

/-- YOKE_ADMIN_OUT (R376). -/
def execYokeAdminOut (facet : Facet) (s : State) : Answer := finish s (written s (doYokeOut facet.val))

/-- YOKE_ADMIN_RETURN (R376). -/
def execYokeAdminReturn (facet : Facet) (s : State) : Answer := finish s (written s (doYokeReturn facet.val))

end Sys2Proof.Machine
end

