-- ==== Sys2Proof/Machine/VetCommands.lean ====
section
/-! DEFINITION. The commands of Vet Checks and the Studbook (R464 to R503). -/

namespace Sys2Proof.Machine

/-- VET_REQUEST (R479). -/
def execVetRequest (unit : Fin 20480) (s : State) : Answer := .next (written s (doVetRequest unit.val))

/-- VET_WITHDRAW (R481). -/
def execVetWithdraw (unit : Fin 20480) (s : State) : Answer := finish s (written s (doVetWithdraw unit.val))

/-- PERIODIC_VET_DUE (R479). -/
def execPeriodicVetDue (unit : Fin 20480) (overdue : Bool) (s : State) : Answer :=
  .next (doPeriodicVet unit.val overdue s)

/-- VET_START (R480). -/
def execVetStart (unit : Fin 20480) (scan : Bool) (granted : Bool) (s : State) : Answer :=
  finish s (doVetStart unit.val scan granted s)

/-- VET_DRAIN_DONE (R471). -/
def execVetDrainDone (unit : Fin 20480) (s : State) : Answer := finish s (doVetDrainDone unit.val s)

/-- VET_DRAIN_LIMIT (R471). -/
def execVetDrainLimit (unit : Fin 20480) (s : State) : Answer := finish s (doVetDrainLimit unit.val s)

/-- VET_POINT_DONE (R482). -/
def execVetPointDone (unit : Fin 20480) (passed : Bool) (localised : BitVec 32) (s : State) : Answer :=
  finish s (doVetPoint unit.val passed localised.toNat s)

/-- VET_HEAT_REACHED (R473). -/
def execVetHeatReached (unit : Fin 20480) (s : State) : Answer := .next (doVetHeat unit.val s)

/-- VET_YIELD_TIMEOUT (R481). -/
def execVetYieldTimeout (unit : Fin 20480) (s : State) : Answer := .next (doVetYield unit.val s)

/-- VET_ABORT_STOP (R481). -/
def execVetAbortStop (unit : Fin 20480) (s : State) : Answer := finish s (doVetAbortStop unit.val s)

/-- VET_END (R484). -/
def execVetEnd (unit : Fin 20480) (s : State) : Answer := finish s (doVetEnd unit.val s)

/-- VET_RETRY_TIMER (R481). -/
def execVetRetryTimer (unit : Fin 20480) (s : State) : Answer := .next (doVetRetry unit.val s)

/-- VET_RECHECK_TIMER (R486). -/
def execVetRecheckTimer (unit : Fin 20480) (s : State) : Answer := .next (doVetRecheck unit.val s)

/-- PACK_VERIFY (R477). -/
def execPackVerify (flashFails : Bool) (s : State) : Answer := .next (doPackVerify flashFails s)

/-- STUDBOOK_RECORD (R488). -/
def execStudbookRecord (s : State) : Answer := .next (doStudbookRecord s)

/-- CODE_BUCKET_TOKEN (R491). -/
def execCodeBucketToken (code : BitVec 16) (s : State) : Answer := .next (doBucketToken code.toNat s)

/-- PERSIST_PROGRAM (R492). -/
def execPersistProgram (s : State) : Answer := .next (doPersist s)

/-- STUDBOOK_CLEAR (R496). -/
def execStudbookClear (key : Fin 2048) (s : State) : Answer := .next (written s (doStudbookClear key.val))

/-- ALERT_ACK (R495). -/
def execAlertAck (seq : BitVec 64) (s : State) : Answer := .next (written s (doAlertAck seq.toNat))

end Sys2Proof.Machine
end

