-- ==== Sys2Proof/Machine/Dispatch.lean ====
section
/-! DEFINITION. What each command does: one arm per command, each one call of its meaning. -/

namespace Sys2Proof.Machine

def exec (i : Instr) (s : State) : Host.Outcome State Fault Refusal :=
  match i with
  | .paceWindowEnd island hsr => Sys2Proof.Machine.execPaceWindowEnd island hsr s
  | .timebaseRealign counters => Sys2Proof.Machine.execTimebaseRealign counters s
  | .refLoss ref => Sys2Proof.Machine.execRefLoss ref s
  | .refPrimaryWrite ref => Sys2Proof.Machine.execRefPrimaryWrite ref s
  | .poolRetuneDone facet group => Sys2Proof.Machine.execPoolRetuneDone facet group s
  | .latticeRequest frame => Sys2Proof.Machine.execLatticeRequest frame s
  | .latticeGrant frame => Sys2Proof.Machine.execLatticeGrant frame s
  | .latticeReceive frame => Sys2Proof.Machine.execLatticeReceive frame s
  | .facetOutOfService facet => Sys2Proof.Machine.execFacetOutOfService facet s
  | .vertexOutOfService vertex => Sys2Proof.Machine.execVertexOutOfService vertex s
  | .ringCountStart ring => Sys2Proof.Machine.execRingCountStart ring s
  | .ringLineReached ring heater => Sys2Proof.Machine.execRingLineReached ring heater s
  | .ringHeaterFull ring => Sys2Proof.Machine.execRingHeaterFull ring s
  | .ringLockError ring err => Sys2Proof.Machine.execRingLockError ring err s
  | .busLightLost ring => Sys2Proof.Machine.execBusLightLost ring s
  | .holdLightBack ring reacquired => Sys2Proof.Machine.execHoldLightBack ring reacquired s
  | .holdTimeout ring => Sys2Proof.Machine.execHoldTimeout ring s
  | .marginMeasure lane margin => Sys2Proof.Machine.execMarginMeasure lane margin s
  | .laneIdMismatch ring usedSlot => Sys2Proof.Machine.execLaneIdMismatch ring usedSlot s
  | .relockDone ring heater idSlot => Sys2Proof.Machine.execRelockDone ring heater idSlot s
  | .relockTimeout ring => Sys2Proof.Machine.execRelockTimeout ring s
  | .clsPoll cls id status temp lines => Sys2Proof.Machine.execClsPoll cls id status temp lines s
  | .clsAnswerTimeout cls => Sys2Proof.Machine.execClsAnswerTimeout cls s
  | .feedMonitorSample feed input total lines => Sys2Proof.Machine.execFeedMonitorSample feed input total lines s
  | .feedWindowEval feed input rows => Sys2Proof.Machine.execFeedWindowEval feed input rows s
  | .migrate feed => Sys2Proof.Machine.execMigrate feed s
  | .commissionA feed => Sys2Proof.Machine.execCommissionA feed s
  | .commissionB feed => Sys2Proof.Machine.execCommissionB feed s
  | .migrationStandbyChecked feed => Sys2Proof.Machine.execMigrationStandbyChecked feed s
  | .migrationPartnersAcked feed => Sys2Proof.Machine.execMigrationPartnersAcked feed s
  | .migrationAckLimit feed => Sys2Proof.Machine.execMigrationAckLimit feed s
  | .migrationDrained feed => Sys2Proof.Machine.execMigrationDrained feed s
  | .migrationDrainLimit feed => Sys2Proof.Machine.execMigrationDrainLimit feed s
  | .migrationTxLocked feed => Sys2Proof.Machine.execMigrationTxLocked feed s
  | .migrationPortsUp feed => Sys2Proof.Machine.execMigrationPortsUp feed s
  | .clsFaultAssert cls => Sys2Proof.Machine.execClsFaultAssert cls s
  | .clsEnable cls => Sys2Proof.Machine.execClsEnable cls s
  | .clsDisable cls => Sys2Proof.Machine.execClsDisable cls s
  | .clsRiseCheck cls shortfalls => Sys2Proof.Machine.execClsRiseCheck cls shortfalls s
  | .lossOfLight pair dbm => Sys2Proof.Machine.execLossOfLight pair dbm s
  | .probeTimer pair => Sys2Proof.Machine.execProbeTimer pair s
  | .partnerLightSeen pair dbm => Sys2Proof.Machine.execPartnerLightSeen pair dbm s
  | .darkLimitExpired pair => Sys2Proof.Machine.execDarkLimitExpired pair s
  | .opticalStart => Sys2Proof.Machine.execOpticalStart s
  | .clsStaggerTimer => Sys2Proof.Machine.execClsStaggerTimer s
  | .linkTrainStart port => Sys2Proof.Machine.execLinkTrainStart port s
  | .markerSend port => Sys2Proof.Machine.execMarkerSend port s
  | .markerReceived port lane copies => Sys2Proof.Machine.execMarkerReceived port lane copies s
  | .trainAlignDone port laneOk => Sys2Proof.Machine.execTrainAlignDone port laneOk s
  | .trainTimeout port => Sys2Proof.Machine.execTrainTimeout port s
  | .trainRetryTimer port => Sys2Proof.Machine.execTrainRetryTimer port s
  | .flitSlot slot => Sys2Proof.Machine.execFlitSlot slot s
  | .dataFlitReceived port lanes => Sys2Proof.Machine.execDataFlitReceived port lanes s
  | .retryWaitTimer port => Sys2Proof.Machine.execRetryWaitTimer port s
  | .ackTimeout port => Sys2Proof.Machine.execAckTimeout port s
  | .uncorrectableWindow port codewords => Sys2Proof.Machine.execUncorrectableWindow port codewords s
  | .controlFlitReceived port lanes => Sys2Proof.Machine.execControlFlitReceived port lanes s
  | .keepaliveTimer port => Sys2Proof.Machine.execKeepaliveTimer port s
  | .kaLost port => Sys2Proof.Machine.execKaLost port s
  | .laneExclude port lane cause => Sys2Proof.Machine.execLaneExclude port lane cause s
  | .laneRestore port lane => Sys2Proof.Machine.execLaneRestore port lane s
  | .sleepIdleTimer port => Sys2Proof.Machine.execSleepIdleTimer port s
  | .settleWindowClose port => Sys2Proof.Machine.execSettleWindowClose port s
  | .wakeModulationDetected port => Sys2Proof.Machine.execWakeModulationDetected port s
  | .wakeRetrainDone port => Sys2Proof.Machine.execWakeRetrainDone port s
  | .wakeTimeout port => Sys2Proof.Machine.execWakeTimeout port s
  | .sleepMaxTimer port => Sys2Proof.Machine.execSleepMaxTimer port s
  | .portDown port reason => Sys2Proof.Machine.execPortDown port reason s
  | .adminDown port => Sys2Proof.Machine.execAdminDown port s
  | .adminUp port => Sys2Proof.Machine.execAdminUp port s
  | .chordPendingReady chord => Sys2Proof.Machine.execChordPendingReady chord s
  | .chordRingsLocked chord powerAB powerBA => Sys2Proof.Machine.execChordRingsLocked chord powerAB powerBA s
  | .chordSettleTimeout chord strand => Sys2Proof.Machine.execChordSettleTimeout chord strand s
  | .chordAddClear chord => Sys2Proof.Machine.execChordAddClear chord s
  | .chordLocalLocked chord => Sys2Proof.Machine.execChordLocalLocked chord s
  | .chordFillEnter chord strand => Sys2Proof.Machine.execChordFillEnter chord strand s
  | .chordFillExit chord strand => Sys2Proof.Machine.execChordFillExit chord strand s
  | .frameHeaderReceived port => Sys2Proof.Machine.execFrameHeaderReceived port s
  | .frameBlock1Received port => Sys2Proof.Machine.execFrameBlock1Received port s
  | .frameTailReceived port => Sys2Proof.Machine.execFrameTailReceived port s
  | .learnInsertion facet => Sys2Proof.Machine.execLearnInsertion facet s
  | .learnSweep entry => Sys2Proof.Machine.execLearnSweep entry s
  | .depthPublish facet => Sys2Proof.Machine.execDepthPublish facet s
  | .repinWindowEnd group slot => Sys2Proof.Machine.execRepinWindowEnd group slot s
  | .pinRestoreIdle group slot => Sys2Proof.Machine.execPinRestoreIdle group slot s
  | .holdSet group => Sys2Proof.Machine.execHoldSet group s
  | .holdClear group => Sys2Proof.Machine.execHoldClear group s
  | .admitRequest frame => Sys2Proof.Machine.execAdmitRequest frame s
  | .admissionRetry facet => Sys2Proof.Machine.execAdmissionRetry facet s
  | .quotaNotifyTimer frame => Sys2Proof.Machine.execQuotaNotifyTimer frame s
  | .segmentWriteDone facet segment => Sys2Proof.Machine.execSegmentWriteDone facet segment s
  | .prefetchIssue queue => Sys2Proof.Machine.execPrefetchIssue queue s
  | .prefetchDone queue segment read => Sys2Proof.Machine.execPrefetchDone queue segment read s
  | .hbmCgOut facet cg => Sys2Proof.Machine.execHbmCgOut facet cg s
  | .pfStallTimer queue => Sys2Proof.Machine.execPfStallTimer queue s
  | .residenceSweep facet => Sys2Proof.Machine.execResidenceSweep facet s
  | .schedPick port eccBad => Sys2Proof.Machine.execSchedPick port eccBad s
  | .frameTxDone port => Sys2Proof.Machine.execFrameTxDone port s
  | .wheelSlotDue facet => Sys2Proof.Machine.execWheelSlotDue facet s
  | .shaperSwapRefill queue => Sys2Proof.Machine.execShaperSwapRefill queue s
  | .ctrlHeld port => Sys2Proof.Machine.execCtrlHeld port s
  | .notifyToken facet => Sys2Proof.Machine.execNotifyToken facet s
  | .stallAlertTimer port vl => Sys2Proof.Machine.execStallAlertTimer port vl s
  | .setup team => Sys2Proof.Machine.execSetup team s
  | .retire team => Sys2Proof.Machine.execRetire team s
  | .revise team => Sys2Proof.Machine.execRevise team s
  | .free team => Sys2Proof.Machine.execFree team s
  | .tracePoolGrant facet => Sys2Proof.Machine.execTracePoolGrant facet s
  | .traceHomeArrival frame => Sys2Proof.Machine.execTraceHomeArrival frame s
  | .chunkTimerExpire team slot => Sys2Proof.Machine.execChunkTimerExpire team slot s
  | .resultTimerExpire team slot => Sys2Proof.Machine.execResultTimerExpire team slot s
  | .resultFromParent frame => Sys2Proof.Machine.execResultFromParent frame s
  | .notifyFromParent frame => Sys2Proof.Machine.execNotifyFromParent frame s
  | .blockStageDone team slot => Sys2Proof.Machine.execBlockStageDone team slot s
  | .blockWriteBackDone team slot => Sys2Proof.Machine.execBlockWriteBackDone team slot s
  | .stintClaim engine ecc => Sys2Proof.Machine.execStintClaim engine ecc s
  | .stintSectionCommit engine => Sys2Proof.Machine.execStintSectionCommit engine s
  | .resultSenderEmit facet => Sys2Proof.Machine.execResultSenderEmit facet s
  | .stintCheckFail engine check => Sys2Proof.Machine.execStintCheckFail engine check s
  | .suspectDecay unit => Sys2Proof.Machine.execSuspectDecay unit s
  | .yokePassIssue facet => Sys2Proof.Machine.execYokePassIssue facet s
  | .yokeBandCommit facet => Sys2Proof.Machine.execYokeBandCommit facet s
  | .yokeBandFail facet check => Sys2Proof.Machine.execYokeBandFail facet check s
  | .engineAdminOut engine => Sys2Proof.Machine.execEngineAdminOut engine s
  | .engineAdminReturn engine => Sys2Proof.Machine.execEngineAdminReturn engine s
  | .yokeAdminOut facet => Sys2Proof.Machine.execYokeAdminOut facet s
  | .yokeAdminReturn facet => Sys2Proof.Machine.execYokeAdminReturn facet s
  | .epochBoundary => Sys2Proof.Machine.execEpochBoundary s
  | .epochFrameReceived frame => Sys2Proof.Machine.execEpochFrameReceived frame s
  | .candidateLapse => Sys2Proof.Machine.execCandidateLapse s
  | .holdElectExpire => Sys2Proof.Machine.execHoldElectExpire s
  | .startingEnd => Sys2Proof.Machine.execStartingEnd s
  | .epochInEdge => Sys2Proof.Machine.execEpochInEdge s
  | .swapArm => Sys2Proof.Machine.execSwapArm s
  | .swapArmComplete => Sys2Proof.Machine.execSwapArmComplete s
  | .swapDisarm => Sys2Proof.Machine.execSwapDisarm s
  | .swapCopyDone => Sys2Proof.Machine.execSwapCopyDone s
  | .cacheEntryExpire facet entry => Sys2Proof.Machine.execCacheEntryExpire facet entry s
  | .drainStart group => Sys2Proof.Machine.execDrainStart group s
  | .echoEmit facet => Sys2Proof.Machine.execEchoEmit facet s
  | .drainEchoReceived frame => Sys2Proof.Machine.execDrainEchoReceived frame s
  | .markTimeout group => Sys2Proof.Machine.execMarkTimeout group s
  | .twinMirrorReceived message => Sys2Proof.Machine.execTwinMirrorReceived message s
  | .peerLoss => Sys2Proof.Machine.execPeerLoss s
  | .telemetryRequest frame => Sys2Proof.Machine.execTelemetryRequest frame s
  | .telemetryResponseEmit facet => Sys2Proof.Machine.execTelemetryResponseEmit facet s
  | .bankClear bank => Sys2Proof.Machine.execBankClear bank s
  | .counterProgram bank counter writes => Sys2Proof.Machine.execCounterProgram bank counter writes s
  | .captureArm epoch => Sys2Proof.Machine.execCaptureArm epoch s
  | .vetRequest unit => Sys2Proof.Machine.execVetRequest unit s
  | .vetWithdraw unit => Sys2Proof.Machine.execVetWithdraw unit s
  | .periodicVetDue unit overdue => Sys2Proof.Machine.execPeriodicVetDue unit overdue s
  | .vetStart unit scan granted => Sys2Proof.Machine.execVetStart unit scan granted s
  | .vetPointDone unit passed localised => Sys2Proof.Machine.execVetPointDone unit passed localised s
  | .vetHeatReached unit => Sys2Proof.Machine.execVetHeatReached unit s
  | .vetYieldTimeout unit => Sys2Proof.Machine.execVetYieldTimeout unit s
  | .vetAbortStop unit => Sys2Proof.Machine.execVetAbortStop unit s
  | .vetEnd unit => Sys2Proof.Machine.execVetEnd unit s
  | .vetRetryTimer unit => Sys2Proof.Machine.execVetRetryTimer unit s
  | .vetRecheckTimer unit => Sys2Proof.Machine.execVetRecheckTimer unit s
  | .packVerify flashFails => Sys2Proof.Machine.execPackVerify flashFails s
  | .studbookRecord => Sys2Proof.Machine.execStudbookRecord s
  | .codeBucketToken code => Sys2Proof.Machine.execCodeBucketToken code s
  | .persistProgram => Sys2Proof.Machine.execPersistProgram s
  | .studbookClear key => Sys2Proof.Machine.execStudbookClear key s
  | .alertAck seq => Sys2Proof.Machine.execAlertAck seq s
  | .mgmtPacketReceived mgmt packet => Sys2Proof.Machine.execMgmtPacketReceived mgmt packet s
  | .getMsg => Sys2Proof.Machine.execGetMsg s
  | .setMsg => Sys2Proof.Machine.execSetMsg s
  | .getRange => Sys2Proof.Machine.execGetRange s
  | .bulkWrite flashFails => Sys2Proof.Machine.execBulkWrite flashFails s
  | .bulkRead => Sys2Proof.Machine.execBulkRead s
  | .secretWrite slot value key counter => Sys2Proof.Machine.execSecretWrite slot value key counter s
  | .pubkeyWrite slot value => Sys2Proof.Machine.execPubkeyWrite slot value s
  | .signkeyRevoke slot => Sys2Proof.Machine.execSignkeyRevoke slot s
  | .verify => Sys2Proof.Machine.execVerify s
  | .activate => Sys2Proof.Machine.execActivate s
  | .confirm => Sys2Proof.Machine.execConfirm s
  | .restart => Sys2Proof.Machine.execRestart s
  | .cancel => Sys2Proof.Machine.execCancel s
  | .confirmTimeout => Sys2Proof.Machine.execConfirmTimeout s
  | .groomStart => Sys2Proof.Machine.execGroomStart s
  | .bootsetSave => Sys2Proof.Machine.execBootsetSave s
  | .bootsetErase => Sys2Proof.Machine.execBootsetErase s
  | .mgmtLinkChange mgmt up => Sys2Proof.Machine.execMgmtLinkChange mgmt up s
  | .arbGrantPeriod demands inputW lossW => Sys2Proof.Machine.execArbGrantPeriod demands inputW lossW s
  | .tempSample sensor temp => Sys2Proof.Machine.execTempSample sensor temp s
  | .throttleStep facet => Sys2Proof.Machine.execThrottleStep facet s
  | .thermalTrip sensor temp => Sys2Proof.Machine.execThermalTrip sensor temp s
  | .groomCooled => Sys2Proof.Machine.execGroomCooled s
  | .pwrgdInFall => Sys2Proof.Machine.execPwrgdInFall s
  | .vauxLoss => Sys2Proof.Machine.execVauxLoss s
  | .vauxApplied straps => Sys2Proof.Machine.execVauxApplied straps s
  | .resetNFall => Sys2Proof.Machine.execResetNFall s
  | .solidResetCommand => Sys2Proof.Machine.execSolidResetCommand s
  | .effectiveRelease => Sys2Proof.Machine.execEffectiveRelease s
  | .railsInRegulation => Sys2Proof.Machine.execRailsInRegulation s
  | .selfTestDone failed => Sys2Proof.Machine.execSelfTestDone failed s
  | .hbmTrainingDone failed => Sys2Proof.Machine.execHbmTrainingDone failed s
  | .bootReady => Sys2Proof.Machine.execBootReady s
  | .supplyOutOfRange aux mv => Sys2Proof.Machine.execSupplyOutOfRange aux mv s
  | .bmiRead pointer count => Sys2Proof.Machine.execBmiRead pointer count s
  | .bmiImageRefresh => Sys2Proof.Machine.execBmiImageRefresh s
  | .bmiLineHeldLow scl => Sys2Proof.Machine.execBmiLineHeldLow scl s
  | .bypass => Sys2Proof.Machine.execBypass s
  | .idcode => Sys2Proof.Machine.execIdcode s
  | .samplePreload cells => Sys2Proof.Machine.execSamplePreload cells s
  | .extest => Sys2Proof.Machine.execExtest s
  | .registerWrite obj inst el value => Sys2Proof.Machine.execRegisterWrite obj inst el value s
  | .refReappear ref => Sys2Proof.Machine.execRefReappear ref s
  | .probeEnd pair => Sys2Proof.Machine.execProbeEnd pair s
  | .epochOutPulseEnd => Sys2Proof.Machine.execEpochOutPulseEnd s
  | .supplyInRange aux mv => Sys2Proof.Machine.execSupplyInRange aux mv s
  | .clsFltNDeassert cls => Sys2Proof.Machine.execClsFltNDeassert cls s
  | .vetDrainDone unit => Sys2Proof.Machine.execVetDrainDone unit s
  | .vetDrainLimit unit => Sys2Proof.Machine.execVetDrainLimit unit s
  | .slotUntrackedEnd group slot => Sys2Proof.Machine.execSlotUntrackedEnd group slot s

end Sys2Proof.Machine
end

