-- ==== Sys2Proof/Machine/Step.lean ====
section
/-! DEFINITION. One step: the command at the front of the queue, or a tick of the timebase where none waits. -/

namespace Sys2Proof.Machine

/-- The command at the front runs with the queue's rest; with no command waiting the block takes one tick
(DESIGN CHOICE, log entry 40). -/
def step (s : State) : Host.Outcome State Fault Refusal :=
  match s.pending with
  | [] => .next (doTick s)
  | c :: rest => exec c { s with pending := rest }

/-- A command put at the front of the queue; no word spells one (log entry 41). -/
def State.withFetchWord (s : State) (nbits w : Nat) : State :=
  match decodeTableWord nbits w with
  | none => s
  | some c => { s with pending := c :: s.pending }

end Sys2Proof.Machine
end

