-- ==== Sys2Proof/Safety.lean ====
section
/-! DEFINITION. What every run keeps, and what a command may touch beside its own registers. -/

namespace Sys2Proof.Machine

/-- The flash is held in its canonical form: addresses rise and no entry equals what an erased byte reads. -/
def Inv (s : State) : Prop := s.flash.wf = true

/-- Commands that may program or erase the flash: a bulk write, what the studbook persists and erases (R492,
R496), the start of the groom, which finishes interrupted erases (R568), and the two commands that write a
register, since STUDBOOK COMMAND is one (R509, R524). -/
def mayWriteFlash : Instr → Bool
  | .bulkWrite _ => true
  | .persistProgram => true
  | .studbookClear _ => true
  | .groomStart => true
  | .setMsg => true
  | .registerWrite _ _ _ _ => true
  | _ => false

/-! ## What a command may touch

The commands that may change each part of the state; every other command leaves the part as it was. -/

/-- Commands that may change every part: the messages of Sirgo and a write of a register, which start other
commands' effects (R509, R524), and what resets the solid (R540, R569). -/
def touchesAll : Instr → Bool
  | .getMsg => true
  | .setMsg => true
  | .getRange => true
  | .bulkWrite _ => true
  | .bulkRead => true
  | .registerWrite _ _ _ _ => true
  | .groomStart => true
  | .resetNFall => true
  | .solidResetCommand => true
  | .pwrgdInFall => true
  | .vauxLoss => true
  | .vauxApplied _ => true
  | _ => false

/-- The image and the test port (R591, R593). -/
def touchesPins : Instr → Bool
  | .bmiImageRefresh => true
  | .bypass => true
  | .idcode => true
  | .samplePreload _ => true
  | .extest => true
  | _ => false

/-- The timebase (R25, R571). -/
def touchesTime : Instr → Bool
  | .timebaseRealign _ => true
  | .effectiveRelease => true
  | _ => false

/-- The tenants' request buckets (R442). -/
def touchesTelem : Instr → Bool
  | .telemetryRequest _ => true
  | _ => false

/-- The ticks at which banks were cleared (R449). -/
def touchesBanks : Instr → Bool
  | .bankClear _ => true
  | _ => false

/-- The epoch clock (R388 to R397, R408, R418). -/
def touchesClock : Instr → Bool
  | .epochBoundary => true
  | .epochFrameReceived _ => true
  | .candidateLapse => true
  | .holdElectExpire => true
  | .startingEnd => true
  | .epochInEdge => true
  | .epochOutPulseEnd => true
  | .controlFlitReceived _ _ => true
  | .dataFlitReceived _ _ => true
  | .peerLoss => true
  | _ => false

/-- What the groom holds for itself: its images' state, its secrets and its boot set (R513, R538 to R541, R568). -/
def touchesGroom : Instr → Bool
  | .secretWrite _ _ _ _ => true
  | .verify => true
  | .activate => true
  | .cancel => true
  | .restart => true
  | .confirmTimeout => true
  | .bootsetSave => true
  | .bootsetErase => true
  | .tempSample _ _ => true
  | .thermalTrip _ _ => true
  | .groomCooled => true
  | _ => false

/-- Power, temperatures and the power-up sequence (R554 to R577). -/
def touchesPower : Instr → Bool
  | .arbGrantPeriod _ _ _ => true
  | .tempSample _ _ => true
  | .throttleStep _ => true
  | .thermalTrip _ _ => true
  | .effectiveRelease => true
  | .railsInRegulation => true
  | .selfTestDone _ => true
  | .hbmTrainingDone _ => true
  | .bootReady => true
  | .supplyOutOfRange _ _ => true
  | .supplyInRange _ _ => true
  | _ => false

/-- The shadow set (R403, R541). -/
def touchesShadow : Instr → Bool
  | .swapCopyDone => true
  | .bootReady => true
  | _ => false

/-- The studbook (R488 to R496, R568). -/
def touchesBook : Instr → Bool
  | .studbookRecord => true
  | .codeBucketToken _ => true
  | .persistProgram => true
  | .studbookClear _ => true
  | .alertAck _ => true
  | .tempSample _ _ => true
  | .thermalTrip _ _ => true
  | _ => false

/-- Nothing that a command's end would act on stands in the state: no delivered TRACE, no swap armed for a drain,
no twin in step. -/
def quiet (s : State) : Prop :=
  (∀ e ∈ s.frames, ¬ (e.2.place = .localTo ∧ hdrKind e.2.hdr = KindCode.TRACE)) ∧
    (rd s Reg.SWAP_STATE ≠ 2 ∨ s.sets.trigger = 0xFFFF) ∧ twinState s ≠ TwinState.PAIRED

end Sys2Proof.Machine
end

