-- ==== Sys2Proof/WellFormed.lean ====
section
/-! DEFINITION. Well-formed commands: what a command brings has the shape that the spec gives it, where the types
of Syntax.lean leave room for another. -/

namespace Sys2Proof

/-- A reading of each of 32 lines, or none taken (R66, R68). -/
def linesOk (xs : List Int) : Bool := decide (xs = []) || decide (xs.length = 32)

/-- A port has four lanes (R47). -/
def lanesOk (xs : LaneSymbols) : Bool := decide (xs.length = 4)

/-- A VET instance is kind x 4,096 + index of a unit that exists (R498). -/
def vetUnitOk (u : Nat) : Bool :=
  decide (u % 4096 < [40, 8, 128, 8, 512].getD (u / 4096) 0)

/-- The command is well formed. -/
def Instr.wf : Instr → Bool
  | .timebaseRealign counters => decide (counters.length = 9)
  | .clsPoll _ _ _ _ lines => linesOk lines
  | .feedMonitorSample _ _ _ lines => linesOk lines
  | .feedWindowEval _ _ rows => decide (rows.length = 32) && rows.all (fun r => decide (r.length = 4))
  | .clsRiseCheck _ shortfalls => decide (shortfalls.length = 8)
  | .markerReceived _ _ copies => decide (copies.length = 4)
  | .dataFlitReceived _ lanes => lanesOk lanes
  | .controlFlitReceived _ lanes => lanesOk lanes
  | .vetRequest u => vetUnitOk u.val
  | .vetWithdraw u => vetUnitOk u.val
  | .periodicVetDue u _ => vetUnitOk u.val
  | .vetStart u _ _ => vetUnitOk u.val
  | .vetPointDone u _ _ => vetUnitOk u.val
  | .vetHeatReached u => vetUnitOk u.val
  | .vetYieldTimeout u => vetUnitOk u.val
  | .vetAbortStop u => vetUnitOk u.val
  | .vetEnd u => vetUnitOk u.val
  | .vetRetryTimer u => vetUnitOk u.val
  | .vetRecheckTimer u => vetUnitOk u.val
  | .vetDrainDone u => vetUnitOk u.val
  | .vetDrainLimit u => vetUnitOk u.val
  | .arbGrantPeriod demands _ _ => decide (demands.length = 48)
  | _ => true

end Sys2Proof
end

