-- ==== Sys2Proof/Certificates/Slice0/Obligations.lean ====
section
/-! DEFINITION. The statements for the provers. `concluded s t` is what every command's end does to the state `t` that
its own effect leaves; ConcludedIsIdle says when that is nothing. -/

open Sys2Proof Sys2Proof.Machine

/-- A step takes the command at the front of the queue and runs it with the queue's rest. -/
def Obligations.StepRunsTheFrontCommand : Prop :=
  ∀ (c : Instr) (rest : List Instr) (s : State),
    step { s with pending := c :: rest } = exec c { s with pending := rest }

/-- With no command waiting a step is one tick of the timebase: R24's counters rise by exactly one while it runs,
and stand while it does not; that the block ticks on an empty queue is the model's choice, log entry 40. -/
def Obligations.EmptyQueueTicks : Prop :=
  ∀ s : State, s.pending = [] →
    ∃ t, step s = .next t ∧ t.pending = [] ∧
      (s.time.running = true → t.time.groom = s.time.groom + 1 ∧
        t.time.facets = s.time.facets.map (fun x => x + 1)) ∧
      (s.time.running = false → t.time.groom = s.time.groom ∧ t.time.facets = s.time.facets)

/-- A slow pace window raises its island's voltage floor and, at 0.85 V, degrades the island; a realignment sets the
counters it is given to the groom's; the loss, choice or reappearance of a reference moves the source as the rules
say. -/
def Obligations.TimebaseAndPace : Prop :=
  ((∀ (i : Island) (hsr : BitVec 16) (s : State), 700 ≤ rd s (Reg.ISLAND_VCORE i) → 1400 ≤ hsr.toNat →
    ∃ t, exec (.paceWindowEnd i hsr) s = .next (concluded s t) ∧ rd t (Reg.ISLAND_HSR i) = hsr.toNat ∧
      rd t (Reg.ISLAND_HSR_LOW i) = min (rd s (Reg.ISLAND_HSR_LOW i)) hsr.toNat ∧ t.raised = s.raised ∧
      ∀ a, a ≠ Reg.ISLAND_HSR i → a ≠ Reg.ISLAND_HSR_LOW i → rd t a = rd s a) ∧
  (∀ (i : Island) (hsr : BitVec 16) (s : State), 700 ≤ rd s (Reg.ISLAND_VCORE i) →
    (rd s (Reg.ISLAND_VCORE i) < 850 ∨ rd s (Reg.ISLAND_VFLOOR i) < 850) → hsr.toNat < 1400 →
    rd s (Reg.ISLAND_STATE i) ≤ 1 →
    ∃ t, exec (.paceWindowEnd i hsr) s = .next (concluded s t) ∧
      rd t (Reg.ISLAND_VFLOOR i) = max (rd s (Reg.ISLAND_VFLOOR i)) (min 850 (rd s (Reg.ISLAND_VCORE i) + 10)) ∧
      rd t (Reg.ISLAND_VCORE i) = max (rd s (Reg.ISLAND_VCORE i)) (rd t (Reg.ISLAND_VFLOOR i)) ∧
      rd t (Reg.ISLAND_STATE i) = 1 ∧
      t.raised = (if rd s (Reg.ISLAND_STATE i) = 0
        then s.raised ++ [⟨Code.HSR_LOW, i.val / 8, recordData []⟩] else s.raised)) ∧
  (∀ (i : Island) (hsr : BitVec 16) (s : State), i.val % 8 < 2 → 850 ≤ rd s (Reg.ISLAND_VCORE i) →
    850 ≤ rd s (Reg.ISLAND_VFLOOR i) → hsr.toNat < 1400 → rd s (Reg.ISLAND_STATE i) ≠ 2 →
    ∃ t, exec (.paceWindowEnd i hsr) s = .next (concluded s t) ∧ rd t (Reg.ISLAND_STATE i) = 2 ∧
      t.raised = s.raised ++ [⟨Code.ISLAND_DEGRADED, i.val / 8, recordData []⟩] ∧
      rd t (Reg.VET_STATE (islandUnit i)) ≠ 0 ∧ (Tab.find t.vets.requests (islandUnit i)).isSome = true)) ∧
  (∀ (counters : List Nat) (s : State),
    let found := (List.range 8).map (fun f => max (s.time.facets.getD f 0) (counters.getD f 0))
    let groom := max s.time.groom (counters.getD 8 0)
    let hi := found.foldl max groom
    let lo := found.foldl min groom
    ∃ t, exec (.timebaseRealign counters) s = .next t ∧
      rd t Reg.TIMEBASE_SKEW_MAX = max (rd s Reg.TIMEBASE_SKEW_MAX) (min 255 (hi - lo)) ∧
      s.time.groom ≤ t.time.groom ∧ (∀ f, f < 8 → s.time.facets.getD f 0 ≤ t.time.facets.getD f 0) ∧
      (hi - lo ≤ 2 → t.time.groom = groom ∧ t.time.facets = found ∧ t.raised = s.raised) ∧
      (2 < hi - lo → t.time.groom = hi ∧ t.time.facets = found.map (fun _ => hi) ∧
        t.raised = s.raised ++ [⟨Code.TIMEBASE_SKEW, 0xFF, recordData []⟩]) ∧
      ∀ a, a ≠ Reg.TIMEBASE_SKEW_MAX → rd t a = rd s a) ∧
  ((∀ (r : Fin 4) (k : Nat) (s : State), rd s Reg.TIMEBASE_REF_PRIMARY = r → rd s Reg.TIMEBASE_REF_ACTIVE = r →
    (rd s Reg.TIMEBASE_REF_PRESENT).testBit r = true → rd s Reg.TIMEBASE_REF_PRESENT < 16 → 1 ≤ k → k ≤ 3 →
    (rd s Reg.TIMEBASE_REF_PRESENT).testBit ((r + k) % 4) = true →
    (∀ j, 1 ≤ j → j < k → (rd s Reg.TIMEBASE_REF_PRESENT).testBit ((r + j) % 4) = false) →
    exec (.refLoss r) s = .next (concluded s (raise (wr (wr s Reg.TIMEBASE_REF_PRESENT
      (rd s Reg.TIMEBASE_REF_PRESENT - 2 ^ r.val)) Reg.TIMEBASE_REF_ACTIVE ((r + k) % 4)) Code.REF_CHANGE 0xFF []))) ∧
  (∀ (r : Fin 4) (s : State), rd s Reg.TIMEBASE_REF_ACTIVE ≠ 0xFF →
    exec (.refReappear r) s =
      .next (wr s Reg.TIMEBASE_REF_PRESENT (rd s Reg.TIMEBASE_REF_PRESENT ||| 2 ^ r.val))) ∧
  (∀ (r : Fin 4) (s : State), rd s Reg.TIMEBASE_REF_ACTIVE = 0xFF →
    let u := wr s Reg.TIMEBASE_REF_PRESENT (rd s Reg.TIMEBASE_REF_PRESENT ||| 2 ^ r.val)
    exec (.refReappear r) s =
      .next (raise (wr u Reg.TIMEBASE_REF_ACTIVE (pickRef u)) Code.REF_CHANGE 0xFF [])) ∧
  (∀ (v : BitVec 8) (s : State), s.groom.up = true → v.toNat ≤ 3 →
    (rd s Reg.TIMEBASE_REF_PRESENT).testBit v.toNat = true → rd s Reg.TIMEBASE_REF_ACTIVE ≠ v.toNat →
    exec (.refPrimaryWrite v) s = .next (concluded s (raise (wr (wr s Reg.TIMEBASE_REF_PRIMARY v.toNat)
      Reg.TIMEBASE_REF_ACTIVE v.toNat) Code.REF_CHANGE 0xFF []))))

/-- The commands of a lattice transfer: a request with none of its channel ahead of it reaches the egress facet, a
granted frame is sent with the pair's next sequence number by a tap that serves, a frame with no transfer of its
flow ahead of it is delivered to its queue, and a retuned pool group serves its new peer. -/
def Obligations.LatticeTransfer : Prop :=
  (∀ (id : Nat) (f : Frame) (s : State), findFrame s id = some f → f.place = .request → f.parentId = 0 →
    channelAhead s id f = [] → rd s (Reg.LATTICE_STATE (f.facet * 8 + crossTo f)) ≠ 2 →
    exec (.latticeRequest id) s = .next (concluded s (putFrame s id { f with place := .asked }))) ∧
  (∀ (id : Nat) (f : Frame) (s : State), findFrame s id = some f → f.place = .granted → f.parentId = 0 →
    f.facet ≠ crossTo f → rd s (Reg.LATTICE_STATE (f.facet * 8 + crossTo f)) ≠ 2 → channelAhead s id f = [] →
    (tapFor s f.facet id).isSome = true →
    ∃ t g, exec (.latticeGrant id) s = .next (concluded s t) ∧ findFrame t id = some g ∧ g.place = .lattice ∧
      g.pairSeq = Tab.get 0 s.lattice.seq (f.facet * 8 + crossTo f) ∧ g.hdr = f.hdr ∧ g.egress = f.egress ∧
      Tab.get 0 t.lattice.seq (f.facet * 8 + crossTo f) = g.pairSeq + 1 ∧
      ∀ x, x ≠ id → findFrame t x = findFrame s x) ∧
  (∀ (id : Nat) (f : Frame) (s : State), s.frames = [(id, f)] → f.place = .lattice → 8 ≤ f.home →
    ∃ t g, exec (.latticeReceive id) s = .next (concluded s t) ∧ findFrame t id = some g ∧ g.place = .queued ∧
      (equeue t (frameQueue f)).order = (equeue s (frameQueue f)).order ++ [id]) ∧
  (∀ (f : Facet) (g : Fin 5) (peer : Nat) (s : State), s.lattice.pools.length = 40 →
    (poolGroup s f g).target = some peer →
    ∃ t, exec (.poolRetuneDone f g) s = .next t ∧ poolGroup t f g = { peer := peer, target := none } ∧
      ∀ f' g', (f' : Nat) * 5 + g' ≠ f.val * 5 + g.val → poolGroup t f' g' = poolGroup s f' g')

/-- FACET_OUT_OF_SERVICE marks the facet out and its lattice pairs DOWN both ways, and VERTEX_OUT_OF_SERVICE the
vertex; every port of the unit is then out of UP. -/
def Obligations.UnitsOutOfService : Prop :=
  (∀ (g x : Facet) (s : State), g ≠ x → g.val ∉ s.lattice.outFacets →
    ∃ t, exec (.facetOutOfService g) s = .next (concluded s t) ∧ g.val ∈ t.lattice.outFacets ∧
      rd t (Reg.LATTICE_STATE (g * 8 + x)) = 2 ∧ rd t (Reg.LATTICE_STATE (x * 8 + g)) = 2 ∧
      ∀ i, i < 256 → portUp t (g * 256 + i) = false) ∧
  (∀ (v : Vertex) (s : State), v.val ∉ s.lattice.outVertices →
    ∃ t, exec (.vertexOutOfService v) s = .next (concluded s t) ∧ v.val ∈ t.lattice.outVertices ∧
      ∀ i, i < 16 → portUp t (v * 16 + i) = false)

/-- A ring counts in its turn, locks at its line, and goes from LOCKED to HOLD and back as bus light is lost and
returns, as the lock state machine says. -/
def Obligations.RingLocks : Prop :=
  (∀ (r : Ring) (s : State), rd s (Reg.RING_STATE r) = 1 → busLight s r = true → rowTurn s r = true →
    (ringsIn s 2).length + ((ringsIn s 1).filter (fun q => decide (q < r.val) && wantsCount s q)).length <
      rd s Reg.OPTICS_SWEEP_MAX →
    exec (.ringCountStart r) s = .next (wr s (Reg.RING_STATE r) 2)) ∧
  (∀ (r : Ring) (h : BitVec 16) (s : State), rd s (Reg.RING_STATE r) = 2 →
    Tab.get false s.light.recount r = false →
    exec (.ringLineReached r h) s =
      .next (wr (wr (wr s (Reg.RING_STATE r) 3) (Reg.RING_HEATER r) h.toNat) (Reg.RING_LOCK_ERR r) 0)) ∧
  (∀ (r : Ring) (s : State), rd s (Reg.RING_STATE r) = 3 →
    exec (.busLightLost r) s = .next (concluded s (wr s (Reg.RING_STATE r) 4))) ∧
  (∀ (r : Ring) (s : State), rd s (Reg.RING_STATE r) = 4 →
    exec (.holdLightBack r true) s = .next (concluded s (wr s (Reg.RING_STATE r) 3))) ∧
  (∀ (l : Lane) (m : BitVec 16) (s : State),
    exec (.marginMeasure l m) s = .next (wr s (Reg.RING_MARGIN (l * 2 + 1)) m.toNat))

/-- Rings lose their lock, are held, parked to count again and relocked, or go to FAULT, as the ring lock state
machine says. -/
def Obligations.RingsParkedAndFaults : Prop :=
  ((∀ (r : Ring) (e : BitVec 16) (s : State), rd s (Reg.RING_STATE r) = 3 → busLight s r = true →
    ∃ t, exec (.ringLockError r e) s = .next (concluded s t) ∧ rd t (Reg.RING_STATE r) = 1 ∧
      rd t (Reg.RING_HEATER r) = 0 ∧ rd t (Reg.RING_OFFSET r) = 0 ∧ rd t (Reg.RING_LOCK_ERR r) = e.toNat ∧
      ∀ a, a ≠ Reg.RING_STATE r → a ≠ Reg.RING_HEATER r → a ≠ Reg.RING_OFFSET r → a ≠ Reg.RING_LOCK_ERR r →
        rd t a = rd s a) ∧
  (∀ (r : Ring) (s : State), rd s (Reg.RING_STATE r) = 4 →
    ∃ t, exec (.holdLightBack r false) s = .next (concluded s t) ∧ exec (.holdTimeout r) s = .next (concluded s t) ∧
      rd t (Reg.RING_STATE r) = 1 ∧ rd t (Reg.RING_HEATER r) = 0 ∧ rd t (Reg.RING_OFFSET r) = 0 ∧
      ∀ a, a ≠ Reg.RING_STATE r → a ≠ Reg.RING_HEATER r → a ≠ Reg.RING_OFFSET r → rd t a = rd s a)) ∧
  ((∀ (r : Ring) (s : State), rd s (Reg.RING_STATE r) = 2 →
    ∃ t, exec (.ringHeaterFull r) s = .next (concluded s t) ∧ rd t (Reg.RING_STATE r) = 6 ∧
      rd t (Reg.RING_HEATER r) = 0 ∧ ⟨Code.RING_FAULT, 9, recordData []⟩ ∈ t.raised ∧
      (Tab.find t.vets.requests (ringRowUnit r)).isSome = true) ∧
  (∀ (r : Ring) (s : State), rd s (Reg.RING_STATE r) = 5 →
    ∃ t, exec (.relockTimeout r) s = .next (concluded s t) ∧ rd t (Reg.RING_STATE r) = 6 ∧
      rd t (Reg.RING_HEATER r) = 0 ∧ ⟨Code.RING_FAULT, 9, recordData []⟩ ∈ t.raised ∧
      (Tab.find t.vets.requests (ringRowUnit r)).isSome = true) ∧
  (∀ (r : Ring) (used : Fin 32) (s : State), rd s (Reg.RING_STATE r) = 3 →
    used.val ≠ slotOf (r / 8) (r / 2 % 4) →
    ∃ t, exec (.laneIdMismatch r used) s = .next (concluded s t) ∧ rd t (Reg.RING_STATE r) = 5 ∧
      rd t (Reg.RING_OFFSET r) = toRaw 8 (rdI 8 s (Reg.RING_OFFSET r) +
        (if used.val < slotOf (r / 8) (r / 2 % 4) then 1 else -1)) ∧
      ⟨Code.RING_WRONG_WL, 9, recordData [(24, r), (8, slotOf (r / 8) (r / 2 % 4)), (8, used)]⟩ ∈ t.raised) ∧
  (∀ (r : Ring) (h : BitVec 16) (i : Fin 32) (s : State), rd s (Reg.RING_STATE r) = 5 →
    i.val = slotOf (r / 8) (r / 2 % 4) →
    ∃ t, exec (.relockDone r h i) s = .next (concluded s t) ∧ rd t (Reg.RING_STATE r) = 3 ∧
      rd t (Reg.RING_HEATER r) = h.toNat ∧
      rd t (Reg.RING_RELOCKS r) = min 65535 (rd s (Reg.RING_RELOCKS r) + 1) ∧
      rd t (Reg.RING_OFFSET r) = rd s (Reg.RING_OFFSET r)))

/-- CLS modules: an answered poll is stored and the first answer has the set point written; ENABLE 1 clears the
latch and asserts CLS_EN where CLS_FLT_N is high; ENABLE 0, an unanswered module, an asserted fault and a
shortfall after a rise drop it, each with its latch. -/
def Obligations.LightSourceModules : Prop :=
  (∀ (c : Cls) (id : BitVec 32) (st : BitVec 8) (temp : BitVec 16) (lines : List Int) (s : State),
    s.groom.up = true → rd s (Reg.CLS_EN_STATE c) = 1 →
    ∃ t, exec (.clsPoll c id st temp lines) s = .next t ∧ rd t (Reg.CLS_MODULE_ID c) = id.toNat ∧
      rd t (Reg.CLS_TEMP c) = temp.toNat ∧
      t.outputs = s.outputs ++ (if (Tab.get {} s.light.modules c : ClsState).answered then []
        else [.clsWrite c 0x50 (rd s (Reg.CLS_SETPOINT c))]) ∧
      (Tab.get {} t.light.modules c : ClsState).answered = true) ∧
  (∀ (c : Cls) (s : State), s.groom.up = true → rd s (Reg.CLS_FLT c) = 0 →
    ∃ t, exec (.clsEnable c) s = .next (concluded s t) ∧ rd t (Reg.CLS_ENABLE c) = 1 ∧
      rd t (Reg.CLS_LATCH c) = 0 ∧ rd t (Reg.CLS_EN_STATE c) = 1) ∧
  (∀ (c : Cls) (s : State), s.groom.up = true →
    ∃ t, exec (.clsDisable c) s = .next (concluded s t) ∧ rd t (Reg.CLS_ENABLE c) = 0 ∧
      rd t (Reg.CLS_EN_STATE c) = 0 ∧ rd t (Reg.CLS_LATCH c) = rd s (Reg.CLS_LATCH c)) ∧
  (∀ (c : Cls) (s : State), rd s (Reg.CLS_EN_STATE c) = 1 →
    (Tab.get {} s.light.modules c : ClsState).answered = false →
    ∃ t, exec (.clsAnswerTimeout c) s = .next (concluded s t) ∧ rd t (Reg.CLS_EN_STATE c) = 0 ∧
      rd t (Reg.CLS_LATCH c) = 4 ∧ ⟨Code.CLS_LATCH, 9, recordData []⟩ ∈ t.raised) ∧
  (∀ (c : Cls) (s : State), rd s (Reg.CLS_EN_STATE c) = 1 →
    ∃ t, exec (.clsFaultAssert c) s = .next (concluded s t) ∧ rd t (Reg.CLS_FLT c) = 1 ∧
      rd t (Reg.CLS_EN_STATE c) = 0 ∧ rd t (Reg.CLS_LATCH c) = 2 ∧ ⟨Code.CLS_LATCH, 9, recordData []⟩ ∈ t.raised) ∧
  (∀ (c : Cls) (ds : List Int) (d : Int) (s : State), rd s (Reg.CLS_EN_STATE c) = 1 → d ∈ ds → 300 < d →
    ∃ t, exec (.clsRiseCheck c ds) s = .next (concluded s t) ∧ rd t (Reg.CLS_EN_STATE c) = 0 ∧
      rd t (Reg.CLS_LATCH c) = 1 ∧ ⟨Code.FEED_BREAK, 9, recordData []⟩ ∈ t.raised) ∧
  (∀ (c : Cls) (s : State),
    exec (.clsFltNDeassert c) s = .next (concluded s (wr s (Reg.CLS_FLT c) 0)))

/-- A feed-monitor sample that shows neither a break nor a failed line is kept, and a confirmed FAIL of the selected
input takes the position out of service with FADE_FAIL; a scanned round is kept, a line's third window at or below
its threshold reaches the level, and the position follows the worst line of its selected input; commissioning
records each line's present power, sets the input's bit where every line was read, and writes no other element. -/
def Obligations.FeedsJudged : Prop :=
  (∀ (f : Feed) (i : Fin 2) (total : Int) (lines : List Int) (s : State),
    (∀ v ∈ (feedInput s f i).totals, v - total ≤ 1000) →
    (∀ y ∈ clsInputs (clsOf f i), y ≠ (f.val, i.val) → totalFell (feedInput s y.1 y.2) = false) →
    (∀ v ∈ (feedInput s f i).level, v ≠ 3) →
    (∀ k, k < 32 → lines ≠ [] → -400 < lines.getD k 0 - lineRef s f i k) →
    ∃ t, exec (.feedMonitorSample f i total lines) s = .next (concluded s t) ∧
      (feedInput t f i).totals = (total :: (feedInput s f i).totals).take 11 ∧ (feedInput t f i).at_ = now s ∧
      ∀ a, rd t a = rd s a) ∧
  (∀ (f : Feed) (i : Fin 2) (k : Fin 32) (total : Int) (lines : List Int) (s : State),
    (∀ v ∈ (feedInput s f i).totals, v - total ≤ 1000) →
    (∀ y ∈ clsInputs (clsOf f i), y ≠ (f.val, i.val) → totalFell (feedInput s y.1 y.2) = false) →
    rd s (Reg.FEED_SELECTED f) = i → rd s (Reg.FEED_STATE f) ≤ 2 → lines ≠ [] →
    1 ≤ (feedInput s f i).failRun.getD k 0 → lines.getD k 0 - lineRef s f i k ≤ -400 →
    ∃ t, exec (.feedMonitorSample f i total lines) s = .next (concluded s t) ∧ 3 ≤ rd t (Reg.FEED_STATE f) ∧
      ⟨Code.FADE_FAIL, 9, recordData []⟩ ∈ t.raised) ∧
  (∀ (f : Feed) (i : Fin 2) (rows : List (List Int)) (s : State), rows.length = 32 →
    rd s (Reg.FEED_SELECTED f) ≠ i → rd s (Reg.FEED_STATE f) ≠ 5 → (migration s f).step = 0 →
    ∃ t, exec (.feedWindowEval f i rows) s = .next (concluded s t) ∧
      (feedInput t f i).lines = rows.map (fun r => (tapMean r).1) ∧
      (∀ k, k < 32 → rd t (Reg.LINE_STBY_DBM (f * 32 + k)) = toRaw 16 (tapMean (rows.getD k [])).1) ∧
      rd t (Reg.FEED_STATE f) = rd s (Reg.FEED_STATE f)) ∧
  (∀ (f : Feed) (i : Fin 2) (rows : List (List Int)) (s : State), rows.length = 32 →
    rd s (Reg.FEED_SELECTED f) = i → rd s (Reg.FEED_STATE f) ≤ 2 → cfgRd s (Reg.FEED_MODE f) ≠ 0 →
    ∃ t, exec (.feedWindowEval f i rows) s = .next (concluded s t) ∧
      (feedInput t f i).lines = rows.map (fun r => (tapMean r).1) ∧
      (∀ k, k < 32 → rd t (Reg.LINE_SEL_DBM (f * 32 + k)) = toRaw 16 (tapMean (rows.getD k [])).1 ∧
        rd t (Reg.LINE_SPREAD (f * 32 + k)) = (tapMean (rows.getD k [])).2 ∧
        rd t (Reg.LINE_STATE (f * 32 + k)) = (feedInput t f i).level.getD k 0 ∧
        ((feedInput s f i).level.getD k 0 ≠ 3 → 2 ≤ (feedInput s f i).migRun.getD k 0 →
          (tapMean (rows.getD k [])).1 - lineRef s f i k ≤ -250 → (feedInput t f i).level.getD k 0 = 2) ∧
        ((feedInput s f i).level.getD k 0 = 0 → 2 ≤ (feedInput s f i).warnRun.getD k 0 →
          (tapMean (rows.getD k [])).1 - lineRef s f i k ≤ -150 →
          -250 < (tapMean (rows.getD k [])).1 - lineRef s f i k → (feedInput t f i).level.getD k 0 = 1)) ∧
      rd t (Reg.FEED_STATE f) = min 2 ((feedInput t f i).level.foldl max 0)) ∧
  (∀ (f : Feed) (s : State), s.groom.up = true → rd s (Reg.FEED_STATE f) ≠ 3 → rd s (Reg.FEED_STATE f) ≠ 5 →
    let power := fun k => if rd s (Reg.FEED_SELECTED f) = 0 then rdI 16 s (Reg.LINE_SEL_DBM (f * 32 + k))
      else (feedInput s f 0).lines.getD k (-32768)
    ∃ t, exec (.commissionA f) s = .next (concluded s t) ∧
      (∀ k, k < 32 → rd t (Reg.LINE_REF_A (f * 32 + k)) = toRaw 16 (power k)) ∧
      (rd t (Reg.FEED_COMMISSIONED f)).testBit 0 = (List.range 32).all (fun k => decide (power k ≠ -32768)) ∧
      rd t (Reg.FEED_RESULT f) = 0 ∧
      ∀ a, a ≠ Reg.FEED_COMMISSIONED f → a ≠ Reg.FEED_RESULT f → a ≠ Reg.FEED_STANDBY f →
        (∀ k, k < 32 → a ≠ Reg.LINE_REF_A (f * 32 + k)) → rd t a = rd s a) ∧
  (∀ (f : Feed) (s : State), s.groom.up = true → rd s (Reg.FEED_STATE f) ≠ 3 → rd s (Reg.FEED_STATE f) ≠ 5 →
    let power := fun k => if rd s (Reg.FEED_SELECTED f) = 1 then rdI 16 s (Reg.LINE_SEL_DBM (f * 32 + k))
      else (feedInput s f 1).lines.getD k (-32768)
    ∃ t, exec (.commissionB f) s = .next (concluded s t) ∧
      (∀ k, k < 32 → rd t (Reg.LINE_REF_B (f * 32 + k)) = toRaw 16 (power k)) ∧
      (rd t (Reg.FEED_COMMISSIONED f)).testBit 1 = (List.range 32).all (fun k => decide (power k ≠ -32768)) ∧
      rd t (Reg.FEED_RESULT f) = 0 ∧
      ∀ a, a ≠ Reg.FEED_COMMISSIONED f → a ≠ Reg.FEED_RESULT f → a ≠ Reg.FEED_STANDBY f →
        (∀ k, k < 32 → a ≠ Reg.LINE_REF_B (f * 32 + k)) → rd t a = rd s a)

/-- The steps of a feed migration: MIGRATE starts it, a good standby retires the ports, acknowledgement or its
limit goes on to the drain, the drain or its limit switches the selector to the other input, locked transmit
rings bring the light back, and the ports' return ends it with RESULT 0, or 4 where frames were flushed. -/
def Obligations.FeedMigration : Prop :=
  (∀ (f : Feed) (s : State), s.groom.up = true → rd s (Reg.FEED_STATE f) ≤ 2 →
    ∃ t, exec (.migrate f) s = .next (concluded s t) ∧ rd t (Reg.FEED_STATE f) = 3 ∧
      (migration t f).step = 2 ∧ (migration t f).t0 = now s) ∧
  (∀ (f : Feed) (s : State), (migration s f).step = 2 → rd s (Reg.FEED_SELECTED f) ≠ 0xFF →
    passesR70 s f (1 - rd s (Reg.FEED_SELECTED f)) = true →
    ∃ t, exec (.migrationStandbyChecked f) s = .next (concluded s t) ∧ (migration t f).step = 4 ∧
      ∀ p ∈ feedPorts s f, (link t p).retiring = true) ∧
  (∀ (f : Feed) (s : State), (migration s f).step = 4 → allAcked s (feedPorts s f) = true →
    exec (.migrationPartnersAcked f) s =
      .next (concluded s (setMigration s f { migration s f with step := 5 }))) ∧
  (∀ (f : Feed) (s : State), (migration s f).step = 4 →
    exec (.migrationAckLimit f) s = .next (concluded s (setMigration s f { migration s f with step := 5 }))) ∧
  (∀ (f : Feed) (s : State), (migration s f).step = 5 → allDrained s (feedPorts s f) = true → tapIdle s f = true →
    rd s (Reg.FEED_SELECTED f) ≤ 1 →
    ∃ t, exec (.migrationDrained f) s = .next (concluded s t) ∧
      rd t (Reg.FEED_SELECTED f) = 1 - rd s (Reg.FEED_SELECTED f) ∧ rd t (Reg.FEED_STATE f) = 3 ∧
      (migration t f).step = 8 ∧ (migration t f).flushed = false) ∧
  (∀ (f : Feed) (s : State), (migration s f).step = 5 → rd s (Reg.FEED_SELECTED f) ≤ 1 →
    ∃ t, exec (.migrationDrainLimit f) s = .next (concluded s t) ∧
      rd t (Reg.FEED_SELECTED f) = 1 - rd s (Reg.FEED_SELECTED f) ∧ rd t (Reg.FEED_STATE f) = 3 ∧
      (migration t f).step = 8 ∧ (migration t f).flushed = true) ∧
  (∀ (f : Feed) (s : State), (migration s f).step = 8 →
    (∀ p ∈ feedPorts s f, ∀ k, k < 4 → rd s (Reg.RING_STATE ((p * 4 + k) * 2)) = 3) →
    ∃ t, exec (.migrationTxLocked f) s = .next (concluded s t) ∧ (migration t f).step = 9) ∧
  (∀ (f : Feed) (s : State), (migration s f).step = 9 →
    (∀ p ∈ feedPorts s f, rd s (Reg.PORT_STATE p) = 5) →
    ∃ t, exec (.migrationPortsUp f) s = .next (concluded s t) ∧ rd t (Reg.FEED_STATE f) = 0 ∧
      rd t (Reg.FEED_COMMAND f) = 0 ∧ rd t (Reg.FEED_RESULT f) = (if (migration s f).flushed then 4 else 0) ∧
      rd t (Reg.FEED_MIGRATIONS f) = (rd s (Reg.FEED_MIGRATIONS f) + 1) % 2 ^ 32 ∧ (migration t f).step = 0)

/-- Loss of light shuts a pair unless a dark was announced, the probe runs and ends, the partner's light opens the
pair again, and a dark that outlasts its limit shuts it; the optical start enables the modules in their order
and then chooses each position's input. -/
def Obligations.EyeSafetyAndStart : Prop :=
  ((∀ (t : Pair) (dbm : Int) (s : State), dbm < -2000 → -32768 ≤ dbm → (rd s (Reg.EYE_STATE t) = 0 ∨ rd s (Reg.EYE_STATE t) = 4) →
    (∀ p ∈ pairPorts t, (link s p).darkUntil = false) →
    ∃ u, exec (.lossOfLight t dbm) s = .next (concluded s u) ∧ rd u (Reg.EYE_STATE t) = 1 ∧
      rd u (Reg.EYE_SHUTS t) = (rd s (Reg.EYE_SHUTS t) + 1) % 2 ^ 32 ∧ rdI 16 u (Reg.EYE_RX_DBM t) = dbm ∧
      (pairState u t).closed = true ∧ ⟨Code.EYE_SHUT, 9, recordData []⟩ ∈ u.raised) ∧
  (∀ (t : Pair) (dbm : Int) (s : State), dbm < -2000 → -32768 ≤ dbm → (rd s (Reg.EYE_STATE t) = 0 ∨ rd s (Reg.EYE_STATE t) = 4) →
    (∃ p ∈ pairPorts t, (link s p).darkUntil = true) →
    ∃ u, exec (.lossOfLight t dbm) s = .next (concluded s u) ∧ rd u (Reg.EYE_STATE t) = 3 ∧
      (pairState u t).probe = true) ∧
  (∀ (t : Pair) (s : State), rd s (Reg.EYE_STATE t) = 1 →
    ∃ u, exec (.probeTimer t) s = .next (concluded s u) ∧ rd u (Reg.EYE_STATE t) = 2 ∧
      (pairState u t).probe = true ∧ (pairState u t).closed = false) ∧
  (∀ (t : Pair) (s : State), rd s (Reg.EYE_STATE t) = 2 →
    ∃ u, exec (.probeEnd t) s = .next (concluded s u) ∧ rd u (Reg.EYE_STATE t) = 1 ∧
      (pairState u t).probe = false ∧ (pairState u t).closed = true) ∧
  (∀ (t : Pair) (dbm : Int) (s : State), -1700 < dbm → dbm < 32768 →
    (rd s (Reg.EYE_STATE t) = 1 ∨ rd s (Reg.EYE_STATE t) = 2) →
    ∃ u, exec (.partnerLightSeen t dbm) s = .next (concluded s u) ∧ rd u (Reg.EYE_STATE t) = 0 ∧
      rdI 16 u (Reg.EYE_RX_DBM t) = dbm ∧ (pairState u t).closed = false ∧
      ⟨Code.EYE_OPEN, 9, recordData []⟩ ∈ u.raised) ∧
  (∀ (t : Pair) (s : State), rd s (Reg.EYE_STATE t) = 3 →
    ∃ u, exec (.darkLimitExpired t) s = .next (concluded s u) ∧ rd u (Reg.EYE_STATE t) = 1 ∧
      (pairState u t).closed = true ∧ ⟨Code.DARK_EXPIRED, 9, recordData []⟩ ∈ u.raised)) ∧
  ((∀ s : State, s.groom.up = true → rd s Reg.POWER_READY = 1 → s.light.started = false →
    rd s (Reg.CLS_ENABLE 0) = 1 → rd s (Reg.CLS_LATCH 0) = 0 → rd s (Reg.CLS_FLT 0) = 0 →
    ∃ t, exec .opticalStart s = .next t ∧ t.light.started = true ∧ t.light.stagger = 1 ∧
      rd t (Reg.CLS_EN_STATE 0) = 1 ∧ ∀ a, a ≠ Reg.CLS_EN_STATE 0 → rd t a = rd s a) ∧
  (∀ (n : Cls) (s : State), s.groom.up = true → s.light.started = true → s.light.stagger = n →
    rd s (Reg.CLS_ENABLE n) = 1 → rd s (Reg.CLS_LATCH n) = 0 → rd s (Reg.CLS_FLT n) = 0 →
    ∃ t, exec .clsStaggerTimer s = .next (concluded s t) ∧ t.light.stagger = n + 1 ∧
      rd t (Reg.CLS_EN_STATE n) = 1 ∧ ∀ a, a ≠ Reg.CLS_EN_STATE n → rd t a = rd s a) ∧
  (∀ s : State, s.groom.up = true → s.light.started = true → s.light.stagger = 16 →
    ∃ t, exec .clsStaggerTimer s = .next (concluded s t) ∧ t.light.stagger = 17 ∧
      ∀ f : Feed, rd t (Reg.FEED_SELECTED f) = (if passesR70 s f 0 = true then 0 else if passesR70 s f 1 = true then 1
          else rd s (Reg.FEED_SELECTED f)) ∧
        rd t (Reg.FEED_STATE f) = (if passesR70 s f 0 = true ∨ passesR70 s f 1 = true then 0 else 5)))

/-- Training: an attempt begins in SEEK with the lanes whose rings are locked, at least three aligned lanes enter
INIT with fresh sequence numbers and credits, and an attempt that runs out ends in DOWN with its failure
counted. -/
def Obligations.LinkTraining : Prop :=
  (∀ (p : Port) (s : State), trainable s p = true →
    ∃ t, exec (.linkTrainStart p) s = .next t ∧ exec (.trainRetryTimer p) s = .next t ∧
      rd t (Reg.PORT_STATE p) = 1 ∧ (link t p).attempt = true ∧ (link t p).rxReq = lanesReady s p ∧
      (∀ a, a ≠ Reg.PORT_STATE p → rd t a = rd s a)) ∧
  (∀ (p : Port) (lanes : BitVec 4) (s : State), rd s (Reg.PORT_STATE p) = 3 →
    3 ≤ popcount 4 ((link s p).rxReq &&& lanes.toNat) →
    ∃ t, exec (.trainAlignDone p lanes) s = .next (concluded s t) ∧ rd t (Reg.PORT_STATE p) = 4 ∧
      (link t p).rxReq = (link s p).rxReq &&& lanes.toNat ∧ (link t p).seq = 0 ∧ (link t p).expect = 0 ∧
      (link t p).kaSeq = ((link s p).kaSeq + 1) % 2 ^ 16 ∧ (link t p).retry = [] ∧
      ∀ v, v < 9 → rd t (Reg.CREDIT_TX_HELD_DED (16 * p + v)) = 0 ∧ rd t (Reg.CREDIT_TX_HELD_SHARED (16 * p + v)) = 0) ∧
  (∀ (p : Port) (s : State), (link s p).attempt = true → 1 ≤ rd s (Reg.PORT_STATE p) →
    rd s (Reg.PORT_STATE p) ≤ 4 → (link s p).peerDownSeen = false →
    ∃ t, exec (.trainTimeout p) s = .next (concluded s t) ∧ rd t (Reg.PORT_STATE p) = 0 ∧
      rd t (Reg.PORT_DOWN_REASON p) = 13 ∧ (link t p).attempt = false ∧ (link t p).fails = (link s p).fails + 1)

/-- MARKER_SEND sends this port's marker on each of its four lanes and counts the marker number on; a marker with
no good copy counts against its lane, one with a good copy for it. -/
def Obligations.LaneMarkers : Prop :=
  (∀ (p : Port) (s : State), rd s (Reg.PORT_STATE p) ≠ 6 → rd s (Reg.EYE_STATE (pairOf p)) = 0 →
    chordTakes s p = false → (link s p).rxSwitch = none → (link s p).txSwitch = none →
    ∃ t, exec (.markerSend p) s = .next (concluded s t) ∧
      t.outputs = s.outputs ++ [.marker p 0 (laneMarker (markerBlock s p 0)),
        .marker p 1 (laneMarker (markerBlock s p 1)), .marker p 2 (laneMarker (markerBlock s p 2)),
        .marker p 3 (laneMarker (markerBlock s p 3))] ∧
      (link t p).markNo = ((link s p).markNo + 1) % 2 ^ 32 ∧ ∀ a, rd t a = rd s a) ∧
  (∀ (p : Port) (k : PortLane) (copies : List MarkerCopy) (s : State), copies.find? markerGood = none →
    (link s p).good.length = 4 → (link s p).bad.length = 4 →
    ∃ t, exec (.markerReceived p k copies) s = .next (concluded s t) ∧ (link t p).good.getD k 0 = 0 ∧
      (link t p).bad.getD k 0 = (link s p).bad.getD k 0 + 1) ∧
  (∀ (p : Port) (k : PortLane) (copies : List MarkerCopy) (c : MarkerCopy) (s : State),
    copies.find? markerGood = some c → rd s (Reg.PORT_STATE p) = 5 → (link s p).rxSwitch = none →
    (link s p).good.length = 4 → (link s p).bad.length = 4 →
    ∃ t, exec (.markerReceived p k copies) s = .next (concluded s t) ∧
      (link t p).good.getD k 0 = (link s p).good.getD k 0 + 1 ∧ (link t p).bad.getD k 0 = 0 ∧
      (link t p).peerMark = field c.toNat 204 32)

/-- FLIT_SLOT: every 17th slot carries a CONTROL flit; a port with nothing to send sends a NULL flit that
acknowledges what it expects; blocks to be sent go out in a DATA flit with the next FSEQ, which the retry buffer
keeps; after a NAK the oldest flit to be resent goes out again with REPLAY set; and a slot whose room completes a
fill word is preceded by one. The stream of flits and fill words goes to the lanes by their coding. -/
def Obligations.FlitsSent : Prop :=
  (∀ (p : Port) (s : State), (rd s (Reg.PORT_STATE p) = 4 ∨ rd s (Reg.PORT_STATE p) = 5) →
    (link s p).slots = 16 → (link s p).nak = false → (link s p).fillDue + 223 * 8192 < 1184033 * 64 →
    let u := setCmdBit p 28 (portEmpty s p && (link s p).sending.isEmpty && (link s p).retry.isEmpty)
      (modLink s p (fun l => { l with slots := 0, fillDue := l.fillDue + 223 * 8192 }))
    exec (.flitSlot (p, false)) s = .next (concluded s (putFlit p (controlFlit u p) u))) ∧
  (∀ (p : Port) (s : State), rd s (Reg.PORT_STATE p) = 5 → (link s p).slots < 16 → (link s p).nak = false →
    (link s p).fillDue + 223 * 8192 < 1184033 * 64 → (link s p).resend = [] → (link s p).sending = [] →
    exec (.flitSlot (p, false)) s = .next (concluded s (putFlit p
      (mkFlit (flitHeader 1 (link s p).seq (((link s p).expect + 0xFFFF) % 2 ^ 16) (link s p).ackValid false false 63 63)
        (idleBlocks 63))
      (modLink s p (fun l => { l with slots := l.slots + 1, fillDue := l.fillDue + 223 * 8192 }))))) ∧
  (∀ (p : Port) (f : Flit) (rest : List Flit) (s : State), rd s (Reg.PORT_STATE p) = 5 → (link s p).slots < 16 →
    (link s p).sleep ≠ .settling → (link s p).nak = false → (link s p).fillDue + 223 * 8192 < 1184033 * 64 →
    (link s p).resend = f :: rest →
    exec (.flitSlot (p, false)) s = .next (concluded s (putFlit p
      (mkFlit (flitHeader 0 (field f.hdr.toNat 76 16) (((link s p).expect + 0xFFFF) % 2 ^ 16) (link s p).ackValid false
        true (field f.hdr.toNat 50 6) (field f.hdr.toNat 44 6)) f.payload)
      (modLink s p (fun l => { l with
        slots := l.slots + 1, fillDue := l.fillDue + 223 * 8192, resend := rest, lastData := now s }))))) ∧
  (∀ (p : Port) (s : State), rd s (Reg.PORT_STATE p) = 5 → (link s p).slots < 16 → (link s p).sleep ≠ .settling →
    (link s p).nak = false → (link s p).resend = [] → (link s p).retry.length < 96 →
    (gather s (link s p).sending 63 [] 63 []).1 ≠ [] →
    ∃ t f, exec (.flitSlot (p, false)) s = .next (concluded s t) ∧ .flit p f ∈ t.outputs ∧
      field f.hdr.toNat 92 4 = 0 ∧ field f.hdr.toNat 76 16 = (link s p).seq % 2 ^ 16 ∧ f.payload.length = 63 ∧
      (link t p).retry = (link s p).retry ++ [f] ∧ (link t p).seq = ((link s p).seq + 1) % 2 ^ 16) ∧
  (∀ (p : Port) (s : State), 1184033 * 64 ≤ (link s p).fillDue + 223 * 8192 →
    let u := modLink s p (fun l => { l with fillDue := l.fillDue + 223 * 8192 - 1184033 * 64 })
    paceFill p s = countPort (sendStream p 64 0xF000000000000000 (emit u (.fill p))) p 0x2009) ∧
  (∀ (p : Port) (f : Flit) (s : State), putFlit p f s = sendStream p 8192 (flitNat f) (emit s (.flit p f)))

/-- The flits that the received symbols complete are taken in their order; a DATA flit that is good, expected and
bounded as its frames imply is accepted and the expected FSEQ moves on; a bad one sets NAK and waits for the
replay; a NAK has the retry buffer resent; a CONTROL flit returns credits and carries the partner's timestamp;
KEEPALIVE_TIMER advances KASEQ and samples the keepalive's fields. -/
def Obligations.FlitsReceived : Prop :=
  (∀ (p : Port) (lanes : LaneSymbols) (s : State),
    (rd s (Reg.PORT_STATE p) = 4 ∨ rd s (Reg.PORT_STATE p) = 5 ∨ rd s (Reg.PORT_STATE p) = 7) →
    exec (.dataFlitReceived p lanes) s = .next (concluded s ((takeSymbols p lanes s).2.foldl
      (fun u f => takeFlit p false f u) (takeSymbols p lanes s).1)) ∧
    exec (.controlFlitReceived p lanes) s = .next (concluded s ((takeSymbols p lanes s).2.foldl
      (fun u f => takeFlit p true f u) (takeSymbols p lanes s).1))) ∧
  (∀ (p : Port) (lanes : LaneSymbols) (f : Flit) (u s : State), rd s (Reg.PORT_STATE p) = 5 →
    takeSymbols p lanes s = (u, [f]) → f.decoded = true → crcGood f = true → field f.hdr.toNat 92 4 = 0 →
    field f.hdr.toNat 58 1 = 0 → field f.hdr.toNat 76 16 = (link u p).expect →
    boundariesAgree (link u p).flitRemain (field f.hdr.toNat 50 6) (field f.hdr.toNat 44 6) = true →
    ((link u p).retryWait = true → field f.hdr.toNat 57 1 = 1) → (link u p).sleep ≠ .settling →
    ∃ t, exec (.dataFlitReceived p lanes) s = .next (concluded s (pump t p)) ∧
      (link t p).expect = ((link u p).expect + 1) % 2 ^ 16 ∧ (link t p).ackValid = true ∧
      (link t p).retryWait = false ∧ (link t p).naks = 0 ∧ (link t p).nak = (link u p).nak ∧
      (link t p).rxBlocks = (link u p).rxBlocks ++ f.payload.take (field f.hdr.toNat 44 6) ∧
      (link t p).lastData = now u ∧
      (field f.hdr.toNat 59 1 = 1 → (link t p).acked = field f.hdr.toNat 60 16) ∧
      (field f.hdr.toNat 59 1 = 0 → (link t p).retry = (link u p).retry) ∧
      t.frames = u.frames ∧ t.egress = u.egress ∧ ∀ a, rd t a = rd u a) ∧
  (∀ (p : Port) (lanes : LaneSymbols) (f : Flit) (u s : State), rd s (Reg.PORT_STATE p) = 5 →
    takeSymbols p lanes s = (u, [f]) → (f.decoded && crcGood f) = false → field f.hdr.toNat 92 4 ≠ 1 →
    (link u p).retryWait = false → (link u p).sleep ≠ .settling → exclusionPending u p = false →
    ∃ t, exec (.dataFlitReceived p lanes) s = .next (concluded s t) ∧ (link t p).retryWait = true ∧
      (link t p).nak = true ∧ (link t p).naks = 0 ∧ (link t p).expect = (link u p).expect ∧
      (link t p).rxBlocks = (link u p).rxBlocks ∧ t.frames = u.frames ∧ ∀ a, rd t a = rd u a) ∧
  (∀ (p : Port) (h : Nat) (s : State), field h 58 1 = 1 → field h 59 1 = 0 →
    takeAck p h s = countPort (modLink s p (fun l => { l with resend := l.retry })) p 0x2007) ∧
  (∀ (p : Port) (lanes : LaneSymbols) (f : Flit) (u s : State), rd s (Reg.PORT_STATE p) = 5 →
    takeSymbols p lanes s = (u, [f]) → f.decoded = true → crcGood f = true → field f.hdr.toNat 92 4 = 2 →
    (link u p).peerFreed.length = 9 → ctl (payloadNat f.payload) 36 4 = (link u p).peerCmd →
    ctl (payloadNat f.payload) 40 2 = (link u p).peerKa →
    ∃ t, exec (.controlFlitReceived p lanes) s = .next (concluded s t) ∧ rd t (Reg.PORT_STATE p) = 5 ∧
      (∀ v, v < 9 →
        let freed := (ctl (payloadNat f.payload) (4 * v) 4 + 2 ^ 32 - (link u p).peerFreed.getD v 0) % 2 ^ 32
        let ded := rd u (Reg.CREDIT_TX_HELD_DED (16 * p + v))
        (link t p).peerFreed.getD v 0 = ctl (payloadNat f.payload) (4 * v) 4 ∧
        rd t (Reg.CREDIT_TX_HELD_DED (16 * p + v)) = ded - freed ∧
        rd t (Reg.CREDIT_TX_HELD_SHARED (16 * p + v)) =
          rd u (Reg.CREDIT_TX_HELD_SHARED (16 * p + v)) - (freed - ded)) ∧
      (link t p).peerTs = ctl (payloadNat f.payload) 44 4 ∧ (link t p).peerTsAt = now u) ∧
  (∀ (p : Port) (s : State), (rd s (Reg.PORT_STATE p) = 4 ∨ rd s (Reg.PORT_STATE p) = 5) →
    exec (.keepaliveTimer p) s = .next (modLink s p (fun l => { l with
      kaSeq := (l.kaSeq + 1) % 2 ^ 16, kaSample := keepaliveFields s p })))

/-- RETRY_WAIT_TIMER sends NAK again, and after eight takes the port down with reason 5; ACK_TIMEOUT takes it down
with 6, KA_LOST with 7, a window of more than 1,000 uncorrectable codewords at full lanes with 4, a second lane lost
with 3. -/
def Obligations.LinkTimersTakeThePortDown : Prop :=
  (∀ (p : Port) (s : State), rd s (Reg.PORT_STATE p) = 5 → (link s p).retryWait = true →
    (link s p).rxSwitch = none → (link s p).naks < 8 →
    exec (.retryWaitTimer p) s = .next (concluded s (modLink s p (fun l => { l with nak := true })))) ∧
  (∀ (p : Port) (s : State), rd s (Reg.PORT_STATE p) = 5 → (link s p).retryWait = true →
    (link s p).rxSwitch = none → 8 ≤ (link s p).naks →
    ∃ t, exec (.retryWaitTimer p) s = .next (concluded s t) ∧ rd t (Reg.PORT_STATE p) = 0 ∧
      rd t (Reg.PORT_DOWN_REASON p) = 5) ∧
  (∀ (p : Port) (s : State), rd s (Reg.PORT_STATE p) = 5 → (link s p).retry ≠ [] →
    ∃ t, exec (.ackTimeout p) s = .next (concluded s t) ∧ rd t (Reg.PORT_STATE p) = 0 ∧
      rd t (Reg.PORT_DOWN_REASON p) = 6) ∧
  (∀ (p : Port) (s : State), rd s (Reg.PORT_STATE p) = 5 →
    ∃ t, exec (.kaLost p) s = .next (concluded s t) ∧ rd t (Reg.PORT_STATE p) = 0 ∧
      rd t (Reg.PORT_DOWN_REASON p) = 7) ∧
  (∀ (p : Port) (n : Nat) (s : State), rd s (Reg.PORT_STATE p) = 5 → 1000 < (link s p).badWords + n →
    rd s (Reg.PORT_RXMASK p) = 15 → (link s p).rxSwitch = none →
    ∃ t, exec (.uncorrectableWindow p n) s = .next (concluded s t) ∧ rd t (Reg.PORT_STATE p) = 0 ∧
      rd t (Reg.PORT_DOWN_REASON p) = 4) ∧
  (∀ (p : Port) (s : State), (link s p).badWords ≤ 1000 →
    exec (.uncorrectableWindow p 0) s = .next (concluded s (modLink s p (fun l => { l with badWords := 0 })))) ∧
  (∀ (p : Port) (k : PortLane) (c : Fin 3) (s : State), rd s (Reg.PORT_STATE p) = 5 → (link s p).rxSwitch = none →
    (c ≠ 0 ∨ 2 ≤ (link s p).bad.getD k 0) →
    (rd s (Reg.PORT_RXMASK p)).testBit k = true → popcount 4 (rd s (Reg.PORT_RXMASK p)) = 3 →
    ∃ t, exec (.laneExclude p k c) s = .next (concluded s t) ∧ rd t (Reg.PORT_STATE p) = 0 ∧
      rd t (Reg.PORT_DOWN_REASON p) = 3)

/-- Lanes are excluded and restored, and ports fall asleep, settle and wake, as the link rules say. -/
def Obligations.FavourModeAndSleep : Prop :=
  ((∀ (p : Port) (k : PortLane) (c : Fin 3) (s : State), rd s (Reg.PORT_STATE p) = 5 → (link s p).rxSwitch = none →
    rd s (Reg.PORT_RXMASK p) = 15 → (c ≠ 0 ∨ 2 ≤ (link s p).bad.getD k 0) →
    exec (.laneExclude p k c) s = .next (concluded s (modLink s p (fun l => { l with
      rxSwitch := some ⟨15 - 2 ^ k.val, 2 ^ 32, c⟩, rxReq := 15 - 2 ^ k.val, nakUsed := false })))) ∧
  (∀ (p : Port) (k : PortLane) (s : State), rd s (Reg.PORT_STATE p) = 5 → (link s p).rxSwitch = none →
    (rd s (Reg.PORT_RXMASK p)).testBit k = false →
    exec (.laneRestore p k) s = .next (modLink s p (fun l => { l with
      rxSwitch := some ⟨15, 2 ^ 32, 0⟩, rxReq := 15 })))) ∧
  ((∀ (p : Port) (s : State), maySleep s p = true → (link s p).sleep = .none →
    ∃ t, exec (.sleepIdleTimer p) s = .next t ∧ (link t p).sleep = .requested ∧ (link t p).cmd.testBit 27 = true ∧
      ∀ a, rd t a = rd s a) ∧
  (∀ (p : Port) (s : State), rd s (Reg.PORT_STATE p) = 5 → (link s p).sleep = .settling →
    (link s p).wakeSeen = false → portEmpty s p = true → (link s p).sending = [] →
    ∃ t, exec (.settleWindowClose p) s = .next t ∧ rd t (Reg.PORT_STATE p) = 6 ∧ (link t p).sleep = .quiet) ∧
  (∀ (p : Port) (s : State), rd s (Reg.PORT_STATE p) = 6 →
    ∃ t, exec (.wakeModulationDetected p) s = .next t ∧ exec (.sleepMaxTimer p) s = .next t ∧
      rd t (Reg.PORT_STATE p) = 7 ∧ (link t p).sleep = .waking ∧ ∀ a, a ≠ Reg.PORT_STATE p → rd t a = rd s a) ∧
  (∀ (p : Port) (s : State), rd s (Reg.PORT_STATE p) = 7 →
    ∃ t, exec (.wakeRetrainDone p) s = .next t ∧ rd t (Reg.PORT_STATE p) = 5 ∧ (link t p).sleep = .none ∧
      (link t p).resend = (link s p).retry ∧ ∀ a, a ≠ Reg.PORT_STATE p → rd t a = rd s a) ∧
  (∀ (p : Port) (s : State), rd s (Reg.PORT_STATE p) = 7 →
    ∃ t, exec (.wakeTimeout p) s = .next (concluded s t) ∧ rd t (Reg.PORT_STATE p) = 0 ∧
      rd t (Reg.PORT_DOWN_REASON p) = 13))

/-- A port that carries data goes down with its reason, no lane in service, its loss counted and PORT_DOWN
written; ADMIN 1 takes it down with reason 1 and ADMIN 0 clears its failures, its DOWN level and its rings' FAULT;
a port that a chord holds keeps the written ADMIN alone. -/
def Obligations.PortsGoDown : Prop :=
  (∀ (p : Port) (why : Fin 16) (s : State), 5 ≤ rd s (Reg.PORT_STATE p) → rd s (Reg.PORT_STATE p) ≤ 7 →
    ∃ t, exec (.portDown p why) s = .next (concluded s t) ∧ rd t (Reg.PORT_STATE p) = 0 ∧
      rd t (Reg.PORT_TXMASK p) = 0 ∧ rd t (Reg.PORT_RXMASK p) = 0 ∧ rd t (Reg.PORT_FLIT_RATE p) = 0 ∧
      rd t (Reg.PORT_DOWN_REASON p) = why ∧ rd t (Reg.PORT_DOWNS p) = (rd s (Reg.PORT_DOWNS p) + 1) % 2 ^ 32 ∧
      ⟨Code.PORT_DOWN, p.val / 256, recordData [(8, why.val)]⟩ ∈ t.raised) ∧
  (∀ (p : Port) (s : State), s.groom.up = true → chordHeld s p = false →
    ∃ t, exec (.adminDown p) s = .next (concluded s t) ∧ rd t (Reg.PORT_ADMIN p) = 1 ∧
      rd t (Reg.PORT_STATE p) = 0 ∧ rd t (Reg.PORT_DOWN_REASON p) = 1) ∧
  (∀ (p : Port) (s : State), s.groom.up = true → chordHeld s p = false →
    ∃ t, exec (.adminUp p) s = .next (concluded s t) ∧ rd t (Reg.PORT_ADMIN p) = 0 ∧ (link t p).fails = 0 ∧
      (link t p).cmd.testBit 22 = false ∧
      ∀ r ∈ portRings p, rd t (Reg.RING_STATE r) =
        (if rd s (Reg.RING_STATE r) = 6 ∨ (rd s (Reg.RING_STATE r) = 0 ∧ s.light.stagger = 17) then 1
         else rd s (Reg.RING_STATE r))) ∧
  (∀ (p : Port) (s : State), s.groom.up = true → chordHeld s p = true →
    exec (.adminDown p) s = .next (concluded s (wr s (Reg.PORT_ADMIN p) 1)) ∧
    exec (.adminUp p) s = .next (concluded s (wr s (Reg.PORT_ADMIN p) 0)))

/-- A chord: once its pairs are OPEN its local rings go OFF and its chord rings are seeded, locked chord rings light
it, a strand that does not settle is reseeded once and then faults it with both strands dumped, and its teardown
gives the freed rings back to count again and ends UNUSED when they are done. -/
def Obligations.ChordLife : Prop :=
  (∀ (c : Chord) (k side : Nat) (s : State), rd s (Reg.CHORD_STATE c) = 1 →
    rd s (Reg.EYE_STATE (pairOf (chordOf s c).portA)) = 0 → rd s (Reg.EYE_STATE (pairOf (chordOf s c).portB)) = 0 →
    seedable s (chordOf s c).portA = true → seedable s (chordOf s c).portB = true → k < 4 → side < 2 →
    ∃ t, exec (.chordPendingReady c) s = .next (concluded s t) ∧ rd t (Reg.CHORD_STATE c) = 2 ∧
      rd t (Reg.RING_STATE (((chordOf s c).portA * 4 + k) * 2 + side)) = 0 ∧
      rd t (Reg.RING_STATE (((chordOf s c).portB * 4 + k) * 2 + side)) = 0) ∧
  (∀ (c : Chord) (a b : BitVec 16) (s : State), rd s (Reg.CHORD_STATE c) = 2 → (chordOf s c).removing = false →
    ∃ t, exec (.chordRingsLocked c a b) s = .next (concluded s t) ∧ rd t (Reg.CHORD_STATE c) = 3 ∧
      rd t (Reg.CHORD_PWR_AB c) = a.toNat ∧ rd t (Reg.CHORD_PWR_BA c) = b.toNat ∧ (chordOf t c).locked = true ∧
      t.raised = s.raised ++ [⟨Code.CHORD_LIT, 9, recordData [(24, c.val), (16, twinPort s (chordOf s c).portA),
        (16, twinPort s (chordOf s c).portB)]⟩]) ∧
  (∀ (c : Chord) (d : Fin 2) (drop : Bool) (s : State), rd s (Reg.CHORD_STATE c) = 2 →
    (chordOf s c).retried.length = 2 → (chordOf s c).retried.getD d false = false →
    ∃ t, exec (.chordSettleTimeout c (d, drop)) s = .next (concluded s t) ∧
      (chordOf t c).retried.getD d false = true ∧ ∀ a, rd t a = rd s a) ∧
  (∀ (c : Chord) (d : Fin 2) (drop : Bool) (s : State), rd s (Reg.CHORD_STATE c) = 2 →
    (chordOf s c).retried.getD d false = true →
    ∃ t, exec (.chordSettleTimeout c (d, drop)) s = .next (concluded s t) ∧ rd t (Reg.CHORD_STATE c) = 5 ∧
      (chordOf t c).dumped = [true, true] ∧ ⟨Code.CHORD_FAULT, 9, recordData []⟩ ∈ t.raised) ∧
  (∀ (c : Chord) (s : State), (chordOf s c).leaving ≠ [] → (chordOf s c).localStep = false →
    ∃ t, exec (.chordAddClear c) s = .next (concluded s t) ∧ (chordOf t c).localStep = true ∧
      (chordOf t c).locked = ((chordOf s c).locked && !(chordOf s c).removing) ∧
      ∀ p ∈ freedPorts s c, ∀ r ∈ portRings p, rd t (Reg.RING_STATE r) =
        (if rd s (Reg.RING_STATE r) = 0 then 1 else rd s (Reg.RING_STATE r))) ∧
  (∀ (c : Chord) (s : State), (chordOf s c).localStep = true → (chordOf s c).leaving ≠ [] →
    (∀ p ∈ freedPorts s c, portRingsDone s p = true) → (chordOf s c).removing = true →
    ∃ t, exec (.chordLocalLocked c) s = .next (concluded s t) ∧ rd t (Reg.CHORD_STATE c) = 0 ∧
      rd t (Reg.CHORD_TENANT c) = 0xFFFF ∧ chordOf t c = {} ∧ ⟨Code.CHORD_DOWN, 9, recordData []⟩ ∈ t.raised) ∧
  (∀ (c : Chord) (s : State), (chordOf s c).localStep = true → (chordOf s c).leaving ≠ [] →
    (∀ p ∈ freedPorts s c, portRingsDone s p = true) → (chordOf s c).removing = false →
    ∃ t, exec (.chordLocalLocked c) s = .next (concluded s t) ∧
      chordOf t c = { chordOf s c with leaving := [], localStep := false } ∧
      ⟨Code.CHORD_DOWN, 9, recordData []⟩ ∈ t.raised)

/-- CHORD_FILL_ENTER and CHORD_FILL_EXIT set and clear the strand's bit of FILL on a LIT or BROKEN chord, and touch no
other element. -/
def Obligations.ChordFill : Prop :=
  (∀ (c : Chord) (d : Fin 2) (s : State), (rd s (Reg.CHORD_STATE c) = 3 ∨ rd s (Reg.CHORD_STATE c) = 4) →
    (chordOf s c).dumped.getD d false = false →
    (rd s (Reg.CHORD_FILL c)).testBit d = false →
    ∃ t, exec (.chordFillEnter c d) s = .next t ∧ rd t (Reg.CHORD_FILL c) = rd s (Reg.CHORD_FILL c) + 2 ^ d.val ∧
      (chordOf t c).fillOn = (chordOf s c).fillOn.set d true ∧ ∀ a, a ≠ Reg.CHORD_FILL c → rd t a = rd s a) ∧
  (∀ (c : Chord) (d : Fin 2) (s : State), (rd s (Reg.CHORD_FILL c)).testBit d = true →
    ∃ t, exec (.chordFillExit c d) s = .next t ∧ rd t (Reg.CHORD_FILL c) = rd s (Reg.CHORD_FILL c) - 2 ^ d.val ∧
      (chordOf t c).fillOn = (chordOf s c).fillOn.set d false ∧ ∀ a, a ≠ Reg.CHORD_FILL c → rd t a = rd s a)

/-- A header that passes its checks takes a frame in staging and is counted; block 1 joins it; a tail makes it
whole; a header-only frame that fails a check takes none, is counted, and gives its credits back. -/
def Obligations.FramesArrive : Prop :=
  ((∀ (p : Port) (h : Block) (s : State), rd s (Reg.PORT_STATE p) = 5 → (link s p).rxBlocks = [h] →
    (link s p).rxRemain = 0 → headerCheck h (endpointPort s p) (rd s Reg.FRAME_HOP_LIMIT) = none →
    needsBlock1 h = true →
    ∃ t f, exec (.frameHeaderReceived p) s = .next (concluded s t) ∧ findFrame t s.nextFrame = some f ∧
      f.hdr = h ∧ f.ingress = p ∧ f.place = .staging ∧ f.credits = hdrCredits h ∧ f.arrival = now s ∧
      (link t p).rxRemain = hdrLen h ∧ (link t p).rxFrame = s.nextFrame ∧
      rd t (Reg.PORTSTAT_RX_FRAMES p) = (rd s (Reg.PORTSTAT_RX_FRAMES p) + 1) % 2 ^ 64 ∧
      rd t (Reg.PORTSTAT_RX_BYTES p) = (rd s (Reg.PORTSTAT_RX_BYTES p) + hdrBytes h) % 2 ^ 64) ∧
  (∀ (p : Port) (id : Nat) (f : Frame) (b : Block) (s : State), (link s p).rxBlocks = [b] →
    (link s p).rxFrame = id → s.frames = [(id, f)] → id ≠ 0 → f.poison = false → f.mirror = 0xFF → f.blocks = [] →
    2 ≤ hdrLen f.hdr → 2 ≤ (link s p).rxRemain → (link s p).block1 = false → needsBlock1 (link s p).rxHdr = true →
    block1Check (link s p).rxHdr b (endpointPort s p) = none →
    ∃ u, exec (.frameBlock1Received p) s = .next (concluded s (pump (passFrame u p id (link s p).rxHdr) p)) ∧
      findFrame u id = some { f with blocks := [b] } ∧ (link u p).rxRemain = (link s p).rxRemain - 1 ∧
      (link u p).block1 = true ∧ ∀ a, rd u a = rd s a) ∧
  (∀ (p : Port) (id : Nat) (f : Frame) (b : Block) (s : State), (link s p).rxBlocks = [b] →
    (link s p).rxFrame = id → s.frames = [(id, f)] → id ≠ 0 → f.poison = false → f.place = .asked →
    f.macWait = false → f.blocks.length < hdrLen f.hdr → (link s p).rxRemain = 1 → (link s p).block1 = true →
    f.mirror = 0xFF → hdrVl f.rxHdr ≠ 8 → b ≠ poisonTail (link s p).rxHdr →
    ∃ t, exec (.frameTailReceived p) s = .next (concluded s t) ∧
      findFrame t id = some { f with blocks := f.blocks ++ [b], whole := true } ∧ (link t p).rxRemain = 0 ∧
      (link t p).rxBlocks = [] ∧ ∀ a, rd t a = rd s a)) ∧
  (∀ (p : Port) (h : Block) (why : Nat) (s : State), rd s (Reg.PORT_STATE p) = 5 → (link s p).rxBlocks = [h] →
    (link s p).rxRemain = 0 → hdrLen h = 0 → hdrMsg h ≤ 4 → findFrame s 0 = none → (link s p).freed.length = 9 →
    headerCheck h (endpointPort s p) (rd s Reg.FRAME_HOP_LIMIT) = some why →
    ∃ t, exec (.frameHeaderReceived p) s = .next (concluded s t) ∧ t.frames = s.frames ∧
      t.nextFrame = s.nextFrame ∧ (link t p).rxBlocks = [] ∧
      rd t (Reg.PORTSTAT_DISCARDS p) = (rd s (Reg.PORTSTAT_DISCARDS p) + 1) % 2 ^ 64 ∧
      (link t p).freed.getD (hdrVl h) 0 = ((link s p).freed.getD (hdrVl h) 0 + hdrCredits h) % 2 ^ 32)

/-- LEARN_INSERTION takes the oldest insertion of the owner facet into a free way of its bucket, and the frame that
waited for it goes on, and those of its channel behind it; LEARN_SWEEP clears the hit bit of a used entry, counts a
sweep of one not used, and drops one not used for two sweeps; DEPTH_PUBLISH makes every queue's level of the facet
the published one. -/
def Obligations.LearningAndLevels : Prop :=
  (∀ (g : Facet) (x : Insertion) (i : Nat) (s : State), s.forward.insertions = [x] → x.bucket % 8 = g →
    learnedWay s s.sets.stamp x.ten x.mac = none →
    [x.bucket * 4, x.bucket * 4 + 1, x.bucket * 4 + 2, x.bucket * 4 + 3].find? (wayEmpty s) = some i →
    let u := modForward s (fun w => { w with
      insertions := [], learned := Tab.set w.learned i ⟨x.ten, x.mac, x.eid, true, 0⟩ })
    exec (.learnInsertion g) s =
      .next (concluded s (resumeLearning s.frames.length (bridgeForward u x.frame false))) ∧
    (findFrame s x.frame = none → (∀ e ∈ s.frames, e.2.place ≠ .learning) →
      exec (.learnInsertion g) s = .next (concluded s u))) ∧
  (∀ (i : Fin 262144) (e : Learned) (s : State), Tab.find s.forward.learned i = some e → e.hit = true →
    ∃ t, exec (.learnSweep i) s = .next t ∧
      Tab.find t.forward.learned i = some { e with hit := false, sweeps := 0 } ∧ t.regs = s.regs) ∧
  (∀ (i : Fin 262144) (e : Learned) (s : State), Tab.find s.forward.learned i = some e → e.hit = false →
    1 ≤ e.sweeps →
    ∃ t, exec (.learnSweep i) s = .next t ∧ Tab.find t.forward.learned i = none ∧ t.regs = s.regs) ∧
  (∀ (i : Fin 262144) (e : Learned) (s : State), Tab.find s.forward.learned i = some e → e.hit = false →
    e.sweeps = 0 →
    ∃ t, exec (.learnSweep i) s = .next t ∧
      Tab.find t.forward.learned i = some { e with sweeps := 1 } ∧ t.regs = s.regs) ∧
  (∀ (g : Facet) (s : State), (∀ e ∈ s.frames, e.2.outVl ≤ 8) →
    ∃ t, exec (.depthPublish g) s = .next t ∧ t.regs = s.regs ∧ t.frames = s.frames ∧
      ∀ q, Tab.get 0 t.forward.published q =
        (if queueFacet q = g then depthLevel (depthBytes s q) else Tab.get 0 s.forward.published q))

/-- REPIN_WINDOW_END ends a slot's repin window; PIN_RESTORE_IDLE puts an idle slot back on its live HOME;
HOLD_SET and HOLD_CLEAR write the group's HOLD and nothing else where nothing is held. -/
def Obligations.PinsAndHolds : Prop :=
  (∀ (g : Group) (k : Fin 256) (e : Nat) (s : State), Tab.find s.forward.repinEnd (g * 256 + k) = some e →
    e ≤ now s →
    ∃ t, exec (.repinWindowEnd g k) s = .next (concluded s t) ∧ Tab.find t.forward.repinEnd (g * 256 + k) = none ∧
      t.regs = s.regs ∧ t.frames = s.frames) ∧
  (∀ (g : Group) (k : Fin 256) (s : State), rd s (Reg.RGROUP_PIN_RESTORE g) = 1 →
    rd s (Reg.PINSLOT_HOME (g * 256 + k)) ≠ rd s (Reg.PINSLOT_CURRENT (g * 256 + k)) →
    rd s (Reg.PINSLOT_HOME (g * 256 + k)) < 2048 → live s (rd s (Reg.PINSLOT_HOME (g * 256 + k))) = true →
    repinWindow s ≤ now s - rd s (Reg.PINSLOT_LAST_USE (g * 256 + k)) →
    exec (.pinRestoreIdle g k) s = .next (concluded s (wr s (Reg.PINSLOT_CURRENT (g * 256 + k))
      (rd s (Reg.PINSLOT_HOME (g * 256 + k)))))) ∧
  (∀ (g : Group) (s : State), s.groom.up = true →
    exec (.holdSet g) s = .next (concluded s (wr s (Reg.RGROUP_HOLD g) 1))) ∧
  (∀ (g : Group) (s : State), s.groom.up = true → s.forward.holds = [] →
    exec (.holdClear g) s = .next (concluded s (wr s (Reg.RGROUP_HOLD g) 0)))

/-- A lone request that passes the admission test is charged its cells in the region the test names, and is queued
in its own facet or granted toward another; a lone waiting request that now passes is admitted the same way; a
request that has waited for quota alone long enough has a QUOTA NOTIFY sent, or counted as suppressed. -/
def Obligations.Admission : Prop :=
  (∀ (id : Nat) (f : Frame) (r : Region) (s : State), s.frames = [(id, f)] → f.place = .asked → f.parentId = 0 →
    f.outVl ≤ 8 → hdrKind f.hdr ≠ KindCode.ETH_ENCAP → hdrEcn f.hdr = 0 → admitTest s f = .pass r →
    ∃ t g, exec (.admitRequest id) s = .next (concluded s t) ∧ findFrame t id = some g ∧ g.region = r ∧
      g.cells = hdrCells f.hdr ∧ g.hdr = f.hdr ∧ g.admitted = now s ∧
      g.place = (if f.facet = f.egress / 256 then Place.queued else Place.granted)) ∧
  (∀ (g : Facet) (id : Nat) (f : Frame) (r : Region) (s : State), s.frames = [(id, f)] → f.place = .waiting →
    f.egress / 256 = g → f.parentId = 0 → f.outVl ≤ 8 → hdrEcn f.hdr = 0 → admitTest s f = .pass r →
    ∃ t h, exec (.admissionRetry g) s = .next (concluded s t) ∧ findFrame t id = some h ∧ h.region = r ∧
      h.cells = hdrCells f.hdr ∧ h.hdr = f.hdr ∧
      h.place = (if f.facet = f.egress / 256 then Place.queued else Place.granted)) ∧
  (∀ (id : Nat) (f : Frame) (s : State), findFrame s id = some f → f.place = .waiting → f.cause = .quota →
    f.notified = false → rd s Reg.BUFCFG_QUOTA_NOTIFY ≤ now s - f.causeSince →
    let g := f.egress / 256
    let t := hdrTen f.hdr
    let u := putFrame s id { f with notified := true }
    (inGap s g (hdrSrc f.hdr) = false → (bucket s g).tokens ≠ 0 → stagingRoom s g 3 1 = true →
      exec (.quotaNotifyTimer id) s = .next (concluded s (sendNotify (noteGap u g (hdrSrc f.hdr)) g
        (notifyHdr u g 1 t (hdrSrc f.hdr) 1 0)
        [quotaBlock (twinPort s f.egress) f.outVl (hdrTc f.hdr) g (now s - f.waitSince) (tenantShared s g t)
          (rd s (Reg.TENBUF_QUOTA t))]))) ∧
    ((inGap s g (hdrSrc f.hdr) = true ∨ (bucket s g).tokens = 0) →
      ∃ v, exec (.quotaNotifyTimer id) s = .next (concluded s v) ∧
        findFrame v id = some { f with notified := true } ∧
        rd v Reg.FLOWCFG_NOTIFY_SUPPRESSED = (rd s Reg.FLOWCFG_NOTIFY_SUPPRESSED + 1) % 2 ^ 64))

/-- Segments are written and read back, and a frame older than its limit is discarded where the rules check it. -/
def Obligations.SpillPrefetchAndResidence : Prop :=
  ((∀ (g : Facet) (sid q : Nat) (x : Segment) (id : Nat) (f : Frame) (s : State),
    (facetSegments s g).find? (fun x => decide (x.2.id = sid) && decide (x.2.place = .writing)) = some (q, x) →
    id ∈ x.frames → findFrame s id = some f → f.place = .queued →
    ∃ t, exec (.segmentWriteDone g sid) s = .next (concluded s t) ∧
      findFrame t id = some { f with region := .none, cells := 0 }) ∧
  (∀ (q : Queue) (x : Segment) (s : State), (equeue s q).spill = true → x.place = .held →
    (equeue s q).segments.find? (fun x => decide (x.place ≠ .read) && decide (x.place ≠ .reading)) = some x →
    ((equeue s q).segments.filter (fun x => decide (x.place = .reading))).length < 2 →
    headCells s q < rd s Reg.BUFCFG_PF_LOW → prefetchUsed s (queueFacet q) + 64 ≤ rd s Reg.BUFCFG_PF_POOL →
    ((equeue s q).gaveBack = false ∨ headCredit s q = true) →
    exec (.prefetchIssue q) s =
      .next (modQueue (setSegment s q x.id .reading) q (fun e => { e with gaveBack := false }))) ∧
  (∀ (q : Queue) (sid corrected : Nat) (x : Segment) (id : Nat) (f : Frame) (s : State), findSegment s q sid = some x →
    x.place = .reading → id ∈ x.frames → findFrame s id = some f →
    ∃ t, exec (.prefetchDone q sid ([], corrected)) s = .next (concluded s t) ∧
      findFrame t id = some { f with region := .prefetch, cells := hdrCells f.hdr }) ∧
  (∀ (q : Queue) (since id : Nat) (f : Frame) (s : State), (equeue s q).stallSince = some since →
    (equeue s q).spill = true → rd s Reg.FLOWCFG_PF_STALL ≤ now s - since → headCredit s q = false →
    id ∈ (equeue s q).order →
    findFrame s id = some f → f.region = .prefetch → f.place = .queued →
    ∃ t, exec (.pfStallTimer q) s = .next t ∧ findFrame t id = some { f with region := .none, cells := 0 } ∧
      (equeue t q).gaveBack = true ∧ t.regs = s.regs) ∧
  (∀ (g : Facet) (c : Fin 2) (s : State), (g.val * 2 + c.val) ∉ s.egress.hbmOut → s.egress.queues = [] →
    s.coll.slots = [] →
    exec (.hbmCgOut g c) s =
      .next (concluded s (modEgress s (fun e => { e with hbmOut := e.hbmOut ++ [g.val * 2 + c.val] }))))) ∧
  (∀ (g : Facet) (id : Nat) (f : Frame) (s : State), s.frames = [(id, f)] → f.place = .waiting →
    f.egress / 256 = g → f.ingress < 2048 → f.parentId = 0 → resLimit s < now s - f.arrival →
    s.egress.queues = [] → s.forward.holds = [] →
    ∃ t, exec (.residenceSweep g) s = .next (concluded s t) ∧ findFrame t id = none ∧
      rd t (Reg.PORTSTAT_DISCARDS f.ingress) = (rd s (Reg.PORTSTAT_DISCARDS f.ingress) + 1) % 2 ^ 64 ∧
      ⟨Code.RESIDENCE_EXPIRED, g.val, recordData []⟩ ∈ t.raised)

/-- SCHED_PICK begins the head that the two levels choose, which then stands among the frames its port sends;
FRAME_TX_DONE ends a frame whose last block has left. -/
def Obligations.SchedulerSends : Prop :=
  (∀ (p : Port) (q id : Nat) (f : Frame) (u s : State), rd s (Reg.PORT_STATE p) = 5 →
    (link s p).sleep ≠ .settling → endpointPort s p = false → choosePick s p = (u, some q) →
    headOf u q = some (id, f) → expired u f = false →
    ∃ t, exec (.schedPick p false) s = .next (concluded s t) ∧ t = noteCtrlHeld (beginFrame q id f u) p ∧
      findFrame t id = some { f with place := .sending } ∧
      ⟨id, 0⟩ ∈ (link t (queuePort q)).sending ∧ id ∉ (equeue t q).order) ∧
  (∀ (p : Port) (e : Sending) (f : Frame) (s : State), (link s p).sending = [e] → findFrame s e.frame = some f →
    e.sent = 1 + hdrLen f.hdr → f.place = .sending → f.egress = p →
    ∃ t, exec (.frameTxDone p) s = .next (concluded s t) ∧ findFrame t e.frame = none ∧
      (link t p).sending = [])

/-- A due wheel slot refills its shaper as of now; the swap refill ends a shaper's old rate; a CTRL queue held for
more than 1 ms and a VL starved for STALL_ALERT are recorded; NOTIFY tokens accrue at NOTIFY_RATE a millisecond,
64 at most. -/
def Obligations.ShapersAndTimers : Prop :=
  (∀ (g : Facet) (q : Queue) (x : Shaper) (s : State), s.egress.shapers = [(q.val, x)] → queueFacet q = g →
    x.slot ≠ 0 → x.slot ≤ now s → now s - x.slot ≤ 1344 → x.swapOld = none →
    ∃ t y, exec (.wheelSlotDue g) s = .next t ∧ Tab.find t.egress.shapers q = some y ∧ y.last = now s ∧
      rd t Reg.SCHED_LATE_MAX = max (rd s Reg.SCHED_LATE_MAX) (now s - x.slot) ∧ t.raised = s.raised) ∧
  (∀ (q : Queue) (x : Shaper) (s : State), Tab.find s.egress.shapers q = some x → x.swapOld.isSome = true →
    ∃ t, exec (.shaperSwapRefill q) s = .next t ∧ (shaper t q).swapOld = none ∧ t.regs = s.regs) ∧
  (∀ (p : Port) (since : Nat) (s : State), (sched s p).heldSince = some since → 1000000 < now s - since →
    (sched s p).heldTold = false →
    exec (.ctrlHeld p) s = .next (modSched (raise s Code.CTRL_HELD (p / 256) [(16, twinPort s p)]) p
      (fun x => { x with heldTold := true }))) ∧
  (∀ (p : Port) (v : Fin 8) (q since : Nat) (s : State), waitingQueue s p v = some q →
    (sched s p).stalls.find? (fun e => decide (e.1 = v.val)) = some (v.val, since) →
    rd s Reg.FLOWCFG_STALL_ALERT * 1000 ≤ now s - since → (sched s p).starved.contains v.val = false →
    exec (.stallAlertTimer p v) s = .next (modSched (raise s Code.CREDIT_STARVED (p / 256)
      [(16, twinPort s p), (8, v)]) p (fun x => { x with starved := x.starved ++ [v.val] }))) ∧
  (∀ (g : Facet) (s : State), dueNotices s g = [] →
    let n := (bucket s g).frac + (now s - (bucket s g).last) * rd s Reg.FLOWCFG_NOTIFY_RATE
    ∃ t, exec (.notifyToken g) s = .next (concluded s t) ∧
      (bucket t g).tokens = min 64 ((bucket s g).tokens + n / 1000000) ∧ (bucket t g).last = now s ∧
      ((bucket s g).tokens + n / 1000000 < 64 → (bucket t g).frac = n % 1000000) ∧ t.regs = s.regs)

/-- SETUP of staged values that pass every check makes the team ACTIVE with its generation, base and fresh counts;
a SETUP that fails a check only reports it; RETIRE, REVISE and FREE move the context as the command table
says. -/
def Obligations.TeamCommands : Prop :=
  (∀ (t : Team) (s : State), s.groom.up = true → setupError s t (staged s t) = 0 →
    ∃ u, exec (.setup t) s = .next (concluded s u) ∧ rd u (Reg.TEAM_STATE t) = TeamState.ACTIVE ∧
      rd u (Reg.TEAM_LAST_GEN t) = (staged s t).gen ∧ rd u (Reg.TEAM_BASE t) = (staged s t).firstChunk ∧
      rd u (Reg.TEAM_ERROR t) = 0 ∧ rd u (Reg.TEAM_COMMAND t) = 0 ∧ rd u (Reg.TEAM_CHUNKS_DONE t) = 0 ∧
      rd u (Reg.TEAM_EXPECT t) = expectOf s (entriesOf (staged s t)) ∧
      u.raised = s.raised ++ [⟨Code.TEAM_SETUP, 0xFF, recordData [(16, t.val), (16, (staged s t).gen),
        (16, (staged s t).ten)]⟩]) ∧
  (∀ (t : Team) (s : State), s.groom.up = true → setupError s t (staged s t) ≠ 0 →
    exec (.setup t) s = .next (concluded s (refuseTeam s t 1 (setupError s t (staged s t))))) ∧
  (∀ (t : Team) (s : State), s.groom.up = true → (teamState s t = TeamState.ACTIVE ∨
      teamState s t = TeamState.ORPHANED ∨ teamState s t = TeamState.FAILED) →
    ∃ u, exec (.retire t) s = .next (concluded s u) ∧ rd u (Reg.TEAM_STATE t) = TeamState.RETIRED ∧
      rd u (Reg.TEAM_ERROR t) = 0 ∧ rd u (Reg.TEAM_COMMAND t) = 0 ∧
      ⟨Code.TEAM_RETIRED, 0xFF, recordData []⟩ ∈ u.raised) ∧
  (∀ (t : Team) (s : State), s.groom.up = true → reviseError s t (staged s t) = 0 → s.coll.slots = [] →
    ∃ u, exec (.revise t) s = .next (concluded s u) ∧
      rd u (Reg.TEAM_EXPECT t) = expectOf s (entriesOf (staged s t)) ∧ rd u (Reg.TEAM_ERROR t) = 0 ∧
      (team u t).rev = (staged s t).rev ∧ (team u t).parent = (staged s t).parent ∧
      (team u t).gen = (team s t).gen) ∧
  (∀ (t : Team) (s : State), s.groom.up = true → teamState s t = TeamState.RETIRED →
    exec (.free t) s = .next (concluded s (teamOk (wr (wr (wr s (Reg.TEAM_STATE t) TeamState.FREE)
      (Reg.TWINTEAM_OWNER t) 0xFF) (Reg.TWINTEAM_ADOPTED t) 0) t)))

/-- A granted trace stands in its home's pool or crosses to it; the first trace of a chunk in the window opens it,
sets its child's bit and makes its stint. -/
def Obligations.TracesReachTheirChunk : Prop :=
  (∀ (g : Facet) (id : Nat) (f : Frame) (rest : List (Nat × Frame)) (s : State),
    poolQueue s g = (id, f) :: rest → expired s f = false → findFrame s id = some f → f.place = .poolWait →
    (f.facet = g ∨ pairIsDown s f.facet g = false) →
    poolUsed s g + hdrCells f.hdr ≤ rd s Reg.ARITHCFG_TRACE_POOL * 4096 → placesTaken s g < 10240 →
    ∃ t h, exec (.tracePoolGrant g) s = .next (concluded s t) ∧ findFrame t id = some h ∧ h.hdr = f.hdr ∧
      h.place = (if f.facet = g then Place.pool else Place.granted)) ∧
  (∀ (id e : Nat) (f : Frame) (s : State),
    let ext := f.blocks.getD 0 0
    let t := extTeam ext
    let j := extChunk ext % (team s t).window
    findFrame s id = some f → f.place = .pool → f.whole = true →
    s.coll.stints.any (fun x => decide (x.frame = id)) = false → s.coll.yoke.any (fun x => decide (x.frame = id)) = false →
    liveCheck s f = none → entryOf s (team s t) (hdrSrc f.hdr) = some e →
    (extChunk ext + 65536 - rd s (Reg.TEAM_BASE t)) % 65536 < (team s t).window →
    retains (chunkSlot s t j) (extChunk ext) = false → (chunkSlot s t j).state = 0 →
    isYoke (team s t).opc = false →
    ∃ u, exec (.traceHomeArrival (id, 0)) s = .next (concluded s u) ∧ (chunkSlot u t j).state = 1 ∧
      (chunkSlot u t j).chunk = extChunk ext ∧
      (chunkSlot u t j).bits = (chunkSlot s t j).bits ++ [(rd s (Reg.MEMBER_CHILD e), e)] ∧
      u.regs = s.regs ∧ ∃ y ∈ u.coll.stints, y.frame = id ∧ y.kind = 0 ∧ y.team = t ∧ y.slot = j)

/-- The chunk timer of an open chunk and the result timer of a sent one, once their times are over, add a try, the
latter with an encode stint to send the partial again; the parent's RESULT ends a sent chunk, and its TEAM_RETIRED
orphans the context. -/
def Obligations.ChunkTimersAndParents : Prop :=
  (∀ (t : Team) (j : Slot) (s : State), (chunkSlot s t j).state = 1 →
    (team s t).timeout * 1000 ≤ now s - (chunkSlot s t j).since →
    ∃ u, exec (.chunkTimerExpire t j) s = .next (concluded s u) ∧
      (chunkSlot u t j).tries = min 255 ((chunkSlot s t j).tries + 1) ∧ (chunkSlot u t j).since = now s ∧
      (chunkSlot u t j).state = 1) ∧
  (∀ (t : Team) (j : Slot) (s : State), (chunkSlot s t j).state = 2 →
    (team s t).resultTimeout * 1000 ≤ now s - (chunkSlot s t j).since →
    ∃ u, exec (.resultTimerExpire t j) s = .next (concluded s u) ∧
      (chunkSlot u t j).tries = min 255 ((chunkSlot s t j).tries + 1) ∧ (chunkSlot u t j).since = now s ∧
      ∃ y ∈ u.coll.stints, y.kind = 1 ∧ y.team = t ∧ y.slot = j) ∧
  (∀ (id : Nat) (f : Frame) (s : State),
    let ext := f.blocks.getD 0 0
    let t := extTeam ext
    let x := team s t
    let j := extChunk ext % x.window
    let k := chunkSlot s t j
    findFrame s id = some f → f.place = .localTo → f.whole = true → hdrKind f.hdr = KindCode.RESULT →
    fromParent s f = true → extOpc ext = x.opc → extFmt ext = x.fmt → extMode ext = x.mode →
    k.state = 2 → k.chunk = extChunk ext → hdrLen f.hdr = 1 + shards x.opc * k.blocks.getD 0 + x.digestEn →
    ∃ u, exec (.resultFromParent id) s = .next (concluded s u) ∧ (chunkSlot u t j).outState = 3 ∧
      (chunkSlot u t j).outChunk = extChunk ext ∧ (chunkSlot u t j).outBlocks = f.blocks ∧
      (chunkSlot u t j).state = 0 ∧
      rd u (Reg.TEAM_CHUNKS_DONE t) = (rd s (Reg.TEAM_CHUNKS_DONE t) + 1) % 2 ^ 64) ∧
  (∀ (id : Nat) (f : Frame) (s : State), findFrame s id = some f → f.place = .localTo → f.whole = true →
    hdrKind f.hdr = KindCode.NOTIFY → hdrArith f.hdr = 1 → fromParent s f = true →
    hdrChan f.hdr = Cause.TEAM_RETIRED →
    ∃ u, exec (.notifyFromParent id) s = .next (concluded s u) ∧
      rd u (Reg.TEAM_STATE (extTeam (f.blocks.getD 0 0))) = TeamState.ORPHANED)

/-- An engine claims the stint the order of R365 gives it; a committed section moves the stint on; the result
sender originates its oldest frame; a failed self-check releases the stint for a replay elsewhere, is
recorded, and raises SUSPECT, which decays by one each SUSPECT_DECAY seconds. -/
def Obligations.Stints : Prop :=
  (∀ (e : Engine) (x : Stint) (s : State), dutyAdmits s (e.val / 40) 3 = true → rd s (Reg.HENGINE_STATE e) = 0 →
    stintOf s e = none → chooseStint s e = some x →
    ∃ t, exec (.stintClaim e 0) s = .next (concluded s t) ∧ { x with claimed := some e.val } ∈ t.coll.stints) ∧
  (∀ (e : Engine) (x : Stint) (s : State), stintOf s e = some x → x.kind ≠ 1 →
    2048 * x.section_ + 2048 < stintElems s x →
    ∃ t, exec (.stintSectionCommit e) s = .next (concluded s t) ∧
      { x with section_ := x.section_ + 1 } ∈ t.coll.stints ∧ t.regs = s.regs) ∧
  (∀ (g : Facet) (w : Outgoing) (s : State), s.coll.outgoing.find? (fun x => decide (x.facet = g.val)) = some w →
    stagingRoom s g 2 w.blocks.length = true →
    let u := modColl s (fun c => { c with outgoing := c.outgoing.erase w })
    let v := if (team s w.team).digestEn = 1 then
        wr (wr u (Reg.TEAMARITH_LAST_DIGEST w.team) (field (w.blocks.getD (w.blocks.length - 1) 0).toNat 64 64))
          (Reg.TEAMARITH_LAST_DIGEST_CHUNK w.team) (extChunk (w.blocks.getD 0 0))
      else u
    exec (.resultSenderEmit (g, false)) s = .next (concluded s (originate v g (mkHdr {
        kind := w.kind, msg := 2, tc := (team s w.team).tc, ten := (team s w.team).ten, dst := w.dst,
        src := teamEid s w.team, seq := extChunk (w.blocks.getD 0 0), len := w.blocks.length, arith := 1 }) w.blocks))) ∧
  (∀ (e : Engine) (c : Fin 10) (x : Stint) (s : State), stintOf s e = some x → x.failed = [] →
    rd s (Reg.HENGINE_SUSPECT e) + 1 < rd s Reg.ARITHCFG_SUSPECT_LIMIT → rd s (Reg.HENGINE_SUSPECT e) < 255 →
    ∃ t, exec (.stintCheckFail e c) s = .next (concluded s t) ∧
      { x with claimed := none, failed := [e.val] } ∈ t.coll.stints ∧
      rd t (Reg.HENGINE_CHECK_FAILS e) = (rd s (Reg.HENGINE_CHECK_FAILS e) + 1) % 2 ^ 32 ∧
      rd t (Reg.HENGINE_SUSPECT e) = rd s (Reg.HENGINE_SUSPECT e) + 1 ∧
      ⟨Code.STINT_CHECK, e.val / 40, recordData [(16, e.val), (16, x.team), (16, (chunkSlot s x.team x.slot).chunk),
        (8, c.val + 1), (8, 1)]⟩ ∈ t.raised) ∧
  (∀ (u : Fin 328) (s : State),
    let a := if u.val < 320 then Reg.HENGINE_SUSPECT u else Reg.YOKE_SUSPECT (u - 320)
    let due := Tab.get 0 s.coll.decays u + rd s Reg.ARITHCFG_SUSPECT_DECAY * 1000000000
    (rd s a ≠ 0 → due ≤ now s →
      ∃ t, exec (.suspectDecay u) s = .next t ∧ rd t a = rd s a - 1 ∧ (∀ b, b ≠ a → rd t b = rd s b) ∧
        Tab.get 0 t.coll.decays u = due) ∧
    (now s < due → exec (.suspectDecay u) s = .next s))

/-- A yoke pass issues the bands that fill its 64 rows, in order; a committed band is gone and its pass counted
once; a band that fails its check the first time is issued again and the failure recorded. -/
def Obligations.YokeBands : Prop :=
  (∀ (g : Facet) (bad : Nat) (s : State), dutyAdmits s g 2 = true → yokeIn s g = true →
    (∀ x ∈ s.coll.yoke, x.frame ≠ bad) →
    let take := fillPass 64 (bandOrder s ((s.coll.bands.filter (fun b => decide (b.facet = g.val) && !b.issued)) ++
      newBands s g))
    take ≠ [] →
    ∃ t, exec (.yokePassIssue (g, bad, false)) s = .next (concluded s t) ∧ t.coll.nextPass = s.coll.nextPass + 1 ∧
      (∀ b ∈ take, { b with issued := true, pass := s.coll.nextPass } ∈ t.coll.bands) ∧ t.regs = s.regs) ∧
  (∀ (g : Facet) (b : Band) (s : State), issuedBand s g = some b → s.coll.openPasses.contains b.pass = true →
    ∃ t, exec (.yokeBandCommit g) s = .next (concluded s t) ∧
      rd t (Reg.YOKE_PASSES g) = (rd s (Reg.YOKE_PASSES g) + 1) % 2 ^ 64 ∧
      t.coll.openPasses.contains b.pass = false) ∧
  (∀ (g : Facet) (c : Fin 2) (b : Band) (s : State), issuedBand s g = some b → b.tries = 0 → yokeIn s g = true →
    rd s (Reg.YOKE_SUSPECT g) + 1 < rd s Reg.ARITHCFG_SUSPECT_LIMIT → rd s (Reg.YOKE_SUSPECT g) < 255 →
    ∃ t, exec (.yokeBandFail g c) s = .next (concluded s t) ∧ { b with issued := false, tries := 1 } ∈ t.coll.bands ∧
      rd t (Reg.YOKE_CHECK_FAILS g) = (rd s (Reg.YOKE_CHECK_FAILS g) + 1) % 2 ^ 32 ∧
      rd t (Reg.YOKE_SUSPECT g) = rd s (Reg.YOKE_SUSPECT g) + 1 ∧
      ⟨Code.STINT_CHECK, g.val, recordData [(16, 320 + g.val), (16, b.team), (16, (chunkSlot s b.team b.slot).chunk),
        (8, 11 + c.val), (8, 1)]⟩ ∈ t.raised)

/-- A wanted block in HBM with room in the stage area is staged, and the oldest idle one is written back; an
engine or a yoke taken out by administration is ADMIN_OUT, and returns to service. -/
def Obligations.EnginesBlocksAndAdministration : Prop :=
  (∀ (t : Team) (j : Slot) (corrected : Nat) (s : State), teamState s t = TeamState.ACTIVE →
    j.val < (team s t).window →
    inHbm s t j = true → (chunkSlot s t j).staged = false → blockWanted s t j = true →
    stageUsed s (homeOf s t j) + slotBytes (team s t) ≤ rd s Reg.ARITHCFG_STAGE_AREA * 1048576 →
    ∃ u, exec (.blockStageDone t (j, corrected)) s = .next u ∧ (chunkSlot u t j).staged = true) ∧
  (∀ (t : Team) (j : Slot) (s : State), chunkBusy s t j = false →
    (s.coll.writeBack.filter (fun y => decide (homeOf s y.1 y.2 = homeOf s t j))).head? = some (t.val, j.val) →
    ∃ u, exec (.blockWriteBackDone t j) s = .next u ∧ (chunkSlot u t j).staged = false ∧
      (t.val, j.val) ∉ u.coll.writeBack) ∧
  (∀ (e e' : Engine) (s : State), s.groom.up = true → rd s (Reg.HENGINE_STATE e) = 0 → e' ≠ e →
    e'.val / 40 = e.val / 40 → rd s (Reg.HENGINE_STATE e') = 0 →
    exec (.engineAdminOut e) s =
      .next (concluded s (wr (wr s (Reg.HENGINE_ADMIN e) 1) (Reg.HENGINE_STATE e) 1))) ∧
  (∀ (e : Engine) (s : State), s.groom.up = true → rd s (Reg.HENGINE_STATE e) = 1 →
    exec (.engineAdminReturn e) s =
      .next (concluded s (wr (wr s (Reg.HENGINE_ADMIN e) 0) (Reg.HENGINE_STATE e) 0))) ∧
  (∀ (g : Facet) (s : State), s.groom.up = true → rd s (Reg.YOKE_STATE g) = 0 → s.coll.yoke = [] →
    ∃ t, exec (.yokeAdminOut g) s = .next (concluded s t) ∧ rd t (Reg.YOKE_ADMIN g) = 1 ∧
      rd t (Reg.YOKE_STATE g) = 1 ∧ t.raised = s.raised ++ [⟨Code.YOKE_FALLBACK, g.val, recordData []⟩] ∧
      ∀ a, a ≠ Reg.YOKE_ADMIN g → a ≠ Reg.YOKE_STATE g → rd t a = rd s a) ∧
  (∀ (g : Facet) (s : State), s.groom.up = true → rd s (Reg.YOKE_STATE g) = 1 →
    exec (.yokeAdminReturn g) s = .next (concluded s
      (raise (wr (wr s (Reg.YOKE_ADMIN g) 0) (Reg.YOKE_STATE g) 0) Code.YOKE_RESTORED g [])))

/-- EPOCH frames make candidates, STARTING ends as follower or root, a follower without candidates enters
HOLDOVER, HOLD_ELECT forgets the lost root; EPOCH_IN edges are accepted near the own boundary, and EPOCH_OUT
falls at its pulse's end. -/
def Obligations.EpochsAndElection : Prop :=
  ((∀ (id : Nat) (f : Frame) (s : State),
    let b1 := (f.blocks.getD 0 0).toNat
    let b2 := (f.blocks.getD 1 0).toNat
    findFrame s id = some f → f.place = .localTo → f.whole = true → hdrKind f.hdr = KindCode.EPOCH →
    rd s (Reg.PORT_PEER_ROLE f.ingress) ≤ 1 → hdrHop f.hdr = 1 → hdrLen f.hdr = 2 → f.blocks.length = 2 →
    16 ≤ field b2 91 5 → field b2 91 5 ≤ 24 →
    ∃ t, exec (.epochFrameReceived id) s = .next (concluded s t) ∧ findFrame t id = none ∧
      Tab.find t.clock.candidates f.ingress = (if field b1 4 4 ≤ 14 then some
        { serial := field b1 16 64, prio := field b1 8 8, dist := field b1 4 4,
          partner := rd s (Reg.PORT_PEER_SERIAL f.ingress), at_ := now s,
          boundary := (f.arrival : Int) - (rd s (Reg.PORT_RTT f.ingress) / 2 : Nat) - (field b2 96 32 : Nat),
          number := field b1 80 48, period := field b2 91 5, holdover := b1.testBit 3, slewing := b1.testBit 2 }
        else none)) ∧
  (∀ (e : Nat × Candidate) (s : State), epochState s = EpochState.STARTING → bestSource s = some e →
    ∃ t, exec .startingEnd s = .next (concluded s t) ∧ rd t Reg.EPOCH_STATE = EpochState.FOLLOWER ∧
      rd t Reg.EPOCH_SOURCE = e.1 ∧ rd t Reg.EPOCH_ROOT_SERIAL = e.2.serial ∧ rd t Reg.EPOCH_ROOT_PRIO = e.2.prio ∧
      rd t Reg.EPOCH_DIST = min 15 (e.2.dist + 1) ∧
      rd t Reg.EPOCH_NUMBER = numberAt e.2.boundary e.2.number e.2.period (rd s Reg.EPOCH_BOUNDARY)) ∧
  (∀ s : State, epochState s = EpochState.STARTING → bestSource s = none → rd s Reg.EPOCH_PRIO ≠ 255 →
    ∃ t, exec .startingEnd s = .next (concluded s t) ∧ rd t Reg.EPOCH_STATE = EpochState.ROOT ∧
      rd t Reg.EPOCH_ROOT_SERIAL = rd s Reg.IDENTITY_SERIAL ∧ rd t Reg.EPOCH_ROOT_PRIO = rd s Reg.EPOCH_PRIO ∧
      rd t Reg.EPOCH_DIST = 0 ∧ rd t Reg.EPOCH_NUMBER = rd s Reg.EPOCH_NUMBER ∧
      rd t Reg.EPOCH_SOURCE = (if rd s Reg.EPOCH_EPOCH_IN_EN = 1 then 0xFFFE else 0xFFFF)) ∧
  (∀ s : State, epochState s = EpochState.FOLLOWER → sources s = [] → edgesGood s = false →
    lapseTick s + 3 * periodTicks s ≤ now s →
    ∃ t, exec .candidateLapse s = .next (concluded s t) ∧ rd t Reg.EPOCH_STATE = EpochState.HOLDOVER ∧
      rd t Reg.EPOCH_SOURCE = 0xFFFF ∧ ⟨Code.HOLDOVER_ENTER, 0xFF, recordData []⟩ ∈ t.raised ∧
      ∀ a, a ≠ Reg.EPOCH_STATE → a ≠ Reg.EPOCH_SOURCE → rd t a = rd s a) ∧
  (∀ s : State, epochState s = EpochState.HOLDOVER →
    s.clock.heldSince + rd s Reg.EPOCH_HOLD_ELECT * 1000000 ≤ now s →
    exec .holdElectExpire s = .next (concluded s { s with clock := { s.clock with held := none } }))) ∧
  ((∀ s : State, rd s Reg.EPOCH_EPOCH_IN_EN = 0 → exec .epochInEdge s = .next s) ∧
  (∀ s : State, rd s Reg.EPOCH_EPOCH_IN_EN ≠ 0 →
    let b := rd s Reg.EPOCH_BOUNDARY
    let own := if tickGap (now s) b ≤ tickGap (now s) s.clock.next then b else s.clock.next
    tickGap (now s) own ≤ 1024 → (∀ e, s.clock.lastEdge = some e → 1000 ≤ now s - e) →
    exec .epochInEdge s = .next { s with
      clock := { s.clock with lastEdge := some (now s), edgeD := some ((own : Int) - now s) } }) ∧
  (∀ s : State, rd s Reg.EPOCH_EPOCH_IN_EN ≠ 0 →
    ((1024 < tickGap (now s) (rd s Reg.EPOCH_BOUNDARY) ∧ 1024 < tickGap (now s) s.clock.next) ∨
      (∃ e, s.clock.lastEdge = some e ∧ now s - e < 1000)) →
    ∃ t, exec .epochInEdge s = .next t ∧ t.clock = s.clock ∧
      rd t Reg.EPOCH_EPIN_REJECTS = (rd s Reg.EPOCH_EPIN_REJECTS + 1) % 2 ^ 32 ∧
      ∀ a, a ≠ Reg.EPOCH_EPIN_REJECTS → rd t a = rd s a) ∧
  (∀ s : State, exec .epochOutPulseEnd s =
    .next { s with clock := { s.clock with out := false, outLong := false } }))

/-- At a boundary outside STARTING, with no jump and no swap pending, the number rises by one modulo 2^48,
BOUNDARY is the tick, EPOCH_OUT rises, the studbook's mark is set and every bank is mirrored in the epoch's
slot. -/
def Obligations.EpochBoundary : Prop :=
  ∀ s : State, epochState s ≠ EpochState.STARTING → s.clock.jump = none → swapWaits s = false →
    ∃ t, exec .epochBoundary s = .next (concluded s t) ∧
      rd t Reg.EPOCH_NUMBER = (rd s Reg.EPOCH_NUMBER + 1) % 2 ^ 48 ∧ rd t Reg.EPOCH_BOUNDARY = now s ∧
      t.clock.out = true ∧ t.clock.prio = rd s Reg.EPOCH_PRIO ∧
      rd t Reg.STUDBOOK_MARK_EPOCH = (rd s Reg.EPOCH_NUMBER + 1) % 2 ^ 48 ∧
      rd t Reg.STUDBOOK_MARK_SEQ = rd s Reg.STUDBOOK_NEXT_SEQ ∧
      ∀ b : Bank,
        let m := b.val * 5 + (rd s Reg.EPOCH_NUMBER + 1) % 2 ^ 48 % 4
        rd t (Reg.CMIRROR_EPOCH m) = (rd s Reg.EPOCH_NUMBER + 1) % 2 ^ 48 ∧
        rd t (Reg.CMIRROR_TICK m) = bankTick s b.val ∧
        rd t (Reg.CMIRROR_CFG_GEN m) = rd s (Reg.CBANK_CFG_GEN b.val) ∧
        rd t (Reg.CMIRROR_OVF m) = rd s (Reg.CBANK_OVF b.val) ∧
        ∀ i, i < 8 → rd t (Reg.CMIRROR_VALUE m i) = rd s (Reg.CBANK_VALUE b.val i)

/-- ARM takes the write's values, locks the shadow and starts ARMING; its end refuses a digest other than
expected, or an epoch that has all but come, and else leaves a valid set ARMED; DISARM ends a waiting swap. -/
def Obligations.SwapArming : Prop :=
  (∀ s : State, s.groom.up = true → rd s Reg.SWAP_STATE = 0 → oldSetHeld s = false →
    ∃ t, exec .swapArm s = .next (concluded s t) ∧ rd t Reg.SWAP_STATE = 1 ∧
      t.sets = { s.sets with
        target := rd s Reg.SWAP_TARGET, force := rd s Reg.SWAP_FORCE, trigger := rd s Reg.SWAP_TRIGGER_GROUP,
        expectHi := rd s Reg.SWAP_EXPECT_HI, expectLo := rd s Reg.SWAP_EXPECT_LO, locked := true } ∧
      ∀ a, a ≠ Reg.SWAP_STATE → rd t a = rd s a) ∧
  (∀ s : State, s.groom.up = true → (rd s Reg.SWAP_STATE = 2 ∨ rd s Reg.SWAP_STATE = 3) →
    ∃ t, exec .swapArm s = .next (concluded s t) ∧ rd t Reg.SWAP_STATE = rd s Reg.SWAP_STATE ∧ t.sets = s.sets ∧
      rd t Reg.SWAP_ERROR = 1 ∧ rd t Reg.SWAP_DETAIL = 0 ∧
      t.raised = s.raised ++ [⟨Code.SWAP_REFUSED, 0xFF, recordData [(8, 1), (16, 0)]⟩]) ∧
  (∀ s : State, rd s Reg.SWAP_STATE = 1 → s.sets.expectHi * 2 ^ 64 + s.sets.expectLo ≠ 0 →
    s.sets.expectHi * 2 ^ 64 + s.sets.expectLo ≠ setDigest s.shadow →
    ∃ t, exec .swapArmComplete s = .next (concluded s t) ∧ rd t Reg.SWAP_STATE = 0 ∧ rd t Reg.SWAP_ERROR = 2 ∧
      t.sets.locked = false ∧ rd t Reg.CONFSET_SHADOW_HI = setDigest s.shadow / 2 ^ 64 ∧
      rd t Reg.CONFSET_SHADOW_LO = setDigest s.shadow % 2 ^ 64) ∧
  (∀ s : State, rd s Reg.SWAP_STATE = 1 →
    (s.sets.expectHi * 2 ^ 64 + s.sets.expectLo = 0 ∨
      s.sets.expectHi * 2 ^ 64 + s.sets.expectLo = setDigest s.shadow) →
    s.sets.target ≠ 0 → s.sets.target ≤ rd s Reg.EPOCH_NUMBER + 1 →
    ∃ t, exec .swapArmComplete s = .next (concluded s t) ∧ rd t Reg.SWAP_STATE = 0 ∧ rd t Reg.SWAP_ERROR = 3 ∧
      t.sets.locked = false) ∧
  (∀ s : State, rd s Reg.SWAP_STATE = 1 →
    (s.sets.expectHi * 2 ^ 64 + s.sets.expectLo = 0 ∨
      s.sets.expectHi * 2 ^ 64 + s.sets.expectLo = setDigest s.shadow) →
    rd s Reg.EPOCH_NUMBER + 1 < s.sets.target → longOk s = true → firstChordFault s.shadow = none →
    firstGroupFault s = none → regionsOk s = true →
    shadowRd s Reg.BUFCFG_SPILL_GIB + shadowRd s Reg.ARITHCFG_ACC_GIB ≤ 24 → twinDestsOk s = true →
    ∃ t, exec .swapArmComplete s = .next (concluded s t) ∧ rd t Reg.SWAP_STATE = 2 ∧ rd t Reg.SWAP_ERROR = 0 ∧
      t.sets = s.sets) ∧
  (∀ s : State, s.groom.up = true → swapWaits s = true →
    ∃ t, exec .swapDisarm s = .next (concluded s t) ∧ rd t Reg.SWAP_STATE = 0 ∧ rd t Reg.SWAP_ERROR = 6 ∧
      t.sets = { s.sets with locked := false } ∧ t.shadow = s.shadow ∧
      ∀ a, a ≠ Reg.SWAP_STATE → a ≠ Reg.SWAP_ERROR → rd t a = rd s a)

/-- A swap that applies keeps the old set, gives every element of the set but HOLD the shadow's value, and counts
and dates itself; when its copy is done the shadow is the active set, unlocked, and SWAP_APPLIED is raised. -/
def Obligations.SwapApplied : Prop :=
  (∀ s : State, rd s Reg.SWAP_STATE = 1 →
    (s.sets.expectHi * 2 ^ 64 + s.sets.expectLo = 0 ∨
      s.sets.expectHi * 2 ^ 64 + s.sets.expectLo = setDigest s.shadow) →
    s.sets.target = 0 → s.sets.trigger = 0xFFFF → longOk s = true → firstChordFault s.shadow = none →
    firstGroupFault s = none → regionsOk s = true →
    shadowRd s Reg.BUFCFG_SPILL_GIB + shadowRd s Reg.ARITHCFG_ACC_GIB ≤ 24 → twinDestsOk s = true →
    runningFault s = none →
    ∃ t, exec .swapArmComplete s = .next (concluded s t) ∧ rd t Reg.SWAP_STATE = 5 ∧ rd t Reg.SWAP_ERROR = 0 ∧
      rd t Reg.SWAP_APPLIED_TICK = now s ∧ rd t Reg.SWAP_APPLIED_EPOCH = rd s Reg.EPOCH_NUMBER ∧
      rd t Reg.SWAP_SWAPS = (rd s Reg.SWAP_SWAPS + 1) % 2 ^ 32 ∧ t.sets.stamp = s.sets.stamp + 1 ∧
      t.shadow = s.shadow ∧
      (∀ a, inSet a = true → Regs.get t.old a = rd s a) ∧
      (∀ a, inSet a = true → ¬ (a.obj = 0x0601 ∧ a.el = 2) → rd t a = shadowRd s a)) ∧
  (∀ s : State, rd s Reg.SWAP_STATE = 5 →
    ∃ t, exec .swapCopyDone s = .next (concluded s t) ∧ rd t Reg.SWAP_STATE = 0 ∧ t.sets.locked = false ∧
      rd t Reg.CONFSET_ACTIVE_EPOCH = rd s Reg.SWAP_APPLIED_EPOCH ∧
      (∀ a, inSet a = true → shadowRd t a = rd s a ∧ rd t a = rd s a) ∧
      t.raised = s.raised ++ [⟨Code.SWAP_APPLIED, 0xFF,
        recordData [(48, rd s Reg.SWAP_APPLIED_EPOCH), (64, rd s Reg.CONFSET_DIGEST_HI)]⟩])

/-- A drain of a group with nothing in flight is DONE at once, one that times out is TIMED_OUT with its record; an
echo leaves from its facet's staging; an echo received is taken up; an expired cache entry and an ended
untracked slot are freed. -/
def Obligations.Drains : Prop :=
  (∀ (g : Group) (s : State), s.groom.up = true → rd s (Reg.DRAIN_STATE g.val) ≠ 1 → s.forward.drains = [] →
    marking s = [] → cacheEntries s (fun x _ => decide (x = g.val)) = [] → untrackedSlots s g.val = [] →
    (∀ p ∈ currents s g.val, 2048 ≤ p ∨ vlEmpty s p 8 = true) →
    ∃ t, exec (.drainStart g) s = .next (concluded s t) ∧ rd t (Reg.DRAIN_STATE g.val) = 2 ∧
      rd t (Reg.DRAIN_MARKS_SENT g.val) = 0 ∧ rd t (Reg.DRAIN_MARKS_ECHOED g.val) = 0) ∧
  (∀ (g : Group) (s : State), rd s (Reg.DRAIN_STATE g.val) = 1 →
    (drainRun s g.val).started + rd s Reg.CONFSET_MARK_TIMEOUT * 1000 ≤ now s →
    ∃ t, exec (.markTimeout g) s = .next (concluded s t) ∧ rd t (Reg.DRAIN_STATE g.val) = 3 ∧
      t.raised = s.raised ++ [⟨Code.DRAIN_TIMEOUT, 0xFF,
        recordData [(24, g.val), (32, (drainRun s g.val).out.length)]⟩] ∧
      ∀ a, a ≠ Reg.DRAIN_STATE g.val → rd t a = rd s a) ∧
  (∀ (k : Facet) (e : Echo) (s : State), s.forward.echoes.find? (fun x => decide (x.facet = k.val)) = some e →
    stagingRoom s k.val 1 1 = true →
    exec (.echoEmit k) s = .next (concluded s (originate
      { s with forward := { s.forward with echoes := s.forward.echoes.erase e } } k.val
      (mkHdr { kind := KindCode.DRAIN_MARK, msg := 1, tc := e.tc, ten := e.ten, dst := e.dst, src := ownEid s,
               seq := e.seq, len := 1 }) [e.block]))) ∧
  (∀ (id : Nat) (f : Frame) (s : State), findFrame s id = some f → f.place = .localTo → f.whole = true →
    hdrKind f.hdr = KindCode.DRAIN_MARK → markEcho (f.blocks.getD 0 0) ≠ 0 →
    s.forward.drains.find? (fun e => e.2.out.any (fun m => decide (m.1 = markNumber (f.blocks.getD 0 0)))) = none →
    exec (.drainEchoReceived id) s = .next (concluded s (removeFrame s id))) ∧
  (∀ (k : Facet) (n : Fin 65536) (s : State), (Tab.find s.forward.cache (k.val * 65536 + n.val)).isSome = true →
    cacheFree s (k.val * 65536 + n.val) = true →
    exec (.cacheEntryExpire k n) s = .next (concluded s
      { s with forward := { s.forward with cache := Tab.del s.forward.cache (k.val * 65536 + n.val) } })) ∧
  (∀ (g : Group) (i : Fin 256) (s : State),
    let k := g.val * 256 + i.val
    Tab.get 0 s.forward.untracked k ≠ 0 → Tab.get 0 s.forward.untracked k ≤ now s →
    rd s (Reg.DRAIN_STATE g.val) ≠ 1 →
    exec (.slotUntrackedEnd g i) s = .next (concluded s
      { s with forward := { s.forward with untracked := Tab.put 0 s.forward.untracked k 0 } }))

/-- The peer's last message pairs a forming twin whose own state is sent; a mirrored field is kept beside the registers;
a peer silent on every pair port leaves this member ALONE with one takeover more and its pair ports no candidates. -/
def Obligations.TwinMessages : Prop :=
  (∀ s : State, (twinState s = TwinState.FORMING ∨ twinState s = TwinState.REJOINING) → s.twin.sentAll = true →
    ∃ t, exec (.twinMirrorReceived .complete) s = .next (concluded s t) ∧ twinState t = TwinState.PAIRED ∧
      t.twin = { s.twin with gotAll := true } ∧
      t.raised = s.raised ++ [⟨Code.TWIN_PAIRED, 0xFF, recordData []⟩] ∧
      ∀ a, a ≠ Reg.TWIN_STATE → rd t a = rd s a) ∧
  (∀ (team : Team) (el v : Nat) (s : State), (twinState s = TwinState.FORMING ∨ twinState s = TwinState.PAIRED) →
    ∃ t, exec (.twinMirrorReceived (.teamField team el v)) s = .next (concluded s t) ∧
      Regs.get t.twin.mirror ⟨0x0A00, team.val, el⟩ = v ∧ t.regs = s.regs) ∧
  (∀ (m : TwinMessage) (s : State), (twinState s = TwinState.NONE ∨ twinState s = TwinState.ALONE) →
    exec (.twinMirrorReceived m) s = .next (concluded s s)) ∧
  (∀ s : State, (twinState s = TwinState.PAIRED ∨ twinState s = TwinState.REJOINING) →
    peerSilent s = true →
    ∃ t, exec .peerLoss s = .next (concluded s t) ∧ twinState t = TwinState.ALONE ∧
      rd t Reg.TWIN_TAKEOVERS = (rd s Reg.TWIN_TAKEOVERS + 1) % 2 ^ 32 ∧
      (∀ e ∈ t.clock.candidates, isPairPort s e.1 = false) ∧
      ⟨Code.TWIN_PEER_LOST, 0xFF, recordData []⟩ ∈ t.raised)

/-- A swap whose named boundary finds HOLDOVER, SLEWING or STARTING is deferred with its record unless FORCE is 1,
and applies at the first boundary where none holds; with FORCE 1 it applies in every state. -/
def Obligations.DeferredSwap : Prop :=
  (∀ s : State, unsettled s = true ↔
    (epochHoldover s = true ∨ rd s Reg.EPOCH_SLEWING = 1 ∨ epochState s = EpochState.STARTING)) ∧
  (∀ s : State, rd s Reg.SWAP_STATE = 2 → s.sets.target ≠ 0 → s.sets.target ≤ rd s Reg.EPOCH_NUMBER →
    s.sets.force ≠ 1 →
    rd (boundarySwap true s) Reg.SWAP_STATE = 3 ∧
    (boundarySwap true s).raised = s.raised ++ [⟨Code.SWAP_DEFERRED, 0xFF, recordData []⟩] ∧
    (∀ a, a ≠ Reg.SWAP_STATE → rd (boundarySwap true s) a = rd s a)) ∧
  (∀ s : State, rd s Reg.SWAP_STATE = 3 → s.sets.target ≠ 0 → s.sets.target ≤ rd s Reg.EPOCH_NUMBER →
    s.sets.force ≠ 1 → boundarySwap true s = s ∧ boundarySwap false s = applySwap [] s) ∧
  (∀ (late : Bool) (s : State), (rd s Reg.SWAP_STATE = 2 ∨ rd s Reg.SWAP_STATE = 3) → s.sets.target ≠ 0 →
    s.sets.target ≤ rd s Reg.EPOCH_NUMBER → s.sets.force = 1 → boundarySwap late s = applySwap [] s)

/-- A counter adds modulo 2^48 and a wrap sets its OVF bit, which no later event clears; CLEAR zeroes the values,
TICK and OVF of its bank and nothing else; a capture is armed only for an epoch still to come. -/
def Obligations.BanksAndCaptures : Prop :=
  (∀ (b : Bank) (i : Fin 8) (n : Nat) (s : State),
    let v := rd s (Reg.CBANK_VALUE b.val i.val) + n
    rd (addCounter s b.val i.val n) (Reg.CBANK_VALUE b.val i.val) = v % 2 ^ 48 ∧
    ∀ j, j < 8 → (rd (addCounter s b.val i.val n) (Reg.CBANK_OVF b.val)).testBit j =
      ((decide (j = i.val) && decide (2 ^ 48 ≤ v)) || (rd s (Reg.CBANK_OVF b.val)).testBit j)) ∧
  (∀ (b bank : Bank) (sel j : Nat) (e : Event) (s : State), (rd s (Reg.CBANK_OVF b.val)).testBit j = true →
    (rd (countIn s bank.val sel e) (Reg.CBANK_OVF b.val)).testBit j = true) ∧
  (∀ (b : Bank) (s : State), s.groom.up = true →
    ∃ t, exec (.bankClear b) s = .next t ∧ (∀ i, i < 8 → rd t (Reg.CBANK_VALUE b.val i) = 0) ∧
      rd t (Reg.CBANK_OVF b.val) = 0 ∧ bankTick t b.val = 0 ∧
      (∀ a, a ≠ Reg.CBANK_OVF b.val → (∀ i, i < 8 → a ≠ Reg.CBANK_VALUE b.val i) → rd t a = rd s a) ∧
      (∀ c, c ≠ b.val → bankTick t c = bankTick s c)) ∧
  (∀ (e : BitVec 48) (s : State), s.groom.up = true → rd s Reg.EPOCH_NUMBER < e.toNat →
    ∃ t, exec (.captureArm e) s = .next t ∧ rd t Reg.CAPTURE_EPOCH = e.toNat ∧ rd t Reg.CAPTURE_STATE = 1 ∧
      ∀ a, a ≠ Reg.CAPTURE_EPOCH → a ≠ Reg.CAPTURE_STATE → rd t a = rd s a) ∧
  (∀ (e : BitVec 48) (s : State), e.toNat ≤ rd s Reg.EPOCH_NUMBER → exec (.captureArm e) s = .next s)

/-- A counter write is refused for a SELECT its bank does not define, a UNIT the select does not allow or a
TENFILT it does not admit, judged on the values the message leaves; accepted writes act together, clear VALUE
and OVF, raise CFG_GEN by 1 and stand outside the set. -/
def Obligations.CountersProgrammed : Prop :=
  (∀ (b : Bank) (i : Fin 8) (ws : List (Fin 6 × BitVec 16)) (s : State),
    let vs := ws.map (fun w => (w.1.val, w.2.toNat))
    let after := counterAfter s (b.val * 8 + i.val) vs
    (selectRow (bankType (b.val % 26)) (after 0) = none ∨
      ∃ u y, selectRow (bankType (b.val % 26)) (after 0) = some (u, y) ∧
        (unitAllowed u (after 1) = false ∨ (after 5 ≠ 0xFFFF ∧ y = false))) →
    exec (.counterProgram b i ws) s = .next s) ∧
  (∀ (b : Bank) (i : Fin 8) (ws : List (Fin 6 × BitVec 16)) (s : State) (u : SelUnits) (y : Bool),
    let c := b.val * 8 + i.val
    let vs := ws.map (fun w => (w.1.val, w.2.toNat))
    let after := counterAfter s c vs
    s.groom.up = true → ws ≠ [] →
    (∀ w ∈ vs, ∃ r, rowOf ⟨0x0F01, c, w.1⟩ = some r ∧ r.inRange w.2 = true) →
    selectRow (bankType (b.val % 26)) (after 0) = some (u, y) → unitAllowed u (after 1) = true →
    (after 5 = 0xFFFF ∨ y = true) →
    ∃ t, exec (.counterProgram b i ws) s = .next t ∧ (∀ el, el < 6 → rd t ⟨0x0F01, c, el⟩ = after el) ∧
      rd t (Reg.CBANK_VALUE b.val i.val) = 0 ∧
      (∀ j, j < 8 → (rd t (Reg.CBANK_OVF b.val)).testBit j =
        (decide (j ≠ i.val) && (rd s (Reg.CBANK_OVF b.val)).testBit j)) ∧
      rd t (Reg.CBANK_CFG_GEN b.val) = (rd s (Reg.CBANK_CFG_GEN b.val) + 1) % 2 ^ 32 ∧
      t.shadow = s.shadow ∧
      (∀ a, a ≠ Reg.CBANK_VALUE b.val i.val → a ≠ Reg.CBANK_OVF b.val → a ≠ Reg.CBANK_CFG_GEN b.val →
        (∀ el, el < 6 → a ≠ ⟨0x0F01, c, el⟩) → rd t a = rd s a)) ∧
  (∀ c el : Nat, inSet ⟨0x0F01, c, el⟩ = false)

/-- A TELEMETRY request of a tenant not enabled, or past its rate, is discarded and counted as refused; one that
passes every check is counted as served and takes a token; a waiting response leaves once its facet has the
staging. -/
def Obligations.TelemetryRequests : Prop :=
  (∀ (id : Nat) (f : Frame) (s : State), findFrame s id = some f → f.place = .localTo → f.whole = true →
    hdrKind f.hdr = KindCode.TELEMETRY →
    (rd s (Reg.TENANT_TELEM_EN (hdrTen f.hdr)) = 0 ∨ (telemBucket s (hdrTen f.hdr)).tokens < 1000000) →
    ∃ t, exec (.telemetryRequest id) s = .next (concluded s t) ∧ findFrame t id = none ∧
      rd t (Reg.TENANT_TELEM_REFUSED (hdrTen f.hdr)) = (rd s (Reg.TENANT_TELEM_REFUSED (hdrTen f.hdr)) + 1) % 2 ^ 64 ∧
      rd t (Reg.TENANT_TELEM_SERVED (hdrTen f.hdr)) = rd s (Reg.TENANT_TELEM_SERVED (hdrTen f.hdr))) ∧
  (∀ (id : Nat) (f : Frame) (s : State),
    let n := hdrTen f.hdr
    let b := f.blocks.getD 0 0
    findFrame s id = some f → f.place = .localTo → f.whole = true → hdrKind f.hdr = KindCode.TELEMETRY →
    rd s (Reg.TENANT_TELEM_EN n) ≠ 0 → 1000000 ≤ (telemBucket s n).tokens → telemBad f b = false →
    (∀ r ∈ telemRefs b, rd s (Reg.CCOUNTER_TENFILT (refBank r * 8 + refCounter r)) = n) →
    ∃ t, exec (.telemetryRequest id) s = .next (concluded s t) ∧
      rd t (Reg.TENANT_TELEM_SERVED n) = (rd s (Reg.TENANT_TELEM_SERVED n) + 1) % 2 ^ 64 ∧
      rd t (Reg.TENANT_TELEM_REFUSED n) = rd s (Reg.TENANT_TELEM_REFUSED n) ∧
      Tab.get {} t.telem n = { tokens := (telemBucket s n).tokens - 1000000, last := now s }) ∧
  (∀ (k : Facet) (e : Nat × Block × List Block) (s : State),
    s.forward.telem.find? (fun x => decide (x.1 = k.val)) = some e → stagingRoom s k.val 3 e.2.2.length = true →
    exec (.telemetryResponseEmit k) s = .next (concluded s (originate
      { s with forward := { s.forward with telem := s.forward.telem.erase e } } k.val e.2.1 e.2.2)))

/-- COMMAND 1, a period that falls due, a retry and a recheck whose times are over make a request with its priority
or join the one that waits; COMMAND 2 withdraws a request or aborts a run; a granted request of an engine string or
yoke runs point 1, and of a unit with ports drains first; one not granted waits on, and one refused ends. -/
def Obligations.VetRequests : Prop :=
  (∀ (u : Fin 20480) (s : State), s.groom.up = true → vetExists u.val = true → Tab.find s.vets.requests u.val = none →
    rd s (Reg.VET_STATE u.val) = 0 →
    ∃ t, exec (.vetRequest u) s = .next t ∧ rd t (Reg.VET_STATE u.val) = 1 ∧
      (∀ a, a ≠ Reg.VET_STATE u.val → rd t a = rd s a) ∧
      Tab.find t.vets.requests u.val = some ⟨2, 1, s.vets.order, true, false, now s, false, false⟩) ∧
  (∀ (u : Fin 20480) (q : VetRequest) (s : State), s.groom.up = true → vetExists u.val = true →
    Tab.find s.vets.requests u.val = some q →
    ∃ t, exec (.vetRequest u) s = .next t ∧ Tab.find t.vets.requests u.val = some { q with
      prio := min q.prio 2, trig := if 2 < q.prio then 1 else q.trig, commanded := true }) ∧
  (∀ (u : Fin 20480) (s : State), s.groom.up = true → vetRun s u.val = none → rd s (Reg.VET_STATE u.val) = 1 →
    ∃ t, exec (.vetWithdraw u) s = .next (concluded s t) ∧ rd t (Reg.VET_STATE u.val) = 0 ∧
      Tab.find t.vets.requests u.val = none ∧ ∀ a, a ≠ Reg.VET_STATE u.val → rd t a = rd s a) ∧
  (∀ (u : Fin 20480) (r : VetRun) (s : State), s.groom.up = true → vetRun s u.val = some r → r.stage ≠ 4 →
    ∃ t, exec (.vetWithdraw u) s = .next (concluded s t) ∧ rd t (Reg.VET_STATE u.val) = 4 ∧
      vetRun t u.val = some { r with stage := 4, result := 4, cause := 4 }) ∧
  (∀ (u : Fin 20480) (d : Nat) (s : State), vetExists u.val = true → vetPeriod s (vetKind u.val) ≠ 0 →
    lastDue s u.val = some d → Tab.get 0 s.vets.dues u.val ≤ d →
    Tab.find s.vets.requests u.val = none → rd s (Reg.VET_STATE u.val) = 0 →
    ∃ t, exec (.periodicVetDue u false) s = .next t ∧ rd t (Reg.VET_STATE u.val) = 1 ∧
      Tab.get 0 t.vets.dues u.val = d + 1 ∧
      Tab.find t.vets.requests u.val = some ⟨3, 3, s.vets.order, false, true, now s, false, false⟩) ∧
  (∀ (u : Fin 20480) (q : VetRequest) (s : State), vetExists u.val = true → vetPeriod s (vetKind u.val) ≠ 0 →
    Tab.find s.vets.requests u.val = some q → q.periodic = true → q.overdue = false →
    q.due + vetPeriod s (vetKind u.val) * hourTicks ≤ now s →
    ∃ t, exec (.periodicVetDue u true) s = .next t ∧
      Tab.find t.vets.requests u.val = some { q with overdue := true } ∧
      t.raised = s.raised ++ [⟨Code.VET_OVERDUE, vetFacet u.val, recordData [(24, u.val)]⟩]) ∧
  (∀ (u : Fin 20480) (x : Nat × Nat × Nat) (s : State), Tab.find s.vets.retry u.val = some x →
    x.2.2 + rd s Reg.VETCFG_RETRY_S * secondTicks ≤ now s → Tab.find s.vets.requests u.val = none →
    ∃ t q, exec (.vetRetryTimer u) s = .next t ∧ Tab.find t.vets.retry u.val = none ∧
      Tab.find t.vets.requests u.val = some q ∧ q.prio = x.1 ∧ q.trig = x.2.1) ∧
  (∀ (u : Fin 20480) (x : Nat × Nat × Nat) (s : State), Tab.find s.vets.recheck u.val = some x →
    x.2.2 + rd s Reg.VETCFG_RECHECK * hourTicks ≤ now s → Tab.find s.vets.requests u.val = none →
    ∃ t q, exec (.vetRecheckTimer u) s = .next t ∧ Tab.find t.vets.recheck u.val = none ∧
      Tab.find t.vets.requests u.val = some q ∧ q.prio = x.1 ∧ q.trig = x.2.1) ∧
  (∀ (u : Fin 20480) (q : VetRequest) (s : State), Tab.find s.vets.requests u.val = some q →
    vetRun s u.val = none → vetMay s u.val q = .start → vetKind u.val < 2 →
    s.vets.requests.all (fun e => !vetBefore e (u.val, q) || e.2.denied || decide (vetMay s e.1 e.2 = .wait)) = true →
    ∃ t r, exec (.vetStart u true true) s = .next (concluded s t) ∧ rd t (Reg.VET_STATE u.val) = 3 ∧
      Tab.find t.vets.requests u.val = none ∧ vetRun t u.val = some r ∧ r.stage = 2 ∧ r.point = 1 ∧
      r.packSeq = rd s Reg.VETPACK_PACK_SEQ ∧
      ∀ i ∈ vetIslands u.val, rd t (Reg.ISLAND_VCORE i) = max 700 (rd s (Reg.ISLAND_VFLOOR i))) ∧
  (∀ (u : Fin 20480) (q : VetRequest) (s : State), Tab.find s.vets.requests u.val = some q →
    vetRun s u.val = none → vetMay s u.val q = .start → 2 ≤ vetKind u.val →
    s.vets.requests.all (fun e => !vetBefore e (u.val, q) || e.2.denied || decide (vetMay s e.1 e.2 = .wait)) = true →
    ∃ t, exec (.vetStart u true true) s = .next (concluded s t) ∧ rd t (Reg.VET_STATE u.val) = 2) ∧
  (∀ (u : Fin 20480) (q : VetRequest) (scan : Bool) (s : State), Tab.find s.vets.requests u.val = some q →
    vetRun s u.val = none → vetMay s u.val q = .start →
    s.vets.requests.all (fun e => !vetBefore e (u.val, q) || e.2.denied || decide (vetMay s e.1 e.2 = .wait)) = true →
    exec (.vetStart u scan false) s = .next (concluded s { s with
      vets := { s.vets with requests := Tab.set s.vets.requests u.val { q with denied := true } } })) ∧
  (∀ (u : Fin 20480) (q : VetRequest) (scan granted : Bool) (s : State), Tab.find s.vets.requests u.val = some q →
    vetRun s u.val = none → vetMay s u.val q = .refuse →
    s.vets.requests.all (fun e => !vetBefore e (u.val, q) || e.2.denied || decide (vetMay s e.1 e.2 = .wait)) = true →
    ∃ t, exec (.vetStart u scan granted) s = .next (concluded s t) ∧ rd t (Reg.VET_LAST_RESULT u.val) = 5 ∧
      rd t (Reg.VET_STATE u.val) = 0 ∧ rd t (Reg.VET_RUNS u.val) = (rd s (Reg.VET_RUNS u.val) + 1) % 2 ^ 32)

/-- A drained unit, or one past its drain limit, runs its first test; each point that passes leads to the next, a heated
one after its heating; a failure of point 1, the last point, or a ring row's one test ends the sequence with its
result; the end writes LAST_RESULT and asks again where the rules say so. -/
def Obligations.VetRuns : Prop :=
  (∀ (u : Fin 20480) (r : VetRun) (s : State), vetRun s u.val = some r → r.stage < 2 →
    allDrained s (vetPorts s u.val) = true → (r.stage = 1 ∨ allAcked s (vetPorts s u.val) = true) →
    ∃ t x, exec (.vetDrainDone u) s = .next (concluded s t) ∧ rd t (Reg.VET_STATE u.val) = 3 ∧
      vetRun t u.val = some x ∧ x.stage = 2 ∧ x.point = (if vetKind u.val = 4 then 0 else 1)) ∧
  (∀ (u : Fin 20480) (r : VetRun) (s : State), vetRun s u.val = some r → r.stage = 0 →
    exec (.vetDrainLimit u) s = .next (concluded s { s with
      vets := { s.vets with runs := Tab.set s.vets.runs u.val { r with stage := 1 } } })) ∧
  (∀ (u : Fin 20480) (r : VetRun) (s : State), vetRun s u.val = some r → r.stage = 1 →
    ∃ t x, exec (.vetDrainLimit u) s = .next (concluded s t) ∧ rd t (Reg.VET_STATE u.val) = 3 ∧
      vetRun t u.val = some x ∧ x.stage = 2) ∧
  (∀ (u : Fin 20480) (r : VetRun) (p : Nat) (s : State), vetRun s u.val = some r → r.stage = 2 → vetKind u.val ≠ 4 →
    r.failed.testBit 0 = false → nextPoint (vetKind u.val) r.point = some (p, false) →
    ∃ t, exec (.vetPointDone u true 0) s = .next (concluded s t) ∧
      vetRun t u.val = some { r with point := p, trims := decide (4 ≤ p) } ∧
      (∀ i ∈ vetIslands u.val, rd t (Reg.ISLAND_VCORE i) =
        max 620 (max 700 (rd s (Reg.ISLAND_VFLOOR i)) * pointPercent p / 100)) ∧
      ∀ a, (∀ i ∈ vetIslands u.val, a ≠ Reg.ISLAND_VCORE i) → rd t a = rd s a) ∧
  (∀ (u : Fin 20480) (r : VetRun) (p : Nat) (s : State), vetRun s u.val = some r → r.stage = 2 → vetKind u.val ≠ 4 →
    r.failed.testBit 0 = false → nextPoint (vetKind u.val) r.point = some (p, true) →
    ∃ t, exec (.vetPointDone u true 0) s = .next (concluded s t) ∧
      vetRun t u.val = some { r with stage := 3, point := p, trims := decide (4 ≤ p) }) ∧
  (∀ (u : Fin 20480) (r : VetRun) (n : BitVec 32) (s : State), vetRun s u.val = some r → r.stage = 2 →
    vetKind u.val ≠ 4 → r.point = 1 →
    ∃ t x, exec (.vetPointDone u false n) s = .next (concluded s t) ∧ rd t (Reg.VET_STATE u.val) = 4 ∧
      vetRun t u.val = some x ∧ x.stage = 4 ∧ x.result = 3) ∧
  (∀ (u : Fin 20480) (r : VetRun) (s : State), vetRun s u.val = some r → r.stage = 2 → vetKind u.val ≠ 4 →
    r.failed = 0 → r.passed = true → nextPoint (vetKind u.val) r.point = none →
    ∃ t, exec (.vetPointDone u true 0) s = .next (concluded s t) ∧ rd t (Reg.VET_STATE u.val) = 4 ∧
      vetRun t u.val = some { r with stage := 4, result := 1 }) ∧
  (∀ (u : Fin 20480) (r : VetRun) (passed : Bool) (n : BitVec 32) (s : State), vetRun s u.val = some r → r.stage = 2 →
    vetKind u.val = 4 → vetIndex u.val % 32 < 16 →
    ∃ t x, exec (.vetPointDone u passed n) s = .next (concluded s t) ∧ rd t (Reg.VET_STATE u.val) = 4 ∧
      vetRun t u.val = some x ∧ x.stage = 4 ∧ x.localised = n.toNat) ∧
  (∀ (u : Fin 20480) (r : VetRun) (s : State), vetRun s u.val = some r → r.stage = 3 →
    exec (.vetHeatReached u) s = .next { s with
      vets := { s.vets with runs := Tab.set s.vets.runs u.val { r with stage := 2, heated := true } } }) ∧
  (∀ (u : Fin 20480) (r : VetRun) (s : State), vetRun s u.val = some r → r.stage ≠ 4 →
    s.coll.stints.any (vetDelays s u.val) = true →
    ∃ t, exec (.vetYieldTimeout u) s = .next t ∧ rd t (Reg.VET_STATE u.val) = 4 ∧
      vetRun t u.val = some { r with stage := 4, result := 4, cause := 2 } ∧
      ∀ a, a ≠ Reg.VET_STATE u.val → rd t a = rd s a) ∧
  (∀ (u : Fin 20480) (r : VetRun) (s : State), vetRun s u.val = some r → r.stage = 4 → r.result = 4 →
    ∃ t, exec (.vetAbortStop u) s = .next (concluded s t) ∧ vetRun t u.val = none ∧
      rd t (Reg.VET_LAST_RESULT u.val) = 4 ∧ rd t (Reg.VET_STATE u.val) = restState t u.val ∧
      (r.trig ≠ 3 → Tab.find t.vets.retry u.val = some (r.prio, r.trig, now s)) ∧
      ⟨Code.VET_ABORTED, vetFacet u.val, recordData [(24, u.val), (8, 4), (8, r.cause)]⟩ ∈ t.raised) ∧
  (∀ (u : Fin 20480) (r : VetRun) (s : State), vetRun s u.val = some r → r.stage = 4 → r.result ≠ 4 →
    ∃ t, exec (.vetEnd u) s = .next (concluded s t) ∧ vetRun t u.val = none ∧
      rd t (Reg.VET_LAST_RESULT u.val) = r.result ∧ rd t (Reg.VET_LAST_POINTS u.val) = r.failed ∧
      rd t (Reg.VET_STATE u.val) = restState t u.val ∧
      (r.result = 2 → Tab.find t.vets.recheck u.val = some (2, 2, now s)))

/-- A raised record takes the next SEQ where its buckets have tokens and is counted as suppressed where they have none;
each period passed gains a code's bucket a token, and a summary that is due is written; the program persists every
record; CLEAR moves the bounds; an acknowledgement ends the alert; a pack is judged. -/
def Obligations.StudbookRecords : Prop :=
  (∀ (r : Raised) (rest : List Raised) (s : State), s.groom.up = true → s.raised = r :: rest → s.book.due = [] →
    codeTokens s r.code ≠ 0 → (creditSolid s).book.solid ≠ 0 →
    ∃ t, exec .studbookRecord s = .next t ∧ t.raised = rest ∧
      rd t Reg.STUDBOOK_NEXT_SEQ = rd s Reg.STUDBOOK_NEXT_SEQ + 1 ∧
      Tab.find t.book.ring (rd s Reg.STUDBOOK_NEXT_SEQ % 65536) = some
        (recordBits (rd s Reg.STUDBOOK_NEXT_SEQ) r.code 0 (rd s (Reg.CODECFG_ALERT r.code)) r.source r.data) ∧
      rd t (Reg.CODECFG_WRITTEN r.code) = (rd s (Reg.CODECFG_WRITTEN r.code) + 1) % 2 ^ 64 ∧
      codeTokens t r.code = codeTokens s r.code - 1 ∧ t.book.solid = (creditSolid s).book.solid - 1) ∧
  (∀ (r : Raised) (rest : List Raised) (s : State), s.groom.up = true → s.raised = r :: rest → s.book.due = [] →
    codeTokens s r.code = 0 → rd s (Reg.CODECFG_SUPPRESSED r.code) < 0xFFFFFFFF →
    ∃ t, exec .studbookRecord s = .next t ∧ t.raised = rest ∧ t.book.ring = s.book.ring ∧
      rd t (Reg.CODECFG_SUPPRESSED r.code) = rd s (Reg.CODECFG_SUPPRESSED r.code) + 1 ∧
      ∀ a, a ≠ Reg.CODECFG_SUPPRESSED r.code → rd t a = rd s a) ∧
  (∀ (code : BitVec 16) (s : State), periodsPassed s code.toNat = 0 → exec (.codeBucketToken code) s = .next s) ∧
  (∀ (code : BitVec 16) (s : State), definedCodes.contains code.toNat = true → s.book.due = [] →
    periodsPassed s code.toNat ≠ 0 → rd s (Reg.CODECFG_SUPPRESSED code.toNat) = 0 →
    ∃ t, exec (.codeBucketToken code) s = .next t ∧ t.regs = s.regs ∧ t.book.ring = s.book.ring ∧
      codeTokens t code.toNat =
        min (rd s (Reg.CODECFG_BURST code.toNat)) (codeTokens s code.toNat + periodsPassed s code.toNat) ∧
      periodsPassed t code.toNat = 0) ∧
  (∀ (code : BitVec 16) (s : State), s.groom.up = true → definedCodes.contains code.toNat = true → s.book.due = [] →
    periodsPassed s code.toNat ≠ 0 →
    rd s (Reg.CODECFG_SUPPRESSED code.toNat) ≠ 0 → (creditSolid s).book.solid ≠ 0 →
    ∃ t, exec (.codeBucketToken code) s = .next t ∧ rd t (Reg.CODECFG_SUPPRESSED code.toNat) = 0 ∧
      rd t Reg.STUDBOOK_NEXT_SEQ = rd s Reg.STUDBOOK_NEXT_SEQ + 1 ∧ t.book.due = []) ∧
  (∀ (s : State),
    let q := rd s Reg.STUDBOOK_FLASH_NEXT
    s.groom.up = true → s.book.erasing = [] → rd s Reg.STUDBOOK_OLDEST ≤ q →
    rd s Reg.STUDBOOK_NEXT_SEQ = q + 1 → q % 2048 ≠ 2047 → s.flash.wf = true →
    ∃ t, exec .persistProgram s = .next t ∧ rd t Reg.STUDBOOK_FLASH_NEXT = q + 1 ∧
      t.flash.readBytes (slotAddr (q % 524288)) 32 = bytesBE 32 (Tab.get 0 s.book.ring (q % 65536)) ∧
      ∀ a, (a < slotAddr (q % 524288) ∨ slotAddr (q % 524288) + 32 ≤ a) → t.flash.read a = s.flash.read a) ∧
  (∀ (key : Fin 2048) (s : State), s.groom.up = true →
    ∃ t, exec (.studbookClear key) s = .next t ∧ rd t Reg.STUDBOOK_OLDEST = rd s Reg.STUDBOOK_NEXT_SEQ ∧
      rd t Reg.STUDBOOK_FLASH_OLDEST = rd s Reg.STUDBOOK_NEXT_SEQ ∧
      rd t Reg.STUDBOOK_LAST_CLEARED = rd s Reg.STUDBOOK_NEXT_SEQ) ∧
  (∀ (n : BitVec 64) (s : State), s.groom.up = true →
    ∃ t, exec (.alertAck n) s = .next t ∧ rd t Reg.STUDBOOK_ALERT_ACK = n.toNat ∧
      t.book.alert = s.book.alert.filter (fun a => decide (n.toNat < a)) ∧
      ∀ a, a ≠ Reg.STUDBOOK_ALERT_ACK → rd t a = rd s a) ∧
  (∀ s : State, s.groom.up = true → packInUse s (stagedPack s) = false →
    let base := packBase (stagedPack s)
    let good := packCheck s base = 0
    ∃ t, exec (.packVerify false) s = .next t ∧ rd t Reg.VETPACK_RESULT = packCheck s base ∧ t.flash = s.flash ∧
      rd t Reg.VETPACK_ACTIVE_SLOT = (if good then stagedPack s else rd s Reg.VETPACK_ACTIVE_SLOT) ∧
      rd t Reg.VETPACK_PACK_SEQ = (if good then signedSeq s base else rd s Reg.VETPACK_PACK_SEQ) ∧
      rd t Reg.VETPACK_MIN_SEQ = (if good then signedSeq s base else rd s Reg.VETPACK_MIN_SEQ) ∧
      rd t Reg.VETPACK_KINDS = (if good then flashNat s (base + 24) 2 else rd s Reg.VETPACK_KINDS) ∧
      t.raised = s.raised ++ [if good
        then ⟨Code.VETPACK_LOADED, 8, recordData [(64, signedSeq s base), (8, signedKey s base), (8, stagedPack s)]⟩
        else ⟨Code.VETPACK_REJECTED, 8, recordData [(8, packCheck s base), (64, signedSeq s base)]⟩]) ∧
  (∀ (fails : Bool) (s : State), s.groom.up = true → packInUse s (stagedPack s) = true →
    ∃ t, exec (.packVerify fails) s = .next t ∧ rd t Reg.VETPACK_RESULT = 1 ∧
      ∀ a, a ≠ Reg.VETPACK_RESULT → rd t a = rd s a)

/-- A good datagram to port 4731 at one of an enabled management port's addresses joins the request queue, or is
counted where the queue is full; an echo request and a Neighbor Solicitation for such an address are answered;
anything else, and everything at a disabled port, is discarded; a link change is recorded. -/
def Obligations.SirgoTransports : Prop :=
  (∀ (m : Fin 2) (dst src port : Nat) (bytes : List Byte) (s : State), s.groom.up = true →
    rd s (Reg.MGMTPORT_ENABLE m.val) ≠ 0 → (portAddresses s m.val).contains dst = true → s.requests.length < 128 →
    ∃ t, exec (.mgmtPacketReceived m (.udp dst src port 4731 false true bytes)) s = .next t ∧
      t.requests = s.requests ++ [⟨m.val, src, port, 0, 0, bytes⟩] ∧
      rd t Reg.SIRGO_QUEUE_PEAK = max (rd s Reg.SIRGO_QUEUE_PEAK) (s.requests.length + 1) ∧
      ∀ a, a ≠ Reg.SIRGO_QUEUE_PEAK → rd t a = rd s a) ∧
  (∀ (m : Fin 2) (dst src port : Nat) (bytes : List Byte) (s : State), s.groom.up = true →
    rd s (Reg.MGMTPORT_ENABLE m.val) ≠ 0 → (portAddresses s m.val).contains dst = true → 128 ≤ s.requests.length →
    ∃ t, exec (.mgmtPacketReceived m (.udp dst src port 4731 false true bytes)) s = .next t ∧
      rd t Reg.SIRGO_DROP_QUEUE = (rd s Reg.SIRGO_DROP_QUEUE + 1) % 2 ^ 64 ∧ t.requests = s.requests ∧
      ∀ a, a ≠ Reg.SIRGO_DROP_QUEUE → rd t a = rd s a) ∧
  (∀ (m : Fin 2) (p : MgmtPacket) (s : State), s.groom.up = true →
    (rd s (Reg.MGMTPORT_ENABLE m.val) = 0 ∨ p = .other ∨
      (∃ dst src bytes, p = .echoRequest dst src bytes ∧ (portAddresses s m.val).contains dst = false) ∨
      ∃ dst src port to_ frag good bytes, p = .udp dst src port to_ frag good bytes ∧
        (to_ ≠ 4731 ∨ frag = true ∨ good = false ∨ (portAddresses s m.val).contains dst = false)) →
    ∃ t, exec (.mgmtPacketReceived m p) s = .next t ∧
      rd t (Reg.MGMTPORT_DISCARDS m.val) = (rd s (Reg.MGMTPORT_DISCARDS m.val) + 1) % 2 ^ 64 ∧
      t.requests = s.requests ∧ t.outputs = s.outputs ∧
      ∀ a, a ≠ Reg.MGMTPORT_DISCARDS m.val → rd t a = rd s a) ∧
  (∀ (m : Fin 2) (dst src : Nat) (bytes : List Byte) (s : State), s.groom.up = true →
    rd s (Reg.MGMTPORT_ENABLE m.val) ≠ 0 → (portAddresses s m.val).contains dst = true →
    exec (.mgmtPacketReceived m (.echoRequest dst src bytes)) s =
      .next { s with outputs := s.outputs ++ [.packet m.val src bytes] }) ∧
  (∀ (m : Fin 2) (src target : Nat) (s : State), s.groom.up = true →
    rd s (Reg.MGMTPORT_ENABLE m.val) ≠ 0 → (portAddresses s m.val).contains target = true →
    exec (.mgmtPacketReceived m (.neighborSolicitation src target)) s =
      .next { s with outputs := s.outputs ++ [.advertisement m.val src target] }) ∧
  (∀ (m : Fin 2) (p : MgmtPacket) (s : State), s.groom.up = false →
    exec (.mgmtPacketReceived m p) s = .next s) ∧
  (∀ (m : Fin 2) (up : Bool) (s : State), rd s (Reg.MGMTPORT_LINK m.val) ≠ boolBit up →
    ∃ t, exec (.mgmtLinkChange m up) s = .next t ∧ rd t (Reg.MGMTPORT_LINK m.val) = boolBit up ∧
      t.raised = s.raised ++ [⟨Code.MGMT_LINK, 8, recordData []⟩] ∧
      ∀ a, a ≠ Reg.MGMTPORT_LINK m.val → rd t a = rd s a)

/-- An authentic message with a counter above the floor raises the floor, is executed once by its operation, on
the registers or the flash region it names, and is answered; a write of the flash changes only the bytes it
programs and the sector it erases. -/
def Obligations.SirgoMessages : Prop :=
  (∀ (r : Request) (rest : List Request) (items : List Item) (s : State),
    let bs := requestBytes r
    let k := msgKey bs
    let s1 := wr { s with requests := rest } (Reg.KEY_FLOOR k) (msgCounter bs)
    let s2 := if rd s (Reg.KEY_CEILING k) < msgCounter bs
      then wr s1 (Reg.KEY_CEILING k) (msgCounter bs + 1048576) else s1
    let done := fun (u : State) => wr u (Reg.KEY_LAST_EPOCH k) (rd s Reg.EPOCH_NUMBER)
    let role := rd s (Reg.KEY_ROLE k)
    let out := getItems role (rd s (Reg.KEY_TEN k)) 0 items s2 []
    s.groom.up = true → s.requests = r :: rest → formatGood bs = true → authGood s bs = true →
    rd s (Reg.KEY_FLOOR k) < msgCounter bs → keptReply s bs = none → rd s Reg.FIRMWARE_RUNNING_SLOT ≠ 0xFF →
    inbandStatus s r k = Status.OK → headStatus bs = Status.OK → msgOp bs = Op.GET → parseItems (msgBody bs).length (msgBody bs) = some items →
    items.length = msgItems bs →
    exec .getMsg s = .next (answer true (secretOf s k) bs r out.2 (done out.1))) ∧
  (∀ (r : Request) (rest : List Request) (items : List Item) (s : State),
    let bs := requestBytes r
    let k := msgKey bs
    let s1 := wr { s with requests := rest } (Reg.KEY_FLOOR k) (msgCounter bs)
    let s2 := if rd s (Reg.KEY_CEILING k) < msgCounter bs
      then wr s1 (Reg.KEY_CEILING k) (msgCounter bs + 1048576) else s1
    let done := fun (u : State) => wr u (Reg.KEY_LAST_EPOCH k) (rd s Reg.EPOCH_NUMBER)
    let role := rd s (Reg.KEY_ROLE k)
    let out := getRange (replyLimit s r.transport) role (rd s (Reg.KEY_TEN k)) items s2
    s.groom.up = true → s.requests = r :: rest → formatGood bs = true → authGood s bs = true →
    rd s (Reg.KEY_FLOOR k) < msgCounter bs → keptReply s bs = none → rd s Reg.FIRMWARE_RUNNING_SLOT ≠ 0xFF →
    inbandStatus s r k = Status.OK → headStatus bs = Status.OK → msgOp bs = Op.GET_RANGE → parseItems (msgBody bs).length (msgBody bs) = some items →
    items.length = msgItems bs →
    exec .getRange s = .next (answer true (secretOf s k) bs r out.2 (done out.1))) ∧
  (∀ (r : Request) (rest : List Request) (items : List Item) (s : State),
    let bs := requestBytes r
    let k := msgKey bs
    let s1 := wr { s with requests := rest } (Reg.KEY_FLOOR k) (msgCounter bs)
    let s2 := if rd s (Reg.KEY_CEILING k) < msgCounter bs
      then wr s1 (Reg.KEY_CEILING k) (msgCounter bs + 1048576) else s1
    let done := fun (u : State) => wr u (Reg.KEY_LAST_EPOCH k) (rd s Reg.EPOCH_NUMBER)
    let role := rd s (Reg.KEY_ROLE k)
    let initial := decide (rd s (Reg.KEY_STATE k) = 3)
    let ws := items.map (itemWrite s k (msgCounter bs))
    s.groom.up = true → s.requests = r :: rest → formatGood bs = true → authGood s bs = true →
    rd s (Reg.KEY_FLOOR k) < msgCounter bs → keptReply s bs = none → rd s Reg.FIRMWARE_RUNNING_SLOT ≠ 0xFF →
    inbandStatus s r k = Status.OK → headStatus bs = Status.OK → msgOp bs = Op.SET → parseItems (msgBody bs).length (msgBody bs) = some items →
    items.length = msgItems bs → setStatus s2 role initial ws = (Status.OK, 0) →
    exec .setMsg s = .next (concluded s (afterResponse ws (answer true (secretOf s k) bs r
      { status := Status.OK, items := items.length, body := items.flatMap (fun x => itemBytes x.addr x.shadow []) }
      (done (applyWrites k ws s2)))))) ∧
  (∀ (r : Request) (rest : List Request) (g : FlashRegion) (s : State),
    let bs := requestBytes r
    let k := msgKey bs
    let s1 := wr { s with requests := rest } (Reg.KEY_FLOOR k) (msgCounter bs)
    let s2 := if rd s (Reg.KEY_CEILING k) < msgCounter bs
      then wr s1 (Reg.KEY_CEILING k) (msgCounter bs + 1048576) else s1
    let done := fun (u : State) => wr u (Reg.KEY_LAST_EPOCH k) (rd s Reg.EPOCH_NUMBER)
    let role := rd s (Reg.KEY_ROLE k)
    let initial := decide (rd s (Reg.KEY_STATE k) = 3)
    s.groom.up = true → s.requests = r :: rest → formatGood bs = true → authGood s bs = true →
    rd s (Reg.KEY_FLOOR k) < msgCounter bs → keptReply s bs = none → rd s Reg.FIRMWARE_RUNNING_SLOT ≠ 0xFF →
    inbandStatus s r k = Status.OK → headStatus bs = Status.OK → msgOp bs = Op.BULK_READ →
    bulkStatus role initial (msgItems bs) 8 16 (msgBody bs) (fun x => x.readRole) = Status.OK →
    flashRegions[bulkRegion (msgBody bs)]? = some g →
    exec .bulkRead s = .next (answer true (secretOf s k) bs r
      { status := Status.OK, items := 1, body := (msgBody bs).take 8 ++
          flashBytes s (g.base + bulkOffset (msgBody bs)) (bulkLen (msgBody bs)) } (done s2))) ∧
  (∀ (r : Request) (rest : List Request) (g : FlashRegion) (s : State),
    let bs := requestBytes r
    let k := msgKey bs
    let role := rd s (Reg.KEY_ROLE k)
    let initial := decide (rd s (Reg.KEY_STATE k) = 3)
    let a := g.base + bulkOffset (msgBody bs)
    let n := bulkLen (msgBody bs)
    s.groom.up = true → s.requests = r :: rest → formatGood bs = true → authGood s bs = true →
    rd s (Reg.KEY_FLOOR k) < msgCounter bs → keptReply s bs = none → rd s Reg.FIRMWARE_RUNNING_SLOT ≠ 0xFF →
    inbandStatus s r k = Status.OK → headStatus bs = Status.OK → msgOp bs = Op.BULK_WRITE → s.flash.wf = true →
    bulkStatus role initial (msgItems bs) (8 + n) 256 (msgBody bs) (fun x => x.writeRole) = Status.OK →
    flashRegions[bulkRegion (msgBody bs)]? = some g → regionBusy s (bulkRegion (msgBody bs)) = false →
    (g.bank ≠ rd s Reg.FIRMWARE_EXEC_BANK ∨ (msgFlags bs).testBit 2 = true) → pagesBlank s a n = true →
    ∃ t, exec (.bulkWrite false) s = .next t ∧ rd t (Reg.KEY_FLOOR k) = msgCounter bs ∧
      t.flash.readBytes a n = (msgBody bs).drop 8 ∧
      ∀ x, (x < a ∨ a + n ≤ x) → (a % 65536 ≠ 0 ∨ x / 65536 ≠ a / 65536) → t.flash.read x = s.flash.read x) ∧
  (∀ (key : Nat) (w : Write) (s : State), writeEffect key w.addr w.value = none → w.addr.obj ≠ 0x0F01 →
    w.addr.obj ≠ 0x0600 →
    (inSet w.addr = false → rd (applyWrites key [w] s) w.addr = w.value ∧
      ∀ b, b ≠ w.addr → rd (applyWrites key [w] s) b = rd s b) ∧
    (inSet w.addr = true → shadowRd (applyWrites key [w] s) w.addr = w.value ∧
      (applyWrites key [w] s).regs = s.regs)) ∧
  (∀ (o i : Nat) (obj : BitVec 16) (inst : BitVec 24) (el : BitVec 8) (v : Nat) (s : State),
    let a : Addr := ⟨obj.toNat, inst.toNat, el.toNat⟩
    let w : Write := ⟨a, bitsOf a / 8, v⟩
    o = a.obj → i = a.inst → s.groom.up = true → ¬ (o = 0x1102 ∧ a.el = 3) → v < 2 ^ bitsOf a →
    setStatus s 3 false [w] = (Status.OK, 0) →
    exec (.registerWrite obj inst el v) s = .next (concluded s
      (afterResponse [w] (applyWrites (Config.writerKey (now s)).val [w] s))))

/-- Signing slot 0 leaves manufacture VALID and the others EMPTY; only an EMPTY slot takes a key and becomes
VALID; only a VALID slot is revoked, never the last VALID one nor the one that signed the running image, and a
REVOKED slot never changes again. -/
def Obligations.SigningKeys : Prop :=
  (∀ k : Fin 4, rd State.reset (Reg.SIGNKEY_STATE k.val) = (if k = 0 then 1 else 0)) ∧
  (∀ (k : Fin 4) (v : BitVec 776) (s : State), s.groom.up = true → rd s (Reg.SIGNKEY_STATE k.val) = 0 →
    ∃ t, exec (.pubkeyWrite k v) s = .next t ∧ rd t (Reg.SIGNKEY_STATE k.val) = 1 ∧
      rd t (Reg.SIGNKEY_PUBKEY k.val) = v.toNat ∧
      ∀ a, a ≠ Reg.SIGNKEY_STATE k.val → a ≠ Reg.SIGNKEY_PUBKEY k.val → rd t a = rd s a) ∧
  (∀ (k : Fin 4) (v : BitVec 776) (s : State), rd s (Reg.SIGNKEY_STATE k.val) ≠ 0 →
    exec (.pubkeyWrite k v) s = .next s) ∧
  (∀ (k : Fin 4) (s : State), s.groom.up = true → rd s (Reg.SIGNKEY_STATE k.val) = 1 →
    (∃ j : Fin 4, j ≠ k ∧ rd s (Reg.SIGNKEY_STATE j.val) = 1) →
    (2 ≤ rd s Reg.FIRMWARE_RUNNING_SLOT ∨ signedKey s (imageBase (rd s Reg.FIRMWARE_RUNNING_SLOT)) ≠ k.val) →
    ∃ t, exec (.signkeyRevoke k) s = .next t ∧ rd t (Reg.SIGNKEY_STATE k.val) = 2 ∧
      ∀ a, a ≠ Reg.SIGNKEY_STATE k.val → rd t a = rd s a) ∧
  (∀ (k : Fin 4) (len : Nat) (s : State),
    (rd s (Reg.SIGNKEY_STATE k.val) ≠ 1 ∨ (∀ j : Fin 4, j ≠ k → rd s (Reg.SIGNKEY_STATE j.val) ≠ 1) ∨
      (rd s Reg.FIRMWARE_RUNNING_SLOT < 2 ∧ signedKey s (imageBase (rd s Reg.FIRMWARE_RUNNING_SLOT)) = k.val)) →
    exec (.signkeyRevoke k) s = .next s ∧
    ruleRefuses s [⟨Reg.SIGNKEY_STATE k.val, len, 2⟩] ⟨Reg.SIGNKEY_STATE k.val, len, 2⟩ = true)

/-- VERIFY judges the idle image, ACTIVATE selects it once verified, CANCEL withdraws that, CONFIRM ends a trial and
raises the rollback floor, RESTART and a trial not confirmed in its time stop the groom, which starts again; a
secret is unwrapped; the boot set is saved and erased. -/
def Obligations.FirmwareAndKeys : Prop :=
  (∀ s : State, s.groom.up = true →
    ∃ t, exec .verify s = .next t ∧ rd t Reg.FIRMWARE_RESULT = imageCheck s (idleSlot s) false ∧
      t.groom = { s.groom with verified := decide (imageCheck s (idleSlot s) false = 0) } ∧
      ∀ a, a ≠ Reg.FIRMWARE_RESULT → rd t a = rd s a) ∧
  (∀ s : State, s.groom.up = true → s.groom.verified = true →
    ∃ t, exec .activate s = .next t ∧ rd t Reg.FIRMWARE_NEXT_SLOT = idleSlot s ∧
      t.groom = { s.groom with activated := true } ∧ ∀ a, a ≠ Reg.FIRMWARE_NEXT_SLOT → rd t a = rd s a) ∧
  (∀ s : State, s.groom.verified = false → exec .activate s = .next s) ∧
  (∀ s : State, s.groom.up = true → s.groom.activated = true →
    ∃ t, exec .cancel s = .next t ∧ t.groom = { s.groom with activated := false } ∧
      rd t Reg.FIRMWARE_NEXT_SLOT =
        (if rd s Reg.FIRMWARE_TRIAL = 1 then idleSlot s else rd s Reg.FIRMWARE_RUNNING_SLOT)) ∧
  (∀ s : State, s.groom.up = true → rd s Reg.FIRMWARE_TRIAL = 1 →
    ∃ t, exec .confirm s = .next t ∧ rd t Reg.FIRMWARE_TRIAL = 0 ∧
      rd t Reg.FIRMWARE_MIN_SEQ = rd s Reg.FIRMWARE_RUNNING_SEQ ∧
      (s.groom.activated = false → rd t Reg.FIRMWARE_NEXT_SLOT = rd s Reg.FIRMWARE_RUNNING_SLOT) ∧
      t.raised = s.raised ++ [⟨Code.FW_CONFIRMED, 8, recordData []⟩]) ∧
  (∀ s : State, s.groom.up = true →
    exec .restart s = .next { s with
      groom := { s.groom with up := false, verified := false, kept := [] }, requests := [] }) ∧
  (∀ s : State, s.groom.up = true → rd s Reg.FIRMWARE_TRIAL = 1 →
    s.groom.startedAt + rd s Reg.FIRMWARE_CONFIRM_S * 1000000000 ≤ now s →
    exec .confirmTimeout s = .next { s with
      groom := { s.groom with up := false, verified := false, kept := [] }, requests := [] }) ∧
  (∀ s : State, s.groom.up = false → s.groom.halted = false →
    (s.power.phase = 0 ∨ (s.power.resetN = true ∧ s.power.pwrgd = true)) →
    ∃ t, exec .groomStart s = .next t ∧ t.groom.up = true ∧ t.groom.cold = false ∧ t.groom.kept = [] ∧
      t.groom.activated = false ∧ t.groom.suspended = [] ∧ t.power = s.power) ∧
  (∀ (k key : Fin 2048) (v : BitVec 256) (n : BitVec 64) (s : State), s.groom.up = true → keyGood s key.val = true →
    rd s (Reg.KEY_ROLE key.val) = 3 →
    ∃ t, exec (.secretWrite k v key n) s = .next t ∧
      Tab.find t.groom.secrets k.val = some (v.toNat ^^^ secretMask s key.val n.toNat k.val) ∧
      rd t (Reg.KEY_FLOOR k.val) = 0 ∧ rd t (Reg.KEY_CEILING k.val) = 0 ∧
      rd t (Reg.KEY_STATE k.val) = (if rd s (Reg.KEY_STATE k.val) = 3 then 1 else rd s (Reg.KEY_STATE k.val)) ∧
      t.raised = s.raised ++ [⟨Code.KEY_CHANGED, 8, recordData [(16, k.val), (16, key.val)]⟩]) ∧
  (∀ s : State, s.groom.up = true →
    ∃ t, exec .bootsetSave s = .next t ∧ rd t Reg.BOOTSET_STATE = 1 ∧
      rd t Reg.BOOTSET_SAVED_EPOCH = rd s Reg.CONFSET_ACTIVE_EPOCH ∧
      t.groom = { s.groom with saved := some (s.regs.filter (fun e => inDigest e.1)) } ∧
      rd t Reg.BOOTSET_SAVED_HI * 2 ^ 64 + rd t Reg.BOOTSET_SAVED_LO =
        setDigest (s.regs.filter (fun e => inDigest e.1))) ∧
  (∀ s : State, s.groom.up = true →
    ∃ t, exec .bootsetErase s = .next t ∧ rd t Reg.BOOTSET_STATE = 0 ∧ rd t Reg.BOOTSET_SAVED_EPOCH = 0 ∧
      t.groom = { s.groom with saved := none })

/-- Each grant period takes its measurement and puts the grants of two periods before into force; a sample below
its trip updates its sensor and flags; a throttling facet is cut by 10 W a step and given back after; a trip
darkens the solid; a cooled groom may start; supplies out of and in range are noted. -/
def Obligations.PowerAndTemperatures : Prop :=
  (∀ (ds a b : List Nat) (more : List (List Nat)) (inW lossW : BitVec 16) (s : State), powered s = true →
    s.power.pipe = a :: b :: more →
    ∃ t, exec (.arbGrantPeriod ds inW lossW) s = .next t ∧ rd t Reg.POWER_INPUT_W = inW.toNat ∧
      rd t Reg.POWER_LOSS_W = lossW.toNat ∧ t.power.pipe.length = 2 ∧ t.power.pipe.head? = some b ∧
      t.power.period = now s ∧
      ∀ i, i < 48 → rd t (Reg.ARBCLASS_DEMAND_MW i) = ds.getD i 0 ∧ rd t (Reg.ARBCLASS_GRANT_MW i) = a.getD i 0) ∧
  (∀ (ds : List Nat) (inW lossW : BitVec 16) (s : State), powered s = true → s.power.pipe.length < 2 →
    ∃ t, exec (.arbGrantPeriod ds inW lossW) s = .next t ∧ rd t Reg.POWER_INPUT_W = inW.toNat ∧
      t.power.pipe.length = s.power.pipe.length + 1 ∧
      ∀ i, i < 48 → rd t (Reg.ARBCLASS_GRANT_MW i) = rd s (Reg.ARBCLASS_GRANT_MW i)) ∧
  (∀ (n : Fin 89) (v : BitVec 16) (s : State), (∀ i, i < 64 → rd s (Reg.ISLAND_TJ i) < 2 ^ 16) →
    ofRaw 16 v.toNat < (thermLevels (sensorInstance n.val)).trip →
    let i := sensorInstance n.val
    ∃ t, exec (.tempSample n v) s = .next t ∧
      rdI 16 t (Reg.THERMAL_TEMP i) = instanceTemp (storeSample n.val v.toNat s) n.val v.toNat ∧
      thermFlags t i = flagsAfter i (thermFlags s i) (instanceTemp (storeSample n.val v.toNat s) n.val v.toNat) ∧
      t.power.tripped = s.power.tripped ∧ (n.val < 64 → rd t (Reg.ISLAND_TJ n.val) = v.toNat)) ∧
  (∀ (f : Facet) (s : State), (thermFlags s f.val).testBit 3 = false →
    ∃ t, exec (.throttleStep f) s = .next t ∧
      Tab.get 0 t.power.cut f.val = Tab.get 0 s.power.cut f.val - 10000 ∧ t.regs = s.regs) ∧
  (∀ (f : Facet) (s : State), (thermFlags s f.val).testBit 3 = true →
    (∃ c, c < 5 ∧ rd s (Reg.ARBCLASS_MIN_MW (6 * f.val + c)) < (grantsLast s).getD (6 * f.val + c) 0) →
    ∃ t, exec (.throttleStep f) s = .next t ∧
      Tab.get 0 t.power.cut f.val = Tab.get 0 s.power.cut f.val + 10000 ∧ t.regs = s.regs) ∧
  (∀ (n : Fin 89) (v : BitVec 16) (s : State), sensorInstance n.val ≠ 32 → s.power.tripped = none →
    (thermLevels (sensorInstance n.val)).trip ≤ ofRaw 16 v.toNat →
    ∃ t, exec (.thermalTrip n v) s = .next t ∧ t.power.tripped = some (sensorInstance n.val) ∧
      rd t Reg.POWER_READY = 0 ∧ rd t (Reg.THERMAL_STATE (sensorInstance n.val)) = 4 ∧
      (∀ i, i < 64 → rd t (Reg.ISLAND_STATE i) = 3 ∧ rd t (Reg.ISLAND_VCORE i) = 0) ∧
      (∀ p, rd t (Reg.PORT_STATE p) = 0) ∧ t.frames = [] ∧ t.groom = s.groom ∧
      ⟨Code.THERMTRIP, 8, recordData [(24, sensorInstance n.val), (16, v.toNat)]⟩ ∈ t.raised) ∧
  (∀ (n : Fin 89) (v : BitVec 16) (s : State), sensorInstance n.val = 32 → s.groom.halted = false →
    (thermLevels 32).trip ≤ ofRaw 16 v.toNat →
    ∃ t, exec (.thermalTrip n v) s = .next t ∧ t.groom.up = false ∧ t.groom.halted = true ∧
      rd t (Reg.THERMAL_STATE 32) = 4 ∧ t.requests = [] ∧ t.power = s.power ∧ t.frames = s.frames) ∧
  (∀ s : State, s.groom.halted = true → rdI 16 s (Reg.THERMAL_TEMP 32) < 1000 →
    (s.time.running = false ∨ Tab.get 0 s.power.noted 32 + 1000000000 ≤ now s) →
    ∃ t, exec .groomCooled s = .next t ∧ t.groom = { s.groom with halted := false } ∧
      rd t (Reg.THERMAL_STATE 32) = 0 ∧ ∀ a, a ≠ Reg.THERMAL_STATE 32 → rd t a = rd s a) ∧
  (∀ (mv : BitVec 16) (s : State), s.power.vinBad = false →
    ∃ t, exec (.supplyOutOfRange false mv) s = .next t ∧ rd t Reg.POWER_VIN_MV = mv.toNat ∧
      t.power = { s.power with vinBad := true } ∧
      t.raised = s.raised ++ [⟨Code.SUPPLY_FAULT, 8, recordData [(16, mv.toNat), (16, rd s Reg.POWER_VAUX_MV)]⟩]) ∧
  (∀ (mv : BitVec 16) (s : State), s.power.vauxBad = false →
    ∃ t, exec (.supplyOutOfRange true mv) s = .next t ∧ rd t Reg.POWER_VAUX_MV = mv.toNat ∧
      t.power = { s.power with vauxBad := true }) ∧
  (∀ (aux : Bool) (mv : BitVec 16) (s : State),
    ∃ t, exec (.supplyInRange aux mv) s = .next t ∧
      rd t (if aux then Reg.POWER_VAUX_MV else Reg.POWER_VIN_MV) = mv.toNat ∧
      t.power = (if aux then { s.power with vauxBad := false } else { s.power with vinBad := false }))

/-- A fall of RESET_N or PWRGD_IN, POWER COMMAND 1, the loss of VAUX and its return each leave a solid in reset,
the groom down, the cause written and the flash untouched; the power-up steps follow one another until READY
is 1. -/
def Obligations.ResetsAndPowerUp : Prop :=
  (∀ s : State, s.power.resetN = true → s.groom.up = true →
    ∃ t, exec .resetNFall s = .next t ∧ t.power.phase = 0 ∧ t.power.resetN = false ∧ t.groom.up = false ∧
      rd t Reg.POWER_READY = 0 ∧ rd t Reg.POWER_RESET_CAUSE = (if s.power.tripped.isSome then 5 else 1) ∧
      t.time = {} ∧ t.frames = [] ∧ t.flash = s.flash ∧ t.shadow = [] ∧
      ∀ a, inSet a = true → flashElement a = false → rd t a = regDefault a) ∧
  (∀ s : State, s.groom.up = true → tripHolds s = false →
    ∃ t, exec .solidResetCommand s = .next t ∧ t.power.phase = 0 ∧ t.groom.up = false ∧ t.power.tripped = none ∧
      rd t Reg.POWER_READY = 0 ∧ rd t Reg.POWER_RESET_CAUSE = (if s.power.tripped.isSome then 5 else 2) ∧
      t.time = {} ∧ t.flash = s.flash) ∧
  (∀ s : State, tripHolds s = true → exec .solidResetCommand s = .next s) ∧
  (∀ s : State, s.power.pwrgd = true → s.groom.up = true →
    ∃ t, exec .pwrgdInFall s = .next t ∧ t.power.phase = 0 ∧ t.power.pwrgd = false ∧ t.groom.up = false ∧
      rd t Reg.POWER_READY = 0 ∧ (∀ i, i < 64 → rd t (Reg.ISLAND_STATE i) = 3) ∧ t.flash = s.flash ∧
      rd t Reg.POWER_RESET_CAUSE = (if s.power.tripped.isSome then 5 else 3)) ∧
  (∀ s : State,
    ∃ t, exec .vauxLoss s = .next t ∧ t.power.phase = 0 ∧ t.groom.up = false ∧ rd t Reg.POWER_READY = 0 ∧
      (∀ i, i < 64 → rd t (Reg.ISLAND_STATE i) = 3) ∧ t.flash = s.flash) ∧
  (∀ (straps : BitVec 3) (s : State),
    ∃ t, exec (.vauxApplied straps) s = .next t ∧ t.groom.up = false ∧ t.groom.cold = true ∧
      t.power = { straps := straps.toNat } ∧ t.flash = s.flash ∧ t.book = {} ∧ t.raised = [] ∧
      (∀ a, flashElement a = false → rd t a = regDefault a) ∧
      (∀ a, flashElement a = true → rd t a = rd s a)) ∧
  (∀ s : State, s.groom.up = true → s.power.phase = 0 → tripHolds s = false →
    exec .effectiveRelease s = .next { s with
      power := { s.power with phase := 1, resetN := true, pwrgd := true, tripped := none },
      time := { running := true } }) ∧
  (∀ s : State, s.power.phase = 1 → s.power.tripped = none →
    ∃ t, exec .railsInRegulation s = .next t ∧ t.power = { s.power with phase := 2 } ∧
      ∀ i, i < 64 → rd t (Reg.ISLAND_STATE i) = 0 ∧ rd t (Reg.ISLAND_VCORE i) =
        max (if i % 8 < 2 then rd s Reg.POWER_SWITCH_VCORE else 700) (rd s (Reg.ISLAND_VFLOOR i))) ∧
  (∀ s : State, s.power.phase = 2 → s.power.tripped = none →
    exec (.selfTestDone 0) s = .next (concluded s { s with power := { s.power with phase := 3 } })) ∧
  (∀ s : State, s.power.phase = 3 → s.power.tripped = none →
    exec (.hbmTrainingDone 0) s = .next (concluded s { s with power := { s.power with phase := 4 } })) ∧
  (∀ s : State, s.power.phase = 4 → s.power.tripped = none → s.groom.saved = none →
    ∃ t, exec .bootReady s = .next (concluded s t) ∧ t.power = { s.power with phase := 5 } ∧
      rd t Reg.POWER_READY = 1 ∧ rd t Reg.EPOCH_STATE = EpochState.STARTING ∧
      (∀ a, a ≠ Reg.POWER_READY → a ≠ Reg.EPOCH_STATE → rd t a = rd s a) ∧
      t.raised = s.raised ++ [⟨Code.SOLID_RESET, 0xFF,
        recordData [(8, rd s Reg.POWER_RESET_CAUSE), (8, boolBit s.power.loaded)]⟩])

/-- A board management line held low past 25 ms returns the target to idle, counts one BMI_FAULTS and raises
BMI_BUS_FAULT with the line, a code with the bucket of the rate-limited ones. -/
def Obligations.BoardBusFault : Prop :=
  (∀ (scl : Bool) (s : State),
    ∃ t, exec (.bmiLineHeldLow scl) s = .next t ∧ t.pins = s.pins ∧ t.outputs = s.outputs ∧
      rd t Reg.PACKAGE_BMI_FAULTS = (rd s Reg.PACKAGE_BMI_FAULTS + 1) % 2 ^ 32 ∧
      t.raised = s.raised ++ [⟨Code.BMI_BUS_FAULT, 8, recordData [(8, if scl then 0 else 1)]⟩] ∧
      ∀ a, a ≠ Reg.PACKAGE_BMI_FAULTS → rd t a = rd s a) ∧
  regDefault (Reg.CODECFG_BURST Code.BMI_BUS_FAULT) = 8 ∧
  regDefault (Reg.CODECFG_PERIOD_MS Code.BMI_BUS_FAULT) = 1000

/-- A read transaction returns bytes of one image, 0xFF past 0x3F, and is counted; a refresh takes a new image;
the test port answers BYPASS, IDCODE and SAMPLE/PRELOAD, and EXTEST only while RESET_N is low, with every
CLS_EN low. -/
def Obligations.BoardAndTestPorts : Prop :=
  (∀ (p : BitVec 8) (n : Nat) (s : State), rd s Reg.PACKAGE_BMI_EN ≠ 0 →
    ∃ t bs, exec (.bmiRead p n) s = .next t ∧ t.outputs = s.outputs ++ [.bmi bs] ∧ bs.length = n ∧
      rd t Reg.PACKAGE_BMI_READS = (rd s Reg.PACKAGE_BMI_READS + 1) % 2 ^ 64 ∧
      (∀ a, a ≠ Reg.PACKAGE_BMI_READS → rd t a = rd s a) ∧
      ∀ k, k < n → (0x3F < p.toNat + k → bs.getD k 0 = 0xFF) ∧
        (p.toNat + k ≤ 0x3F → p.toNat + k ≠ 0x10 → p.toNat + k ≠ 0x24 → p.toNat + k ≠ 0x25 →
          bs.getD k 0 = s.pins.image.getD (p.toNat + k) 0)) ∧
  (∀ (p : BitVec 8) (n : Nat) (s : State), rd s Reg.PACKAGE_BMI_EN = 0 → exec (.bmiRead p n) s = .next s) ∧
  (∀ s : State, s.groom.up = true →
    exec .bmiImageRefresh s = .next { s with pins := { s.pins with image := bmiImage s, age := 0 } }) ∧
  (∀ s : State, exec .bypass s = .next { s with
    pins := { s.pins with tap := 0, trstN := true }, outputs := s.outputs ++ [.jtag "BYPASS" 1 0] }) ∧
  (∀ s : State, exec .idcode s = .next { s with
    pins := { s.pins with tap := 1, trstN := true }, outputs := s.outputs ++ [.jtag "IDCODE" 32 0xA20485AB] }) ∧
  (∀ (cells : BitVec 128) (s : State), ∃ t v, exec (.samplePreload cells) s = .next t ∧ t.pins.cells = cells ∧
    t.pins.tap = 2 ∧ t.outputs = s.outputs ++ [.jtag "SAMPLE" 128 v] ∧ t.regs = s.regs) ∧
  (∀ s : State, s.power.resetN = false →
    ∃ t, exec .extest s = .next t ∧ t.pins.tap = 3 ∧ t.pins.cells = s.pins.cells ∧ clsDriven t = 0 ∧
      (∀ n, n < 16 → rd t (Reg.CLS_EN_STATE n) = 0) ∧
      t.outputs = s.outputs ++ [.jtag "EXTEST" 128 s.pins.cells.toNat]) ∧
  (∀ s : State, s.power.resetN = true → exec .extest s = exec .bypass s)

/-- Right after reset every element, active and shadow, holds its default, no command, frame, request or record
waits, the timebase stands at 0 and READY is 0; defaults of undefined values are the model's (log entries 1 to
5). -/
def Obligations.ResetState : Prop :=
  (∀ a, rd State.reset a = regDefault a) ∧ (∀ a, shadowRd State.reset a = regDefault a) ∧
  State.reset.pending = [] ∧ State.reset.frames = [] ∧ State.reset.links = [] ∧ State.reset.requests = [] ∧
  State.reset.raised = [] ∧ State.reset.outputs = [] ∧ State.reset.flash = [] ∧
  State.reset.time.groom = 0 ∧ State.reset.time.running = false ∧ State.reset.power.phase = 0 ∧
  State.reset.power.tripped = none ∧ rd State.reset Reg.POWER_READY = 0 ∧ rd State.reset Reg.SWAP_STATE = 0 ∧
  (∀ p : Port, rd State.reset (Reg.PORT_STATE p.val) = 0) ∧ (∀ t : Team, rd State.reset (Reg.TEAM_STATE t.val) = 0)

/-- The flash of a machine right after reset is in canonical form. -/
def Obligations.InvariantAtReset : Prop :=
  Inv State.reset

/-- Every step, whatever command it runs or none, keeps the flash in canonical form. -/
def Obligations.InvariantKeptByEveryStep : Prop :=
  ∀ s t : State, Inv s → step s = .next t → Inv t

/-- No command touches the queue of waiting commands, and no command but those that may write the flash changes a
byte of it. -/
def Obligations.QueueAndFlashFrame : Prop :=
  ∀ (c : Instr) (s t : State), exec c s = .next t →
    t.pending = s.pending ∧ (mayWriteFlash c = false → t.flash = s.flash ∧ ∀ a, t.flash.read a = s.flash.read a)

/-- A command leaves the pins, the timebase, the tenants' request buckets, the banks' clear ticks, the epoch
clock, the groom's own state, the power and temperature state, the shadow set and the studbook as they were,
but for the commands named for each. -/
def Obligations.StateFrame : Prop :=
  ∀ (c : Instr) (s t : State), exec c s = .next t → touchesAll c = false →
    (touchesPins c = false → t.pins = s.pins) ∧
    (touchesTime c = false → t.time = s.time) ∧
    (touchesTelem c = false → t.telem = s.telem) ∧
    (touchesBanks c = false → t.bankBase = s.bankBase) ∧
    (touchesClock c = false → t.clock = s.clock) ∧
    (touchesGroom c = false → t.groom = s.groom) ∧
    (touchesPower c = false → t.power = s.power) ∧
    (touchesShadow c = false → t.shadow = s.shadow) ∧
    (touchesBook c = false → t.book = s.book)

/-- A command's end does nothing more where no TRACE was delivered, no swap waits for a drain and the twin is not
paired, and a paired twin adds only messages to its peer and the lag they show. -/
def Obligations.ConcludedIsIdle : Prop :=
  (∀ s t : State, quiet t → concluded s t = t) ∧
  (∀ s t : State, (∀ e ∈ t.frames, ¬ (e.2.place = .localTo ∧ hdrKind e.2.hdr = KindCode.TRACE)) →
    (rd t Reg.SWAP_STATE ≠ 2 ∨ t.sets.target ≠ 0 ∨ t.sets.trigger = 0xFFFF) →
    concluded s t = t ∨ (twinState t = TwinState.PAIRED ∧ ∃ ms : List TwinMessage,
      concluded s t = noteLag { t with outputs := t.outputs ++ ms.map (fun m => .twin m) }))
end

