-- ==== Sys2Proof/Laws/State.lean ====
section
/-! SUPPORT. What each elementary update of the state leaves in each field, one lemma a field, so that no proof
unfolds a record update. -/

namespace Sys2Proof.Machine

variable (s : State)

@[simp] theorem wr_pending (a : Addr) (v : Nat) : (wr s a v).pending = s.pending := rfl
@[simp] theorem wr_regs (a : Addr) (v : Nat) : (wr s a v).regs = s.regs.put a v := rfl
@[simp] theorem wr_shadow (a : Addr) (v : Nat) : (wr s a v).shadow = s.shadow := rfl
@[simp] theorem wr_old (a : Addr) (v : Nat) : (wr s a v).old = s.old := rfl
@[simp] theorem wr_flash (a : Addr) (v : Nat) : (wr s a v).flash = s.flash := rfl
@[simp] theorem wr_time (a : Addr) (v : Nat) : (wr s a v).time = s.time := rfl
@[simp] theorem wr_lattice (a : Addr) (v : Nat) : (wr s a v).lattice = s.lattice := rfl
@[simp] theorem wr_light (a : Addr) (v : Nat) : (wr s a v).light = s.light := rfl
@[simp] theorem wr_links (a : Addr) (v : Nat) : (wr s a v).links = s.links := rfl
@[simp] theorem wr_frames (a : Addr) (v : Nat) : (wr s a v).frames = s.frames := rfl
@[simp] theorem wr_nextFrame (a : Addr) (v : Nat) : (wr s a v).nextFrame = s.nextFrame := rfl
@[simp] theorem wr_forward (a : Addr) (v : Nat) : (wr s a v).forward = s.forward := rfl
@[simp] theorem wr_egress (a : Addr) (v : Nat) : (wr s a v).egress = s.egress := rfl
@[simp] theorem wr_coll (a : Addr) (v : Nat) : (wr s a v).coll = s.coll := rfl
@[simp] theorem wr_clock (a : Addr) (v : Nat) : (wr s a v).clock = s.clock := rfl
@[simp] theorem wr_sets (a : Addr) (v : Nat) : (wr s a v).sets = s.sets := rfl
@[simp] theorem wr_twin (a : Addr) (v : Nat) : (wr s a v).twin = s.twin := rfl
@[simp] theorem wr_vets (a : Addr) (v : Nat) : (wr s a v).vets = s.vets := rfl
@[simp] theorem wr_book (a : Addr) (v : Nat) : (wr s a v).book = s.book := rfl
@[simp] theorem wr_groom (a : Addr) (v : Nat) : (wr s a v).groom = s.groom := rfl
@[simp] theorem wr_power (a : Addr) (v : Nat) : (wr s a v).power = s.power := rfl
@[simp] theorem wr_pins (a : Addr) (v : Nat) : (wr s a v).pins = s.pins := rfl
@[simp] theorem wr_requests (a : Addr) (v : Nat) : (wr s a v).requests = s.requests := rfl
@[simp] theorem wr_telem (a : Addr) (v : Nat) : (wr s a v).telem = s.telem := rfl
@[simp] theorem wr_bankBase (a : Addr) (v : Nat) : (wr s a v).bankBase = s.bankBase := rfl
@[simp] theorem wr_raised (a : Addr) (v : Nat) : (wr s a v).raised = s.raised := rfl
@[simp] theorem wr_outputs (a : Addr) (v : Nat) : (wr s a v).outputs = s.outputs := rfl

@[simp] theorem emit_pending (o : Output) : (emit s o).pending = s.pending := rfl
@[simp] theorem emit_regs (o : Output) : (emit s o).regs = s.regs := rfl
@[simp] theorem emit_shadow (o : Output) : (emit s o).shadow = s.shadow := rfl
@[simp] theorem emit_old (o : Output) : (emit s o).old = s.old := rfl
@[simp] theorem emit_flash (o : Output) : (emit s o).flash = s.flash := rfl
@[simp] theorem emit_time (o : Output) : (emit s o).time = s.time := rfl
@[simp] theorem emit_lattice (o : Output) : (emit s o).lattice = s.lattice := rfl
@[simp] theorem emit_light (o : Output) : (emit s o).light = s.light := rfl
@[simp] theorem emit_links (o : Output) : (emit s o).links = s.links := rfl
@[simp] theorem emit_frames (o : Output) : (emit s o).frames = s.frames := rfl
@[simp] theorem emit_nextFrame (o : Output) : (emit s o).nextFrame = s.nextFrame := rfl
@[simp] theorem emit_forward (o : Output) : (emit s o).forward = s.forward := rfl
@[simp] theorem emit_egress (o : Output) : (emit s o).egress = s.egress := rfl
@[simp] theorem emit_coll (o : Output) : (emit s o).coll = s.coll := rfl
@[simp] theorem emit_clock (o : Output) : (emit s o).clock = s.clock := rfl
@[simp] theorem emit_sets (o : Output) : (emit s o).sets = s.sets := rfl
@[simp] theorem emit_twin (o : Output) : (emit s o).twin = s.twin := rfl
@[simp] theorem emit_vets (o : Output) : (emit s o).vets = s.vets := rfl
@[simp] theorem emit_book (o : Output) : (emit s o).book = s.book := rfl
@[simp] theorem emit_groom (o : Output) : (emit s o).groom = s.groom := rfl
@[simp] theorem emit_power (o : Output) : (emit s o).power = s.power := rfl
@[simp] theorem emit_pins (o : Output) : (emit s o).pins = s.pins := rfl
@[simp] theorem emit_requests (o : Output) : (emit s o).requests = s.requests := rfl
@[simp] theorem emit_telem (o : Output) : (emit s o).telem = s.telem := rfl
@[simp] theorem emit_bankBase (o : Output) : (emit s o).bankBase = s.bankBase := rfl
@[simp] theorem emit_raised (o : Output) : (emit s o).raised = s.raised := rfl
@[simp] theorem emit_outputs (o : Output) : (emit s o).outputs = s.outputs ++ [o] := rfl

@[simp] theorem raise_pending (c src : Nat) (items : List (Nat × Nat)) : (raise s c src items).pending = s.pending := rfl
@[simp] theorem raise_regs (c src : Nat) (items : List (Nat × Nat)) : (raise s c src items).regs = s.regs := rfl
@[simp] theorem raise_shadow (c src : Nat) (items : List (Nat × Nat)) : (raise s c src items).shadow = s.shadow := rfl
@[simp] theorem raise_old (c src : Nat) (items : List (Nat × Nat)) : (raise s c src items).old = s.old := rfl
@[simp] theorem raise_flash (c src : Nat) (items : List (Nat × Nat)) : (raise s c src items).flash = s.flash := rfl
@[simp] theorem raise_time (c src : Nat) (items : List (Nat × Nat)) : (raise s c src items).time = s.time := rfl
@[simp] theorem raise_lattice (c src : Nat) (items : List (Nat × Nat)) : (raise s c src items).lattice = s.lattice := rfl
@[simp] theorem raise_light (c src : Nat) (items : List (Nat × Nat)) : (raise s c src items).light = s.light := rfl
@[simp] theorem raise_links (c src : Nat) (items : List (Nat × Nat)) : (raise s c src items).links = s.links := rfl
@[simp] theorem raise_frames (c src : Nat) (items : List (Nat × Nat)) : (raise s c src items).frames = s.frames := rfl
@[simp] theorem raise_nextFrame (c src : Nat) (items : List (Nat × Nat)) : (raise s c src items).nextFrame = s.nextFrame := rfl
@[simp] theorem raise_forward (c src : Nat) (items : List (Nat × Nat)) : (raise s c src items).forward = s.forward := rfl
@[simp] theorem raise_egress (c src : Nat) (items : List (Nat × Nat)) : (raise s c src items).egress = s.egress := rfl
@[simp] theorem raise_coll (c src : Nat) (items : List (Nat × Nat)) : (raise s c src items).coll = s.coll := rfl
@[simp] theorem raise_clock (c src : Nat) (items : List (Nat × Nat)) : (raise s c src items).clock = s.clock := rfl
@[simp] theorem raise_sets (c src : Nat) (items : List (Nat × Nat)) : (raise s c src items).sets = s.sets := rfl
@[simp] theorem raise_twin (c src : Nat) (items : List (Nat × Nat)) : (raise s c src items).twin = s.twin := rfl
@[simp] theorem raise_vets (c src : Nat) (items : List (Nat × Nat)) : (raise s c src items).vets = s.vets := rfl
@[simp] theorem raise_book (c src : Nat) (items : List (Nat × Nat)) : (raise s c src items).book = s.book := rfl
@[simp] theorem raise_groom (c src : Nat) (items : List (Nat × Nat)) : (raise s c src items).groom = s.groom := rfl
@[simp] theorem raise_power (c src : Nat) (items : List (Nat × Nat)) : (raise s c src items).power = s.power := rfl
@[simp] theorem raise_pins (c src : Nat) (items : List (Nat × Nat)) : (raise s c src items).pins = s.pins := rfl
@[simp] theorem raise_requests (c src : Nat) (items : List (Nat × Nat)) : (raise s c src items).requests = s.requests := rfl
@[simp] theorem raise_telem (c src : Nat) (items : List (Nat × Nat)) : (raise s c src items).telem = s.telem := rfl
@[simp] theorem raise_bankBase (c src : Nat) (items : List (Nat × Nat)) : (raise s c src items).bankBase = s.bankBase := rfl
@[simp] theorem raise_raised (c src : Nat) (items : List (Nat × Nat)) : (raise s c src items).raised = s.raised ++ [⟨c, src, recordData items⟩] := rfl
@[simp] theorem raise_outputs (c src : Nat) (items : List (Nat × Nat)) : (raise s c src items).outputs = s.outputs := rfl

@[simp] theorem modLink_pending (p : Nat) (f : Link → Link) : (modLink s p f).pending = s.pending := rfl
@[simp] theorem modLink_regs (p : Nat) (f : Link → Link) : (modLink s p f).regs = s.regs := rfl
@[simp] theorem modLink_shadow (p : Nat) (f : Link → Link) : (modLink s p f).shadow = s.shadow := rfl
@[simp] theorem modLink_old (p : Nat) (f : Link → Link) : (modLink s p f).old = s.old := rfl
@[simp] theorem modLink_flash (p : Nat) (f : Link → Link) : (modLink s p f).flash = s.flash := rfl
@[simp] theorem modLink_time (p : Nat) (f : Link → Link) : (modLink s p f).time = s.time := rfl
@[simp] theorem modLink_lattice (p : Nat) (f : Link → Link) : (modLink s p f).lattice = s.lattice := rfl
@[simp] theorem modLink_light (p : Nat) (f : Link → Link) : (modLink s p f).light = s.light := rfl
@[simp] theorem modLink_links (p : Nat) (f : Link → Link) : (modLink s p f).links = Tab.put {} s.links p (f (link s p)) := rfl
@[simp] theorem modLink_frames (p : Nat) (f : Link → Link) : (modLink s p f).frames = s.frames := rfl
@[simp] theorem modLink_nextFrame (p : Nat) (f : Link → Link) : (modLink s p f).nextFrame = s.nextFrame := rfl
@[simp] theorem modLink_forward (p : Nat) (f : Link → Link) : (modLink s p f).forward = s.forward := rfl
@[simp] theorem modLink_egress (p : Nat) (f : Link → Link) : (modLink s p f).egress = s.egress := rfl
@[simp] theorem modLink_coll (p : Nat) (f : Link → Link) : (modLink s p f).coll = s.coll := rfl
@[simp] theorem modLink_clock (p : Nat) (f : Link → Link) : (modLink s p f).clock = s.clock := rfl
@[simp] theorem modLink_sets (p : Nat) (f : Link → Link) : (modLink s p f).sets = s.sets := rfl
@[simp] theorem modLink_twin (p : Nat) (f : Link → Link) : (modLink s p f).twin = s.twin := rfl
@[simp] theorem modLink_vets (p : Nat) (f : Link → Link) : (modLink s p f).vets = s.vets := rfl
@[simp] theorem modLink_book (p : Nat) (f : Link → Link) : (modLink s p f).book = s.book := rfl
@[simp] theorem modLink_groom (p : Nat) (f : Link → Link) : (modLink s p f).groom = s.groom := rfl
@[simp] theorem modLink_power (p : Nat) (f : Link → Link) : (modLink s p f).power = s.power := rfl
@[simp] theorem modLink_pins (p : Nat) (f : Link → Link) : (modLink s p f).pins = s.pins := rfl
@[simp] theorem modLink_requests (p : Nat) (f : Link → Link) : (modLink s p f).requests = s.requests := rfl
@[simp] theorem modLink_telem (p : Nat) (f : Link → Link) : (modLink s p f).telem = s.telem := rfl
@[simp] theorem modLink_bankBase (p : Nat) (f : Link → Link) : (modLink s p f).bankBase = s.bankBase := rfl
@[simp] theorem modLink_raised (p : Nat) (f : Link → Link) : (modLink s p f).raised = s.raised := rfl
@[simp] theorem modLink_outputs (p : Nat) (f : Link → Link) : (modLink s p f).outputs = s.outputs := rfl

@[simp] theorem modLight_pending (f : Light → Light) : (modLight s f).pending = s.pending := rfl
@[simp] theorem modLight_regs (f : Light → Light) : (modLight s f).regs = s.regs := rfl
@[simp] theorem modLight_shadow (f : Light → Light) : (modLight s f).shadow = s.shadow := rfl
@[simp] theorem modLight_old (f : Light → Light) : (modLight s f).old = s.old := rfl
@[simp] theorem modLight_flash (f : Light → Light) : (modLight s f).flash = s.flash := rfl
@[simp] theorem modLight_time (f : Light → Light) : (modLight s f).time = s.time := rfl
@[simp] theorem modLight_lattice (f : Light → Light) : (modLight s f).lattice = s.lattice := rfl
@[simp] theorem modLight_light (f : Light → Light) : (modLight s f).light = f s.light := rfl
@[simp] theorem modLight_links (f : Light → Light) : (modLight s f).links = s.links := rfl
@[simp] theorem modLight_frames (f : Light → Light) : (modLight s f).frames = s.frames := rfl
@[simp] theorem modLight_nextFrame (f : Light → Light) : (modLight s f).nextFrame = s.nextFrame := rfl
@[simp] theorem modLight_forward (f : Light → Light) : (modLight s f).forward = s.forward := rfl
@[simp] theorem modLight_egress (f : Light → Light) : (modLight s f).egress = s.egress := rfl
@[simp] theorem modLight_coll (f : Light → Light) : (modLight s f).coll = s.coll := rfl
@[simp] theorem modLight_clock (f : Light → Light) : (modLight s f).clock = s.clock := rfl
@[simp] theorem modLight_sets (f : Light → Light) : (modLight s f).sets = s.sets := rfl
@[simp] theorem modLight_twin (f : Light → Light) : (modLight s f).twin = s.twin := rfl
@[simp] theorem modLight_vets (f : Light → Light) : (modLight s f).vets = s.vets := rfl
@[simp] theorem modLight_book (f : Light → Light) : (modLight s f).book = s.book := rfl
@[simp] theorem modLight_groom (f : Light → Light) : (modLight s f).groom = s.groom := rfl
@[simp] theorem modLight_power (f : Light → Light) : (modLight s f).power = s.power := rfl
@[simp] theorem modLight_pins (f : Light → Light) : (modLight s f).pins = s.pins := rfl
@[simp] theorem modLight_requests (f : Light → Light) : (modLight s f).requests = s.requests := rfl
@[simp] theorem modLight_telem (f : Light → Light) : (modLight s f).telem = s.telem := rfl
@[simp] theorem modLight_bankBase (f : Light → Light) : (modLight s f).bankBase = s.bankBase := rfl
@[simp] theorem modLight_raised (f : Light → Light) : (modLight s f).raised = s.raised := rfl
@[simp] theorem modLight_outputs (f : Light → Light) : (modLight s f).outputs = s.outputs := rfl

@[simp] theorem modForward_pending (f : Forwarding → Forwarding) : (modForward s f).pending = s.pending := rfl
@[simp] theorem modForward_regs (f : Forwarding → Forwarding) : (modForward s f).regs = s.regs := rfl
@[simp] theorem modForward_shadow (f : Forwarding → Forwarding) : (modForward s f).shadow = s.shadow := rfl
@[simp] theorem modForward_old (f : Forwarding → Forwarding) : (modForward s f).old = s.old := rfl
@[simp] theorem modForward_flash (f : Forwarding → Forwarding) : (modForward s f).flash = s.flash := rfl
@[simp] theorem modForward_time (f : Forwarding → Forwarding) : (modForward s f).time = s.time := rfl
@[simp] theorem modForward_lattice (f : Forwarding → Forwarding) : (modForward s f).lattice = s.lattice := rfl
@[simp] theorem modForward_light (f : Forwarding → Forwarding) : (modForward s f).light = s.light := rfl
@[simp] theorem modForward_links (f : Forwarding → Forwarding) : (modForward s f).links = s.links := rfl
@[simp] theorem modForward_frames (f : Forwarding → Forwarding) : (modForward s f).frames = s.frames := rfl
@[simp] theorem modForward_nextFrame (f : Forwarding → Forwarding) : (modForward s f).nextFrame = s.nextFrame := rfl
@[simp] theorem modForward_forward (f : Forwarding → Forwarding) : (modForward s f).forward = f s.forward := rfl
@[simp] theorem modForward_egress (f : Forwarding → Forwarding) : (modForward s f).egress = s.egress := rfl
@[simp] theorem modForward_coll (f : Forwarding → Forwarding) : (modForward s f).coll = s.coll := rfl
@[simp] theorem modForward_clock (f : Forwarding → Forwarding) : (modForward s f).clock = s.clock := rfl
@[simp] theorem modForward_sets (f : Forwarding → Forwarding) : (modForward s f).sets = s.sets := rfl
@[simp] theorem modForward_twin (f : Forwarding → Forwarding) : (modForward s f).twin = s.twin := rfl
@[simp] theorem modForward_vets (f : Forwarding → Forwarding) : (modForward s f).vets = s.vets := rfl
@[simp] theorem modForward_book (f : Forwarding → Forwarding) : (modForward s f).book = s.book := rfl
@[simp] theorem modForward_groom (f : Forwarding → Forwarding) : (modForward s f).groom = s.groom := rfl
@[simp] theorem modForward_power (f : Forwarding → Forwarding) : (modForward s f).power = s.power := rfl
@[simp] theorem modForward_pins (f : Forwarding → Forwarding) : (modForward s f).pins = s.pins := rfl
@[simp] theorem modForward_requests (f : Forwarding → Forwarding) : (modForward s f).requests = s.requests := rfl
@[simp] theorem modForward_telem (f : Forwarding → Forwarding) : (modForward s f).telem = s.telem := rfl
@[simp] theorem modForward_bankBase (f : Forwarding → Forwarding) : (modForward s f).bankBase = s.bankBase := rfl
@[simp] theorem modForward_raised (f : Forwarding → Forwarding) : (modForward s f).raised = s.raised := rfl
@[simp] theorem modForward_outputs (f : Forwarding → Forwarding) : (modForward s f).outputs = s.outputs := rfl

@[simp] theorem modEgress_pending (f : Egress → Egress) : (modEgress s f).pending = s.pending := rfl
@[simp] theorem modEgress_regs (f : Egress → Egress) : (modEgress s f).regs = s.regs := rfl
@[simp] theorem modEgress_shadow (f : Egress → Egress) : (modEgress s f).shadow = s.shadow := rfl
@[simp] theorem modEgress_old (f : Egress → Egress) : (modEgress s f).old = s.old := rfl
@[simp] theorem modEgress_flash (f : Egress → Egress) : (modEgress s f).flash = s.flash := rfl
@[simp] theorem modEgress_time (f : Egress → Egress) : (modEgress s f).time = s.time := rfl
@[simp] theorem modEgress_lattice (f : Egress → Egress) : (modEgress s f).lattice = s.lattice := rfl
@[simp] theorem modEgress_light (f : Egress → Egress) : (modEgress s f).light = s.light := rfl
@[simp] theorem modEgress_links (f : Egress → Egress) : (modEgress s f).links = s.links := rfl
@[simp] theorem modEgress_frames (f : Egress → Egress) : (modEgress s f).frames = s.frames := rfl
@[simp] theorem modEgress_nextFrame (f : Egress → Egress) : (modEgress s f).nextFrame = s.nextFrame := rfl
@[simp] theorem modEgress_forward (f : Egress → Egress) : (modEgress s f).forward = s.forward := rfl
@[simp] theorem modEgress_egress (f : Egress → Egress) : (modEgress s f).egress = f s.egress := rfl
@[simp] theorem modEgress_coll (f : Egress → Egress) : (modEgress s f).coll = s.coll := rfl
@[simp] theorem modEgress_clock (f : Egress → Egress) : (modEgress s f).clock = s.clock := rfl
@[simp] theorem modEgress_sets (f : Egress → Egress) : (modEgress s f).sets = s.sets := rfl
@[simp] theorem modEgress_twin (f : Egress → Egress) : (modEgress s f).twin = s.twin := rfl
@[simp] theorem modEgress_vets (f : Egress → Egress) : (modEgress s f).vets = s.vets := rfl
@[simp] theorem modEgress_book (f : Egress → Egress) : (modEgress s f).book = s.book := rfl
@[simp] theorem modEgress_groom (f : Egress → Egress) : (modEgress s f).groom = s.groom := rfl
@[simp] theorem modEgress_power (f : Egress → Egress) : (modEgress s f).power = s.power := rfl
@[simp] theorem modEgress_pins (f : Egress → Egress) : (modEgress s f).pins = s.pins := rfl
@[simp] theorem modEgress_requests (f : Egress → Egress) : (modEgress s f).requests = s.requests := rfl
@[simp] theorem modEgress_telem (f : Egress → Egress) : (modEgress s f).telem = s.telem := rfl
@[simp] theorem modEgress_bankBase (f : Egress → Egress) : (modEgress s f).bankBase = s.bankBase := rfl
@[simp] theorem modEgress_raised (f : Egress → Egress) : (modEgress s f).raised = s.raised := rfl
@[simp] theorem modEgress_outputs (f : Egress → Egress) : (modEgress s f).outputs = s.outputs := rfl

@[simp] theorem modColl_pending (f : Collective → Collective) : (modColl s f).pending = s.pending := rfl
@[simp] theorem modColl_regs (f : Collective → Collective) : (modColl s f).regs = s.regs := rfl
@[simp] theorem modColl_shadow (f : Collective → Collective) : (modColl s f).shadow = s.shadow := rfl
@[simp] theorem modColl_old (f : Collective → Collective) : (modColl s f).old = s.old := rfl
@[simp] theorem modColl_flash (f : Collective → Collective) : (modColl s f).flash = s.flash := rfl
@[simp] theorem modColl_time (f : Collective → Collective) : (modColl s f).time = s.time := rfl
@[simp] theorem modColl_lattice (f : Collective → Collective) : (modColl s f).lattice = s.lattice := rfl
@[simp] theorem modColl_light (f : Collective → Collective) : (modColl s f).light = s.light := rfl
@[simp] theorem modColl_links (f : Collective → Collective) : (modColl s f).links = s.links := rfl
@[simp] theorem modColl_frames (f : Collective → Collective) : (modColl s f).frames = s.frames := rfl
@[simp] theorem modColl_nextFrame (f : Collective → Collective) : (modColl s f).nextFrame = s.nextFrame := rfl
@[simp] theorem modColl_forward (f : Collective → Collective) : (modColl s f).forward = s.forward := rfl
@[simp] theorem modColl_egress (f : Collective → Collective) : (modColl s f).egress = s.egress := rfl
@[simp] theorem modColl_coll (f : Collective → Collective) : (modColl s f).coll = f s.coll := rfl
@[simp] theorem modColl_clock (f : Collective → Collective) : (modColl s f).clock = s.clock := rfl
@[simp] theorem modColl_sets (f : Collective → Collective) : (modColl s f).sets = s.sets := rfl
@[simp] theorem modColl_twin (f : Collective → Collective) : (modColl s f).twin = s.twin := rfl
@[simp] theorem modColl_vets (f : Collective → Collective) : (modColl s f).vets = s.vets := rfl
@[simp] theorem modColl_book (f : Collective → Collective) : (modColl s f).book = s.book := rfl
@[simp] theorem modColl_groom (f : Collective → Collective) : (modColl s f).groom = s.groom := rfl
@[simp] theorem modColl_power (f : Collective → Collective) : (modColl s f).power = s.power := rfl
@[simp] theorem modColl_pins (f : Collective → Collective) : (modColl s f).pins = s.pins := rfl
@[simp] theorem modColl_requests (f : Collective → Collective) : (modColl s f).requests = s.requests := rfl
@[simp] theorem modColl_telem (f : Collective → Collective) : (modColl s f).telem = s.telem := rfl
@[simp] theorem modColl_bankBase (f : Collective → Collective) : (modColl s f).bankBase = s.bankBase := rfl
@[simp] theorem modColl_raised (f : Collective → Collective) : (modColl s f).raised = s.raised := rfl
@[simp] theorem modColl_outputs (f : Collective → Collective) : (modColl s f).outputs = s.outputs := rfl

@[simp] theorem modLattice_pending (f : Lattice → Lattice) : (modLattice s f).pending = s.pending := rfl
@[simp] theorem modLattice_regs (f : Lattice → Lattice) : (modLattice s f).regs = s.regs := rfl
@[simp] theorem modLattice_shadow (f : Lattice → Lattice) : (modLattice s f).shadow = s.shadow := rfl
@[simp] theorem modLattice_old (f : Lattice → Lattice) : (modLattice s f).old = s.old := rfl
@[simp] theorem modLattice_flash (f : Lattice → Lattice) : (modLattice s f).flash = s.flash := rfl
@[simp] theorem modLattice_time (f : Lattice → Lattice) : (modLattice s f).time = s.time := rfl
@[simp] theorem modLattice_lattice (f : Lattice → Lattice) : (modLattice s f).lattice = f s.lattice := rfl
@[simp] theorem modLattice_light (f : Lattice → Lattice) : (modLattice s f).light = s.light := rfl
@[simp] theorem modLattice_links (f : Lattice → Lattice) : (modLattice s f).links = s.links := rfl
@[simp] theorem modLattice_frames (f : Lattice → Lattice) : (modLattice s f).frames = s.frames := rfl
@[simp] theorem modLattice_nextFrame (f : Lattice → Lattice) : (modLattice s f).nextFrame = s.nextFrame := rfl
@[simp] theorem modLattice_forward (f : Lattice → Lattice) : (modLattice s f).forward = s.forward := rfl
@[simp] theorem modLattice_egress (f : Lattice → Lattice) : (modLattice s f).egress = s.egress := rfl
@[simp] theorem modLattice_coll (f : Lattice → Lattice) : (modLattice s f).coll = s.coll := rfl
@[simp] theorem modLattice_clock (f : Lattice → Lattice) : (modLattice s f).clock = s.clock := rfl
@[simp] theorem modLattice_sets (f : Lattice → Lattice) : (modLattice s f).sets = s.sets := rfl
@[simp] theorem modLattice_twin (f : Lattice → Lattice) : (modLattice s f).twin = s.twin := rfl
@[simp] theorem modLattice_vets (f : Lattice → Lattice) : (modLattice s f).vets = s.vets := rfl
@[simp] theorem modLattice_book (f : Lattice → Lattice) : (modLattice s f).book = s.book := rfl
@[simp] theorem modLattice_groom (f : Lattice → Lattice) : (modLattice s f).groom = s.groom := rfl
@[simp] theorem modLattice_power (f : Lattice → Lattice) : (modLattice s f).power = s.power := rfl
@[simp] theorem modLattice_pins (f : Lattice → Lattice) : (modLattice s f).pins = s.pins := rfl
@[simp] theorem modLattice_requests (f : Lattice → Lattice) : (modLattice s f).requests = s.requests := rfl
@[simp] theorem modLattice_telem (f : Lattice → Lattice) : (modLattice s f).telem = s.telem := rfl
@[simp] theorem modLattice_bankBase (f : Lattice → Lattice) : (modLattice s f).bankBase = s.bankBase := rfl
@[simp] theorem modLattice_raised (f : Lattice → Lattice) : (modLattice s f).raised = s.raised := rfl
@[simp] theorem modLattice_outputs (f : Lattice → Lattice) : (modLattice s f).outputs = s.outputs := rfl

@[simp] theorem modClock_pending (f : EpochClock → EpochClock) : (modClock s f).pending = s.pending := rfl
@[simp] theorem modClock_regs (f : EpochClock → EpochClock) : (modClock s f).regs = s.regs := rfl
@[simp] theorem modClock_shadow (f : EpochClock → EpochClock) : (modClock s f).shadow = s.shadow := rfl
@[simp] theorem modClock_old (f : EpochClock → EpochClock) : (modClock s f).old = s.old := rfl
@[simp] theorem modClock_flash (f : EpochClock → EpochClock) : (modClock s f).flash = s.flash := rfl
@[simp] theorem modClock_time (f : EpochClock → EpochClock) : (modClock s f).time = s.time := rfl
@[simp] theorem modClock_lattice (f : EpochClock → EpochClock) : (modClock s f).lattice = s.lattice := rfl
@[simp] theorem modClock_light (f : EpochClock → EpochClock) : (modClock s f).light = s.light := rfl
@[simp] theorem modClock_links (f : EpochClock → EpochClock) : (modClock s f).links = s.links := rfl
@[simp] theorem modClock_frames (f : EpochClock → EpochClock) : (modClock s f).frames = s.frames := rfl
@[simp] theorem modClock_nextFrame (f : EpochClock → EpochClock) : (modClock s f).nextFrame = s.nextFrame := rfl
@[simp] theorem modClock_forward (f : EpochClock → EpochClock) : (modClock s f).forward = s.forward := rfl
@[simp] theorem modClock_egress (f : EpochClock → EpochClock) : (modClock s f).egress = s.egress := rfl
@[simp] theorem modClock_coll (f : EpochClock → EpochClock) : (modClock s f).coll = s.coll := rfl
@[simp] theorem modClock_clock (f : EpochClock → EpochClock) : (modClock s f).clock = f s.clock := rfl
@[simp] theorem modClock_sets (f : EpochClock → EpochClock) : (modClock s f).sets = s.sets := rfl
@[simp] theorem modClock_twin (f : EpochClock → EpochClock) : (modClock s f).twin = s.twin := rfl
@[simp] theorem modClock_vets (f : EpochClock → EpochClock) : (modClock s f).vets = s.vets := rfl
@[simp] theorem modClock_book (f : EpochClock → EpochClock) : (modClock s f).book = s.book := rfl
@[simp] theorem modClock_groom (f : EpochClock → EpochClock) : (modClock s f).groom = s.groom := rfl
@[simp] theorem modClock_power (f : EpochClock → EpochClock) : (modClock s f).power = s.power := rfl
@[simp] theorem modClock_pins (f : EpochClock → EpochClock) : (modClock s f).pins = s.pins := rfl
@[simp] theorem modClock_requests (f : EpochClock → EpochClock) : (modClock s f).requests = s.requests := rfl
@[simp] theorem modClock_telem (f : EpochClock → EpochClock) : (modClock s f).telem = s.telem := rfl
@[simp] theorem modClock_bankBase (f : EpochClock → EpochClock) : (modClock s f).bankBase = s.bankBase := rfl
@[simp] theorem modClock_raised (f : EpochClock → EpochClock) : (modClock s f).raised = s.raised := rfl
@[simp] theorem modClock_outputs (f : EpochClock → EpochClock) : (modClock s f).outputs = s.outputs := rfl

@[simp] theorem modSets_pending (f : Sets → Sets) : (modSets s f).pending = s.pending := rfl
@[simp] theorem modSets_regs (f : Sets → Sets) : (modSets s f).regs = s.regs := rfl
@[simp] theorem modSets_shadow (f : Sets → Sets) : (modSets s f).shadow = s.shadow := rfl
@[simp] theorem modSets_old (f : Sets → Sets) : (modSets s f).old = s.old := rfl
@[simp] theorem modSets_flash (f : Sets → Sets) : (modSets s f).flash = s.flash := rfl
@[simp] theorem modSets_time (f : Sets → Sets) : (modSets s f).time = s.time := rfl
@[simp] theorem modSets_lattice (f : Sets → Sets) : (modSets s f).lattice = s.lattice := rfl
@[simp] theorem modSets_light (f : Sets → Sets) : (modSets s f).light = s.light := rfl
@[simp] theorem modSets_links (f : Sets → Sets) : (modSets s f).links = s.links := rfl
@[simp] theorem modSets_frames (f : Sets → Sets) : (modSets s f).frames = s.frames := rfl
@[simp] theorem modSets_nextFrame (f : Sets → Sets) : (modSets s f).nextFrame = s.nextFrame := rfl
@[simp] theorem modSets_forward (f : Sets → Sets) : (modSets s f).forward = s.forward := rfl
@[simp] theorem modSets_egress (f : Sets → Sets) : (modSets s f).egress = s.egress := rfl
@[simp] theorem modSets_coll (f : Sets → Sets) : (modSets s f).coll = s.coll := rfl
@[simp] theorem modSets_clock (f : Sets → Sets) : (modSets s f).clock = s.clock := rfl
@[simp] theorem modSets_sets (f : Sets → Sets) : (modSets s f).sets = f s.sets := rfl
@[simp] theorem modSets_twin (f : Sets → Sets) : (modSets s f).twin = s.twin := rfl
@[simp] theorem modSets_vets (f : Sets → Sets) : (modSets s f).vets = s.vets := rfl
@[simp] theorem modSets_book (f : Sets → Sets) : (modSets s f).book = s.book := rfl
@[simp] theorem modSets_groom (f : Sets → Sets) : (modSets s f).groom = s.groom := rfl
@[simp] theorem modSets_power (f : Sets → Sets) : (modSets s f).power = s.power := rfl
@[simp] theorem modSets_pins (f : Sets → Sets) : (modSets s f).pins = s.pins := rfl
@[simp] theorem modSets_requests (f : Sets → Sets) : (modSets s f).requests = s.requests := rfl
@[simp] theorem modSets_telem (f : Sets → Sets) : (modSets s f).telem = s.telem := rfl
@[simp] theorem modSets_bankBase (f : Sets → Sets) : (modSets s f).bankBase = s.bankBase := rfl
@[simp] theorem modSets_raised (f : Sets → Sets) : (modSets s f).raised = s.raised := rfl
@[simp] theorem modSets_outputs (f : Sets → Sets) : (modSets s f).outputs = s.outputs := rfl

@[simp] theorem modTwin_pending (f : Twin → Twin) : (modTwin s f).pending = s.pending := rfl
@[simp] theorem modTwin_regs (f : Twin → Twin) : (modTwin s f).regs = s.regs := rfl
@[simp] theorem modTwin_shadow (f : Twin → Twin) : (modTwin s f).shadow = s.shadow := rfl
@[simp] theorem modTwin_old (f : Twin → Twin) : (modTwin s f).old = s.old := rfl
@[simp] theorem modTwin_flash (f : Twin → Twin) : (modTwin s f).flash = s.flash := rfl
@[simp] theorem modTwin_time (f : Twin → Twin) : (modTwin s f).time = s.time := rfl
@[simp] theorem modTwin_lattice (f : Twin → Twin) : (modTwin s f).lattice = s.lattice := rfl
@[simp] theorem modTwin_light (f : Twin → Twin) : (modTwin s f).light = s.light := rfl
@[simp] theorem modTwin_links (f : Twin → Twin) : (modTwin s f).links = s.links := rfl
@[simp] theorem modTwin_frames (f : Twin → Twin) : (modTwin s f).frames = s.frames := rfl
@[simp] theorem modTwin_nextFrame (f : Twin → Twin) : (modTwin s f).nextFrame = s.nextFrame := rfl
@[simp] theorem modTwin_forward (f : Twin → Twin) : (modTwin s f).forward = s.forward := rfl
@[simp] theorem modTwin_egress (f : Twin → Twin) : (modTwin s f).egress = s.egress := rfl
@[simp] theorem modTwin_coll (f : Twin → Twin) : (modTwin s f).coll = s.coll := rfl
@[simp] theorem modTwin_clock (f : Twin → Twin) : (modTwin s f).clock = s.clock := rfl
@[simp] theorem modTwin_sets (f : Twin → Twin) : (modTwin s f).sets = s.sets := rfl
@[simp] theorem modTwin_twin (f : Twin → Twin) : (modTwin s f).twin = f s.twin := rfl
@[simp] theorem modTwin_vets (f : Twin → Twin) : (modTwin s f).vets = s.vets := rfl
@[simp] theorem modTwin_book (f : Twin → Twin) : (modTwin s f).book = s.book := rfl
@[simp] theorem modTwin_groom (f : Twin → Twin) : (modTwin s f).groom = s.groom := rfl
@[simp] theorem modTwin_power (f : Twin → Twin) : (modTwin s f).power = s.power := rfl
@[simp] theorem modTwin_pins (f : Twin → Twin) : (modTwin s f).pins = s.pins := rfl
@[simp] theorem modTwin_requests (f : Twin → Twin) : (modTwin s f).requests = s.requests := rfl
@[simp] theorem modTwin_telem (f : Twin → Twin) : (modTwin s f).telem = s.telem := rfl
@[simp] theorem modTwin_bankBase (f : Twin → Twin) : (modTwin s f).bankBase = s.bankBase := rfl
@[simp] theorem modTwin_raised (f : Twin → Twin) : (modTwin s f).raised = s.raised := rfl
@[simp] theorem modTwin_outputs (f : Twin → Twin) : (modTwin s f).outputs = s.outputs := rfl

@[simp] theorem modVets_pending (f : Vets → Vets) : (modVets s f).pending = s.pending := rfl
@[simp] theorem modVets_regs (f : Vets → Vets) : (modVets s f).regs = s.regs := rfl
@[simp] theorem modVets_shadow (f : Vets → Vets) : (modVets s f).shadow = s.shadow := rfl
@[simp] theorem modVets_old (f : Vets → Vets) : (modVets s f).old = s.old := rfl
@[simp] theorem modVets_flash (f : Vets → Vets) : (modVets s f).flash = s.flash := rfl
@[simp] theorem modVets_time (f : Vets → Vets) : (modVets s f).time = s.time := rfl
@[simp] theorem modVets_lattice (f : Vets → Vets) : (modVets s f).lattice = s.lattice := rfl
@[simp] theorem modVets_light (f : Vets → Vets) : (modVets s f).light = s.light := rfl
@[simp] theorem modVets_links (f : Vets → Vets) : (modVets s f).links = s.links := rfl
@[simp] theorem modVets_frames (f : Vets → Vets) : (modVets s f).frames = s.frames := rfl
@[simp] theorem modVets_nextFrame (f : Vets → Vets) : (modVets s f).nextFrame = s.nextFrame := rfl
@[simp] theorem modVets_forward (f : Vets → Vets) : (modVets s f).forward = s.forward := rfl
@[simp] theorem modVets_egress (f : Vets → Vets) : (modVets s f).egress = s.egress := rfl
@[simp] theorem modVets_coll (f : Vets → Vets) : (modVets s f).coll = s.coll := rfl
@[simp] theorem modVets_clock (f : Vets → Vets) : (modVets s f).clock = s.clock := rfl
@[simp] theorem modVets_sets (f : Vets → Vets) : (modVets s f).sets = s.sets := rfl
@[simp] theorem modVets_twin (f : Vets → Vets) : (modVets s f).twin = s.twin := rfl
@[simp] theorem modVets_vets (f : Vets → Vets) : (modVets s f).vets = f s.vets := rfl
@[simp] theorem modVets_book (f : Vets → Vets) : (modVets s f).book = s.book := rfl
@[simp] theorem modVets_groom (f : Vets → Vets) : (modVets s f).groom = s.groom := rfl
@[simp] theorem modVets_power (f : Vets → Vets) : (modVets s f).power = s.power := rfl
@[simp] theorem modVets_pins (f : Vets → Vets) : (modVets s f).pins = s.pins := rfl
@[simp] theorem modVets_requests (f : Vets → Vets) : (modVets s f).requests = s.requests := rfl
@[simp] theorem modVets_telem (f : Vets → Vets) : (modVets s f).telem = s.telem := rfl
@[simp] theorem modVets_bankBase (f : Vets → Vets) : (modVets s f).bankBase = s.bankBase := rfl
@[simp] theorem modVets_raised (f : Vets → Vets) : (modVets s f).raised = s.raised := rfl
@[simp] theorem modVets_outputs (f : Vets → Vets) : (modVets s f).outputs = s.outputs := rfl

@[simp] theorem modBook_pending (f : Book → Book) : (modBook s f).pending = s.pending := rfl
@[simp] theorem modBook_regs (f : Book → Book) : (modBook s f).regs = s.regs := rfl
@[simp] theorem modBook_shadow (f : Book → Book) : (modBook s f).shadow = s.shadow := rfl
@[simp] theorem modBook_old (f : Book → Book) : (modBook s f).old = s.old := rfl
@[simp] theorem modBook_flash (f : Book → Book) : (modBook s f).flash = s.flash := rfl
@[simp] theorem modBook_time (f : Book → Book) : (modBook s f).time = s.time := rfl
@[simp] theorem modBook_lattice (f : Book → Book) : (modBook s f).lattice = s.lattice := rfl
@[simp] theorem modBook_light (f : Book → Book) : (modBook s f).light = s.light := rfl
@[simp] theorem modBook_links (f : Book → Book) : (modBook s f).links = s.links := rfl
@[simp] theorem modBook_frames (f : Book → Book) : (modBook s f).frames = s.frames := rfl
@[simp] theorem modBook_nextFrame (f : Book → Book) : (modBook s f).nextFrame = s.nextFrame := rfl
@[simp] theorem modBook_forward (f : Book → Book) : (modBook s f).forward = s.forward := rfl
@[simp] theorem modBook_egress (f : Book → Book) : (modBook s f).egress = s.egress := rfl
@[simp] theorem modBook_coll (f : Book → Book) : (modBook s f).coll = s.coll := rfl
@[simp] theorem modBook_clock (f : Book → Book) : (modBook s f).clock = s.clock := rfl
@[simp] theorem modBook_sets (f : Book → Book) : (modBook s f).sets = s.sets := rfl
@[simp] theorem modBook_twin (f : Book → Book) : (modBook s f).twin = s.twin := rfl
@[simp] theorem modBook_vets (f : Book → Book) : (modBook s f).vets = s.vets := rfl
@[simp] theorem modBook_book (f : Book → Book) : (modBook s f).book = f s.book := rfl
@[simp] theorem modBook_groom (f : Book → Book) : (modBook s f).groom = s.groom := rfl
@[simp] theorem modBook_power (f : Book → Book) : (modBook s f).power = s.power := rfl
@[simp] theorem modBook_pins (f : Book → Book) : (modBook s f).pins = s.pins := rfl
@[simp] theorem modBook_requests (f : Book → Book) : (modBook s f).requests = s.requests := rfl
@[simp] theorem modBook_telem (f : Book → Book) : (modBook s f).telem = s.telem := rfl
@[simp] theorem modBook_bankBase (f : Book → Book) : (modBook s f).bankBase = s.bankBase := rfl
@[simp] theorem modBook_raised (f : Book → Book) : (modBook s f).raised = s.raised := rfl
@[simp] theorem modBook_outputs (f : Book → Book) : (modBook s f).outputs = s.outputs := rfl

@[simp] theorem modGroom_pending (f : Groom → Groom) : (modGroom s f).pending = s.pending := rfl
@[simp] theorem modGroom_regs (f : Groom → Groom) : (modGroom s f).regs = s.regs := rfl
@[simp] theorem modGroom_shadow (f : Groom → Groom) : (modGroom s f).shadow = s.shadow := rfl
@[simp] theorem modGroom_old (f : Groom → Groom) : (modGroom s f).old = s.old := rfl
@[simp] theorem modGroom_flash (f : Groom → Groom) : (modGroom s f).flash = s.flash := rfl
@[simp] theorem modGroom_time (f : Groom → Groom) : (modGroom s f).time = s.time := rfl
@[simp] theorem modGroom_lattice (f : Groom → Groom) : (modGroom s f).lattice = s.lattice := rfl
@[simp] theorem modGroom_light (f : Groom → Groom) : (modGroom s f).light = s.light := rfl
@[simp] theorem modGroom_links (f : Groom → Groom) : (modGroom s f).links = s.links := rfl
@[simp] theorem modGroom_frames (f : Groom → Groom) : (modGroom s f).frames = s.frames := rfl
@[simp] theorem modGroom_nextFrame (f : Groom → Groom) : (modGroom s f).nextFrame = s.nextFrame := rfl
@[simp] theorem modGroom_forward (f : Groom → Groom) : (modGroom s f).forward = s.forward := rfl
@[simp] theorem modGroom_egress (f : Groom → Groom) : (modGroom s f).egress = s.egress := rfl
@[simp] theorem modGroom_coll (f : Groom → Groom) : (modGroom s f).coll = s.coll := rfl
@[simp] theorem modGroom_clock (f : Groom → Groom) : (modGroom s f).clock = s.clock := rfl
@[simp] theorem modGroom_sets (f : Groom → Groom) : (modGroom s f).sets = s.sets := rfl
@[simp] theorem modGroom_twin (f : Groom → Groom) : (modGroom s f).twin = s.twin := rfl
@[simp] theorem modGroom_vets (f : Groom → Groom) : (modGroom s f).vets = s.vets := rfl
@[simp] theorem modGroom_book (f : Groom → Groom) : (modGroom s f).book = s.book := rfl
@[simp] theorem modGroom_groom (f : Groom → Groom) : (modGroom s f).groom = f s.groom := rfl
@[simp] theorem modGroom_power (f : Groom → Groom) : (modGroom s f).power = s.power := rfl
@[simp] theorem modGroom_pins (f : Groom → Groom) : (modGroom s f).pins = s.pins := rfl
@[simp] theorem modGroom_requests (f : Groom → Groom) : (modGroom s f).requests = s.requests := rfl
@[simp] theorem modGroom_telem (f : Groom → Groom) : (modGroom s f).telem = s.telem := rfl
@[simp] theorem modGroom_bankBase (f : Groom → Groom) : (modGroom s f).bankBase = s.bankBase := rfl
@[simp] theorem modGroom_raised (f : Groom → Groom) : (modGroom s f).raised = s.raised := rfl
@[simp] theorem modGroom_outputs (f : Groom → Groom) : (modGroom s f).outputs = s.outputs := rfl

@[simp] theorem modPower_pending (f : Power → Power) : (modPower s f).pending = s.pending := rfl
@[simp] theorem modPower_regs (f : Power → Power) : (modPower s f).regs = s.regs := rfl
@[simp] theorem modPower_shadow (f : Power → Power) : (modPower s f).shadow = s.shadow := rfl
@[simp] theorem modPower_old (f : Power → Power) : (modPower s f).old = s.old := rfl
@[simp] theorem modPower_flash (f : Power → Power) : (modPower s f).flash = s.flash := rfl
@[simp] theorem modPower_time (f : Power → Power) : (modPower s f).time = s.time := rfl
@[simp] theorem modPower_lattice (f : Power → Power) : (modPower s f).lattice = s.lattice := rfl
@[simp] theorem modPower_light (f : Power → Power) : (modPower s f).light = s.light := rfl
@[simp] theorem modPower_links (f : Power → Power) : (modPower s f).links = s.links := rfl
@[simp] theorem modPower_frames (f : Power → Power) : (modPower s f).frames = s.frames := rfl
@[simp] theorem modPower_nextFrame (f : Power → Power) : (modPower s f).nextFrame = s.nextFrame := rfl
@[simp] theorem modPower_forward (f : Power → Power) : (modPower s f).forward = s.forward := rfl
@[simp] theorem modPower_egress (f : Power → Power) : (modPower s f).egress = s.egress := rfl
@[simp] theorem modPower_coll (f : Power → Power) : (modPower s f).coll = s.coll := rfl
@[simp] theorem modPower_clock (f : Power → Power) : (modPower s f).clock = s.clock := rfl
@[simp] theorem modPower_sets (f : Power → Power) : (modPower s f).sets = s.sets := rfl
@[simp] theorem modPower_twin (f : Power → Power) : (modPower s f).twin = s.twin := rfl
@[simp] theorem modPower_vets (f : Power → Power) : (modPower s f).vets = s.vets := rfl
@[simp] theorem modPower_book (f : Power → Power) : (modPower s f).book = s.book := rfl
@[simp] theorem modPower_groom (f : Power → Power) : (modPower s f).groom = s.groom := rfl
@[simp] theorem modPower_power (f : Power → Power) : (modPower s f).power = f s.power := rfl
@[simp] theorem modPower_pins (f : Power → Power) : (modPower s f).pins = s.pins := rfl
@[simp] theorem modPower_requests (f : Power → Power) : (modPower s f).requests = s.requests := rfl
@[simp] theorem modPower_telem (f : Power → Power) : (modPower s f).telem = s.telem := rfl
@[simp] theorem modPower_bankBase (f : Power → Power) : (modPower s f).bankBase = s.bankBase := rfl
@[simp] theorem modPower_raised (f : Power → Power) : (modPower s f).raised = s.raised := rfl
@[simp] theorem modPower_outputs (f : Power → Power) : (modPower s f).outputs = s.outputs := rfl

@[simp] theorem modPins_pending (f : Pins → Pins) : (modPins s f).pending = s.pending := rfl
@[simp] theorem modPins_regs (f : Pins → Pins) : (modPins s f).regs = s.regs := rfl
@[simp] theorem modPins_shadow (f : Pins → Pins) : (modPins s f).shadow = s.shadow := rfl
@[simp] theorem modPins_old (f : Pins → Pins) : (modPins s f).old = s.old := rfl
@[simp] theorem modPins_flash (f : Pins → Pins) : (modPins s f).flash = s.flash := rfl
@[simp] theorem modPins_time (f : Pins → Pins) : (modPins s f).time = s.time := rfl
@[simp] theorem modPins_lattice (f : Pins → Pins) : (modPins s f).lattice = s.lattice := rfl
@[simp] theorem modPins_light (f : Pins → Pins) : (modPins s f).light = s.light := rfl
@[simp] theorem modPins_links (f : Pins → Pins) : (modPins s f).links = s.links := rfl
@[simp] theorem modPins_frames (f : Pins → Pins) : (modPins s f).frames = s.frames := rfl
@[simp] theorem modPins_nextFrame (f : Pins → Pins) : (modPins s f).nextFrame = s.nextFrame := rfl
@[simp] theorem modPins_forward (f : Pins → Pins) : (modPins s f).forward = s.forward := rfl
@[simp] theorem modPins_egress (f : Pins → Pins) : (modPins s f).egress = s.egress := rfl
@[simp] theorem modPins_coll (f : Pins → Pins) : (modPins s f).coll = s.coll := rfl
@[simp] theorem modPins_clock (f : Pins → Pins) : (modPins s f).clock = s.clock := rfl
@[simp] theorem modPins_sets (f : Pins → Pins) : (modPins s f).sets = s.sets := rfl
@[simp] theorem modPins_twin (f : Pins → Pins) : (modPins s f).twin = s.twin := rfl
@[simp] theorem modPins_vets (f : Pins → Pins) : (modPins s f).vets = s.vets := rfl
@[simp] theorem modPins_book (f : Pins → Pins) : (modPins s f).book = s.book := rfl
@[simp] theorem modPins_groom (f : Pins → Pins) : (modPins s f).groom = s.groom := rfl
@[simp] theorem modPins_power (f : Pins → Pins) : (modPins s f).power = s.power := rfl
@[simp] theorem modPins_pins (f : Pins → Pins) : (modPins s f).pins = f s.pins := rfl
@[simp] theorem modPins_requests (f : Pins → Pins) : (modPins s f).requests = s.requests := rfl
@[simp] theorem modPins_telem (f : Pins → Pins) : (modPins s f).telem = s.telem := rfl
@[simp] theorem modPins_bankBase (f : Pins → Pins) : (modPins s f).bankBase = s.bankBase := rfl
@[simp] theorem modPins_raised (f : Pins → Pins) : (modPins s f).raised = s.raised := rfl
@[simp] theorem modPins_outputs (f : Pins → Pins) : (modPins s f).outputs = s.outputs := rfl

@[simp] theorem putFrame_pending (id : Nat) (f : Frame) : (putFrame s id f).pending = s.pending := rfl
@[simp] theorem putFrame_regs (id : Nat) (f : Frame) : (putFrame s id f).regs = s.regs := rfl
@[simp] theorem putFrame_shadow (id : Nat) (f : Frame) : (putFrame s id f).shadow = s.shadow := rfl
@[simp] theorem putFrame_old (id : Nat) (f : Frame) : (putFrame s id f).old = s.old := rfl
@[simp] theorem putFrame_flash (id : Nat) (f : Frame) : (putFrame s id f).flash = s.flash := rfl
@[simp] theorem putFrame_time (id : Nat) (f : Frame) : (putFrame s id f).time = s.time := rfl
@[simp] theorem putFrame_lattice (id : Nat) (f : Frame) : (putFrame s id f).lattice = s.lattice := rfl
@[simp] theorem putFrame_light (id : Nat) (f : Frame) : (putFrame s id f).light = s.light := rfl
@[simp] theorem putFrame_links (id : Nat) (f : Frame) : (putFrame s id f).links = s.links := rfl
@[simp] theorem putFrame_frames (id : Nat) (f : Frame) : (putFrame s id f).frames = Tab.set s.frames id f := rfl
@[simp] theorem putFrame_nextFrame (id : Nat) (f : Frame) : (putFrame s id f).nextFrame = s.nextFrame := rfl
@[simp] theorem putFrame_forward (id : Nat) (f : Frame) : (putFrame s id f).forward = s.forward := rfl
@[simp] theorem putFrame_egress (id : Nat) (f : Frame) : (putFrame s id f).egress = s.egress := rfl
@[simp] theorem putFrame_coll (id : Nat) (f : Frame) : (putFrame s id f).coll = s.coll := rfl
@[simp] theorem putFrame_clock (id : Nat) (f : Frame) : (putFrame s id f).clock = s.clock := rfl
@[simp] theorem putFrame_sets (id : Nat) (f : Frame) : (putFrame s id f).sets = s.sets := rfl
@[simp] theorem putFrame_twin (id : Nat) (f : Frame) : (putFrame s id f).twin = s.twin := rfl
@[simp] theorem putFrame_vets (id : Nat) (f : Frame) : (putFrame s id f).vets = s.vets := rfl
@[simp] theorem putFrame_book (id : Nat) (f : Frame) : (putFrame s id f).book = s.book := rfl
@[simp] theorem putFrame_groom (id : Nat) (f : Frame) : (putFrame s id f).groom = s.groom := rfl
@[simp] theorem putFrame_power (id : Nat) (f : Frame) : (putFrame s id f).power = s.power := rfl
@[simp] theorem putFrame_pins (id : Nat) (f : Frame) : (putFrame s id f).pins = s.pins := rfl
@[simp] theorem putFrame_requests (id : Nat) (f : Frame) : (putFrame s id f).requests = s.requests := rfl
@[simp] theorem putFrame_telem (id : Nat) (f : Frame) : (putFrame s id f).telem = s.telem := rfl
@[simp] theorem putFrame_bankBase (id : Nat) (f : Frame) : (putFrame s id f).bankBase = s.bankBase := rfl
@[simp] theorem putFrame_raised (id : Nat) (f : Frame) : (putFrame s id f).raised = s.raised := rfl
@[simp] theorem putFrame_outputs (id : Nat) (f : Frame) : (putFrame s id f).outputs = s.outputs := rfl

@[simp] theorem delFrame_pending (id : Nat) : (delFrame s id).pending = s.pending := rfl
@[simp] theorem delFrame_regs (id : Nat) : (delFrame s id).regs = s.regs := rfl
@[simp] theorem delFrame_shadow (id : Nat) : (delFrame s id).shadow = s.shadow := rfl
@[simp] theorem delFrame_old (id : Nat) : (delFrame s id).old = s.old := rfl
@[simp] theorem delFrame_flash (id : Nat) : (delFrame s id).flash = s.flash := rfl
@[simp] theorem delFrame_time (id : Nat) : (delFrame s id).time = s.time := rfl
@[simp] theorem delFrame_lattice (id : Nat) : (delFrame s id).lattice = s.lattice := rfl
@[simp] theorem delFrame_light (id : Nat) : (delFrame s id).light = s.light := rfl
@[simp] theorem delFrame_links (id : Nat) : (delFrame s id).links = s.links := rfl
@[simp] theorem delFrame_frames (id : Nat) : (delFrame s id).frames = Tab.del s.frames id := rfl
@[simp] theorem delFrame_nextFrame (id : Nat) : (delFrame s id).nextFrame = s.nextFrame := rfl
@[simp] theorem delFrame_forward (id : Nat) : (delFrame s id).forward = s.forward := rfl
@[simp] theorem delFrame_egress (id : Nat) : (delFrame s id).egress = s.egress := rfl
@[simp] theorem delFrame_coll (id : Nat) : (delFrame s id).coll = s.coll := rfl
@[simp] theorem delFrame_clock (id : Nat) : (delFrame s id).clock = s.clock := rfl
@[simp] theorem delFrame_sets (id : Nat) : (delFrame s id).sets = s.sets := rfl
@[simp] theorem delFrame_twin (id : Nat) : (delFrame s id).twin = s.twin := rfl
@[simp] theorem delFrame_vets (id : Nat) : (delFrame s id).vets = s.vets := rfl
@[simp] theorem delFrame_book (id : Nat) : (delFrame s id).book = s.book := rfl
@[simp] theorem delFrame_groom (id : Nat) : (delFrame s id).groom = s.groom := rfl
@[simp] theorem delFrame_power (id : Nat) : (delFrame s id).power = s.power := rfl
@[simp] theorem delFrame_pins (id : Nat) : (delFrame s id).pins = s.pins := rfl
@[simp] theorem delFrame_requests (id : Nat) : (delFrame s id).requests = s.requests := rfl
@[simp] theorem delFrame_telem (id : Nat) : (delFrame s id).telem = s.telem := rfl
@[simp] theorem delFrame_bankBase (id : Nat) : (delFrame s id).bankBase = s.bankBase := rfl
@[simp] theorem delFrame_raised (id : Nat) : (delFrame s id).raised = s.raised := rfl
@[simp] theorem delFrame_outputs (id : Nat) : (delFrame s id).outputs = s.outputs := rfl

end Sys2Proof.Machine
end

