-- ==== Sys2Proof/Laws/Store.lean ====
section
/-! SUPPORT. The laws of the sparse maps: a read after a write, and that every operation keeps the
canonical form. -/

namespace Sys2Proof.Machine

namespace Store

variable {κ α : Type} [DecidableEq κ]

theorem get_erase_self (dflt : κ → α) (m : List (κ × α)) (k : κ) :
    get dflt (erase m k) k = dflt k := by
  induction m with
  | nil => rfl
  | cons e rest ih =>
    obtain ⟨k', v⟩ := e
    by_cases h : k' = k <;> simp [erase, get, h, ih]

theorem get_erase_ne (dflt : κ → α) (m : List (κ × α)) {k k₂ : κ} (hne : k₂ ≠ k) :
    get dflt (erase m k) k₂ = get dflt m k₂ := by
  induction m with
  | nil => rfl
  | cons e rest ih =>
    obtain ⟨k', v⟩ := e
    by_cases h : k' = k
    · subst h; simp [erase, get, ih, Ne.symm hne]
    · simp only [erase, if_neg h, get, ih]

theorem get_insert_ne (lt : κ → κ → Bool) (dflt : κ → α) (m : List (κ × α)) {k k₂ : κ} (v : α)
    (hne : k₂ ≠ k) : get dflt (insert lt k v m) k₂ = get dflt m k₂ := by
  induction m with
  | nil => simp [insert, get, Ne.symm hne]
  | cons e rest ih =>
    obtain ⟨k', v'⟩ := e
    simp only [insert]
    split
    · simp [get, Ne.symm hne]
    · by_cases h2 : k' = k₂ <;> simp [get, h2, ih]

/-- A key absent from the list. -/
def absent (m : List (κ × α)) (k : κ) : Prop := ∀ e ∈ m, e.1 ≠ k

theorem absent_erase (m : List (κ × α)) (k : κ) : absent (erase m k) k := by
  induction m with
  | nil => simp [absent, erase]
  | cons e rest ih =>
    obtain ⟨k', v⟩ := e
    by_cases h : k' = k
    · simpa [erase, h] using ih
    · intro e he
      simp only [erase, h, if_false] at he
      rcases List.mem_cons.mp he with rfl | he
      · exact h
      · exact ih e he

theorem get_insert_self (lt : κ → κ → Bool) (dflt : κ → α) (m : List (κ × α)) (k : κ) (v : α)
    (ha : absent m k) : get dflt (insert lt k v m) k = v := by
  induction m with
  | nil => simp [insert, get]
  | cons e rest ih =>
    obtain ⟨k', v'⟩ := e
    have hne : k' ≠ k := ha (k', v') (List.mem_cons_self ..)
    have hr : absent rest k := fun e he => ha e (List.mem_cons_of_mem _ he)
    simp only [insert]
    split
    · simp [get]
    · simp [get, hne, ih hr]

variable [DecidableEq α]

/-- A read of the key just written gives the value written. -/
theorem get_put_self (lt : κ → κ → Bool) (dflt : κ → α) (m : List (κ × α)) (k : κ) (v : α) :
    get dflt (put lt dflt m k v) k = v := by
  unfold put
  split
  · next h => rw [get_erase_self, h]
  · exact get_insert_self lt dflt _ k v (absent_erase m k)

/-- A write leaves every other key as it was. -/
theorem get_put_ne (lt : κ → κ → Bool) (dflt : κ → α) (m : List (κ × α)) {k k₂ : κ} (v : α)
    (hne : k₂ ≠ k) : get dflt (put lt dflt m k v) k₂ = get dflt m k₂ := by
  unfold put
  split
  · exact get_erase_ne dflt m hne
  · rw [get_insert_ne lt dflt _ v hne, get_erase_ne dflt m hne]

/-! ## The canonical form -/

/-- A strict total order given as a Bool. -/
structure StrictTotal (lt : κ → κ → Bool) : Prop where
  irrefl : ∀ a, lt a a = false
  trans : ∀ a b c, lt a b = true → lt b c = true → lt a c = true
  total : ∀ a b, a ≠ b → lt a b = true ∨ lt b a = true

omit [DecidableEq κ] [DecidableEq α] in
theorem risesFrom_of_lt {lt : κ → κ → Bool} (o : StrictTotal lt) {a b : κ} {m : List (κ × α)}
    (h : lt a b = true) (hm : risesFrom lt b m = true) : risesFrom lt a m = true := by
  cases m with
  | nil => rfl
  | cons e rest =>
    obtain ⟨k', v⟩ := e
    simp only [risesFrom, Bool.and_eq_true] at hm ⊢
    exact ⟨o.trans _ _ _ h hm.1, hm.2⟩

omit [DecidableEq α] in
theorem risesFrom_erase {lt : κ → κ → Bool} (o : StrictTotal lt) (m : List (κ × α)) (a k : κ)
    (hm : risesFrom lt a m = true) : risesFrom lt a (erase m k) = true := by
  induction m generalizing a with
  | nil => rfl
  | cons e rest ih =>
    obtain ⟨k', v⟩ := e
    simp only [risesFrom, Bool.and_eq_true] at hm
    simp only [erase]
    split
    · exact risesFrom_of_lt o hm.1 (ih k' hm.2)
    · simp only [risesFrom, Bool.and_eq_true]
      exact ⟨hm.1, ih k' hm.2⟩

omit [DecidableEq κ] [DecidableEq α] in
theorem risesFrom_insert {lt : κ → κ → Bool} (o : StrictTotal lt) (m : List (κ × α)) (a k : κ)
    (v : α) (hk : lt a k = true) (ha : absent m k) (hm : risesFrom lt a m = true) :
    risesFrom lt a (insert lt k v m) = true := by
  induction m generalizing a with
  | nil => simp [insert, risesFrom, hk]
  | cons e rest ih =>
    obtain ⟨k', v'⟩ := e
    simp only [risesFrom, Bool.and_eq_true] at hm
    have hne : k' ≠ k := ha (k', v') (List.mem_cons_self ..)
    have hr : absent rest k := fun e he => ha e (List.mem_cons_of_mem _ he)
    simp only [insert]
    split
    · next h => simp [risesFrom, hk, h, hm.2]
    · next h =>
      have hlt : lt k' k = true := by
        rcases o.total k' k hne with h' | h'
        · exact h'
        · exact absurd h' h
      simp only [risesFrom, Bool.and_eq_true]
      exact ⟨hm.1, ih k' hlt hr hm.2⟩

omit [DecidableEq α] in
theorem rises_erase {lt : κ → κ → Bool} (o : StrictTotal lt) (m : List (κ × α)) (k : κ)
    (hm : rises lt m = true) : rises lt (erase m k) = true := by
  induction m with
  | nil => rfl
  | cons e rest ih =>
    obtain ⟨k', v⟩ := e
    have hm' : risesFrom lt k' rest = true := hm
    have hr : rises lt rest = true := by
      cases rest with
      | nil => rfl
      | cons e2 r2 =>
        obtain ⟨k2, v2⟩ := e2
        simp only [risesFrom, Bool.and_eq_true] at hm'
        exact hm'.2
    simp only [erase]
    split
    · exact ih hr
    · exact risesFrom_erase o rest k' k hm'

omit [DecidableEq α] in
theorem rises_insert {lt : κ → κ → Bool} (o : StrictTotal lt) (m : List (κ × α)) (k : κ) (v : α)
    (ha : absent m k) (hm : rises lt m = true) : rises lt (insert lt k v m) = true := by
  cases m with
  | nil => rfl
  | cons e rest =>
    obtain ⟨k', v'⟩ := e
    have hne : k' ≠ k := ha (k', v') (List.mem_cons_self ..)
    have hr : absent rest k := fun e he => ha e (List.mem_cons_of_mem _ he)
    simp only [insert]
    split
    · next h =>
      have : risesFrom lt k' rest = true := hm
      simp [rises, risesFrom, h, this]
    · next h =>
      have hlt : lt k' k = true := by
        rcases o.total k' k hne with h' | h'
        · exact h'
        · exact absurd h' h
      exact risesFrom_insert o rest k' k v hlt hr hm

theorem noDefault_erase (dflt : κ → α) (m : List (κ × α)) (k : κ)
    (hm : noDefault dflt m = true) : noDefault dflt (erase m k) = true := by
  induction m with
  | nil => rfl
  | cons e rest ih =>
    obtain ⟨k', v⟩ := e
    simp only [noDefault, Bool.and_eq_true] at hm
    simp only [erase]
    split
    · exact ih hm.2
    · simp only [noDefault, Bool.and_eq_true]
      exact ⟨hm.1, ih hm.2⟩

omit [DecidableEq κ] in
theorem noDefault_insert (lt : κ → κ → Bool) (dflt : κ → α) (m : List (κ × α)) (k : κ) (v : α)
    (hv : v ≠ dflt k) (hm : noDefault dflt m = true) :
    noDefault dflt (insert lt k v m) = true := by
  induction m with
  | nil => simp [insert, noDefault, hv]
  | cons e rest ih =>
    obtain ⟨k', v'⟩ := e
    have hm' := hm
    simp only [noDefault, Bool.and_eq_true] at hm
    simp only [insert]
    split
    · simp [noDefault, hv, hm.2, decide_eq_true_eq.mp hm.1]
    · simp only [noDefault, Bool.and_eq_true]
      exact ⟨hm.1, ih hm.2⟩

/-- A write keeps the canonical form. -/
theorem wf_put {lt : κ → κ → Bool} (o : StrictTotal lt) (dflt : κ → α) (m : List (κ × α)) (k : κ)
    (v : α) (hm : wf lt dflt m = true) : wf lt dflt (put lt dflt m k v) = true := by
  simp only [wf, Bool.and_eq_true] at hm ⊢
  unfold put
  split
  · exact ⟨rises_erase o m k hm.1, noDefault_erase dflt m k hm.2⟩
  · next h =>
    exact ⟨rises_insert o _ k v (absent_erase m k) (rises_erase o m k hm.1),
      noDefault_insert lt dflt _ k v h (noDefault_erase dflt m k hm.2)⟩

end Store

theorem natLt_order : Store.StrictTotal natLt where
  irrefl := by intro a; simp [natLt]
  trans := by intro a b c; simp only [natLt, decide_eq_true_eq]; omega
  total := by intro a b h; simp only [natLt, decide_eq_true_eq]; omega

theorem addrLt_order : Store.StrictTotal Addr.lt where
  irrefl := by intro a; simp [Addr.lt]
  trans := by
    intro a b c
    simp only [Addr.lt, Bool.or_eq_true, Bool.and_eq_true, decide_eq_true_eq, beq_iff_eq]
    omega
  total := by
    rintro ⟨a1, a2, a3⟩ ⟨b1, b2, b3⟩ h
    simp only [Addr.lt, Bool.or_eq_true, Bool.and_eq_true, decide_eq_true_eq, beq_iff_eq]
    simp only [ne_eq, Addr.mk.injEq] at h
    omega

@[simp] theorem Regs.get_put_self (m : Regs) (a : Addr) (v : Nat) : (m.put a v).get a = v :=
  Store.get_put_self ..

theorem Regs.get_put_ne (m : Regs) {a b : Addr} (v : Nat) (h : b ≠ a) :
    (m.put a v).get b = m.get b := Store.get_put_ne _ _ _ _ h

theorem Regs.wf_put (m : Regs) (a : Addr) (v : Nat) (h : m.wf = true) : (m.put a v).wf = true :=
  Store.wf_put addrLt_order _ _ _ _ h

@[simp] theorem Tab.get_put_self {α : Type} [DecidableEq α] (d : α) (m : Tab α) (k : Nat) (v : α) :
    Tab.get d (Tab.put d m k v) k = v := Store.get_put_self ..

theorem Tab.get_put_ne {α : Type} [DecidableEq α] (d : α) (m : Tab α) {k k₂ : Nat} (v : α)
    (h : k₂ ≠ k) : Tab.get d (Tab.put d m k v) k₂ = Tab.get d m k₂ := Store.get_put_ne _ _ _ _ h

theorem Tab.wf_put {α : Type} [DecidableEq α] (d : α) (m : Tab α) (k : Nat) (v : α)
    (h : Tab.wf d m = true) : Tab.wf d (Tab.put d m k v) = true :=
  Store.wf_put natLt_order _ _ _ _ h

@[simp] theorem Memory.read_write_self (m : Memory) (a : Nat) (b : Byte) :
    (m.write a b).read a = b := Store.get_put_self ..

theorem Memory.read_write_ne (m : Memory) {a a₂ : Nat} (b : Byte) (h : a₂ ≠ a) :
    (m.write a b).read a₂ = m.read a₂ := Store.get_put_ne _ _ _ _ h

theorem Memory.wf_write (m : Memory) (a : Nat) (b : Byte) (h : m.wf = true) :
    (m.write a b).wf = true := Store.wf_put natLt_order _ _ _ _ h

theorem Memory.wf_writeBytes (bs : List Byte) : ∀ (m : Memory) (a : Nat), m.wf = true →
    (Memory.writeBytes m a bs).wf = true := by
  induction bs with
  | nil => intro m a h; exact h
  | cons b rest ih => intro m a h; exact ih _ _ (Memory.wf_write m a b h)

theorem Memory.filter_risesFrom (p : Host.Cell → Bool) (m : Memory) (k : Nat)
    (h : Store.risesFrom natLt k m = true) : Store.risesFrom natLt k (m.filter p) = true := by
  induction m generalizing k with
  | nil => rfl
  | cons e rest ih =>
    obtain ⟨k', v⟩ := e
    simp only [Store.risesFrom, Bool.and_eq_true] at h
    simp only [List.filter]
    split
    · simp only [Store.risesFrom, Bool.and_eq_true]; exact ⟨h.1, ih k' h.2⟩
    · exact Store.risesFrom_of_lt natLt_order h.1 (ih k' h.2)

theorem Memory.wf_filter (p : Host.Cell → Bool) (m : Memory) (h : m.wf = true) :
    Memory.wf (m.filter p) = true := by
  simp only [Memory.wf, Store.wf, Bool.and_eq_true] at h ⊢
  obtain ⟨h1, h2⟩ := h
  constructor
  · induction m with
    | nil => rfl
    | cons e rest ih =>
      obtain ⟨k, v⟩ := e
      have h1' : Store.risesFrom natLt k rest = true := h1
      simp only [Store.noDefault, Bool.and_eq_true] at h2
      simp only [List.filter]
      split
      · exact Memory.filter_risesFrom p rest k h1'
      · refine ih ?_ h2.2
        cases rest with
        | nil => rfl
        | cons e2 r2 =>
          obtain ⟨k2, v2⟩ := e2
          simp only [Store.risesFrom, Bool.and_eq_true] at h1'
          exact h1'.2
  · clear h1
    induction m with
    | nil => rfl
    | cons e rest ih =>
      obtain ⟨k, v⟩ := e
      simp only [Store.noDefault, Bool.and_eq_true] at h2
      simp only [List.filter]
      split
      · simp only [Store.noDefault, Bool.and_eq_true]; exact ⟨h2.1, ih h2.2⟩
      · exact ih h2.2

/-- An erase keeps the canonical form. -/
theorem Memory.wf_eraseRange (m : Memory) (a n : Nat) (h : m.wf = true) :
    (m.eraseRange a n).wf = true := Memory.wf_filter _ m h

end Sys2Proof.Machine
end

