-- ==== Sys2Proof/Laws/Ops.lean ====
section
/-! SUPPORT. What the named operations do: a read after a write, for elements and for every table of the state. -/

namespace Sys2Proof.Machine

/-! ## Elements -/

theorem Regs.get_put (m : Regs) (a b : Addr) (v : Nat) :
    (m.put a v).get b = if b = a then v else m.get b := by
  split
  · next h => subst h; exact Regs.get_put_self m b v
  · next h => exact Regs.get_put_ne m v h

theorem rd_wr (s : State) (a b : Addr) (v : Nat) : rd (wr s a v) b = if b = a then v else rd s b :=
  Regs.get_put ..

@[simp] theorem rd_wr_self (s : State) (a : Addr) (v : Nat) : rd (wr s a v) a = v := Regs.get_put_self ..

theorem rd_wr_ne (s : State) {a b : Addr} (v : Nat) (h : b ≠ a) : rd (wr s a v) b = rd s b :=
  Regs.get_put_ne _ _ h

theorem rd_inc (s : State) (a b : Addr) (w : Nat) :
    rd (inc s a w) b = if b = a then (rd s a + 1) % 2 ^ w else rd s b := rd_wr ..

theorem rd_incBy (s : State) (a b : Addr) (w n : Nat) :
    rd (incBy s a w n) b = if b = a then (rd s a + n) % 2 ^ w else rd s b := rd_wr ..

/-- A read depends on the elements alone. -/
theorem rd_congr {s t : State} (h : t.regs = s.regs) (a : Addr) : rd t a = rd s a := by
  unfold rd; rw [h]

@[simp] theorem rd_emit (s : State) (o : Output) (a : Addr) : rd (emit s o) a = rd s a := rfl
@[simp] theorem rd_raise (s : State) (c src : Nat) (items : List (Nat × Nat)) (a : Addr) :
    rd (raise s c src items) a = rd s a := rfl
@[simp] theorem rd_modLink (s : State) (p : Nat) (f : Link → Link) (a : Addr) :
    rd (modLink s p f) a = rd s a := rfl
@[simp] theorem rd_modLight (s : State) (f : Light → Light) (a : Addr) : rd (modLight s f) a = rd s a := rfl
@[simp] theorem rd_modForward (s : State) (f : Forwarding → Forwarding) (a : Addr) :
    rd (modForward s f) a = rd s a := rfl
@[simp] theorem rd_modEgress (s : State) (f : Egress → Egress) (a : Addr) : rd (modEgress s f) a = rd s a := rfl
@[simp] theorem rd_modColl (s : State) (f : Collective → Collective) (a : Addr) :
    rd (modColl s f) a = rd s a := rfl
@[simp] theorem rd_modLattice (s : State) (f : Lattice → Lattice) (a : Addr) :
    rd (modLattice s f) a = rd s a := rfl
@[simp] theorem rd_modClock (s : State) (f : EpochClock → EpochClock) (a : Addr) :
    rd (modClock s f) a = rd s a := rfl
@[simp] theorem rd_modSets (s : State) (f : Sets → Sets) (a : Addr) : rd (modSets s f) a = rd s a := rfl
@[simp] theorem rd_modTwin (s : State) (f : Twin → Twin) (a : Addr) : rd (modTwin s f) a = rd s a := rfl
@[simp] theorem rd_modVets (s : State) (f : Vets → Vets) (a : Addr) : rd (modVets s f) a = rd s a := rfl
@[simp] theorem rd_modBook (s : State) (f : Book → Book) (a : Addr) : rd (modBook s f) a = rd s a := rfl
@[simp] theorem rd_modGroom (s : State) (f : Groom → Groom) (a : Addr) : rd (modGroom s f) a = rd s a := rfl
@[simp] theorem rd_modPower (s : State) (f : Power → Power) (a : Addr) : rd (modPower s f) a = rd s a := rfl
@[simp] theorem rd_modPins (s : State) (f : Pins → Pins) (a : Addr) : rd (modPins s f) a = rd s a := rfl
@[simp] theorem rd_putFrame (s : State) (id : Nat) (f : Frame) (a : Addr) :
    rd (putFrame s id f) a = rd s a := rfl
@[simp] theorem rd_delFrame (s : State) (id : Nat) (a : Addr) : rd (delFrame s id) a = rd s a := rfl

/-! ## Tables -/

theorem Tab.get_put {α : Type} [DecidableEq α] (d : α) (m : Tab α) (k j : Nat) (v : α) :
    Tab.get d (Tab.put d m k v) j = if j = k then v else Tab.get d m j := by
  split
  · next h => subst h; exact Tab.get_put_self d m j v
  · next h => exact Tab.get_put_ne d m v h

theorem Tab.find_erase {α : Type} (m : Tab α) (k j : Nat) :
    Tab.find (Store.erase m k) j = if j = k then none else Tab.find m j := by
  induction m with
  | nil => simp [Store.erase, Tab.find]
  | cons e rest ih =>
    obtain ⟨k', v⟩ := e
    by_cases h : k' = k
    · subst h
      simp only [Store.erase, if_pos, Tab.find, ih]
      split
      · rfl
      · next hj => rw [if_neg (fun e => hj e.symm)]
    · simp only [Store.erase, if_neg h, Tab.find, ih]
      by_cases hk : k' = j
      · subst hk; simp [h]
      · simp [hk]

theorem Tab.find_insert {α : Type} (m : Tab α) (k j : Nat) (v : α)
    (ha : Tab.find m k = none) : Tab.find (Store.insert natLt k v m) j =
      if j = k then some v else Tab.find m j := by
  induction m with
  | nil =>
    simp only [Store.insert, Tab.find]
    by_cases h : k = j <;> simp [h, eq_comm]
  | cons e rest ih =>
    obtain ⟨k', v'⟩ := e
    simp only [Tab.find] at ha
    have hne : k' ≠ k := by intro h; simp [h] at ha
    rw [if_neg hne] at ha
    simp only [Store.insert]
    split
    · simp only [Tab.find]
      by_cases h : k = j <;> simp [h, eq_comm]
    · simp only [Tab.find, ih ha]
      by_cases hk : k' = j
      · subst hk; simp [hne]
      · simp [hk]

/-- What a table of present entries holds after one is put into it. -/
theorem Tab.find_set {α : Type} (m : Tab α) (k j : Nat) (v : α) :
    Tab.find (Tab.set m k v) j = if j = k then some v else Tab.find m j := by
  unfold Tab.set
  rw [Tab.find_insert _ _ _ _ (by rw [Tab.find_erase, if_pos rfl]), Tab.find_erase]
  split <;> simp_all

/-- What a table of present entries holds after one is removed from it. -/
theorem Tab.find_del {α : Type} (m : Tab α) (k j : Nat) :
    Tab.find (Tab.del m k) j = if j = k then none else Tab.find m j := Tab.find_erase m k j

theorem link_modLink (s : State) (p q : Nat) (f : Link → Link) :
    link (modLink s p f) q = if q = p then f (link s p) else link s q := Tab.get_put ..

@[simp] theorem link_modLink_self (s : State) (p : Nat) (f : Link → Link) :
    link (modLink s p f) p = f (link s p) := by rw [link_modLink, if_pos rfl]

theorem link_congr {s t : State} (h : t.links = s.links) (p : Nat) : link t p = link s p := by
  unfold link; rw [h]

@[simp] theorem link_wr (s : State) (a : Addr) (v p : Nat) : link (wr s a v) p = link s p := rfl
@[simp] theorem link_emit (s : State) (o : Output) (p : Nat) : link (emit s o) p = link s p := rfl
@[simp] theorem link_raise (s : State) (c src : Nat) (items : List (Nat × Nat)) (p : Nat) :
    link (raise s c src items) p = link s p := rfl

theorem findFrame_putFrame (s : State) (id j : Nat) (f : Frame) :
    findFrame (putFrame s id f) j = if j = id then some f else findFrame s j := Tab.find_set ..

@[simp] theorem findFrame_putFrame_self (s : State) (id : Nat) (f : Frame) :
    findFrame (putFrame s id f) id = some f := by rw [findFrame_putFrame, if_pos rfl]

theorem findFrame_delFrame (s : State) (id j : Nat) :
    findFrame (delFrame s id) j = if j = id then none else findFrame s j := Tab.find_del ..

theorem findFrame_congr {s t : State} (h : t.frames = s.frames) (id : Nat) : findFrame t id = findFrame s id := by
  unfold findFrame; rw [h]

@[simp] theorem findFrame_wr (s : State) (a : Addr) (v id : Nat) : findFrame (wr s a v) id = findFrame s id := rfl

theorem equeue_modQueue (s : State) (q r : Nat) (f : EQueue → EQueue) :
    equeue (modQueue s q f) r = if r = q then f (equeue s q) else equeue s r := Tab.get_put ..

theorem sched_modSched (s : State) (p r : Nat) (f : PortSched → PortSched) :
    sched (modSched s p f) r = if r = p then f (sched s p) else sched s r := Tab.get_put ..

theorem bucket_modBucket (s : State) (g r : Nat) (f : NotifyBucket → NotifyBucket) :
    bucket (modBucket s g f) r = if r = g then f (bucket s g) else bucket s r := Tab.get_put ..

theorem chordOf_setChord (s : State) (c d : Nat) (x : ChordState) :
    chordOf (setChord s c x) d = if d = c then x else chordOf s d := Tab.get_put ..

theorem team_modTeam (s : State) (t u : Nat) (f : TeamCtx → TeamCtx) :
    team (modTeam s t f) u = if u = t then f (team s t) else team s u := Tab.get_put ..

theorem chunkSlot_modSlot (s : State) (t j u k : Nat) (f : ChunkSlot → ChunkSlot) :
    chunkSlot (modSlot s t j f) u k =
      if u * 1024 + k = t * 1024 + j then f (chunkSlot s t j) else chunkSlot s u k := Tab.get_put ..

@[simp] theorem now_wr (s : State) (a : Addr) (v : Nat) : now (wr s a v) = now s := rfl

end Sys2Proof.Machine
end

