-- ==== Sys2Proof/Tests/Slice0.lean ====
section
/-! SUPPORT. Tests: what WellFormed.lean refuses, the spec's worked examples, and for every statement with hypotheses
one theorem that shows states and operands meeting them. -/

open Sys2Proof Sys2Proof.Machine

set_option linter.unusedVariables false
set_option maxRecDepth 100000
set_option Elab.async false

namespace Sys2Proof.Tests

/-! ## Well-formed commands: each check refuses an ill-formed one -/

theorem test_wf_counters :
    (Instr.timebaseRealign (List.replicate 9 0)).wf = true ∧ (Instr.timebaseRealign (List.replicate 8 0)).wf = false := by
  decide

theorem test_wf_lines :
    (Instr.clsPoll 15 0 0 0 (List.replicate 32 0)).wf = true ∧ (Instr.clsPoll 15 0 0 0 [0]).wf = false ∧
    (Instr.feedMonitorSample 63 1 0 []).wf = true ∧ (Instr.feedMonitorSample 63 1 0 (List.replicate 31 0)).wf = false := by
  decide

theorem test_wf_windows :
    (Instr.feedWindowEval 63 1 (List.replicate 32 [0, 0, 0, 0])).wf = true ∧
    (Instr.feedWindowEval 63 1 (List.replicate 31 [0, 0, 0, 0])).wf = false ∧
    (Instr.feedWindowEval 63 1 (List.replicate 32 [0, 0, 0])).wf = false := by decide

theorem test_wf_shortfalls :
    (Instr.clsRiseCheck 15 (List.replicate 8 0)).wf = true ∧ (Instr.clsRiseCheck 15 (List.replicate 7 0)).wf = false := by
  decide

theorem test_wf_copies :
    (Instr.markerReceived 2047 3 [0, 0, 0, 0]).wf = true ∧ (Instr.markerReceived 2047 3 [0, 0, 0]).wf = false := by
  decide

theorem test_wf_lanes :
    (Instr.dataFlitReceived 2047 [[], [], [], [0]]).wf = true ∧ (Instr.dataFlitReceived 2047 [[], [], []]).wf = false ∧
    (Instr.controlFlitReceived 2047 [[], [], [], [], []]).wf = false := by decide

/-- Kinds 0 to 4 have 40, 8, 128, 8 and 512 units (R498). -/
theorem test_wf_vet_units :
    (Instr.vetRequest 39).wf = true ∧ (Instr.vetRequest 40).wf = false ∧ (Instr.vetWithdraw 4103).wf = true ∧
    (Instr.vetWithdraw 4104).wf = false ∧ (Instr.periodicVetDue 8319 true).wf = true ∧
    (Instr.periodicVetDue 8320 true).wf = false ∧ (Instr.vetStart 12295 true true).wf = true ∧
    (Instr.vetStart 12296 true true).wf = false ∧ (Instr.vetPointDone 16895 true 0).wf = true ∧
    (Instr.vetPointDone 16896 true 0).wf = false := by decide

theorem test_wf_vet_steps :
    (Instr.vetHeatReached 40).wf = false ∧ (Instr.vetYieldTimeout 40).wf = false ∧ (Instr.vetAbortStop 40).wf = false ∧
    (Instr.vetEnd 40).wf = false ∧ (Instr.vetRetryTimer 40).wf = false ∧ (Instr.vetRecheckTimer 40).wf = false ∧
    (Instr.vetDrainDone 40).wf = false ∧ (Instr.vetDrainLimit 40).wf = false := by decide

theorem test_wf_demands :
    (Instr.arbGrantPeriod (List.replicate 48 0) 0 0).wf = true ∧ (Instr.arbGrantPeriod (List.replicate 47 0) 0 0).wf = false := by
  decide

/-! ## The spec's worked examples -/

/-- "Tracing port 1,000": FAU 7, duplex pair 13 of it, feed position 3 of it, slots 0 to 3. -/
theorem test_port_1000 :
    pairOf 1000 = 7 * 16 + 13 ∧ feedOf 1000 = 7 * 4 + 3 ∧ (List.range 4).map (slotOf 1000) = [0, 1, 2, 3] ∧
    facetOf 1000 = 3 := by decide

/-- The header of "an ordered request". -/
theorem test_ordered_request :
    let h := mkHdr { kind := KindCode.UNICAST, msg := 0, tc := 2, ord := 1, ten := 212, dst := 0x12345, src := 0x30C07,
                     chan := 5, seq := 0x1234, len := 4, hop := 1, ecn := 1 }
    h = 0x100535048D14C301C1448D004140D4F3#128 ∧ hdrBytes h = 80 ∧ hdrCredits h = 2 ∧ hcrcGood h = true := by
  decide +kernel

/-- The header of "a trace". -/
theorem test_trace_header :
    let h := mkHdr { kind := KindCode.TRACE, msg := 2, tc := 5, ten := 37, dst := 0xF0003, src := 0x08801, seq := 7,
                     len := 65, hop := 0, ecn := 1, arith := 1 }
    h = 0x124A097C000C2200400001C410485BE6#128 ∧ hdrBytes h = 1056 ∧ hdrCredits h = 17 := by decide +kernel

/-- Its extension. -/
theorem test_trace_extension :
    let b : Block := 0x01230140400029C00000000400000000#128
    extTeam b = 0x123 ∧ extGen b = 5 ∧ extOpc b = Opc.SUM ∧ extFmt b = Fmt.BF16 ∧ extMode b = 0 ∧ extSlot b = 0 ∧
    extPart b = 0 ∧ extDgv b = 0 ∧ extChunk b = 0xA7 ∧ extWeight b = 0 ∧ extNcontrib b = 1 := by decide +kernel

/-- "A poisoned tail" of the ordered request. -/
theorem test_poison_tail :
    poisonTail 0x100535048D14C301C1448D004140D4F3#128 = 0x100535048D14C301C1448D0041608296#128 := by decide +kernel

/-- "A rate cut while in debt": the wheel slots of its rows. -/
theorem test_wheel_slots :
    (enterWheel 50000 0 { credit := -33024000 }).slot = 672 ∧
    (refilled 50000 131072000 672 { credit := -33024000 }).credit = 576000 ∧
    (enterWheel 50000 672 { credit := -32448000 }).slot = 1344 ∧
    (enterWheel 20000 1000 { credit := -16048000 }).slot = 1824 ∧
    (enterWheel 20000 1824 { credit := -32592000 }).slot = 3456 ∧
    (enterWheel 20000 3456 { credit := -32976000 }).slot = 5120 := by decide +kernel

/-- "Rebuilding two checkpoint shards": the products of the field. -/
theorem test_gf_products :
    gfMul 0x06 0x7A = 0x01 ∧ gfMul 0x7A 0x05 = 0x8F ∧ gfMul 0x7A 0x0C = 0x02 ∧ gfMul 0x7A 0x04 = 0xF5 := by
  decide +kernel

/-- BF16 contributions summed in order, and element 0 of the RESULT. -/
def sumOf (mode : Nat) (bits : List Nat) : List Byte :=
  (encodeOutput Opc.SUM Fmt.BF16 0 0 0 1
    [bits.foldl (fun a b => applyElem Opc.SUM Fmt.BF16 0 0 a ⟨b, 127⟩ ⟨0, 127⟩) (accInit Opc.SUM mode Fmt.BF16)]).1

/-- "Three contributions, two trees": FAST in both orders, EXACT, and the edge's partial. -/
theorem test_three_contributions :
    sumOf 0 [0x4B80, 0x3F80, 0xCB80] = [0x00, 0x00] ∧ sumOf 0 [0x4B80, 0xCB80, 0x3F80] = [0x3F, 0x80] ∧
    sumOf 1 [0x4B80, 0x3F80, 0xCB80] = [0x3F, 0x80] ∧ sumOf 1 [0x4B80, 0x3F80] = [0x4B, 0x80] := by decide +kernel

/-- "A facet lost under a window of 64": slot j on facet (7 + j) mod 8, then facet 3 lost. -/
theorem test_facet_lost :
    let homes := moveHomes 3 [0, 1, 2, 4, 5, 6, 7] [] ((List.range 64).map (fun j => (7 + j) % 8))
    [4, 12, 20, 28, 36, 44, 52, 60].map (fun j => homes.getD j 9) = [0, 1, 2, 4, 5, 6, 7, 0] ∧
    (homes.filter (fun f => decide (f = 0))).length = 10 := by decide +kernel

/-- "A spine under heavy reduction at the default limit": 256 W above the minimums. -/
theorem test_grants : classGrants 256 [22, 6, 4, 15, 0] [90, 190, 120, 150, 0] = [90, 190, 8, 15, 0] := by
  decide +kernel

/-! ## The queue and the tick -/

/-- The command at the front runs first, and the queue's rest stays. -/
theorem test_queue_order :
    step { State.reset with pending := [.idcode, .bypass] } =
      .next { State.reset with
        pending := [.bypass], pins := { tap := 1, trstN := true }, outputs := [.jtag "IDCODE" 32 0xA20485AB] } := rfl

/-- No word spells a command: the table gives no row any bits. -/
theorem test_no_words (n w : Nat) : decodeTableWord n w = none := rfl

/-! ## Witnesses

For each statement with hypotheses, states and operands that meet the hypotheses of each of its clauses. -/

def st (m : Regs) : State := { State.reset with regs := m }

def lk (p : Nat) (l : Link) (m : Regs) : State := { st m with links := [(p, l)] }

def fr (id : Nat) (f : Frame) (m : Regs) : State := { st m with frames := [(id, f)] }

/-- A marker of zeros with its check. -/
def goodCopy : MarkerCopy := BitVec.ofNat 256 (crc16 240 0)

/-- No symbol on any lane. -/
def noSymbols : LaneSymbols := [[], [], [], []]

/-- Port 2,047 UP with the bits of one flit decoded and not yet taken. -/
def received (x : Nat) : State :=
  lk 2047 { peerKa := 0, lineRx := { bits := [(x, 8192, true)] } } [(Reg.PORT_STATE 2047, 5)]

/-- A DATA flit of zeros, FSTART 0 and FIDLE 63, and its CRC-32C; a CONTROL flit of zeros with its own (R98, R99). -/
def dataBits : Nat := 63 * 2 ^ 44 * 2 ^ 8096 + 1501513185
def controlBits : Nat := 2 * 2 ^ 92 * 2 ^ 8096 + 729304442

def ethHdr : Block := mkHdr { kind := KindCode.ETH_ENCAP, msg := 4, tc := 0, ten := 0, dst := 0, src := 0, len := 5 }

def oneBlock : Block := mkHdr { kind := KindCode.UNICAST, msg := 0, tc := 0, ten := 0, dst := 0, src := 0, len := 1 }

def resultHdr : Block :=
  mkHdr { kind := KindCode.RESULT, msg := 2, tc := 0, ten := 0, dst := 0, src := 3, len := 2, arith := 1 }

def retiredHdr : Block :=
  mkHdr { kind := KindCode.NOTIFY, msg := 3, tc := 0, ten := 0, dst := 0, src := 3, chan := Cause.TEAM_RETIRED,
          len := 1, arith := 1 }

/-- A whole frame that stands alone in queue 0 of port 2,047. -/
def headFrame : Frame := { place := .queued, egress := 2047, whole := true, region := .shared }

/-- Staged values of team 16,383 that pass every check of SETUP. -/
def teamRegs : Regs :=
  [(Reg.TEAM_MEMBERS 16383, 1), (Reg.TEAM_CHILDREN 16383, 1), (Reg.TEAM_TEAM_SIZE 16383, 1),
   (Reg.TEAM_POSITION 16383, 1), (Reg.TEAM_PARENT 16383, 0xFFFFFFFF), (Reg.TEAM_CHUNK_BLOCKS 16383, 256),
   (Reg.TEAM_WINDOW 16383, 64), (Reg.MEMBER_NCONTRIB 0, 1), (Reg.TENANT_TEAM_QUOTA 0, 1)]

def aStint : Stint :=
  { id := 1, facet := 7, engine := 319, team := 0, slot := 0, kind := 0, frame := 1, entry := 0, tick := 0,
    section_ := 0, groups := [], failed := [], claimed := none, order := 0, made := 0 }

def aBand : Band :=
  { facet := 7, team := 0, slot := 0, group := 0, rows := [1], tick := 0, issued := false, tries := 0, pass := 1 }

def aSegment : Segment :=
  { id := 5, group := 1, frames := [1], cells := 1, bytes := 16, youngest := 0, place := .held, addr := 0 }

def headState : State :=
  { lk 2047 { } [(Reg.PORT_STATE 2047, 5), (Reg.CREDIT_TX_DED (16 * 2047), 1)] with
    frames := [(1, headFrame)], egress := { queues := [(147384, { order := [1] })] } }

def aCandidate : Candidate :=
  { serial := 5, prio := 0, dist := 14, partner := 0, at_ := 0,
    boundary := 0, number := 0, period := 20, holdover := false, slewing := false }

def aRequest : VetRequest :=
  { prio := 0, trig := 0, order := 0, commanded := true, periodic := true, overdue := false }

def epochFrame : Frame :=
  { hdr := mkHdr { kind := KindCode.EPOCH, msg := 3, tc := 0, ten := 0, dst := 0, src := 0, len := 2 },
    place := .localTo, whole := true, ingress := 2047,
    blocks := [BitVec.ofNat 128 (15 * 2 ^ 4), BitVec.ofNat 128 (24 * 2 ^ 91)] }

def echoFrame : Frame :=
  { hdr := mkHdr { kind := KindCode.DRAIN_MARK, msg := 1, tc := 0, ten := 0, dst := 0, src := 0, len := 1 },
    place := .localTo, whole := true, blocks := [BitVec.ofNat 128 (2 ^ 75)] }

/-- A request of tenant 1,023 for counter 7 of bank 207. -/
def telemFrame : Frame :=
  { hdr := mkHdr { kind := KindCode.TELEMETRY, msg := 3, tc := 0, ten := 1023, dst := 0, src := 0, len := 1 },
    place := .localTo, whole := true, blocks := [BitVec.ofNat 128 (2 ^ 74 + 3326 * 2 ^ 62)] }

theorem expect_ne_zero (d : Nat) : 0 * 2 ^ 64 + (d + 1) ≠ 0 := by omega

theorem expect_ne_digest (d : Nat) : 0 * 2 ^ 64 + (d + 1) ≠ d := by omega

/-- The secret of key slot 1 in these witnesses. -/
def testSecret : List Byte := bytesBE 32 1

/-- A message's first 32 bytes: counter 1, key slot 1, request identifier 0 (R520). -/
def head (op items len : Nat) : List Byte :=
  bytesBE 2 0x5347 ++ [1] ++ bytesBE 1 op ++ [0, 0] ++ bytesBE 2 1 ++ bytesBE 8 1 ++ bytesBE 4 0 ++
    bytesBE 2 items ++ bytesBE 2 len ++ bytesBE 8 0

/-- A message with its MAC. -/
def signed (m : List Byte) : List Byte := m ++ msgMac testSecret m

/-- A solid whose key slot 1 is VALID and of ROLE 3, with one message in its request queue. -/
def asked (m : List Byte) : State :=
  { st [(Reg.KEY_STATE 1, 1), (Reg.KEY_ROLE 1, 3), (Reg.FIRMWARE_RUNNING_SLOT, 0), (Reg.FIRMWARE_EXEC_BANK, 0)] with
    groom := { secrets := [(1, 1)] }, requests := [⟨0, 0, 0, 0, 0, signed m⟩] }

theorem shaRound_length {w : Nat} (g : ShaSigmas) (v : List (BitVec w)) (k : BitVec w) :
    (shaRound g v k).length = v.length := by
  unfold shaRound; split <;> rfl

theorem shaRounds_length {w : Nat} (g : ShaSigmas) (ks : List (BitVec w)) :
    ∀ win v : List (BitVec w), (shaRounds g ks win v).length = v.length := by
  induction ks with
  | nil => intro win v; rfl
  | cons k ks ih => intro win v; simp only [shaRounds, ih, shaRound_length]

theorem shaFold_length {w : Nat} (g : ShaSigmas) (ks : List (BitVec w)) (bs : List (List Byte)) :
    ∀ h : List (BitVec w), (bs.foldl (shaBlock g ks) h).length = h.length := by
  induction bs with
  | nil => intro h; rfl
  | cons b bs ih =>
    intro h
    simp only [List.foldl_cons, ih, shaBlock, List.length_zipWith, shaRounds_length, Nat.min_self]

theorem bytesBE_length (n x : Nat) : (bytesBE n x).length = n := by
  induction n with
  | zero => rfl
  | succ n ih => simp only [bytesBE, List.length_cons, ih]

theorem words_length (h : List (BitVec 32)) : (h.flatMap (fun x => bytesBE 4 x.toNat)).length = 4 * h.length := by
  induction h with
  | nil => rfl
  | cons x h ih => simp only [List.flatMap_cons, List.length_append, bytesBE_length, ih, List.length_cons]; omega

theorem msgMac_length (k m : List Byte) : (msgMac k m).length = 16 := by
  have e : (hmacSha256 k m).length = 32 := by
    simp only [hmacSha256, sha256, words_length, shaFold_length]; rfl
  simp only [msgMac, List.length_take, e]; rfl

theorem signed_authGood (s : State) (m : List Byte) (hk : keyGood s (msgKey (signed m)) = true)
    (hs : secretOf s (msgKey (signed m)) = testSecret) (hf : (msgFlags (signed m)).testBit 0 = false) :
    authGood s (signed m) = true := by
  have hl : (signed m).length - 16 = m.length := by
    simp only [signed, List.length_append, msgMac_length, Nat.add_sub_cancel]
  have ht : (signed m).take m.length = m := List.take_left
  have hd : (signed m).drop m.length = msgMac testSecret m := List.drop_left
  simp only [authGood, hl, ht, hd, hk, hs, hf, decide_true, Bool.not_false, Bool.and_true]

theorem witness_EmptyQueueTicks :
    ∃ (s : State), s.pending = [] :=
  ⟨State.reset, by decide +kernel⟩

theorem witness_TimebaseAndPace :
    (∃ (i : Island) (hsr : BitVec 16) (s : State), 700 ≤ rd s (Reg.ISLAND_VCORE i) ∧ 1400 ≤ hsr.toNat) ∧
    (∃ (i : Island) (hsr : BitVec 16) (s : State), 700 ≤ rd s (Reg.ISLAND_VCORE i) ∧ (rd s (Reg.ISLAND_VCORE i) <
      850 ∨ rd s (Reg.ISLAND_VFLOOR i) < 850) ∧ hsr.toNat < 1400 ∧ rd s (Reg.ISLAND_STATE i) ≤ 1) ∧
    (∃ (i : Island) (hsr : BitVec 16) (s : State), i.val % 8 < 2 ∧ 850 ≤ rd s (Reg.ISLAND_VCORE i) ∧ 850 ≤ rd s
      (Reg.ISLAND_VFLOOR i) ∧ hsr.toNat < 1400 ∧ rd s (Reg.ISLAND_STATE i) ≠ 2) ∧
    (∃ (r : Fin 4) (k : Nat) (s : State), rd s Reg.TIMEBASE_REF_PRIMARY = r ∧ rd s Reg.TIMEBASE_REF_ACTIVE = r ∧
      (rd s Reg.TIMEBASE_REF_PRESENT).testBit r = true ∧ rd s Reg.TIMEBASE_REF_PRESENT < 16 ∧ 1 ≤ k ∧ k ≤ 3 ∧ (rd
      s Reg.TIMEBASE_REF_PRESENT).testBit ((r + k) % 4) = true ∧ (∀ j, 1 ≤ j → j < k → (rd s
      Reg.TIMEBASE_REF_PRESENT).testBit ((r + j) % 4) = false)) ∧
    (∃ (r : Fin 4) (s : State), rd s Reg.TIMEBASE_REF_ACTIVE ≠ 0xFF) ∧
    (∃ (r : Fin 4) (s : State), rd s Reg.TIMEBASE_REF_ACTIVE = 0xFF) ∧
    (∃ (v : BitVec 8) (s : State), s.groom.up = true ∧ v.toNat ≤ 3 ∧ (rd s Reg.TIMEBASE_REF_PRESENT).testBit
      v.toNat = true ∧ rd s Reg.TIMEBASE_REF_ACTIVE ≠ v.toNat) :=
  ⟨⟨63, 1400, st [(Reg.ISLAND_VCORE 63, 700)], by decide +kernel⟩,
   ⟨63, 1399, st [(Reg.ISLAND_VCORE 63, 850), (Reg.ISLAND_VFLOOR 63, 849), (Reg.ISLAND_STATE 63, 1)], by decide +kernel⟩,
   ⟨57, 1399, st [(Reg.ISLAND_VCORE 57, 850), (Reg.ISLAND_VFLOOR 57, 850)], by decide +kernel⟩,
   ⟨0, 3, st [(Reg.TIMEBASE_REF_PRIMARY, 0), (Reg.TIMEBASE_REF_ACTIVE, 0), (Reg.TIMEBASE_REF_PRESENT, 9)],
     by decide +kernel⟩,
   ⟨3, st [(Reg.TIMEBASE_REF_ACTIVE, 0)], by decide +kernel⟩,
   ⟨3, st [(Reg.TIMEBASE_REF_ACTIVE, 0xFF)], by decide +kernel⟩,
   ⟨3, st [(Reg.TIMEBASE_REF_PRESENT, 8), (Reg.TIMEBASE_REF_ACTIVE, 0)], by decide +kernel⟩⟩

/-- A frame that waits for a transfer from facet 0, whose taps all serve. -/
def litState : State :=
  { fr 1 { place := .granted, egress := 2047 } ((List.range 8).map (fun i => (Reg.FEED_STATE i, 0))) with light := { latticeLit := [0] } }

theorem litState_tap : ∀ k : Fin 8,
    (((List.range 8).map (fun i => 8 * 0 + (k.val + i) % 8)).find? (tapServes litState)).isSome = true := by
  decide +kernel

theorem witness_LatticeTransfer :
    (∃ (id : Nat) (f : Frame) (s : State), findFrame s id = some f ∧ f.place = .request ∧ f.parentId = 0 ∧
      channelAhead s id f = [] ∧ rd s (Reg.LATTICE_STATE (f.facet * 8 + crossTo f)) ≠ 2) ∧
    (∃ (id : Nat) (f : Frame) (s : State), findFrame s id = some f ∧ f.place = .granted ∧ f.parentId = 0 ∧
      f.facet ≠ crossTo f ∧ rd s (Reg.LATTICE_STATE (f.facet * 8 + crossTo f)) ≠ 2 ∧ channelAhead s id f = [] ∧
      (tapFor s f.facet id).isSome = true) ∧
    (∃ (id : Nat) (f : Frame) (s : State), s.frames = [(id, f)] ∧ f.place = .lattice ∧ 8 ≤ f.home) ∧
    (∃ (f : Facet) (g : Fin 5) (peer : Nat) (s : State), s.lattice.pools.length = 40 ∧ (poolGroup s f g).target =
      some peer) :=
  ⟨⟨1, { place := .request, egress := 2047 }, fr 1 { place := .request, egress := 2047 } [], by decide +kernel⟩,
   ⟨1, { place := .granted, egress := 2047 },
     litState, by
       refine ⟨by decide +kernel, by decide +kernel, by decide +kernel, by decide +kernel, by decide +kernel, by decide +kernel, ?_⟩
       exact litState_tap (Config.transferTap 1)⟩,
   ⟨1, { place := .lattice, egress := 2047 }, fr 1 { place := .lattice, egress := 2047 } [], by decide +kernel⟩,
   ⟨7, 4, 3, { State.reset with lattice := { pools := poolsAtReset.set 39 { peer := 4, target := some 3 } } },
     by decide +kernel⟩⟩

theorem witness_UnitsOutOfService :
    (∃ (g x : Facet) (s : State), g ≠ x ∧ g.val ∉ s.lattice.outFacets) ∧
    (∃ (v : Vertex) (s : State), v.val ∉ s.lattice.outVertices) :=
  ⟨⟨0, 7, State.reset, by decide +kernel⟩,
   ⟨127, State.reset, by decide +kernel⟩⟩

theorem witness_RingLocks :
    (∃ (r : Ring) (s : State), rd s (Reg.RING_STATE r) = 1 ∧ busLight s r = true ∧ rowTurn s r = true ∧
      (ringsIn s 2).length + ((ringsIn s 1).filter (fun q => decide (q < r.val) && wantsCount s q)).length <
        rd s Reg.OPTICS_SWEEP_MAX) ∧
    (∃ (r : Ring) (h : BitVec 16) (s : State), rd s (Reg.RING_STATE r) = 2 ∧
      Tab.get false s.light.recount r = false) ∧
    (∃ (r : Ring) (s : State), rd s (Reg.RING_STATE r) = 3) ∧
    (∃ (r : Ring) (s : State), rd s (Reg.RING_STATE r) = 4) :=
  ⟨⟨16383, st [(Reg.RING_STATE 16383, 1), (Reg.EYE_RX_DBM 255, 63836)], by decide +kernel⟩,
   ⟨16383, 65535, st [(Reg.RING_STATE 16383, 2)], by decide +kernel⟩,
   ⟨16383, st [(Reg.RING_STATE 16383, 3)], by decide +kernel⟩,
   ⟨0, st [(Reg.RING_STATE 0, 4)], by decide +kernel⟩⟩

theorem witness_RingsParkedAndFaults :
    (∃ (r : Ring) (e : BitVec 16) (s : State), rd s (Reg.RING_STATE r) = 3 ∧ busLight s r = true) ∧
    (∃ (r : Ring) (s : State), rd s (Reg.RING_STATE r) = 4) ∧
    (∃ (r : Ring) (s : State), rd s (Reg.RING_STATE r) = 2) ∧
    (∃ (r : Ring) (s : State), rd s (Reg.RING_STATE r) = 5) ∧
    (∃ (r : Ring) (used : Fin 32) (s : State), rd s (Reg.RING_STATE r) = 3 ∧ used.val ≠ slotOf (r / 8) (r / 2 %
      4)) ∧
    (∃ (r : Ring) (h : BitVec 16) (i : Fin 32) (s : State), rd s (Reg.RING_STATE r) = 5 ∧ i.val = slotOf (r / 8)
      (r / 2 % 4)) :=
  ⟨⟨16382, 65535, st [(Reg.RING_STATE 16382, 3), (Reg.FEED_SELECTED 63, 1), (Reg.CLS_EN_STATE (clsOf 63 1), 1)], by decide +kernel⟩,
   ⟨0, st [(Reg.RING_STATE 0, 4)], by decide +kernel⟩,
   ⟨16383, st [(Reg.RING_STATE 16383, 2)], by decide +kernel⟩,
   ⟨16383, st [(Reg.RING_STATE 16383, 5)], by decide +kernel⟩,
   ⟨16383, 30, st [(Reg.RING_STATE 16383, 3)], by decide +kernel⟩,
   ⟨16383, 0, 31, st [(Reg.RING_STATE 16383, 5)], by decide +kernel⟩⟩

theorem witness_LightSourceModules :
    (∃ (c : Cls) (id : BitVec 32) (st : BitVec 8) (temp : BitVec 16) (lines : List Int) (s : State), s.groom.up =
      true ∧ rd s (Reg.CLS_EN_STATE c) = 1) ∧
    (∃ (c : Cls) (s : State), s.groom.up = true ∧ rd s (Reg.CLS_FLT c) = 0) ∧
    (∃ (c : Cls) (s : State), s.groom.up = true) ∧
    (∃ (c : Cls) (s : State), rd s (Reg.CLS_EN_STATE c) = 1 ∧ (Tab.get {} s.light.modules c : ClsState).answered
      = false) ∧
    (∃ (c : Cls) (s : State), rd s (Reg.CLS_EN_STATE c) = 1) ∧
    (∃ (c : Cls) (ds : List Int) (d : Int) (s : State), rd s (Reg.CLS_EN_STATE c) = 1 ∧ d ∈ ds ∧ 300 < d) :=
  ⟨⟨15, 0, 0, 0, [], st [(Reg.CLS_EN_STATE 15, 1)], by decide +kernel⟩,
   ⟨15, State.reset, by decide +kernel⟩,
   ⟨15, State.reset, by decide +kernel⟩,
   ⟨15, st [(Reg.CLS_EN_STATE 15, 1)], by decide +kernel⟩,
   ⟨15, st [(Reg.CLS_EN_STATE 15, 1)], by decide +kernel⟩,
   ⟨15, [0, 0, 0, 301, 0, 0, 0, 0], 301, st [(Reg.CLS_EN_STATE 15, 1)], by decide +kernel⟩⟩

theorem witness_FeedsJudged :
    (∃ (f : Feed) (i : Fin 2) (total : Int) (lines : List Int) (s : State), (∀ v ∈ (feedInput s f i).totals, v -
      total ≤ 1000) ∧ (∀ y ∈ clsInputs (clsOf f i), y ≠ (f.val, i.val) → totalFell (feedInput s y.1 y.2) = false)
      ∧ (∀ v ∈ (feedInput s f i).level, v ≠ 3) ∧ (∀ k, k < 32 → lines ≠ [] → -400 < lines.getD k 0 - lineRef s f i
      k)) ∧
    (∃ (f : Feed) (i : Fin 2) (k : Fin 32) (total : Int) (lines : List Int) (s : State), (∀ v ∈ (feedInput s f
      i).totals, v - total ≤ 1000) ∧ (∀ y ∈ clsInputs (clsOf f i), y ≠ (f.val, i.val) → totalFell (feedInput s y.1
      y.2) = false) ∧ rd s (Reg.FEED_SELECTED f) = i ∧ rd s (Reg.FEED_STATE f) ≤ 2 ∧ lines ≠ [] ∧ 1 ≤ (feedInput s
      f i).failRun.getD k 0 ∧ lines.getD k 0 - lineRef s f i k ≤ -400) ∧
    (∃ (f : Feed) (i : Fin 2) (rows : List (List Int)) (s : State), rows.length = 32 ∧ rd s (Reg.FEED_SELECTED f)
      ≠ i ∧ rd s (Reg.FEED_STATE f) ≠ 5 ∧ (migration s f).step = 0) ∧
    (∃ (f : Feed) (i : Fin 2) (rows : List (List Int)) (s : State), rows.length = 32 ∧ rd s (Reg.FEED_SELECTED f)
      = i ∧ rd s (Reg.FEED_STATE f) ≤ 2 ∧ cfgRd s (Reg.FEED_MODE f) ≠ 0) ∧
    (∃ (f : Feed) (s : State), s.groom.up = true ∧ rd s (Reg.FEED_STATE f) ≠ 3 ∧ rd s (Reg.FEED_STATE f) ≠ 5) ∧
    (∃ (f : Feed) (s : State), s.groom.up = true ∧ rd s (Reg.FEED_STATE f) ≠ 3 ∧ rd s (Reg.FEED_STATE f) ≠ 5) :=
  ⟨⟨63, 1, -32768, List.replicate 32 701, State.reset, by decide +kernel⟩,
   ⟨63, 1, 31, 0, List.replicate 32 700,
     { st [(Reg.FEED_SELECTED 63, 1), (Reg.FEED_STATE 63, 2)] with
         light := { inputs := [(127, { failRun := List.replicate 32 1 })] } }, by decide +kernel⟩,
   ⟨63, 1, List.replicate 32 [0, 0, 0, 0], st [(Reg.FEED_SELECTED 63, 0), (Reg.FEED_STATE 63, 4)], by decide +kernel⟩,
   ⟨63, 1, List.replicate 32 [0, 0, 0, 0],
     st [(Reg.FEED_SELECTED 63, 1), (Reg.FEED_STATE 63, 2), (Reg.FEED_MODE 63, 1)], by decide +kernel⟩,
   ⟨63, st [(Reg.FEED_SELECTED 63, 0), (Reg.FEED_STATE 63, 2)], by decide +kernel⟩,
   ⟨63, st [(Reg.FEED_SELECTED 63, 1), (Reg.FEED_STATE 63, 4)], by decide +kernel⟩⟩

theorem witness_FeedMigration :
    (∃ (f : Feed) (s : State), s.groom.up = true ∧ rd s (Reg.FEED_STATE f) ≤ 2) ∧
    (∃ (f : Feed) (s : State), (migration s f).step = 2 ∧ rd s (Reg.FEED_SELECTED f) ≠ 0xFF ∧
      passesR70 s f (1 - rd s (Reg.FEED_SELECTED f)) = true) ∧
    (∃ (f : Feed) (s : State), (migration s f).step = 4 ∧ allAcked s (feedPorts s f) = true) ∧
    (∃ (f : Feed) (s : State), (migration s f).step = 4) ∧
    (∃ (f : Feed) (s : State), (migration s f).step = 5 ∧ allDrained s (feedPorts s f) = true ∧
      tapIdle s f = true ∧ rd s (Reg.FEED_SELECTED f) ≤ 1) ∧
    (∃ (f : Feed) (s : State), (migration s f).step = 5 ∧ rd s (Reg.FEED_SELECTED f) ≤ 1) ∧
    (∃ (f : Feed) (s : State), (migration s f).step = 8 ∧
      (∀ p ∈ feedPorts s f, ∀ k, k < 4 → rd s (Reg.RING_STATE ((p * 4 + k) * 2)) = 3)) ∧
    (∃ (f : Feed) (s : State), (migration s f).step = 9 ∧ (∀ p ∈ feedPorts s f, rd s (Reg.PORT_STATE p) = 5)) :=
  ⟨⟨63, st [(Reg.FEED_STATE 63, 2)], by decide +kernel⟩,
   ⟨63,
     { st [(Reg.FEED_SELECTED 63, 0), (Reg.FEED_COMMISSIONED 63, 2), (Reg.CLS_EN_STATE 14, 1)] with
         light := { migrations := [(63, { step := 2 })], inputs := [(127, { lines := List.replicate 32 0 })] } },
     by decide +kernel⟩,
   ⟨63, { State.reset with light := { migrations := [(63, { step := 4 })] } }, by decide +kernel⟩,
   ⟨63, { State.reset with light := { migrations := [(63, { step := 4 })] } }, by decide +kernel⟩,
   ⟨63, { st [(Reg.FEED_SELECTED 63, 1)] with light := { migrations := [(63, { step := 5 })] } },
     by decide +kernel⟩,
   ⟨63, { st [(Reg.FEED_SELECTED 63, 0)] with light := { migrations := [(63, { step := 5 })] } },
     by decide +kernel⟩,
   ⟨63,
     { st ((List.range 128).map (fun i => (Reg.RING_STATE (16128 + 2 * i), 3))) with
         light := { migrations := [(63, { step := 8 })] } }, by decide +kernel⟩,
   ⟨63,
     { st ((List.range 32).map (fun i => (Reg.PORT_STATE (2016 + i), 5))) with
         light := { migrations := [(63, { step := 9 })] } }, by decide +kernel⟩⟩

theorem witness_EyeSafetyAndStart :
    (∃ (t : Pair) (dbm : Int) (s : State), dbm < -2000 ∧ -32768 ≤ dbm ∧ (rd s (Reg.EYE_STATE t) = 0 ∨ rd s
      (Reg.EYE_STATE t) = 4) ∧ (∀ p ∈ pairPorts t, (link s p).darkUntil = false)) ∧
    (∃ (t : Pair) (dbm : Int) (s : State), dbm < -2000 ∧ -32768 ≤ dbm ∧ (rd s (Reg.EYE_STATE t) = 0 ∨ rd s
      (Reg.EYE_STATE t) = 4) ∧ (∃ p ∈ pairPorts t, (link s p).darkUntil = true)) ∧
    (∃ (t : Pair) (s : State), rd s (Reg.EYE_STATE t) = 1) ∧
    (∃ (t : Pair) (s : State), rd s (Reg.EYE_STATE t) = 2) ∧
    (∃ (t : Pair) (dbm : Int) (s : State), -1700 < dbm ∧ dbm < 32768 ∧ (rd s (Reg.EYE_STATE t) = 1 ∨ rd s
      (Reg.EYE_STATE t) = 2)) ∧
    (∃ (t : Pair) (s : State), rd s (Reg.EYE_STATE t) = 3) ∧
    (∃ (s : State), s.groom.up = true ∧ rd s Reg.POWER_READY = 1 ∧ s.light.started = false ∧ rd s (Reg.CLS_ENABLE
      0) = 1 ∧ rd s (Reg.CLS_LATCH 0) = 0 ∧ rd s (Reg.CLS_FLT 0) = 0) ∧
    (∃ (n : Cls) (s : State), s.groom.up = true ∧ s.light.started = true ∧ s.light.stagger = n ∧ rd s
      (Reg.CLS_ENABLE n) = 1 ∧ rd s (Reg.CLS_LATCH n) = 0 ∧ rd s (Reg.CLS_FLT n) = 0) ∧
    (∃ (s : State), s.groom.up = true ∧ s.light.started = true ∧ s.light.stagger = 16) :=
  ⟨⟨255, -2001, st [(Reg.EYE_STATE 255, 4)], by decide +kernel⟩,
   ⟨255, -32768, lk 2047 { darkUntil := true } [(Reg.EYE_STATE 255, 0)], by decide +kernel⟩,
   ⟨255, st [(Reg.EYE_STATE 255, 1)], by decide +kernel⟩,
   ⟨255, st [(Reg.EYE_STATE 255, 2)], by decide +kernel⟩,
   ⟨255, -1699, st [(Reg.EYE_STATE 255, 2)], by decide +kernel⟩,
   ⟨255, st [(Reg.EYE_STATE 255, 3)], by decide +kernel⟩,
   ⟨st [(Reg.POWER_READY, 1), (Reg.CLS_ENABLE 0, 1)], by decide +kernel⟩,
   ⟨15, { st [(Reg.CLS_ENABLE 15, 1)] with light := { started := true, stagger := 15 } }, by decide +kernel⟩,
   ⟨{ State.reset with light := { started := true, stagger := 16 } }, by decide +kernel⟩⟩

theorem witness_LinkTraining :
    (∃ (p : Port) (s : State), trainable s p = true) ∧
    (∃ (p : Port) (lanes : BitVec 4) (s : State), rd s (Reg.PORT_STATE p) = 3 ∧
      3 ≤ popcount 4 ((link s p).rxReq &&& lanes.toNat)) ∧
    (∃ (p : Port) (s : State), (link s p).attempt = true ∧ 1 ≤ rd s (Reg.PORT_STATE p) ∧
      rd s (Reg.PORT_STATE p) ≤ 4 ∧ (link s p).peerDownSeen = false) :=
  ⟨⟨2047,
     st ((Reg.EYE_STATE 255, 0) :: (Reg.FEED_STATE 63, 2) :: (List.range 8).map (fun i => (Reg.RING_STATE (16376 + i), 3))),
     by decide +kernel⟩,
   ⟨2047, 7, lk 2047 { rxReq := 15 } [(Reg.PORT_STATE 2047, 3)], by decide +kernel⟩,
   ⟨2047, lk 2047 { attempt := true } [(Reg.PORT_STATE 2047, 4)], by decide +kernel⟩⟩

theorem witness_LaneMarkers :
    (∃ (p : Port) (s : State), rd s (Reg.PORT_STATE p) ≠ 6 ∧ rd s (Reg.EYE_STATE (pairOf p)) = 0 ∧ chordTakes s p
      = false ∧ (link s p).rxSwitch = none ∧ (link s p).txSwitch = none) ∧
    (∃ (p : Port) (k : PortLane) (copies : List MarkerCopy) (s : State), copies.find? markerGood = none ∧ (link s
      p).good.length = 4 ∧ (link s p).bad.length = 4) ∧
    (∃ (p : Port) (k : PortLane) (copies : List MarkerCopy) (c : MarkerCopy) (s : State), copies.find? markerGood
      = some c ∧ rd s (Reg.PORT_STATE p) = 5 ∧ (link s p).rxSwitch = none ∧ (link s p).good.length = 4 ∧ (link s
      p).bad.length = 4) :=
  ⟨⟨2047, st [(Reg.EYE_STATE 255, 0), (Reg.PORT_STATE 2047, 5)], by decide +kernel⟩,
   ⟨2047, 3, [1, 1, 1, 1], State.reset, by decide +kernel⟩,
   ⟨2047, 3, [1, goodCopy], goodCopy, st [(Reg.PORT_STATE 2047, 5)], by decide +kernel⟩⟩

theorem witness_FlitsSent :
    (∃ (p : Port) (s : State), (rd s (Reg.PORT_STATE p) = 4 ∨ rd s (Reg.PORT_STATE p) = 5) ∧ (link s p).slots =
      16 ∧ (link s p).nak = false ∧ (link s p).fillDue + 223 * 8192 < 1184033 * 64) ∧
    (∃ (p : Port) (s : State), rd s (Reg.PORT_STATE p) = 5 ∧ (link s p).slots < 16 ∧ (link s p).nak = false ∧
      (link s p).fillDue + 223 * 8192 < 1184033 * 64 ∧ (link s p).resend = [] ∧ (link s p).sending = []) ∧
    (∃ (p : Port) (f : Flit) (rest : List Flit) (s : State), rd s (Reg.PORT_STATE p) = 5 ∧ (link s p).slots < 16
      ∧ (link s p).sleep ≠ .settling ∧ (link s p).nak = false ∧ (link s p).fillDue + 223 * 8192 < 1184033 * 64 ∧
      (link s p).resend = f :: rest) ∧
    (∃ (p : Port) (s : State), rd s (Reg.PORT_STATE p) = 5 ∧ (link s p).slots < 16 ∧ (link s p).sleep ≠ .settling
      ∧ (link s p).nak = false ∧ (link s p).resend = [] ∧ (link s p).retry.length < 96 ∧ (gather s (link s
      p).sending 63 [] 63 []).1 ≠ []) ∧
    (∃ (p : Port) (s : State), 1184033 * 64 ≤ (link s p).fillDue + 223 * 8192) :=
  ⟨⟨2047, lk 2047 { slots := 16 } [(Reg.PORT_STATE 2047, 4)], by decide +kernel⟩,
   ⟨2047, lk 2047 { slots := 15 } [(Reg.PORT_STATE 2047, 5)], by decide +kernel⟩,
   ⟨2047, ⟨0, [], 0, true⟩, [], lk 2047 { resend := [⟨0, [], 0, true⟩] } [(Reg.PORT_STATE 2047, 5)],
     by decide +kernel⟩,
   ⟨2047,
     { lk 2047 { sending := [⟨1, 0⟩] } [(Reg.PORT_STATE 2047, 5)] with
         frames := [(1, { hdr := oneBlock, whole := true, blocks := [0] })] }, by decide +kernel⟩,
   ⟨2047, lk 2047 { fillDue := 73951296 } [(Reg.PORT_STATE 2047, 5)], by decide +kernel⟩⟩

theorem witness_FlitsReceived :
    (∃ (p : Port) (lanes : LaneSymbols) (s : State), (rd s (Reg.PORT_STATE p) = 4 ∨ rd s (Reg.PORT_STATE p) = 5 ∨
      rd s (Reg.PORT_STATE p) = 7)) ∧
    (∃ (p : Port) (lanes : LaneSymbols) (f : Flit) (u s : State), rd s (Reg.PORT_STATE p) = 5 ∧ takeSymbols p
      lanes s = (u, [f]) ∧ f.decoded = true ∧ crcGood f = true ∧ field f.hdr.toNat 92 4 = 0 ∧ field f.hdr.toNat 58
      1 = 0 ∧ field f.hdr.toNat 76 16 = (link u p).expect ∧ boundariesAgree (link u p).flitRemain (field
      f.hdr.toNat 50 6) (field f.hdr.toNat 44 6) = true ∧ ((link u p).retryWait = true → field f.hdr.toNat 57 1 =
      1) ∧ (link u p).sleep ≠ .settling) ∧
    (∃ (p : Port) (lanes : LaneSymbols) (f : Flit) (u s : State), rd s (Reg.PORT_STATE p) = 5 ∧ takeSymbols p
      lanes s = (u, [f]) ∧ (f.decoded && crcGood f) = false ∧ field f.hdr.toNat 92 4 ≠ 1 ∧ (link u p).retryWait =
      false ∧ (link u p).sleep ≠ .settling ∧ exclusionPending u p = false) ∧
    (∃ (p : Port) (h : Nat) (s : State), field h 58 1 = 1 ∧ field h 59 1 = 0) ∧
    (∃ (p : Port) (lanes : LaneSymbols) (f : Flit) (u s : State), rd s (Reg.PORT_STATE p) = 5 ∧ takeSymbols p
      lanes s = (u, [f]) ∧ f.decoded = true ∧ crcGood f = true ∧ field f.hdr.toNat 92 4 = 2 ∧ (link u
      p).peerFreed.length = 9 ∧ ctl (payloadNat f.payload) 36 4 = (link u p).peerCmd ∧ ctl (payloadNat f.payload)
      40 2 = (link u p).peerKa) ∧
    (∃ (p : Port) (s : State), (rd s (Reg.PORT_STATE p) = 4 ∨ rd s (Reg.PORT_STATE p) = 5)) :=
  ⟨⟨2047, noSymbols, st [(Reg.PORT_STATE 2047, 7)], by decide +kernel⟩,
   ⟨2047, noSymbols, flitOf dataBits true, (takeSymbols 2047 noSymbols (received dataBits)).1, received dataBits,
     by decide +kernel⟩,
   ⟨2047, noSymbols, flitOf (dataBits + 1) true, (takeSymbols 2047 noSymbols (received (dataBits + 1))).1,
     received (dataBits + 1), by decide +kernel⟩,
   ⟨2047, 2 ^ 58, State.reset, by decide +kernel⟩,
   ⟨2047, noSymbols, flitOf controlBits true, (takeSymbols 2047 noSymbols (received controlBits)).1,
     received controlBits, by decide +kernel⟩,
   ⟨2047, st [(Reg.PORT_STATE 2047, 4)], by decide +kernel⟩⟩

theorem witness_LinkTimersTakeThePortDown :
    (∃ (p : Port) (s : State), rd s (Reg.PORT_STATE p) = 5 ∧ (link s p).retryWait = true ∧ (link s p).rxSwitch =
      none ∧ (link s p).naks < 8) ∧
    (∃ (p : Port) (s : State), rd s (Reg.PORT_STATE p) = 5 ∧ (link s p).retryWait = true ∧ (link s p).rxSwitch =
      none ∧ 8 ≤ (link s p).naks) ∧
    (∃ (p : Port) (s : State), rd s (Reg.PORT_STATE p) = 5 ∧ (link s p).retry ≠ []) ∧
    (∃ (p : Port) (s : State), rd s (Reg.PORT_STATE p) = 5) ∧
    (∃ (p : Port) (n : Nat) (s : State), rd s (Reg.PORT_STATE p) = 5 ∧ 1000 < (link s p).badWords + n ∧ rd s (Reg.PORT_RXMASK
      p) = 15 ∧ (link s p).rxSwitch = none) ∧
    (∃ (p : Port) (s : State), (link s p).badWords ≤ 1000) ∧
    (∃ (p : Port) (k : PortLane) (c : Fin 3) (s : State), rd s (Reg.PORT_STATE p) = 5 ∧ (link s p).rxSwitch =
      none ∧ (c ≠ 0 ∨ 2 ≤ (link s p).bad.getD k 0) ∧ (rd s (Reg.PORT_RXMASK p)).testBit k = true ∧ popcount 4 (rd
      s (Reg.PORT_RXMASK p)) = 3) :=
  ⟨⟨2047, lk 2047 { retryWait := true, naks := 7 } [(Reg.PORT_STATE 2047, 5)], by decide +kernel⟩,
   ⟨2047, lk 2047 { retryWait := true, naks := 8 } [(Reg.PORT_STATE 2047, 5)], by decide +kernel⟩,
   ⟨2047, lk 2047 { retry := [⟨0, [], 0, true⟩] } [(Reg.PORT_STATE 2047, 5)], by decide +kernel⟩,
   ⟨2047, st [(Reg.PORT_STATE 2047, 5)], by decide +kernel⟩,
   ⟨2047, 1, lk 2047 { badWords := 1000 } [(Reg.PORT_STATE 2047, 5), (Reg.PORT_RXMASK 2047, 15)],
     by decide +kernel⟩,
   ⟨2047, lk 2047 { badWords := 1000 } [], by decide +kernel⟩,
   ⟨2047, 3, 0, lk 2047 { bad := [0, 0, 0, 2] } [(Reg.PORT_STATE 2047, 5), (Reg.PORT_RXMASK 2047, 14)],
     by decide +kernel⟩⟩

theorem witness_FavourModeAndSleep :
    (∃ (p : Port) (k : PortLane) (c : Fin 3) (s : State), rd s (Reg.PORT_STATE p) = 5 ∧ (link s p).rxSwitch =
      none ∧ rd s (Reg.PORT_RXMASK p) = 15 ∧ (c ≠ 0 ∨ 2 ≤ (link s p).bad.getD k 0)) ∧
    (∃ (p : Port) (k : PortLane) (s : State), rd s (Reg.PORT_STATE p) = 5 ∧ (link s p).rxSwitch = none ∧ (rd s
      (Reg.PORT_RXMASK p)).testBit k = false) ∧
    (∃ (p : Port) (s : State), maySleep s p = true ∧ (link s p).sleep = .none) ∧
    (∃ (p : Port) (s : State), rd s (Reg.PORT_STATE p) = 5 ∧ (link s p).sleep = .settling ∧ (link s p).wakeSeen =
      false ∧ portEmpty s p = true ∧ (link s p).sending = []) ∧
    (∃ (p : Port) (s : State), rd s (Reg.PORT_STATE p) = 6) ∧
    (∃ (p : Port) (s : State), rd s (Reg.PORT_STATE p) = 7) ∧
    (∃ (p : Port) (s : State), rd s (Reg.PORT_STATE p) = 7) :=
  ⟨⟨2047, 3, 2, st [(Reg.PORT_STATE 2047, 5), (Reg.PORT_RXMASK 2047, 15)], by decide +kernel⟩,
   ⟨2047, 3, st [(Reg.PORT_STATE 2047, 5), (Reg.PORT_RXMASK 2047, 7)], by decide +kernel⟩,
   ⟨2047,
     { lk 2047 { peerCaps := 1 } [(Reg.PORT_STATE 2047, 5), (Reg.PORT_SLEEP_EN 2047, 1), (Reg.LINK_SLEEP_IDLE, 10)] with
         time := { groom := 10000 } }, by decide +kernel⟩,
   ⟨2047, lk 2047 { sleep := .settling } [(Reg.PORT_STATE 2047, 5)], by decide +kernel⟩,
   ⟨2047, st [(Reg.PORT_STATE 2047, 6)], by decide +kernel⟩,
   ⟨2047, st [(Reg.PORT_STATE 2047, 7)], by decide +kernel⟩,
   ⟨2047, st [(Reg.PORT_STATE 2047, 7)], by decide +kernel⟩⟩

theorem witness_PortsGoDown :
    (∃ (p : Port) (why : Fin 16) (s : State), 5 ≤ rd s (Reg.PORT_STATE p) ∧ rd s (Reg.PORT_STATE p) ≤ 7) ∧
    (∃ (p : Port) (s : State), s.groom.up = true ∧ chordHeld s p = false) ∧
    (∃ (p : Port) (s : State), s.groom.up = true ∧ chordHeld s p = false) ∧
    (∃ (p : Port) (s : State), s.groom.up = true ∧ chordHeld s p = true) :=
  ⟨⟨2047, 15, st [(Reg.PORT_STATE 2047, 7)], by decide +kernel⟩,
   ⟨2047, st [(Reg.PORT_STATE 2047, 5)], by decide +kernel⟩,
   ⟨2047, State.reset, by decide +kernel⟩,
   ⟨2047,
     { st [(Reg.CHORD_STATE 511, 3)] with light := { chords := [(511, { portA := 0, portB := 2047 })] } },
     by decide +kernel⟩⟩

theorem witness_ChordLife :
    (∃ (c : Chord) (k side : Nat) (s : State), rd s (Reg.CHORD_STATE c) = 1 ∧ rd s (Reg.EYE_STATE (pairOf
      (chordOf s c).portA)) = 0 ∧ rd s (Reg.EYE_STATE (pairOf (chordOf s c).portB)) = 0 ∧ seedable s (chordOf s
      c).portA = true ∧ seedable s (chordOf s c).portB = true ∧ k < 4 ∧ side < 2) ∧
    (∃ (c : Chord) (a b : BitVec 16) (s : State), rd s (Reg.CHORD_STATE c) = 2 ∧ (chordOf s c).removing = false) ∧
    (∃ (c : Chord) (d : Fin 2) (drop : Bool) (s : State), rd s (Reg.CHORD_STATE c) = 2 ∧ (chordOf s
      c).retried.length = 2 ∧ (chordOf s c).retried.getD d false = false) ∧
    (∃ (c : Chord) (d : Fin 2) (drop : Bool) (s : State), rd s (Reg.CHORD_STATE c) = 2 ∧ (chordOf s
      c).retried.getD d false = true) ∧
    (∃ (c : Chord) (s : State), (chordOf s c).leaving ≠ [] ∧ (chordOf s c).localStep = false) ∧
    (∃ (c : Chord) (s : State), (chordOf s c).localStep = true ∧ (chordOf s c).leaving ≠ [] ∧ (∀ p ∈ freedPorts s
      c, portRingsDone s p = true) ∧ (chordOf s c).removing = true) ∧
    (∃ (c : Chord) (s : State), (chordOf s c).localStep = true ∧ (chordOf s c).leaving ≠ [] ∧ (∀ p ∈ freedPorts s
      c, portRingsDone s p = true) ∧ (chordOf s c).removing = false) :=
  ⟨⟨511, 3, 1,
     { st ((Reg.CHORD_STATE 511, 1) :: (Reg.EYE_STATE 0, 0) :: (Reg.EYE_STATE 255, 0) :: ((List.range 8).map (fun i => (Reg.RING_STATE i, 3)) ++ (List.range 8).map (fun i => (Reg.RING_STATE (16376 + i), 3)))) with
         light := { chords := [(511, { portA := 0, portB := 2047 })] } }, by decide +kernel⟩,
   ⟨511, 65535, 0, st [(Reg.CHORD_STATE 511, 2)], by decide +kernel⟩,
   ⟨511, 1, true, st [(Reg.CHORD_STATE 511, 2)], by decide +kernel⟩,
   ⟨511, 1, false,
     { st [(Reg.CHORD_STATE 511, 2)] with light := { chords := [(511, { retried := [false, true] })] } },
     by decide +kernel⟩,
   ⟨511, { State.reset with light := { chords := [(511, { portA := 0, portB := 2047, leaving := [2047], removing := true })] } },
     by decide +kernel⟩,
   ⟨511,
     { st ((List.range 8).map (fun i => (Reg.RING_STATE (16376 + i), 3))) with
         light := { chords := [(511, { portA := 0, portB := 2047, leaving := [2047], removing := true, localStep := true })] } },
     by decide +kernel⟩,
   ⟨511,
     { st ((Reg.CHORD_STATE 511, 2) :: (List.range 8).map (fun i => (Reg.RING_STATE (16376 + i), 6))) with
         light := { chords := [(511, { portA := 0, portB := 4, leaving := [2047], localStep := true })] } },
     by decide +kernel⟩⟩

theorem witness_ChordFill :
    (∃ (c : Chord) (d : Fin 2) (s : State), (rd s (Reg.CHORD_STATE c) = 3 ∨ rd s (Reg.CHORD_STATE c) = 4) ∧
      (chordOf s c).dumped.getD d false = false ∧ (rd s (Reg.CHORD_FILL c)).testBit d = false) ∧
    (∃ (c : Chord) (d : Fin 2) (s : State), (rd s (Reg.CHORD_FILL c)).testBit d = true) :=
  ⟨⟨511, 1, st [(Reg.CHORD_STATE 511, 4), (Reg.CHORD_FILL 511, 1)], by decide +kernel⟩,
   ⟨511, 1, st [(Reg.CHORD_FILL 511, 2)], by decide +kernel⟩⟩

theorem witness_FramesArrive :
    (∃ (p : Port) (h : Block) (s : State), rd s (Reg.PORT_STATE p) = 5 ∧ (link s p).rxBlocks = [h] ∧
      (link s p).rxRemain = 0 ∧ headerCheck h (endpointPort s p) (rd s Reg.FRAME_HOP_LIMIT) = none ∧
      needsBlock1 h = true) ∧
    (∃ (p : Port) (id : Nat) (f : Frame) (b : Block) (s : State), (link s p).rxBlocks = [b] ∧
      (link s p).rxFrame = id ∧ s.frames = [(id, f)] ∧ id ≠ 0 ∧ f.poison = false ∧ f.mirror = 0xFF ∧
      f.blocks = [] ∧ 2 ≤ hdrLen f.hdr ∧ 2 ≤ (link s p).rxRemain ∧ (link s p).block1 = false ∧
      needsBlock1 (link s p).rxHdr = true ∧ block1Check (link s p).rxHdr b (endpointPort s p) = none) ∧
    (∃ (p : Port) (id : Nat) (f : Frame) (b : Block) (s : State), (link s p).rxBlocks = [b] ∧
      (link s p).rxFrame = id ∧ s.frames = [(id, f)] ∧ id ≠ 0 ∧ f.poison = false ∧ f.place = .asked ∧
      f.macWait = false ∧ f.blocks.length < hdrLen f.hdr ∧ (link s p).rxRemain = 1 ∧ (link s p).block1 = true ∧
      f.mirror = 0xFF ∧ hdrVl f.rxHdr ≠ 8 ∧ b ≠ poisonTail (link s p).rxHdr) ∧
    (∃ (p : Port) (h : Block) (why : Nat) (s : State), rd s (Reg.PORT_STATE p) = 5 ∧ (link s p).rxBlocks = [h] ∧
      (link s p).rxRemain = 0 ∧ hdrLen h = 0 ∧ hdrMsg h ≤ 4 ∧ findFrame s 0 = none ∧
      (link s p).freed.length = 9 ∧ headerCheck h (endpointPort s p) (rd s Reg.FRAME_HOP_LIMIT) = some why) :=
  ⟨⟨2047, ethHdr, lk 2047 { rxBlocks := [ethHdr] } [(Reg.PORT_STATE 2047, 5)], by decide +kernel⟩,
   ⟨2047, 1, { hdr := ethHdr }, BitVec.ofNat 128 (64 * 2 ^ 114),
     { lk 2047 { rxBlocks := [BitVec.ofNat 128 (64 * 2 ^ 114)], rxFrame := 1, rxRemain := 5, rxHdr := ethHdr } [] with
         frames := [(1, { hdr := ethHdr })] }, by decide +kernel⟩,
   ⟨2047, 1, { hdr := oneBlock, place := .asked }, 7,
     { lk 2047 { rxBlocks := [7], rxFrame := 1, rxRemain := 1, rxHdr := oneBlock, block1 := true } [] with
         frames := [(1, { hdr := oneBlock, place := .asked })] }, by decide +kernel⟩,
   ⟨2047, 0, 2, lk 2047 { rxBlocks := [0] } [(Reg.PORT_STATE 2047, 5)], by decide +kernel⟩⟩

theorem witness_LearningAndLevels :
    (∃ (g : Facet) (x : Insertion) (i : Nat) (s : State), s.forward.insertions = [x] ∧ x.bucket % 8 = g ∧
      learnedWay s s.sets.stamp x.ten x.mac = none ∧ [x.bucket * 4, x.bucket * 4 + 1, x.bucket * 4 + 2, x.bucket *
      4 + 3].find? (wayEmpty s) = some i) ∧
    (∃ (i : Fin 262144) (e : Learned) (s : State), Tab.find s.forward.learned i = some e ∧ e.hit = true) ∧
    (∃ (i : Fin 262144) (e : Learned) (s : State), Tab.find s.forward.learned i = some e ∧ e.hit = false ∧ 1 ≤
      e.sweeps) ∧
    (∃ (i : Fin 262144) (e : Learned) (s : State), Tab.find s.forward.learned i = some e ∧ e.hit = false ∧
      e.sweeps = 0) ∧
    (∃ (g : Facet) (s : State), (∀ e ∈ s.frames, e.2.outVl ≤ 8)) :=
  ⟨⟨7, ⟨1, 0, 0, 0, 0, 65535⟩, 262140,
     { State.reset with forward := { insertions := [⟨1, 0, 0, 0, 0, 65535⟩] } }, by decide +kernel⟩,
   ⟨262143, ⟨0, 0, 0, true, 0⟩, { State.reset with forward := { learned := [(262143, ⟨0, 0, 0, true, 0⟩)] } },
     by decide +kernel⟩,
   ⟨262143, ⟨0, 0, 0, false, 1⟩,
     { State.reset with forward := { learned := [(262143, ⟨0, 0, 0, false, 1⟩)] } }, by decide +kernel⟩,
   ⟨262143, ⟨0, 0, 0, false, 0⟩,
     { State.reset with forward := { learned := [(262143, ⟨0, 0, 0, false, 0⟩)] } }, by decide +kernel⟩,
   ⟨7, fr 1 { outVl := 8 } [], by decide +kernel⟩⟩

theorem witness_PinsAndHolds :
    (∃ (g : Group) (k : Fin 256) (e : Nat) (s : State), Tab.find s.forward.repinEnd (g * 256 + k) = some e ∧
      e ≤ now s) ∧
    (∃ (g : Group) (k : Fin 256) (s : State), rd s (Reg.RGROUP_PIN_RESTORE g) = 1 ∧
      rd s (Reg.PINSLOT_HOME (g * 256 + k)) ≠ rd s (Reg.PINSLOT_CURRENT (g * 256 + k)) ∧
      rd s (Reg.PINSLOT_HOME (g * 256 + k)) < 2048 ∧ live s (rd s (Reg.PINSLOT_HOME (g * 256 + k))) = true ∧
      repinWindow s ≤ now s - rd s (Reg.PINSLOT_LAST_USE (g * 256 + k))) ∧
    (∃ (g : Group) (s : State), s.groom.up = true) ∧
    (∃ (g : Group) (s : State), s.groom.up = true ∧ s.forward.holds = []) :=
  ⟨⟨4095, 255, 0, { State.reset with forward := { repinEnd := [(1048575, 0)] } }, by decide +kernel⟩,
   ⟨4095, 255,
     { lk 2047 { liveKa := true } [(Reg.RGROUP_PIN_RESTORE 4095, 1), (Reg.PINSLOT_HOME 1048575, 2047), (Reg.PINSLOT_CURRENT 1048575, 2046), (Reg.PORT_STATE 2047, 5), (Reg.FRAME_HOP_LIMIT, 1), (Reg.BUFCFG_RES_LIMIT, 1)] with
         time := { groom := 1000 } }, by decide +kernel⟩,
   ⟨4095, State.reset, by decide +kernel⟩,
   ⟨4095, State.reset, by decide +kernel⟩⟩

theorem witness_Admission :
    (∃ (id : Nat) (f : Frame) (r : Region) (s : State), s.frames = [(id, f)] ∧ f.place = .asked ∧ f.parentId = 0
      ∧ f.outVl ≤ 8 ∧ hdrKind f.hdr ≠ KindCode.ETH_ENCAP ∧ hdrEcn f.hdr = 0 ∧ admitTest s f = .pass r) ∧
    (∃ (g : Facet) (id : Nat) (f : Frame) (r : Region) (s : State), s.frames = [(id, f)] ∧ f.place = .waiting ∧
      f.egress / 256 = g ∧ f.parentId = 0 ∧ f.outVl ≤ 8 ∧ hdrEcn f.hdr = 0 ∧ admitTest s f = .pass r) ∧
    (∃ (id : Nat) (f : Frame) (s : State), findFrame s id = some f ∧ f.place = .waiting ∧ f.cause = .quota ∧
      f.notified = false ∧ rd s Reg.BUFCFG_QUOTA_NOTIFY ≤ now s - f.causeSince) :=
  ⟨⟨1, { place := .asked, egress := 2047, outVl := 8 }, .minimum,
     fr 1 { place := .asked, egress := 2047, outVl := 8 } [], by decide +kernel⟩,
   ⟨7, 1, { place := .waiting, egress := 2047, outVl := 8 }, .shared,
     fr 1 { place := .waiting, egress := 2047, outVl := 8 } [(Reg.QCLASS_MIN_CELLS (queueClass 147448), 0)],
     by decide +kernel⟩,
   ⟨1, { place := .waiting, cause := .quota, egress := 2047 },
     { fr 1 { place := .waiting, cause := .quota, egress := 2047 } [(Reg.BUFCFG_QUOTA_NOTIFY, 100)] with
         time := { groom := 100 } }, by decide +kernel⟩⟩

theorem witness_SpillPrefetchAndResidence :
    (∃ (g : Facet) (sid q : Nat) (x : Segment) (id : Nat) (f : Frame) (s : State), (facetSegments s g).find? (fun
      x => decide (x.2.id = sid) && decide (x.2.place = .writing)) = some (q, x) ∧ id ∈ x.frames ∧ findFrame s id
      = some f ∧ f.place = .queued) ∧
    (∃ (q : Queue) (x : Segment) (s : State), (equeue s q).spill = true ∧ x.place = .held ∧ (equeue s
      q).segments.find? (fun x => decide (x.place ≠ .read) && decide (x.place ≠ .reading)) = some x ∧ ((equeue s
      q).segments.filter (fun x => decide (x.place = .reading))).length < 2 ∧ headCells s q < rd s
      Reg.BUFCFG_PF_LOW ∧ prefetchUsed s (queueFacet q) + 64 ≤ rd s Reg.BUFCFG_PF_POOL ∧ ((equeue s q).gaveBack =
      false ∨ headCredit s q = true)) ∧
    (∃ (q : Queue) (sid corrected : Nat) (x : Segment) (id : Nat) (f : Frame) (s : State), findSegment s q sid =
      some x ∧ x.place = .reading ∧ id ∈ x.frames ∧ findFrame s id = some f) ∧
    (∃ (q : Queue) (since id : Nat) (f : Frame) (s : State), (equeue s q).stallSince = some since ∧ (equeue s
      q).spill = true ∧ rd s Reg.FLOWCFG_PF_STALL ≤ now s - since ∧ headCredit s q = false ∧ id ∈ (equeue s
      q).order ∧ findFrame s id = some f ∧ f.region = .prefetch ∧ f.place = .queued) ∧
    (∃ (g : Facet) (c : Fin 2) (s : State), (g.val * 2 + c.val) ∉ s.egress.hbmOut ∧ s.egress.queues = [] ∧
      s.coll.slots = []) ∧
    (∃ (g : Facet) (id : Nat) (f : Frame) (s : State), s.frames = [(id, f)] ∧ f.place = .waiting ∧ f.egress / 256
      = g ∧ f.ingress < 2048 ∧ f.parentId = 0 ∧ resLimit s < now s - f.arrival ∧ s.egress.queues = [] ∧
      s.forward.holds = []) :=
  ⟨⟨7, 5, 147455, { aSegment with place := .writing }, 1, { place := .queued },
     { fr 1 { place := .queued } [] with
         egress := { queues := [(147455, { segments := [{ aSegment with place := .writing }] })] } },
     by decide +kernel⟩,
   ⟨147455, aSegment,
     { st [(Reg.BUFCFG_PF_LOW, 1), (Reg.BUFCFG_PF_POOL, 64)] with
         egress := { queues := [(147455, { spill := true, segments := [aSegment] })] } }, by decide +kernel⟩,
   ⟨147455, 5, 1, { aSegment with place := .reading }, 1, { place := .queued },
     { fr 1 { place := .queued } [] with
         egress := { queues := [(147455, { segments := [{ aSegment with place := .reading }] })] } },
     by decide +kernel⟩,
   ⟨147455, 0, 1, { place := .queued, region := .prefetch },
     { fr 1 { place := .queued, region := .prefetch } [(Reg.FLOWCFG_PF_STALL, 10)] with
         time := { groom := 10 }, egress := { queues := [(147455, { order := [1], spill := true, stallSince := some 0 })] } },
     by decide +kernel⟩,
   ⟨7, 1, State.reset, by decide +kernel⟩,
   ⟨7, 1, { place := .waiting, egress := 2047, ingress := 2047 },
     { fr 1 { place := .waiting, egress := 2047, ingress := 2047 } [(Reg.BUFCFG_RES_LIMIT, 1)] with
         time := { groom := 1001 } }, by decide +kernel⟩⟩

theorem witness_SchedulerSends :
    (∃ (p : Port) (q id : Nat) (f : Frame) (u s : State), rd s (Reg.PORT_STATE p) = 5 ∧
      (link s p).sleep ≠ .settling ∧ endpointPort s p = false ∧ choosePick s p = (u, some q) ∧
      headOf u q = some (id, f) ∧ expired u f = false) ∧
    (∃ (p : Port) (e : Sending) (f : Frame) (s : State), (link s p).sending = [e] ∧
      findFrame s e.frame = some f ∧ e.sent = 1 + hdrLen f.hdr ∧ f.place = .sending ∧ f.egress = p) :=
  ⟨⟨2047, 147384, 1, headFrame, (choosePick headState 2047).1, headState,
     by exact ⟨by decide +kernel, by decide +kernel, by decide +kernel, Prod.ext rfl (by decide +kernel), by decide +kernel, by decide +kernel⟩⟩,
   ⟨2047, ⟨1, 1⟩, { place := .sending, egress := 2047 },
     { lk 2047 { sending := [⟨1, 1⟩] } [] with frames := [(1, { place := .sending, egress := 2047 })] },
     by decide +kernel⟩⟩

theorem witness_ShapersAndTimers :
    (∃ (g : Facet) (q : Queue) (x : Shaper) (s : State), s.egress.shapers = [(q.val, x)] ∧ queueFacet q = g ∧
      x.slot ≠ 0 ∧ x.slot ≤ now s ∧ now s - x.slot ≤ 1344 ∧ x.swapOld = none) ∧
    (∃ (q : Queue) (x : Shaper) (s : State), Tab.find s.egress.shapers q = some x ∧ x.swapOld.isSome = true) ∧
    (∃ (p : Port) (since : Nat) (s : State), (sched s p).heldSince = some since ∧ 1000000 < now s - since ∧
      (sched s p).heldTold = false) ∧
    (∃ (p : Port) (v : Fin 8) (q since : Nat) (s : State), waitingQueue s p v = some q ∧ (sched s p).stalls.find?
      (fun e => decide (e.1 = v.val)) = some (v.val, since) ∧ rd s Reg.FLOWCFG_STALL_ALERT * 1000 ≤ now s - since
      ∧ (sched s p).starved.contains v.val = false) ∧
    (∃ (g : Facet) (s : State), dueNotices s g = []) :=
  ⟨⟨7, 147455, { slot := 1 },
     { State.reset with time := { groom := 1345 }, egress := { shapers := [(147455, { slot := 1 })] } },
     by decide +kernel⟩,
   ⟨147455, { swapOld := some (0, 0) },
     { State.reset with egress := { shapers := [(147455, { swapOld := some (0, 0) })] } }, by decide +kernel⟩,
   ⟨2047, 0,
     { State.reset with
         time := { groom := 1000001 }, egress := { scheds := [(2047, { heldSince := some 0 })] } },
     by decide +kernel⟩,
   ⟨2047, 7, 147440, 0,
     { st [(Reg.FLOWCFG_STALL_ALERT, 1)] with
         time := { groom := 1000 }, egress := { scheds := [(2047, { waitQueue := [147440], stalls := [(7, 0)] })] } },
     by decide +kernel⟩,
   ⟨7, State.reset, by decide +kernel⟩⟩

theorem witness_TeamCommands :
    (∃ (t : Team) (s : State), s.groom.up = true ∧ setupError s t (staged s t) = 0) ∧
    (∃ (t : Team) (s : State), s.groom.up = true ∧ setupError s t (staged s t) ≠ 0) ∧
    (∃ (t : Team) (s : State), s.groom.up = true ∧ (teamState s t = TeamState.ACTIVE ∨ teamState s t =
      TeamState.ORPHANED ∨ teamState s t = TeamState.FAILED)) ∧
    (∃ (t : Team) (s : State), s.groom.up = true ∧ reviseError s t (staged s t) = 0 ∧ s.coll.slots = []) ∧
    (∃ (t : Team) (s : State), s.groom.up = true ∧ teamState s t = TeamState.RETIRED) :=
  ⟨⟨16383, st teamRegs, by decide +kernel⟩,
   ⟨16383, st [(Reg.TEAM_STATE 16383, 4)], by decide +kernel⟩,
   ⟨16383, st [(Reg.TEAM_STATE 16383, TeamState.ORPHANED)], by decide +kernel⟩,
   ⟨16383,
     { st ((Reg.TEAM_STATE 16383, 1) :: (Reg.TEAM_REV 16383, 1) :: teamRegs) with
         coll := { teams := [(16383, { staged (st teamRegs) 16383 with firstMember := 5, members := 0 })] } },
     by decide +kernel⟩,
   ⟨16383, st [(Reg.TEAM_STATE 16383, 2)], by decide +kernel⟩⟩

theorem witness_TracesReachTheirChunk :
    (∃ (g : Facet) (id : Nat) (f : Frame) (rest : List (Nat × Frame)) (s : State), poolQueue s g = (id, f) ::
      rest ∧ expired s f = false ∧ findFrame s id = some f ∧ f.place = .poolWait ∧ (f.facet = g ∨ pairIsDown s
      f.facet g = false) ∧ poolUsed s g + hdrCells f.hdr ≤ rd s Reg.ARITHCFG_TRACE_POOL * 4096 ∧ placesTaken s g <
      10240) ∧
    (∃ (id e : Nat) (f : Frame) (s : State), let ext := f.blocks.getD 0 0
      let t := extTeam ext
      let j := extChunk ext % (team s t).window
      findFrame s id = some f ∧ f.place = .pool ∧ f.whole = true ∧ s.coll.stints.any (fun x => decide (x.frame = id)) = false ∧ s.coll.yoke.any (fun x => decide (x.frame = id)) = false ∧ liveCheck s f = none ∧ entryOf s (team s t) (hdrSrc f.hdr) = some e ∧ (extChunk ext + 65536 - rd s (Reg.TEAM_BASE t)) % 65536 < (team s t).window ∧ retains (chunkSlot s t j) (extChunk ext) = false ∧ (chunkSlot s t j).state = 0 ∧ isYoke (team s t).opc = false) :=
  ⟨⟨7, 1, { place := .poolWait, home := 7, facet := 7 }, [],
     fr 1 { place := .poolWait, home := 7, facet := 7 } [], by decide +kernel⟩,
   ⟨1, 0, { place := .pool, whole := true, blocks := [0] },
     { fr 1 { place := .pool, whole := true, blocks := [0] } [(Reg.TEAM_STATE 0, 1), (Reg.MEMBER_SRC 0, 0)] with
         coll := { teams := [(0, { members := 1 })] } }, by dsimp only; decide +kernel⟩⟩

theorem witness_ChunkTimersAndParents :
    (∃ (t : Team) (j : Slot) (s : State), (chunkSlot s t j).state = 1 ∧ (team s t).timeout * 1000 ≤ now s -
      (chunkSlot s t j).since) ∧
    (∃ (t : Team) (j : Slot) (s : State), (chunkSlot s t j).state = 2 ∧ (team s t).resultTimeout * 1000 ≤ now s -
      (chunkSlot s t j).since) ∧
    (∃ (id : Nat) (f : Frame) (s : State), let ext := f.blocks.getD 0 0
      let t := extTeam ext
      let x := team s t
      let j := extChunk ext % x.window
      let k := chunkSlot s t j
      findFrame s id = some f ∧ f.place = .localTo ∧ f.whole = true ∧ hdrKind f.hdr = KindCode.RESULT ∧ fromParent s f = true ∧ extOpc ext = x.opc ∧ extFmt ext = x.fmt ∧ extMode ext = x.mode ∧ k.state = 2 ∧ k.chunk = extChunk ext ∧ hdrLen f.hdr = 1 + shards x.opc * k.blocks.getD 0 + x.digestEn) ∧
    (∃ (id : Nat) (f : Frame) (s : State), findFrame s id = some f ∧ f.place = .localTo ∧ f.whole = true ∧
      hdrKind f.hdr = KindCode.NOTIFY ∧ hdrArith f.hdr = 1 ∧ fromParent s f = true ∧ hdrChan f.hdr =
      Cause.TEAM_RETIRED) :=
  ⟨⟨16383, 1023,
     { State.reset with time := { groom := 1000 }, coll := { teams := [(16383, { timeout := 1 })], slots := [(16777215, { state := 1 })] } },
     by decide +kernel⟩,
   ⟨16383, 1023,
     { State.reset with time := { groom := 1000 }, coll := { teams := [(16383, { resultTimeout := 1 })], slots := [(16777215, { state := 2 })] } },
     by decide +kernel⟩,
   ⟨1, { hdr := resultHdr, place := .localTo, whole := true, blocks := [0, 0] },
     { fr 1 { hdr := resultHdr, place := .localTo, whole := true, blocks := [0, 0] } [(Reg.TEAM_STATE 0, 1)] with
         coll := { teams := [(0, { position := 0, parent := 3 })], slots := [(0, { state := 2, blocks := some 1 })] } },
     by dsimp only; decide +kernel⟩,
   ⟨1, { hdr := retiredHdr, place := .localTo, whole := true, blocks := [0] },
     { fr 1 { hdr := retiredHdr, place := .localTo, whole := true, blocks := [0] } [(Reg.TEAM_STATE 0, 1)] with
         coll := { teams := [(0, { position := 0, parent := 3 })] } }, by decide +kernel⟩⟩

theorem witness_Stints :
    (∃ (e : Engine) (x : Stint) (s : State), dutyAdmits s (e.val / 40) 3 = true ∧
      rd s (Reg.HENGINE_STATE e) = 0 ∧ stintOf s e = none ∧ chooseStint s e = some x) ∧
    (∃ (e : Engine) (x : Stint) (s : State), stintOf s e = some x ∧ x.kind ≠ 1 ∧
      2048 * x.section_ + 2048 < stintElems s x) ∧
    (∃ (g : Facet) (w : Outgoing) (s : State),
      s.coll.outgoing.find? (fun x => decide (x.facet = g.val)) = some w ∧
      stagingRoom s g 2 w.blocks.length = true) ∧
    (∃ (e : Engine) (c : Fin 10) (x : Stint) (s : State), stintOf s e = some x ∧ x.failed = [] ∧
      rd s (Reg.HENGINE_SUSPECT e) + 1 < rd s Reg.ARITHCFG_SUSPECT_LIMIT ∧
      rd s (Reg.HENGINE_SUSPECT e) < 255) :=
  ⟨⟨319, aStint, { State.reset with coll := { stints := [aStint] } }, by decide +kernel⟩,
   ⟨319, { aStint with claimed := some 319 },
     { State.reset with
         coll := { stints := [{ aStint with claimed := some 319 }], slots := [(0, { blocks := some 1025 })] } },
     by decide +kernel⟩,
   ⟨7, ⟨7, 0, KindCode.RESULT, 3, [0, 0]⟩,
     { State.reset with coll := { outgoing := [⟨7, 0, KindCode.RESULT, 3, [0, 0]⟩] } }, by decide +kernel⟩,
   ⟨319, 9, { aStint with claimed := some 319 },
     { st [(Reg.ARITHCFG_SUSPECT_LIMIT, 2)] with coll := { stints := [{ aStint with claimed := some 319 }] } },
     by decide +kernel⟩⟩

theorem witness_YokeBands :
    (∃ (g : Facet) (bad : Nat) (s : State), dutyAdmits s g 2 = true ∧ yokeIn s g = true ∧ (∀ x ∈ s.coll.yoke,
      x.frame ≠ bad)) ∧
    (∃ (g : Facet) (b : Band) (s : State), issuedBand s g = some b ∧ s.coll.openPasses.contains b.pass = true) ∧
    (∃ (g : Facet) (c : Fin 2) (b : Band) (s : State), issuedBand s g = some b ∧ b.tries = 0 ∧ yokeIn s g = true
      ∧ rd s (Reg.YOKE_SUSPECT g) + 1 < rd s Reg.ARITHCFG_SUSPECT_LIMIT ∧ rd s (Reg.YOKE_SUSPECT g) < 255) :=
  ⟨⟨7, 0, { State.reset with coll := { bands := [aBand] } }, by decide +kernel⟩,
   ⟨7, { aBand with issued := true },
     { State.reset with coll := { bands := [{ aBand with issued := true }], openPasses := [1] } },
     by decide +kernel⟩,
   ⟨7, 1, { aBand with issued := true },
     { st [(Reg.ARITHCFG_SUSPECT_LIMIT, 2)] with coll := { bands := [{ aBand with issued := true }] } },
     by decide +kernel⟩⟩

theorem witness_EnginesBlocksAndAdministration :
    (∃ (t : Team) (j : Slot) (corrected : Nat) (s : State), teamState s t = TeamState.ACTIVE ∧ j.val < (team s
      t).window ∧ inHbm s t j = true ∧ (chunkSlot s t j).staged = false ∧ blockWanted s t j = true ∧ stageUsed s
      (homeOf s t j) + slotBytes (team s t) ≤ rd s Reg.ARITHCFG_STAGE_AREA * 1048576) ∧
    (∃ (t : Team) (j : Slot) (s : State), chunkBusy s t j = false ∧ (s.coll.writeBack.filter (fun y => decide
      (homeOf s y.1 y.2 = homeOf s t j))).head? = some (t.val, j.val)) ∧
    (∃ (e e' : Engine) (s : State), s.groom.up = true ∧ rd s (Reg.HENGINE_STATE e) = 0 ∧ e' ≠ e ∧ e'.val / 40 =
      e.val / 40 ∧ rd s (Reg.HENGINE_STATE e') = 0) ∧
    (∃ (e : Engine) (s : State), s.groom.up = true ∧ rd s (Reg.HENGINE_STATE e) = 1) ∧
    (∃ (g : Facet) (s : State), s.groom.up = true ∧ rd s (Reg.YOKE_STATE g) = 0 ∧ s.coll.yoke = []) ∧
    (∃ (g : Facet) (s : State), s.groom.up = true ∧ rd s (Reg.YOKE_STATE g) = 1) :=
  ⟨⟨16383, 63, 2,
     { st [(Reg.TEAM_STATE 16383, 1)] with
         coll := { teams := [(16383, { window := 64, place := 128, homes := List.replicate 64 7 })], stints := [{ aStint with team := 16383, slot := 63 }] } },
     by decide +kernel⟩,
   ⟨16383, 1023, { State.reset with coll := { writeBack := [(16383, 1023)] } }, by decide +kernel⟩,
   ⟨319, 280, State.reset, by decide +kernel⟩,
   ⟨319, st [(Reg.HENGINE_STATE 319, 1)], by decide +kernel⟩,
   ⟨7, State.reset, by decide +kernel⟩,
   ⟨7, st [(Reg.YOKE_STATE 7, 1)], by decide +kernel⟩⟩

theorem witness_EpochsAndElection :
    (∃ (id : Nat) (f : Frame) (s : State), let b1 := (f.blocks.getD 0 0).toNat
      let b2 := (f.blocks.getD 1 0).toNat
      findFrame s id = some f ∧ f.place = .localTo ∧ f.whole = true ∧ hdrKind f.hdr = KindCode.EPOCH ∧ rd s (Reg.PORT_PEER_ROLE f.ingress) ≤ 1 ∧ hdrHop f.hdr = 1 ∧ hdrLen f.hdr = 2 ∧ f.blocks.length = 2 ∧ 16 ≤ field b2 91 5 ∧ field b2 91 5 ≤ 24) ∧
    (∃ (e : Nat × Candidate) (s : State), epochState s = EpochState.STARTING ∧ bestSource s = some e) ∧
    (∃ (s : State), epochState s = EpochState.STARTING ∧ bestSource s = none ∧ rd s Reg.EPOCH_PRIO ≠ 255) ∧
    (∃ (s : State), epochState s = EpochState.FOLLOWER ∧ sources s = [] ∧ edgesGood s = false ∧ lapseTick s + 3 *
      periodTicks s ≤ now s) ∧
    (∃ (s : State), epochState s = EpochState.HOLDOVER ∧ s.clock.heldSince + rd s Reg.EPOCH_HOLD_ELECT * 1000000
      ≤ now s) ∧
    (∃ (s : State), rd s Reg.EPOCH_EPOCH_IN_EN = 0) ∧
    (∃ (s : State), rd s Reg.EPOCH_EPOCH_IN_EN ≠ 0) ∧
    (∃ (s : State), rd s Reg.EPOCH_EPOCH_IN_EN ≠ 0 ∧ ((1024 < tickGap (now s) (rd s Reg.EPOCH_BOUNDARY) ∧ 1024 <
      tickGap (now s) s.clock.next) ∨ (∃ e, s.clock.lastEdge = some e ∧ now s - e < 1000))) :=
  ⟨⟨1, epochFrame, fr 1 epochFrame [(Reg.PORT_PEER_ROLE 2047, 1)], by dsimp only; decide +kernel⟩,
   ⟨(2047, aCandidate),
     { st [(Reg.IDENTITY_SERIAL, 1), (Reg.EPOCH_STATE, EpochState.STARTING)] with
         clock := { candidates := [(2047, aCandidate)] } }, by decide +kernel⟩,
   ⟨st [(Reg.EPOCH_STATE, EpochState.STARTING), (Reg.EPOCH_PRIO, 254)], by decide +kernel⟩,
   ⟨{ st [(Reg.EPOCH_STATE, EpochState.FOLLOWER)] with time := { groom := 6291456 } }, by decide +kernel⟩,
   ⟨{ st [(Reg.EPOCH_STATE, EpochState.HOLDOVER), (Reg.EPOCH_HOLD_ELECT, 1)] with time := { groom := 1000000 } },
     by decide +kernel⟩,
   ⟨st [(Reg.EPOCH_EPOCH_IN_EN, 0)], by decide +kernel⟩,
   ⟨{ st [(Reg.EPOCH_EPOCH_IN_EN, 1)] with time := { groom := 1024 }, clock := { lastEdge := some 24 } },
     by decide +kernel⟩,
   ⟨{ st [(Reg.EPOCH_EPOCH_IN_EN, 1)] with time := { groom := 1025 } },
     by exact ⟨by decide +kernel, Or.inl (by decide +kernel)⟩⟩⟩

theorem witness_EpochBoundary :
    ∃ (s : State), epochState s ≠ EpochState.STARTING ∧ s.clock.jump = none ∧ swapWaits s = false :=
  ⟨st [(Reg.EPOCH_STATE, EpochState.ROOT)], by decide +kernel⟩

theorem witness_SwapArming :
    (∃ (s : State), s.groom.up = true ∧ rd s Reg.SWAP_STATE = 0 ∧ oldSetHeld s = false) ∧
    (∃ (s : State), s.groom.up = true ∧ (rd s Reg.SWAP_STATE = 2 ∨ rd s Reg.SWAP_STATE = 3)) ∧
    (∃ (s : State), rd s Reg.SWAP_STATE = 1 ∧ s.sets.expectHi * 2 ^ 64 + s.sets.expectLo ≠ 0 ∧
      s.sets.expectHi * 2 ^ 64 + s.sets.expectLo ≠ setDigest s.shadow) ∧
    (∃ (s : State), rd s Reg.SWAP_STATE = 1 ∧
      (s.sets.expectHi * 2 ^ 64 + s.sets.expectLo = 0 ∨ s.sets.expectHi * 2 ^ 64 + s.sets.expectLo = setDigest
        s.shadow) ∧ s.sets.target ≠ 0 ∧ s.sets.target ≤ rd s Reg.EPOCH_NUMBER + 1) ∧
    (∃ (s : State), rd s Reg.SWAP_STATE = 1 ∧
      (s.sets.expectHi * 2 ^ 64 + s.sets.expectLo = 0 ∨ s.sets.expectHi * 2 ^ 64 + s.sets.expectLo = setDigest
        s.shadow) ∧ rd s Reg.EPOCH_NUMBER + 1 < s.sets.target ∧ longOk s = true ∧
      firstChordFault s.shadow = none ∧ firstGroupFault s = none ∧ regionsOk s = true ∧
      shadowRd s Reg.BUFCFG_SPILL_GIB + shadowRd s Reg.ARITHCFG_ACC_GIB ≤ 24 ∧ twinDestsOk s = true) ∧
    (∃ (s : State), s.groom.up = true ∧ swapWaits s = true) :=
  ⟨⟨State.reset, by decide +kernel⟩,
   ⟨st [(Reg.SWAP_STATE, 3)], by decide +kernel⟩,
   ⟨{ st [(Reg.SWAP_STATE, 1)] with sets := { expectLo := setDigest [] + 1 } },
     by exact ⟨by decide +kernel, expect_ne_zero _, expect_ne_digest _⟩⟩,
   ⟨{ st [(Reg.SWAP_STATE, 1)] with sets := { target := 1 } },
     by exact ⟨by decide +kernel, Or.inl (by decide +kernel), by decide +kernel, by decide +kernel⟩⟩,
   ⟨{ st [(Reg.SWAP_STATE, 1)] with sets := { target := 2 } },
     by exact ⟨by decide +kernel, Or.inl (by decide +kernel), by decide +kernel⟩⟩,
   ⟨st [(Reg.SWAP_STATE, 2)], by decide +kernel⟩⟩

theorem witness_SwapApplied :
    (∃ (s : State), rd s Reg.SWAP_STATE = 1 ∧
      (s.sets.expectHi * 2 ^ 64 + s.sets.expectLo = 0 ∨ s.sets.expectHi * 2 ^ 64 + s.sets.expectLo = setDigest
        s.shadow) ∧ s.sets.target = 0 ∧ s.sets.trigger = 0xFFFF ∧ longOk s = true ∧
      firstChordFault s.shadow = none ∧ firstGroupFault s = none ∧ regionsOk s = true ∧
      shadowRd s Reg.BUFCFG_SPILL_GIB + shadowRd s Reg.ARITHCFG_ACC_GIB ≤ 24 ∧ twinDestsOk s = true ∧
      runningFault s = none) ∧
    (∃ (s : State), rd s Reg.SWAP_STATE = 5) :=
  ⟨⟨st [(Reg.SWAP_STATE, 1)], by exact ⟨by decide +kernel, Or.inl (by decide +kernel), by decide +kernel⟩⟩,
   ⟨st [(Reg.SWAP_STATE, 5)], by decide +kernel⟩⟩

theorem witness_Drains :
    (∃ (g : Group) (s : State), s.groom.up = true ∧ rd s (Reg.DRAIN_STATE g.val) ≠ 1 ∧ s.forward.drains = [] ∧
      marking s = [] ∧ cacheEntries s (fun x _ => decide (x = g.val)) = [] ∧ untrackedSlots s g.val = [] ∧ (∀ p ∈
      currents s g.val, 2048 ≤ p ∨ vlEmpty s p 8 = true)) ∧
    (∃ (g : Group) (s : State), rd s (Reg.DRAIN_STATE g.val) = 1 ∧ (drainRun s g.val).started + rd s
      Reg.CONFSET_MARK_TIMEOUT * 1000 ≤ now s) ∧
    (∃ (k : Facet) (e : Echo) (s : State), s.forward.echoes.find? (fun x => decide (x.facet = k.val)) = some e ∧
      stagingRoom s k.val 1 1 = true) ∧
    (∃ (id : Nat) (f : Frame) (s : State), findFrame s id = some f ∧ f.place = .localTo ∧ f.whole = true ∧
      hdrKind f.hdr = KindCode.DRAIN_MARK ∧ markEcho (f.blocks.getD 0 0) ≠ 0 ∧ s.forward.drains.find? (fun e =>
      e.2.out.any (fun m => decide (m.1 = markNumber (f.blocks.getD 0 0)))) = none) ∧
    (∃ (k : Facet) (n : Fin 65536) (s : State), (Tab.find s.forward.cache (k.val * 65536 + n.val)).isSome = true
      ∧ cacheFree s (k.val * 65536 + n.val) = true) ∧
    (∃ (g : Group) (i : Fin 256) (s : State), let k := g.val * 256 + i.val
      Tab.get 0 s.forward.untracked k ≠ 0 ∧ Tab.get 0 s.forward.untracked k ≤ now s ∧ rd s (Reg.DRAIN_STATE g.val) ≠ 1) :=
  ⟨⟨4095, State.reset, by decide +kernel⟩,
   ⟨4095,
     { st [(Reg.DRAIN_STATE 4095, 1), (Reg.CONFSET_MARK_TIMEOUT, 1)] with time := { groom := 1000 } },
     by decide +kernel⟩,
   ⟨7, ⟨7, 0, 0, 0, 0, 0⟩, { State.reset with forward := { echoes := [⟨7, 0, 0, 0, 0, 0⟩] } },
     by decide +kernel⟩,
   ⟨1, echoFrame, fr 1 echoFrame [], by decide +kernel⟩,
   ⟨7, 65535,
     { st [(Reg.FRAME_HOP_LIMIT, 1), (Reg.BUFCFG_RES_LIMIT, 1)] with
         time := { groom := 1000 }, forward := { cache := [(524287, ⟨0, 0, 0, 0⟩)] } }, by decide +kernel⟩,
   ⟨4095, 255, { State.reset with time := { groom := 5 }, forward := { untracked := [(1048575, 5)] } },
     by dsimp only; decide +kernel⟩⟩

theorem witness_TwinMessages :
    (∃ (s : State), (twinState s = TwinState.FORMING ∨ twinState s = TwinState.REJOINING) ∧ s.twin.sentAll = true) ∧
    (∃ (team : Team) (el v : Nat) (s : State), (twinState s = TwinState.FORMING ∨ twinState s = TwinState.PAIRED)) ∧
    (∃ (m : TwinMessage) (s : State), (twinState s = TwinState.NONE ∨ twinState s = TwinState.ALONE)) ∧
    (∃ (s : State), (twinState s = TwinState.PAIRED ∨ twinState s = TwinState.REJOINING) ∧ peerSilent s = true) :=
  ⟨⟨{ st [(Reg.TWIN_STATE, TwinState.REJOINING)] with twin := { sentAll := true } }, by decide +kernel⟩,
   ⟨16383, 2, 1, st [(Reg.TWIN_STATE, TwinState.PAIRED)], by decide +kernel⟩,
   ⟨.complete, st [(Reg.TWIN_STATE, TwinState.ALONE)], by decide +kernel⟩,
   ⟨st [(Reg.TWIN_STATE, TwinState.REJOINING)], by decide +kernel⟩⟩

theorem witness_DeferredSwap :
    (∃ (s : State), rd s Reg.SWAP_STATE = 2 ∧ s.sets.target ≠ 0 ∧ s.sets.target ≤ rd s Reg.EPOCH_NUMBER ∧
      s.sets.force ≠ 1) ∧
    (∃ (s : State), rd s Reg.SWAP_STATE = 3 ∧ s.sets.target ≠ 0 ∧ s.sets.target ≤ rd s Reg.EPOCH_NUMBER ∧
      s.sets.force ≠ 1) ∧
    (∃ (late : Bool) (s : State), (rd s Reg.SWAP_STATE = 2 ∨ rd s Reg.SWAP_STATE = 3) ∧ s.sets.target ≠ 0 ∧
      s.sets.target ≤ rd s Reg.EPOCH_NUMBER ∧ s.sets.force = 1) :=
  ⟨⟨{ st [(Reg.SWAP_STATE, 2), (Reg.EPOCH_NUMBER, 1)] with sets := { target := 1 } }, by decide +kernel⟩,
   ⟨{ st [(Reg.SWAP_STATE, 3), (Reg.EPOCH_NUMBER, 1)] with sets := { target := 1 } }, by decide +kernel⟩,
   ⟨true, { st [(Reg.SWAP_STATE, 3), (Reg.EPOCH_NUMBER, 1)] with sets := { target := 1, force := 1 } },
     by decide +kernel⟩⟩

theorem witness_BanksAndCaptures :
    (∃ (b bank : Bank) (sel j : Nat) (e : Event) (s : State), (rd s (Reg.CBANK_OVF b.val)).testBit j = true) ∧
    (∃ (b : Bank) (s : State), s.groom.up = true) ∧
    (∃ (e : BitVec 48) (s : State), s.groom.up = true ∧ rd s Reg.EPOCH_NUMBER < e.toNat) ∧
    (∃ (e : BitVec 48) (s : State), e.toNat ≤ rd s Reg.EPOCH_NUMBER) :=
  ⟨⟨207, 207, 0, 7, { }, st [(Reg.CBANK_OVF 207, 128)], by decide +kernel⟩,
   ⟨207, State.reset, by decide +kernel⟩,
   ⟨1, State.reset, by decide +kernel⟩,
   ⟨0, State.reset, by decide +kernel⟩⟩

theorem witness_CountersProgrammed :
    (∃ (b : Bank) (i : Fin 8) (ws : List (Fin 6 × BitVec 16)) (s : State),
      let vs := ws.map (fun w => (w.1.val, w.2.toNat))
      let after := counterAfter s (b.val * 8 + i.val) vs
      (selectRow (bankType (b.val % 26)) (after 0) = none ∨ ∃ u y, selectRow (bankType (b.val % 26)) (after 0)
        = some (u, y) ∧ (unitAllowed u (after 1) = false ∨ (after 5 ≠ 0xFFFF ∧ y = false)))) ∧
    (∃ (b : Bank) (i : Fin 8) (ws : List (Fin 6 × BitVec 16)) (s : State) (u : SelUnits) (y : Bool),
      let c := b.val * 8 + i.val
      let vs := ws.map (fun w => (w.1.val, w.2.toNat))
      let after := counterAfter s c vs
      s.groom.up = true ∧ ws ≠ [] ∧ (∀ w ∈ vs, ∃ r, rowOf ⟨0x0F01, c, w.1⟩ = some r ∧ r.inRange w.2 = true) ∧
      selectRow (bankType (b.val % 26)) (after 0) = some (u, y) ∧ unitAllowed u (after 1) = true ∧
      (after 5 = 0xFFFF ∨ y = true)) :=
  ⟨⟨207, 7, [(0, 5)], State.reset, by dsimp only; exact Or.inl (by decide +kernel)⟩,
   ⟨207, 7, [(0, 0)], State.reset, .any, false,
     by dsimp only; refine ⟨by decide +kernel, by decide, fun w hw => ?_, by decide +kernel⟩; cases List.mem_singleton.mp hw; exact ⟨_, rfl, by decide +kernel⟩⟩⟩

theorem witness_TelemetryRequests :
    (∃ (id : Nat) (f : Frame) (s : State), findFrame s id = some f ∧ f.place = .localTo ∧ f.whole = true ∧
      hdrKind f.hdr = KindCode.TELEMETRY ∧
      (rd s (Reg.TENANT_TELEM_EN (hdrTen f.hdr)) = 0 ∨ (telemBucket s (hdrTen f.hdr)).tokens < 1000000)) ∧
    (∃ (id : Nat) (f : Frame) (s : State),
      let n := hdrTen f.hdr
      let b := f.blocks.getD 0 0
      findFrame s id = some f ∧ f.place = .localTo ∧ f.whole = true ∧ hdrKind f.hdr = KindCode.TELEMETRY ∧
      rd s (Reg.TENANT_TELEM_EN n) ≠ 0 ∧ 1000000 ≤ (telemBucket s n).tokens ∧ telemBad f b = false ∧
      (∀ r ∈ telemRefs b, rd s (Reg.CCOUNTER_TENFILT (refBank r * 8 + refCounter r)) = n)) ∧
    (∃ (k : Facet) (e : Nat × Block × List Block) (s : State),
      s.forward.telem.find? (fun x => decide (x.1 = k.val)) = some e ∧
      stagingRoom s k.val 3 e.2.2.length = true) :=
  ⟨⟨1, telemFrame, fr 1 telemFrame [], by decide +kernel⟩,
   ⟨1, telemFrame, fr 1 telemFrame [(Reg.TENANT_TELEM_EN 1023, 1), (Reg.CCOUNTER_TENFILT 1663, 1023)],
     by dsimp only; decide +kernel⟩,
   ⟨7, (7, 0, [0]), { State.reset with forward := { telem := [(7, 0, [0])] } }, by decide +kernel⟩⟩

theorem witness_VetRequests :
    (∃ (u : Fin 20480) (s : State), s.groom.up = true ∧ vetExists u.val = true ∧ Tab.find s.vets.requests u.val =
      none ∧ rd s (Reg.VET_STATE u.val) = 0) ∧
    (∃ (u : Fin 20480) (q : VetRequest) (s : State), s.groom.up = true ∧ vetExists u.val = true ∧ Tab.find
      s.vets.requests u.val = some q) ∧
    (∃ (u : Fin 20480) (s : State), s.groom.up = true ∧ vetRun s u.val = none ∧ rd s (Reg.VET_STATE u.val) = 1) ∧
    (∃ (u : Fin 20480) (r : VetRun) (s : State), s.groom.up = true ∧ vetRun s u.val = some r ∧ r.stage ≠ 4) ∧
    (∃ (u : Fin 20480) (d : Nat) (s : State), vetExists u.val = true ∧ vetPeriod s (vetKind u.val) ≠ 0 ∧ lastDue
      s u.val = some d ∧ Tab.get 0 s.vets.dues u.val ≤ d ∧ Tab.find s.vets.requests u.val = none ∧ rd s
      (Reg.VET_STATE u.val) = 0) ∧
    (∃ (u : Fin 20480) (q : VetRequest) (s : State), vetExists u.val = true ∧ vetPeriod s (vetKind u.val) ≠ 0 ∧
      Tab.find s.vets.requests u.val = some q ∧ q.periodic = true ∧ q.overdue = false ∧ q.due + vetPeriod s
      (vetKind u.val) * hourTicks ≤ now s) ∧
    (∃ (u : Fin 20480) (x : Nat × Nat × Nat) (s : State), Tab.find s.vets.retry u.val = some x ∧ x.2.2 + rd s
      Reg.VETCFG_RETRY_S * secondTicks ≤ now s ∧ Tab.find s.vets.requests u.val = none) ∧
    (∃ (u : Fin 20480) (x : Nat × Nat × Nat) (s : State), Tab.find s.vets.recheck u.val = some x ∧ x.2.2 + rd s
      Reg.VETCFG_RECHECK * hourTicks ≤ now s ∧ Tab.find s.vets.requests u.val = none) ∧
    (∃ (u : Fin 20480) (q : VetRequest) (s : State), Tab.find s.vets.requests u.val = some q ∧ vetRun s u.val =
      none ∧ vetMay s u.val q = .start ∧ vetKind u.val < 2 ∧ s.vets.requests.all (fun e => !vetBefore e (u.val, q)
      || e.2.denied || decide (vetMay s e.1 e.2 = .wait)) = true) ∧
    (∃ (u : Fin 20480) (q : VetRequest) (s : State), Tab.find s.vets.requests u.val = some q ∧ vetRun s u.val =
      none ∧ vetMay s u.val q = .start ∧ 2 ≤ vetKind u.val ∧ s.vets.requests.all (fun e => !vetBefore e (u.val, q)
      || e.2.denied || decide (vetMay s e.1 e.2 = .wait)) = true) ∧
    (∃ (u : Fin 20480) (q : VetRequest) (scan : Bool) (s : State), Tab.find s.vets.requests u.val = some q ∧
      vetRun s u.val = none ∧ vetMay s u.val q = .start ∧ s.vets.requests.all (fun e => !vetBefore e (u.val, q) ||
      e.2.denied || decide (vetMay s e.1 e.2 = .wait)) = true) ∧
    (∃ (u : Fin 20480) (q : VetRequest) (scan granted : Bool) (s : State), Tab.find s.vets.requests u.val = some
      q ∧ vetRun s u.val = none ∧ vetMay s u.val q = .refuse ∧ s.vets.requests.all (fun e => !vetBefore e (u.val,
      q) || e.2.denied || decide (vetMay s e.1 e.2 = .wait)) = true) :=
  ⟨⟨16895, State.reset, by decide +kernel⟩,
   ⟨16895, aRequest, { State.reset with vets := { requests := [(16895, aRequest)] } }, by decide +kernel⟩,
   ⟨16895, st [(Reg.VET_STATE 16895, 1)], by decide +kernel⟩,
   ⟨16895, { prio := 0, trig := 0, stage := 0 },
     { st [] with vets := { runs := [(16895, { prio := 0, trig := 0, stage := 0 })] } }, by decide +kernel⟩,
   ⟨8319, 3571875000000,
     { st [(Reg.VETCFG_PERIOD_VERTEX, 1)] with time := { groom := 3571875000000 } }, by decide +kernel⟩,
   ⟨8319, aRequest,
     { st [(Reg.VETCFG_PERIOD_VERTEX, 1)] with
         time := { groom := 3600000000000 }, vets := { requests := [(8319, aRequest)] } }, by decide +kernel⟩,
   ⟨16895, (1, 0, 0),
     { st [(Reg.VETCFG_RETRY_S, 1)] with
         time := { groom := 1000000000 }, vets := { retry := [(16895, (1, 0, 0))] } }, by decide +kernel⟩,
   ⟨16895, (2, 2, 0),
     { st [(Reg.VETCFG_RECHECK, 1)] with
         time := { groom := 3600000000000 }, vets := { recheck := [(16895, (2, 2, 0))] } }, by decide +kernel⟩,
   ⟨4103, aRequest, { State.reset with vets := { requests := [(4103, aRequest)] } }, by decide +kernel⟩,
   ⟨16895, aRequest, { State.reset with vets := { requests := [(16895, aRequest)] } }, by decide +kernel⟩,
   ⟨4103, aRequest, true, { State.reset with vets := { requests := [(4103, aRequest)] } }, by decide +kernel⟩,
   ⟨16895, aRequest, true, false,
     { st [(Reg.CHORD_STATE 511, 3)] with
         light := { chords := [(511, { portA := 2047 })] }, vets := { requests := [(16895, aRequest)] } },
     by decide +kernel⟩⟩

theorem witness_VetRuns :
    (∃ (u : Fin 20480) (r : VetRun) (s : State), vetRun s u.val = some r ∧ r.stage < 2 ∧ allDrained s (vetPorts s
      u.val) = true ∧ (r.stage = 1 ∨ allAcked s (vetPorts s u.val) = true)) ∧
    (∃ (u : Fin 20480) (r : VetRun) (s : State), vetRun s u.val = some r ∧ r.stage = 0) ∧
    (∃ (u : Fin 20480) (r : VetRun) (s : State), vetRun s u.val = some r ∧ r.stage = 1) ∧
    (∃ (u : Fin 20480) (r : VetRun) (p : Nat) (s : State), vetRun s u.val = some r ∧ r.stage = 2 ∧ vetKind u.val
      ≠ 4 ∧ r.failed.testBit 0 = false ∧ nextPoint (vetKind u.val) r.point = some (p, false)) ∧
    (∃ (u : Fin 20480) (r : VetRun) (p : Nat) (s : State), vetRun s u.val = some r ∧ r.stage = 2 ∧ vetKind u.val
      ≠ 4 ∧ r.failed.testBit 0 = false ∧ nextPoint (vetKind u.val) r.point = some (p, true)) ∧
    (∃ (u : Fin 20480) (r : VetRun) (n : BitVec 32) (s : State), vetRun s u.val = some r ∧ r.stage = 2 ∧ vetKind
      u.val ≠ 4 ∧ r.point = 1) ∧
    (∃ (u : Fin 20480) (r : VetRun) (s : State), vetRun s u.val = some r ∧ r.stage = 2 ∧ vetKind u.val ≠ 4 ∧
      r.failed = 0 ∧ r.passed = true ∧ nextPoint (vetKind u.val) r.point = none) ∧
    (∃ (u : Fin 20480) (r : VetRun) (passed : Bool) (n : BitVec 32) (s : State), vetRun s u.val = some r ∧
      r.stage = 2 ∧ vetKind u.val = 4 ∧ vetIndex u.val % 32 < 16) ∧
    (∃ (u : Fin 20480) (r : VetRun) (s : State), vetRun s u.val = some r ∧ r.stage = 3) ∧
    (∃ (u : Fin 20480) (r : VetRun) (s : State), vetRun s u.val = some r ∧ r.stage ≠ 4 ∧ s.coll.stints.any
      (vetDelays s u.val) = true) ∧
    (∃ (u : Fin 20480) (r : VetRun) (s : State), vetRun s u.val = some r ∧ r.stage = 4 ∧ r.result = 4) ∧
    (∃ (u : Fin 20480) (r : VetRun) (s : State), vetRun s u.val = some r ∧ r.stage = 4 ∧ r.result ≠ 4) :=
  ⟨⟨16895, { prio := 0, trig := 0, stage := 1 },
     { st [] with vets := { runs := [(16895, { prio := 0, trig := 0, stage := 1 })] } }, by decide +kernel⟩,
   ⟨16895, { prio := 0, trig := 0, stage := 0 },
     { st [] with vets := { runs := [(16895, { prio := 0, trig := 0, stage := 0 })] } }, by decide +kernel⟩,
   ⟨16895, { prio := 0, trig := 0, stage := 1 },
     { st [] with vets := { runs := [(16895, { prio := 0, trig := 0, stage := 1 })] } }, by decide +kernel⟩,
   ⟨4103, { prio := 0, trig := 0, stage := 2, point := 1 }, 2,
     { st [] with vets := { runs := [(4103, { prio := 0, trig := 0, stage := 2, point := 1 })] } },
     by decide +kernel⟩,
   ⟨4103, { prio := 0, trig := 0, stage := 2, point := 5 }, 6,
     { st [] with vets := { runs := [(4103, { prio := 0, trig := 0, stage := 2, point := 5 })] } },
     by decide +kernel⟩,
   ⟨8319, { prio := 0, trig := 0, stage := 2, point := 1 }, 1,
     { st [] with vets := { runs := [(8319, { prio := 0, trig := 0, stage := 2, point := 1 })] } },
     by decide +kernel⟩,
   ⟨39, { prio := 0, trig := 0, stage := 2, point := 6 },
     { st [] with vets := { runs := [(39, { prio := 0, trig := 0, stage := 2, point := 6 })] } },
     by decide +kernel⟩,
   ⟨16879, { prio := 0, trig := 0, stage := 2 }, false, 0xFFFFFFFF,
     { st [] with vets := { runs := [(16879, { prio := 0, trig := 0, stage := 2 })] } }, by decide +kernel⟩,
   ⟨8319, { prio := 0, trig := 0, stage := 3 },
     { st [] with vets := { runs := [(8319, { prio := 0, trig := 0, stage := 3 })] } }, by decide +kernel⟩,
   ⟨39, { prio := 0, trig := 0, stage := 2 },
     { st [(Reg.VETCFG_YIELD, 1)] with
         time := { groom := 1001 }, vets := { runs := [(39, { prio := 0, trig := 0, stage := 2 })] },
         coll := { stints := [aStint] } },
     by decide +kernel⟩,
   ⟨16895, { prio := 0, trig := 0, stage := 4, result := 4 },
     { st [] with vets := { runs := [(16895, { prio := 0, trig := 0, stage := 4, result := 4 })] } },
     by decide +kernel⟩,
   ⟨16895, { prio := 0, trig := 0, stage := 4, result := 2 },
     { st [] with vets := { runs := [(16895, { prio := 0, trig := 0, stage := 4, result := 2 })] } },
     by decide +kernel⟩⟩

theorem witness_StudbookRecords :
    (∃ (r : Raised) (rest : List Raised) (s : State), s.groom.up = true ∧ s.raised = r :: rest ∧ s.book.due = []
      ∧ codeTokens s r.code ≠ 0 ∧ (creditSolid s).book.solid ≠ 0) ∧
    (∃ (r : Raised) (rest : List Raised) (s : State), s.groom.up = true ∧ s.raised = r :: rest ∧ s.book.due = []
      ∧ codeTokens s r.code = 0 ∧ rd s (Reg.CODECFG_SUPPRESSED r.code) < 0xFFFFFFFF) ∧
    (∃ (code : BitVec 16) (s : State), periodsPassed s code.toNat = 0) ∧
    (∃ (code : BitVec 16) (s : State), definedCodes.contains code.toNat = true ∧ s.book.due = [] ∧ periodsPassed
      s code.toNat ≠ 0 ∧ rd s (Reg.CODECFG_SUPPRESSED code.toNat) = 0) ∧
    (∃ (code : BitVec 16) (s : State), s.groom.up = true ∧ definedCodes.contains code.toNat = true ∧ s.book.due =
      [] ∧ periodsPassed s code.toNat ≠ 0 ∧ rd s (Reg.CODECFG_SUPPRESSED code.toNat) ≠ 0 ∧ (creditSolid
      s).book.solid ≠ 0) ∧
    (∃ (s : State), let q := rd s Reg.STUDBOOK_FLASH_NEXT
      s.groom.up = true ∧ s.book.erasing = [] ∧ rd s Reg.STUDBOOK_OLDEST ≤ q ∧ rd s Reg.STUDBOOK_NEXT_SEQ = q + 1 ∧ q % 2048 ≠ 2047 ∧ s.flash.wf = true) ∧
    (∃ (key : Fin 2048) (s : State), s.groom.up = true) ∧
    (∃ (n : BitVec 64) (s : State), s.groom.up = true) ∧
    (∃ (s : State), s.groom.up = true ∧ packInUse s (stagedPack s) = false) ∧
    (∃ (fails : Bool) (s : State), s.groom.up = true ∧ packInUse s (stagedPack s) = true) :=
  ⟨⟨⟨Code.BMI_BUS_FAULT, 8, 0⟩, [], { State.reset with raised := [⟨Code.BMI_BUS_FAULT, 8, 0⟩] },
     by decide +kernel⟩,
   ⟨⟨Code.BMI_BUS_FAULT, 8, 0⟩, [],
     { State.reset with
         raised := [⟨Code.BMI_BUS_FAULT, 8, 0⟩], book := { tokens := [(Code.BMI_BUS_FAULT, 0)] } },
     by decide +kernel⟩,
   ⟨BitVec.ofNat 16 Code.BMI_BUS_FAULT, { State.reset with time := { groom := 999999999 } }, by decide +kernel⟩,
   ⟨BitVec.ofNat 16 Code.BMI_BUS_FAULT, { State.reset with time := { groom := 1000000000 } }, by decide +kernel⟩,
   ⟨BitVec.ofNat 16 Code.BMI_BUS_FAULT,
     { st [(Reg.CODECFG_SUPPRESSED Code.BMI_BUS_FAULT, 1)] with time := { groom := 1000000000 } }, by decide +kernel⟩,
   ⟨st [(Reg.STUDBOOK_FLASH_NEXT, 2046), (Reg.STUDBOOK_NEXT_SEQ, 2047), (Reg.STUDBOOK_OLDEST, 2046)],
     by dsimp only; decide +kernel⟩,
   ⟨2047, State.reset, by decide +kernel⟩,
   ⟨0, State.reset, by decide +kernel⟩,
   ⟨State.reset, by decide +kernel⟩,
   ⟨true,
     { st [(Reg.VETPACK_ACTIVE_SLOT, 0)] with
         vets := { runs := [(39, { prio := 0, trig := 0, stage := 0, packSlot := 1 })] } }, by decide +kernel⟩⟩

theorem witness_SirgoTransports :
    (∃ (m : Fin 2) (dst src port : Nat) (bytes : List Byte) (s : State), s.groom.up = true ∧ rd s
      (Reg.MGMTPORT_ENABLE m.val) ≠ 0 ∧ (portAddresses s m.val).contains dst = true ∧ s.requests.length < 128) ∧
    (∃ (m : Fin 2) (dst src port : Nat) (bytes : List Byte) (s : State), s.groom.up = true ∧ rd s
      (Reg.MGMTPORT_ENABLE m.val) ≠ 0 ∧ (portAddresses s m.val).contains dst = true ∧ 128 ≤ s.requests.length) ∧
    (∃ (m : Fin 2) (p : MgmtPacket) (s : State), s.groom.up = true ∧ (rd s (Reg.MGMTPORT_ENABLE m.val) = 0 ∨ p =
      .other ∨ (∃ dst src bytes, p = .echoRequest dst src bytes ∧ (portAddresses s m.val).contains dst = false) ∨
      ∃ dst src port to_ frag good bytes, p = .udp dst src port to_ frag good bytes ∧ (to_ ≠ 4731 ∨ frag = true ∨
      good = false ∨ (portAddresses s m.val).contains dst = false))) ∧
    (∃ (m : Fin 2) (dst src : Nat) (bytes : List Byte) (s : State), s.groom.up = true ∧ rd s (Reg.MGMTPORT_ENABLE
      m.val) ≠ 0 ∧ (portAddresses s m.val).contains dst = true) ∧
    (∃ (m : Fin 2) (src target : Nat) (s : State), s.groom.up = true ∧ rd s (Reg.MGMTPORT_ENABLE m.val) ≠ 0 ∧
      (portAddresses s m.val).contains target = true) ∧
    (∃ (m : Fin 2) (p : MgmtPacket) (s : State), s.groom.up = false) ∧
    (∃ (m : Fin 2) (up : Bool) (s : State), rd s (Reg.MGMTPORT_LINK m.val) ≠ boolBit up) :=
  ⟨⟨1, 1, 0, 0, [],
     { st [(Reg.MGMTPORT_ENABLE 1, 1), (Reg.MGMTPORT_ADDR_LO 1, 1), (Reg.IDENTITY_SERIAL, 0)] with
         requests := List.replicate 127 ⟨0, 0, 0, 0, 0, []⟩ }, by decide +kernel⟩,
   ⟨1, 1, 0, 0, [],
     { st [(Reg.MGMTPORT_ENABLE 1, 1), (Reg.MGMTPORT_ADDR_LO 1, 1), (Reg.IDENTITY_SERIAL, 0)] with
         requests := List.replicate 128 ⟨0, 0, 0, 0, 0, []⟩ }, by decide +kernel⟩,
   ⟨1, .other, st [(Reg.MGMTPORT_ENABLE 1, 1)], by exact ⟨by decide +kernel, Or.inr (Or.inl rfl)⟩⟩,
   ⟨1, 1, 0, [], st [(Reg.MGMTPORT_ENABLE 1, 1), (Reg.MGMTPORT_ADDR_LO 1, 1), (Reg.IDENTITY_SERIAL, 0)], by decide +kernel⟩,
   ⟨1, 0, 1, st [(Reg.MGMTPORT_ENABLE 1, 1), (Reg.MGMTPORT_ADDR_LO 1, 1), (Reg.IDENTITY_SERIAL, 0)], by decide +kernel⟩,
   ⟨1, .other, { State.reset with groom := { up := false } }, by decide +kernel⟩,
   ⟨1, true, st [(Reg.MGMTPORT_LINK 1, 0)], by decide +kernel⟩⟩

theorem witness_SirgoMessages :
    (∃ (r : Request) (rest : List Request) (items : List Item) (s : State),
      let bs := requestBytes r
      let k := msgKey bs
      let s1 := wr { s with requests := rest } (Reg.KEY_FLOOR k) (msgCounter bs)
      let s2 := if rd s (Reg.KEY_CEILING k) < msgCounter bs then wr s1 (Reg.KEY_CEILING k) (msgCounter bs + 1048576) else s1
      let done := fun (u : State) => wr u (Reg.KEY_LAST_EPOCH k) (rd s Reg.EPOCH_NUMBER)
      let role := rd s (Reg.KEY_ROLE k)
      let out := getItems role (rd s (Reg.KEY_TEN k)) 0 items s2 []
      s.groom.up = true ∧ s.requests = r :: rest ∧ formatGood bs = true ∧ authGood s bs = true ∧
      rd s (Reg.KEY_FLOOR k) < msgCounter bs ∧ keptReply s bs = none ∧ rd s Reg.FIRMWARE_RUNNING_SLOT ≠ 0xFF ∧
      inbandStatus s r k = Status.OK ∧ headStatus bs = Status.OK ∧ msgOp bs = Op.GET ∧
      parseItems (msgBody bs).length (msgBody bs) = some items ∧ items.length = msgItems bs) ∧
    (∃ (r : Request) (rest : List Request) (items : List Item) (s : State),
      let bs := requestBytes r
      let k := msgKey bs
      let s1 := wr { s with requests := rest } (Reg.KEY_FLOOR k) (msgCounter bs)
      let s2 := if rd s (Reg.KEY_CEILING k) < msgCounter bs then wr s1 (Reg.KEY_CEILING k) (msgCounter bs + 1048576) else s1
      let done := fun (u : State) => wr u (Reg.KEY_LAST_EPOCH k) (rd s Reg.EPOCH_NUMBER)
      let role := rd s (Reg.KEY_ROLE k)
      let out := getRange (replyLimit s r.transport) role (rd s (Reg.KEY_TEN k)) items s2
      s.groom.up = true ∧ s.requests = r :: rest ∧ formatGood bs = true ∧ authGood s bs = true ∧
      rd s (Reg.KEY_FLOOR k) < msgCounter bs ∧ keptReply s bs = none ∧ rd s Reg.FIRMWARE_RUNNING_SLOT ≠ 0xFF ∧
      inbandStatus s r k = Status.OK ∧ headStatus bs = Status.OK ∧ msgOp bs = Op.GET_RANGE ∧
      parseItems (msgBody bs).length (msgBody bs) = some items ∧ items.length = msgItems bs) ∧
    (∃ (r : Request) (rest : List Request) (items : List Item) (s : State),
      let bs := requestBytes r
      let k := msgKey bs
      let s1 := wr { s with requests := rest } (Reg.KEY_FLOOR k) (msgCounter bs)
      let s2 := if rd s (Reg.KEY_CEILING k) < msgCounter bs then wr s1 (Reg.KEY_CEILING k) (msgCounter bs + 1048576) else s1
      let done := fun (u : State) => wr u (Reg.KEY_LAST_EPOCH k) (rd s Reg.EPOCH_NUMBER)
      let role := rd s (Reg.KEY_ROLE k)
      let initial := decide (rd s (Reg.KEY_STATE k) = 3)
      let ws := items.map (itemWrite s k (msgCounter bs))
      s.groom.up = true ∧ s.requests = r :: rest ∧ formatGood bs = true ∧ authGood s bs = true ∧
      rd s (Reg.KEY_FLOOR k) < msgCounter bs ∧ keptReply s bs = none ∧ rd s Reg.FIRMWARE_RUNNING_SLOT ≠ 0xFF ∧
      inbandStatus s r k = Status.OK ∧ headStatus bs = Status.OK ∧ msgOp bs = Op.SET ∧
      parseItems (msgBody bs).length (msgBody bs) = some items ∧ items.length = msgItems bs ∧
      setStatus s2 role initial ws = (Status.OK, 0)) ∧
    (∃ (r : Request) (rest : List Request) (g : FlashRegion) (s : State),
      let bs := requestBytes r
      let k := msgKey bs
      let s1 := wr { s with requests := rest } (Reg.KEY_FLOOR k) (msgCounter bs)
      let s2 := if rd s (Reg.KEY_CEILING k) < msgCounter bs then wr s1 (Reg.KEY_CEILING k) (msgCounter bs + 1048576) else s1
      let done := fun (u : State) => wr u (Reg.KEY_LAST_EPOCH k) (rd s Reg.EPOCH_NUMBER)
      let role := rd s (Reg.KEY_ROLE k)
      let initial := decide (rd s (Reg.KEY_STATE k) = 3)
      s.groom.up = true ∧ s.requests = r :: rest ∧ formatGood bs = true ∧ authGood s bs = true ∧
      rd s (Reg.KEY_FLOOR k) < msgCounter bs ∧ keptReply s bs = none ∧ rd s Reg.FIRMWARE_RUNNING_SLOT ≠ 0xFF ∧
      inbandStatus s r k = Status.OK ∧ headStatus bs = Status.OK ∧ msgOp bs = Op.BULK_READ ∧
      bulkStatus role initial (msgItems bs) 8 16 (msgBody bs) (fun x => x.readRole) = Status.OK ∧
      flashRegions[bulkRegion (msgBody bs)]? = some g) ∧
    (∃ (r : Request) (rest : List Request) (g : FlashRegion) (s : State),
      let bs := requestBytes r
      let k := msgKey bs
      let role := rd s (Reg.KEY_ROLE k)
      let initial := decide (rd s (Reg.KEY_STATE k) = 3)
      let a := g.base + bulkOffset (msgBody bs)
      let n := bulkLen (msgBody bs)
      s.groom.up = true ∧ s.requests = r :: rest ∧ formatGood bs = true ∧ authGood s bs = true ∧
      rd s (Reg.KEY_FLOOR k) < msgCounter bs ∧ keptReply s bs = none ∧ rd s Reg.FIRMWARE_RUNNING_SLOT ≠ 0xFF ∧
      inbandStatus s r k = Status.OK ∧ headStatus bs = Status.OK ∧ msgOp bs = Op.BULK_WRITE ∧
      s.flash.wf = true ∧
      bulkStatus role initial (msgItems bs) (8 + n) 256 (msgBody bs) (fun x => x.writeRole) = Status.OK ∧
      flashRegions[bulkRegion (msgBody bs)]? = some g ∧ regionBusy s (bulkRegion (msgBody bs)) = false ∧
      (g.bank ≠ rd s Reg.FIRMWARE_EXEC_BANK ∨ (msgFlags bs).testBit 2 = true) ∧ pagesBlank s a n = true) ∧
    (∃ (key : Nat) (w : Write) (s : State), writeEffect key w.addr w.value = none ∧ w.addr.obj ≠ 0x0F01 ∧
      w.addr.obj ≠ 0x0600) ∧
    (∃ (o i : Nat) (obj : BitVec 16) (inst : BitVec 24) (el : BitVec 8) (v : Nat) (s : State),
      let a : Addr := ⟨obj.toNat, inst.toNat, el.toNat⟩
      let w : Write := ⟨a, bitsOf a / 8, v⟩
      o = a.obj ∧ i = a.inst ∧ s.groom.up = true ∧ ¬ (o = 0x1102 ∧ a.el = 3) ∧ v < 2 ^ bitsOf a ∧
      setStatus s 3 false [w] = (Status.OK, 0)) :=
  ⟨⟨⟨0, 0, 0, 0, 0, signed (head Op.GET 1 56 ++ itemBytes Reg.EPOCH_NUMBER false [])⟩, [],
     [⟨Reg.EPOCH_NUMBER, false, []⟩], asked (head Op.GET 1 56 ++ itemBytes Reg.EPOCH_NUMBER false []),
     by dsimp only; exact ⟨by decide +kernel, rfl, by decide +kernel, signed_authGood _ _ (by decide +kernel) (by decide +kernel) (by decide +kernel), by decide +kernel⟩⟩,
   ⟨⟨0, 0, 0, 0, 0, signed (head Op.GET_RANGE 1 64 ++ itemBytes Reg.EPOCH_NUMBER false [0, 1, 1, 0])⟩, [],
     [⟨Reg.EPOCH_NUMBER, false, [0, 1, 1, 0]⟩],
     asked (head Op.GET_RANGE 1 64 ++ itemBytes Reg.EPOCH_NUMBER false [0, 1, 1, 0]),
     by dsimp only; exact ⟨by decide +kernel, rfl, by decide +kernel, signed_authGood _ _ (by decide +kernel) (by decide +kernel) (by decide +kernel), by decide +kernel⟩⟩,
   ⟨⟨0, 0, 0, 0, 0, signed (head Op.SET 1 64 ++ itemBytes (Reg.CODECFG_ALERT Code.HSR_LOW) false [1])⟩, [],
     [⟨Reg.CODECFG_ALERT Code.HSR_LOW, false, [1]⟩],
     asked (head Op.SET 1 64 ++ itemBytes (Reg.CODECFG_ALERT Code.HSR_LOW) false [1]),
     by dsimp only; exact ⟨by decide +kernel, rfl, by decide +kernel, signed_authGood _ _ (by decide +kernel) (by decide +kernel) (by decide +kernel), by decide +kernel⟩⟩,
   ⟨⟨0, 0, 0, 0, 0, signed (head Op.BULK_READ 1 56 ++ [6, 0, 0, 16, 0, 0, 0, 0])⟩, [], ⟨0, 88, 8, 4, 0⟩,
     asked (head Op.BULK_READ 1 56 ++ [6, 0, 0, 16, 0, 0, 0, 0]),
     by dsimp only; exact ⟨by decide +kernel, rfl, by decide +kernel, signed_authGood _ _ (by decide +kernel) (by decide +kernel) (by decide +kernel), by decide +kernel⟩⟩,
   ⟨⟨0, 0, 0, 0, 0, signed (head Op.BULK_WRITE 1 312 ++ [1, 0, 1, 0, 0, 0, 0, 0] ++ List.replicate 256 7)⟩, [],
     ⟨1, 0, 64, 3, 3⟩, asked (head Op.BULK_WRITE 1 312 ++ [1, 0, 1, 0, 0, 0, 0, 0] ++ List.replicate 256 7),
     by dsimp only; exact ⟨by decide +kernel, rfl, by decide +kernel, signed_authGood _ _ (by decide +kernel) (by decide +kernel) (by decide +kernel), by decide +kernel⟩⟩,
   ⟨2047, ⟨Reg.BUFCFG_RES_LIMIT, 4, 1⟩, State.reset, by exact ⟨rfl, by decide +kernel⟩⟩,
   ⟨0x1006, 0x0101, 0x1006, 0x0101, 2, 1, State.reset, by dsimp only; decide +kernel⟩⟩

theorem witness_SigningKeys :
    (∃ (k : Fin 4) (v : BitVec 776) (s : State), s.groom.up = true ∧ rd s (Reg.SIGNKEY_STATE k.val) = 0) ∧
    (∃ (k : Fin 4) (v : BitVec 776) (s : State), rd s (Reg.SIGNKEY_STATE k.val) ≠ 0) ∧
    (∃ (k : Fin 4) (s : State), s.groom.up = true ∧ rd s (Reg.SIGNKEY_STATE k.val) = 1 ∧
      (∃ j : Fin 4, j ≠ k ∧ rd s (Reg.SIGNKEY_STATE j.val) = 1) ∧
      (2 ≤ rd s Reg.FIRMWARE_RUNNING_SLOT ∨ signedKey s (imageBase (rd s Reg.FIRMWARE_RUNNING_SLOT)) ≠ k.val)) ∧
    (∃ (k : Fin 4) (len : Nat) (s : State),
      (rd s (Reg.SIGNKEY_STATE k.val) ≠ 1 ∨ (∀ j : Fin 4, j ≠ k → rd s (Reg.SIGNKEY_STATE j.val) ≠ 1) ∨ (rd s
        Reg.FIRMWARE_RUNNING_SLOT < 2 ∧ signedKey s (imageBase (rd s Reg.FIRMWARE_RUNNING_SLOT)) = k.val))) :=
  ⟨⟨3, 0, State.reset, by decide +kernel⟩,
   ⟨0, 0, State.reset, by decide +kernel⟩,
   ⟨0, st [(Reg.SIGNKEY_STATE 3, 1), (Reg.FIRMWARE_RUNNING_SLOT, 2)], by decide +kernel⟩,
   ⟨3, 1, State.reset, by decide +kernel⟩⟩

theorem witness_FirmwareAndKeys :
    (∃ (s : State), s.groom.up = true) ∧
    (∃ (s : State), s.groom.up = true ∧ s.groom.verified = true) ∧
    (∃ (s : State), s.groom.verified = false) ∧
    (∃ (s : State), s.groom.up = true ∧ s.groom.activated = true) ∧
    (∃ (s : State), s.groom.up = true ∧ rd s Reg.FIRMWARE_TRIAL = 1) ∧
    (∃ (s : State), s.groom.up = true) ∧
    (∃ (s : State), s.groom.up = true ∧ rd s Reg.FIRMWARE_TRIAL = 1 ∧ s.groom.startedAt + rd s
      Reg.FIRMWARE_CONFIRM_S * 1000000000 ≤ now s) ∧
    (∃ (s : State), s.groom.up = false ∧ s.groom.halted = false ∧ (s.power.phase = 0 ∨ (s.power.resetN = true ∧
      s.power.pwrgd = true))) ∧
    (∃ (k key : Fin 2048) (v : BitVec 256) (n : BitVec 64) (s : State), s.groom.up = true ∧ keyGood s key.val =
      true ∧ rd s (Reg.KEY_ROLE key.val) = 3) ∧
    (∃ (s : State), s.groom.up = true) ∧
    (∃ (s : State), s.groom.up = true) :=
  ⟨⟨State.reset, by decide +kernel⟩,
   ⟨{ State.reset with groom := { verified := true } }, by decide +kernel⟩,
   ⟨State.reset, by decide +kernel⟩,
   ⟨{ State.reset with groom := { activated := true } }, by decide +kernel⟩,
   ⟨st [(Reg.FIRMWARE_TRIAL, 1)], by decide +kernel⟩,
   ⟨State.reset, by decide +kernel⟩,
   ⟨{ st [(Reg.FIRMWARE_TRIAL, 1), (Reg.FIRMWARE_CONFIRM_S, 1)] with time := { groom := 1000000000 } },
     by decide +kernel⟩,
   ⟨{ State.reset with groom := { up := false } }, by decide +kernel⟩,
   ⟨2047, 2047, 0, 0, st [(Reg.KEY_STATE 2047, 3), (Reg.KEY_ROLE 2047, 3)], by decide +kernel⟩,
   ⟨State.reset, by decide +kernel⟩,
   ⟨State.reset, by decide +kernel⟩⟩

theorem witness_PowerAndTemperatures :
    (∃ (ds a b : List Nat) (more : List (List Nat)) (inW lossW : BitVec 16) (s : State), powered s = true ∧
      s.power.pipe = a :: b :: more) ∧
    (∃ (ds : List Nat) (inW lossW : BitVec 16) (s : State), powered s = true ∧ s.power.pipe.length < 2) ∧
    (∃ (n : Fin 89) (v : BitVec 16) (s : State), (∀ i, i < 64 → rd s (Reg.ISLAND_TJ i) < 2 ^ 16) ∧ ofRaw 16
      v.toNat < (thermLevels (sensorInstance n.val)).trip) ∧
    (∃ (f : Facet) (s : State), (thermFlags s f.val).testBit 3 = false) ∧
    (∃ (f : Facet) (s : State), (thermFlags s f.val).testBit 3 = true ∧ (∃ c, c < 5 ∧ rd s (Reg.ARBCLASS_MIN_MW
      (6 * f.val + c)) < (grantsLast s).getD (6 * f.val + c) 0)) ∧
    (∃ (n : Fin 89) (v : BitVec 16) (s : State), sensorInstance n.val ≠ 32 ∧ s.power.tripped = none ∧
      (thermLevels (sensorInstance n.val)).trip ≤ ofRaw 16 v.toNat) ∧
    (∃ (n : Fin 89) (v : BitVec 16) (s : State), sensorInstance n.val = 32 ∧ s.groom.halted = false ∧
      (thermLevels 32).trip ≤ ofRaw 16 v.toNat) ∧
    (∃ (s : State), s.groom.halted = true ∧ rdI 16 s (Reg.THERMAL_TEMP 32) < 1000 ∧ (s.time.running = false ∨
      Tab.get 0 s.power.noted 32 + 1000000000 ≤ now s)) ∧
    (∃ (mv : BitVec 16) (s : State), s.power.vinBad = false) ∧
    (∃ (mv : BitVec 16) (s : State), s.power.vauxBad = false) :=
  ⟨⟨[], [1], [2], [], 0, 0, { State.reset with power := { phase := 2, pipe := [[1], [2]] } }, by decide +kernel⟩,
   ⟨[], 0, 0, { State.reset with power := { phase := 2, pipe := [[1]] } }, by decide +kernel⟩,
   ⟨88, 1249, State.reset, by decide +kernel⟩,
   ⟨7, State.reset, by decide +kernel⟩,
   ⟨7, { st [(Reg.ARBCLASS_MIN_MW 46, 0)] with power := { flags := [(7, 8)], pipe := [List.replicate 48 1] } },
     by exact ⟨by decide +kernel, 4, by decide +kernel⟩⟩,
   ⟨87, 1120, State.reset, by decide +kernel⟩,
   ⟨88, 1250, State.reset, by decide +kernel⟩,
   ⟨{ st [(Reg.THERMAL_TEMP 32, 999)] with
       groom := { halted := true }, time := { running := true, groom := 1000000000 } }, by decide +kernel⟩,
   ⟨0, State.reset, by decide +kernel⟩,
   ⟨0, State.reset, by decide +kernel⟩⟩

theorem witness_ResetsAndPowerUp :
    (∃ (s : State), s.power.resetN = true ∧ s.groom.up = true) ∧
    (∃ (s : State), s.groom.up = true ∧ tripHolds s = false) ∧
    (∃ (s : State), tripHolds s = true) ∧
    (∃ (s : State), s.power.pwrgd = true ∧ s.groom.up = true) ∧
    (∃ (s : State), s.groom.up = true ∧ s.power.phase = 0 ∧ tripHolds s = false) ∧
    (∃ (s : State), s.power.phase = 1 ∧ s.power.tripped = none) ∧
    (∃ (s : State), s.power.phase = 2 ∧ s.power.tripped = none) ∧
    (∃ (s : State), s.power.phase = 3 ∧ s.power.tripped = none) ∧
    (∃ (s : State), s.power.phase = 4 ∧ s.power.tripped = none ∧ s.groom.saved = none) :=
  ⟨⟨{ State.reset with power := { resetN := true } }, by decide +kernel⟩,
   ⟨State.reset, by decide +kernel⟩,
   ⟨{ st [(Reg.THERMAL_TEMP 32, 1100)] with power := { tripped := some 32 } }, by decide +kernel⟩,
   ⟨{ State.reset with power := { pwrgd := true } }, by decide +kernel⟩,
   ⟨State.reset, by decide +kernel⟩,
   ⟨{ State.reset with power := { phase := 1 } }, by decide +kernel⟩,
   ⟨{ State.reset with power := { phase := 2 } }, by decide +kernel⟩,
   ⟨{ State.reset with power := { phase := 3 } }, by decide +kernel⟩,
   ⟨{ State.reset with power := { phase := 4 } }, by decide +kernel⟩⟩

theorem witness_BoardAndTestPorts :
    (∃ (p : BitVec 8) (n : Nat) (s : State), rd s Reg.PACKAGE_BMI_EN ≠ 0) ∧
    (∃ (p : BitVec 8) (n : Nat) (s : State), rd s Reg.PACKAGE_BMI_EN = 0) ∧
    (∃ (s : State), s.groom.up = true) ∧
    (∃ (s : State), s.power.resetN = false) ∧
    (∃ (s : State), s.power.resetN = true) :=
  ⟨⟨0x3F, 2, st [(Reg.PACKAGE_BMI_EN, 1)], by decide +kernel⟩,
   ⟨0, 1, st [(Reg.PACKAGE_BMI_EN, 0)], by decide +kernel⟩,
   ⟨State.reset, by decide +kernel⟩,
   ⟨State.reset, by decide +kernel⟩,
   ⟨{ State.reset with power := { resetN := true } }, by decide +kernel⟩⟩

theorem witness_InvariantKeptByEveryStep :
    ∃ (s t : State), Inv s ∧ step s = .next t :=
  ⟨{ State.reset with pending := [.bypass] }, _, ⟨rfl, rfl⟩⟩

theorem witness_ConcludedIsIdle :
    (∃ (s t : State), quiet t) ∧
    (∃ (s t : State), (∀ e ∈ t.frames, ¬ (e.2.place = .localTo ∧ hdrKind e.2.hdr = KindCode.TRACE)) ∧
      (rd t Reg.SWAP_STATE ≠ 2 ∨ t.sets.target ≠ 0 ∨ t.sets.trigger = 0xFFFF)) :=
  ⟨⟨State.reset, State.reset, by unfold quiet; decide +kernel⟩,
   ⟨State.reset, State.reset, by decide +kernel⟩⟩

end Sys2Proof.Tests
end

/-! # Family 13: a swap's release of held frames can move a static learned entry (O37)

The claim that every element of the set but HOLD takes the shadow's value fails at EID of LEARN, which is part of the
set (R204): the swap's end releases held frames (R414 step 6), the new set may bridge them (R205), and a frame whose
source differs from a static entry's EID replaces that EID (R203). The claim names the state before the command's end,
so the refutation also shows that the end of a command leaves LEARN alone (`concluded_learnKept`). -/

namespace Sys2Proof.Machine

/-! ## Headers that the solid makes -/

theorem joinFields_foldl (fs : List (Nat × Nat)) (acc : Nat) :
    fs.foldl (fun acc x => acc * 2 ^ x.1 + x.2 % 2 ^ x.1) acc = acc * 2 ^ widthOf fs + joinFields fs := by
  induction fs using List.reverseRecOn generalizing acc with
  | nil => simp [widthOf, joinFields]
  | append_singleton fs x ih =>
    have hw : widthOf (fs ++ [x]) = widthOf fs + x.1 := by simp [widthOf]
    simp only [joinFields, List.foldl_append, List.foldl_cons, List.foldl_nil] at ih ⊢
    rw [ih, hw, pow_add]
    ring

theorem joinFields_lt (fs : List (Nat × Nat)) : joinFields fs < 2 ^ widthOf fs := by
  induction fs using List.reverseRecOn with
  | nil => simp [widthOf, joinFields]
  | append_singleton fs x ih =>
    have hw : widthOf (fs ++ [x]) = widthOf fs + x.1 := by simp [widthOf]
    have hx : x.2 % 2 ^ x.1 < 2 ^ x.1 := Nat.mod_lt _ (Nat.two_pow_pos _)
    simp only [joinFields, List.foldl_append, List.foldl_cons, List.foldl_nil] at ih ⊢
    rw [hw, pow_add]
    have := Nat.mul_le_mul_right (2 ^ x.1) (Nat.succ_le_of_lt ih)
    rw [Nat.succ_mul] at this
    omega

/-- What lies above the last fields of a list. -/
theorem joinFields_append_div (xs ys : List (Nat × Nat)) :
    joinFields (xs ++ ys) / 2 ^ widthOf ys = joinFields xs := by
  have h : joinFields (xs ++ ys) = joinFields xs * 2 ^ widthOf ys + joinFields ys := by
    rw [← joinFields_foldl]; simp [joinFields]
  rw [h, Nat.mul_comm, Nat.mul_add_div (Nat.two_pow_pos _), Nat.div_eq_of_lt (joinFields_lt ys), Nat.add_zero]

theorem crcBits_lt {w poly : Nat} (hp : poly < 2 ^ w) (n x reg : Nat) (h : reg < 2 ^ w) :
    crcBits w poly n x reg < 2 ^ w := by
  induction n generalizing reg with
  | zero => exact h
  | succ n ih =>
    refine ih _ ?_
    have hs : reg * 2 % 2 ^ w < 2 ^ w := Nat.mod_lt _ (Nat.two_pow_pos w)
    simp only [crcStep]
    split
    · exact Nat.xor_lt_two_pow hs hp
    · exact hs

/-- The KIND of a header that the solid makes is the KIND it chose. -/
theorem hdrKind_mkHdr (f : HdrFields) : hdrKind (mkHdr f) = f.kind % 16 := by
  simp only [hdrKind, field, mkHdr, BitVec.toNat_ofNat]
  generalize hfs : [(3, f.msg), (1, f.dl), (3, f.tc), (1, f.ord), (10, f.ten), (20, f.dst), (20, f.src), (8, f.chan),
    (16, f.seq), (10, f.len), (4, f.hop), (2, f.ecn), (1, 0), (1, f.mirr), (1, f.arith), (1, 0), (2, 0)] = fs
  have hw : widthOf fs = 104 := by rw [← hfs]; rfl
  have hd := joinFields_append_div [(4, 1), (4, f.kind)] fs
  have hhi : joinFields [(4, 1), (4, f.kind)] = 16 + f.kind % 16 := by simp [joinFields]
  simp only [List.cons_append, List.nil_append, hw, hhi] at hd
  have hc := crcBits_lt (w := 16) (poly := 0x8BB7) (by decide) 112 (joinFields ((4, 1) :: (4, f.kind) :: fs)) 0
    (by decide)
  simp only [crc16]
  omega

theorem notifyHdr_kind (s : State) (facet cause ten dst len arith : Nat) :
    hdrKind (notifyHdr s facet cause ten dst len arith) = KindCode.NOTIFY := hdrKind_mkHdr _

/-! ## States that hold the same learned table and swap object -/

/-- Every element of LEARN and of SWAP holds in `s` what it holds in `b`. -/
structure LearnKept (b s : State) : Prop where
  same : ∀ a : Addr, a.obj = 0x0604 ∨ a.obj = 0x0D01 → rd s a = rd b a

/-- The object is neither LEARN nor SWAP. -/
def otherObject (o : Nat) : Bool := o != 0x0604 && o != 0x0D01

theorem LearnKept.refl (s : State) : LearnKept s s := ⟨fun _ _ => rfl⟩

section
variable {b s : State}

/-- A change beside the elements keeps them all. -/
theorem LearnKept.of_regs {t : State} (h : LearnKept b s) (e : t.regs = s.regs := by exact rfl) :
    LearnKept b t :=
  ⟨fun a ha => (rd_congr e a).trans (h.same a ha)⟩

/-- So does a write to an element of another object. -/
theorem wr_learnKept (h : LearnKept b s) (a : Addr) (v : Nat) (ha : otherObject a.obj = true := by exact rfl) :
    LearnKept b (wr s a v) := by
  refine ⟨fun c hc => ?_⟩
  have hne : c ≠ a := by
    rintro rfl
    simp only [otherObject, Bool.and_eq_true, bne_iff_ne] at ha
    omega
  rw [rd_wr_ne s v hne, h.same c hc]

theorem ite_learnKept {p : Prop} [Decidable p] {t u : State} (ht : LearnKept b t) (hu : LearnKept b u) :
    LearnKept b (if p then t else u) := by split <;> assumption

theorem foldl_learnKept {α : Type} {f : State → α → State} (hf : ∀ s x, LearnKept b s → LearnKept b (f s x))
    (xs : List α) (h : LearnKept b s) : LearnKept b (xs.foldl f s) :=
  List.foldlRecOn xs f h (fun s hs x _ => hf s x hs)

/-! ## Counters -/

theorem inc_learnKept (h : LearnKept b s) (a : Addr) (w : Nat) (ha : otherObject a.obj = true := by exact rfl) :
    LearnKept b (inc s a w) := wr_learnKept h a _ ha

theorem countIn_learnKept (h : LearnKept b s) (bank sel : Nat) (e : Event) : LearnKept b (countIn s bank sel e) :=
  foldl_learnKept (fun _ _ hs =>
    ite_learnKept (ite_learnKept (wr_learnKept (wr_learnKept hs ..) ..) (wr_learnKept hs ..)) hs) _ h

theorem countFrame_learnKept (h : LearnKept b s) (p sel : Nat) (x : Block) : LearnKept b (countFrame s p sel x) :=
  countIn_learnKept h ..

theorem countFrameIn_learnKept (h : LearnKept b s) (bank sel : Nat) (x : Block) :
    LearnKept b (countFrameIn s bank sel x) := countIn_learnKept h ..

theorem discardIn_learnKept (h : LearnKept b s) (f : Frame) (why : Nat) (x : Block) :
    LearnKept b (discardIn s f why x) :=
  ite_learnKept (inc_learnKept (countFrame_learnKept (countFrame_learnKept h ..) ..) ..) (countFrameIn_learnKept h ..)

/-! ## A frame leaves -/

theorem freeCredits_learnKept (h : LearnKept b s) (f : Frame) : LearnKept b (freeCredits s f) :=
  ite_learnKept h h.of_regs

theorem settle_learnKept (h : LearnKept b s) (id : Nat) : LearnKept b (settle s id) := by
  unfold settle
  split
  · exact h
  · next f _ =>
    extract_lets ended free s1
    have h1 : LearnKept b s1 := ite_learnKept ((freeCredits_learnKept h f).of_regs) h
    exact ite_learnKept h1.of_regs h1

theorem modFrame_learnKept (h : LearnKept b s) (id : Nat) (g : Frame → Frame) : LearnKept b (modFrame s id g) := by
  unfold modFrame
  split
  · exact h
  · exact h.of_regs

theorem copyDone_learnKept (h : LearnKept b s) (parent : Nat) : LearnKept b (copyDone s parent) :=
  ite_learnKept h (settle_learnKept (modFrame_learnKept h ..) _)

theorem queueSettled_learnKept (h : LearnKept b s) (q : Nat) : LearnKept b (queueSettled s q) := by
  unfold queueSettled
  extract_lets e s1
  have h1 : LearnKept b s1 := ite_learnKept (wr_learnKept h ..) h
  exact ite_learnKept h1.of_regs h1

theorem releaseWaiting_learnKept (h : LearnKept b s) (q : Nat) : LearnKept b (releaseWaiting s q) :=
  ite_learnKept (wr_learnKept h.of_regs ..) h

theorem removeFrame_learnKept (h : LearnKept b s) (id : Nat) : LearnKept b (removeFrame s id) := by
  unfold removeFrame
  split
  · exact h
  · next f _ =>
    extract_lets s1 s2 s3 s4 q head s5 s6
    have h1 : LearnKept b s1 := freeCredits_learnKept h f
    have h2 : LearnKept b s2 := ite_learnKept h1.of_regs h1
    have h3 : LearnKept b s3 := ite_learnKept h2.of_regs h2
    have h4 : LearnKept b s4 := h3.of_regs
    have h5 : LearnKept b s5 := ite_learnKept (queueSettled_learnKept h4.of_regs q) h4
    have h6 : LearnKept b s6 := ite_learnKept (releaseWaiting_learnKept h5 q) h5
    exact ite_learnKept (copyDone_learnKept h6 _) h6

theorem dropIn_learnKept (h : LearnKept b s) (id why : Nat) : LearnKept b (dropIn s id why) := by
  unfold dropIn
  split
  · exact h
  · exact removeFrame_learnKept (discardIn_learnKept h ..) id

theorem newFrame_learnKept (h : LearnKept b s) (f : Frame) : LearnKept b (newFrame s f).1 := h.of_regs

theorem findFrame_newFrame (s : State) (f : Frame) : findFrame (newFrame s f).1 (newFrame s f).2 = some f := by
  simp [newFrame, findFrame, Tab.find_set]

/-! ## Stage 3 of a frame that is not bridged -/

theorem sendToward_learnKept (h : LearnKept b s) (id q : Nat) (repin : Bool) :
    LearnKept b (sendToward s id q repin) := by
  unfold sendToward
  split
  · exact h
  · exact ite_learnKept (dropIn_learnKept h.of_regs ..)
      (ite_learnKept (dropIn_learnKept h.of_regs ..) h.of_regs)

theorem sendCopies_learnKept (h : LearnKept b s) (id : Nat) (f : Frame) (ports : List Nat) :
    LearnKept b (sendCopies s id f ports) :=
  settle_learnKept (foldl_learnKept (fun _ _ hs => sendToward_learnKept hs.of_regs ..) ports h.of_regs) id

theorem spray_regs (s : State) (f : Frame) (g : Nat) : (spray s f g).1.regs = s.regs := by
  unfold spray
  extract_lets ps ts
  split <;> rfl

theorem replicate_learnKept (h : LearnKept b s) (id t : Nat) : LearnKept b (replicate s id t) := by
  unfold replicate
  split
  · exact h
  · next f _ =>
    extract_lets gten ps up r all
    have hr : LearnKept b r.1 := h.of_regs (by
      simp only [r]
      split
      · exact spray_regs ..
      · rfl)
    exact ite_learnKept (dropIn_learnKept h ..) (ite_learnKept (dropIn_learnKept hr ..) (sendCopies_learnKept hr ..))

theorem holdFrame_learnKept (h : LearnKept b s) (id g slot : Nat) : LearnKept b (holdFrame s id g slot) := by
  unfold holdFrame
  split
  · exact h
  · exact ite_learnKept (dropIn_learnKept h.of_regs ..)
      (settle_learnKept (countFrameIn_learnKept h.of_regs ..) id)

theorem trackChannel_regs (s : State) (f : Frame) (g slot : Nat) : (trackChannel s f g slot).regs = s.regs := by
  unfold trackChannel
  split
  · rfl
  · extract_lets key base ways hit at_
    clear_value at_
    cases at_ <;> rfl

theorem choose_learnKept (h : LearnKept b s) (id g : Nat) : LearnKept b (choose s id g) := by
  unfold choose
  split
  · exact h
  · next f _ =>
    extract_lets slot cur repin s1 s2 s3 r
    have h1 : LearnKept b s1 := h.of_regs (trackChannel_regs ..)
    have h2 : LearnKept b s2 := wr_learnKept h1 ..
    have h3 : LearnKept b s3 := h2.of_regs
    have hr : LearnKept b r.1 := h.of_regs (spray_regs ..)
    refine ite_learnKept (dropIn_learnKept h ..) (ite_learnKept (ite_learnKept (holdFrame_learnKept h ..)
      (ite_learnKept (dropIn_learnKept h ..) (ite_learnKept (dropIn_learnKept h ..) (sendToward_learnKept h3 ..)))) ?_)
    split
    · exact dropIn_learnKept hr ..
    · exact sendToward_learnKept hr ..

theorem localWhole_learnKept (h : LearnKept b s) (id : Nat) : LearnKept b (localWhole s id) := by
  unfold localWhole
  split
  · exact h
  · extract_lets s1 s2
    have h1 : LearnKept b s1 := settle_learnKept h id
    have h2 : LearnKept b s2 := ite_learnKept (wr_learnKept h1.of_regs ..) h1.of_regs
    exact ite_learnKept h1 (ite_learnKept
      (ite_learnKept (removeFrame_learnKept h2 id) (dropIn_learnKept h1 ..))
      (ite_learnKept (dropIn_learnKept h1 ..) (ite_learnKept (dropIn_learnKept h1 ..) h1)))

theorem deliverLocal_learnKept (h : LearnKept b s) (id : Nat) : LearnKept b (deliverLocal s id) := by
  unfold deliverLocal
  split
  · exact h
  · exact localWhole_learnKept ((ite_learnKept (countFrame_learnKept h ..) h).of_regs) id

/-- Only an ETH_ENCAP frame is bridged (R189, R203): the lookup of another leaves the learned table's elements. -/
theorem lookup_learnKept (h : LearnKept b s) (id : Nat)
    (hk : ∀ f, findFrame s id = some f → hdrKind f.hdr ≠ KindCode.ETH_ENCAP) : LearnKept b (lookup s id) := by
  unfold lookup
  split
  · exact h
  · next f hf =>
    extract_lets d k a s1
    have drop : ∀ why, LearnKept b (dropIn s id why) := fun why => dropIn_learnKept h id why
    refine ite_learnKept (drop _) (ite_learnKept (drop _) ?_)
    split
    · exact drop _
    · next hacc =>
      have ha : a ≠ 4 := by
        intro ha
        simp [ha, actionAccepts, k, hk f hf] at hacc
      rw [if_neg ha]
      exact ite_learnKept (deliverLocal_learnKept h id)
        (ite_learnKept (replicate_learnKept h ..) (choose_learnKept h ..))

theorem originate_learnKept (h : LearnKept b s) (facet : Nat) (x : Block) (blocks : List Block) (owner : Nat)
    (hk : hdrKind x ≠ KindCode.ETH_ENCAP) : LearnKept b (originate s facet x blocks owner) := by
  unfold originate
  extract_lets s1 r
  have h1 : LearnKept b s1 := countFrameIn_learnKept h ..
  refine lookup_learnKept (newFrame_learnKept h1 _) _ (fun f hf => ?_)
  obtain rfl := Option.some.inj ((findFrame_newFrame s1 _).symm.trans hf)
  exact hk

/-! ## A command's end -/

theorem sendTeamNotify_learnKept (h : LearnKept b s) (facet t entry cause gen chunk missing tries : Nat) :
    LearnKept b (sendTeamNotify s facet t entry cause gen chunk missing tries) := by
  unfold sendTeamNotify sendNotify
  extract_lets x ext s1 s2 s3
  have h1 : LearnKept b s1 := inc_learnKept h ..
  have h2 : LearnKept b s2 := h1.of_regs
  have h3 : LearnKept b s3 := inc_learnKept h2 ..
  refine originate_learnKept (countFrameIn_learnKept h3 ..) _ _ _ _ ?_
  rw [notifyHdr_kind]
  decide

theorem sendDue_learnKept (h : LearnKept b s) (facet : Nat) (d : Due) : LearnKept b (sendDue facet s d) := by
  unfold sendDue
  split
  · exact h
  · cases d with
    | entry n => exact sendTeamNotify_learnKept h.of_regs ..
    | slot t j cause e => exact sendTeamNotify_learnKept h.of_regs ..

theorem flushAllNotices_learnKept (h : LearnKept b s) : LearnKept b (flushAllNotices s) :=
  foldl_learnKept (fun _ facet hs => foldl_learnKept (fun _ d hu => sendDue_learnKept hu facet d) _ hs) _ h

theorem answerStale_learnKept (h : LearnKept b s) (t src gen chunk : Nat) :
    LearnKept b (answerStale s t src gen chunk) := by
  unfold answerStale
  split
  · exact flushAllNotices_learnKept (ite_learnKept h h.of_regs)
  · exact h

theorem routeTrace_learnKept (h : LearnKept b s) (id : Nat) : LearnKept b (routeTrace s id) := by
  unfold routeTrace refuseTrace
  split
  · exact h
  · split
    · split
      · exact h
      · exact ite_learnKept (answerStale_learnKept (dropIn_learnKept h ..) ..) (dropIn_learnKept h ..)
    · exact h.of_regs

theorem routeTraces_learnKept (h : LearnKept b s) : LearnKept b (routeTraces s) :=
  foldl_learnKept (fun _ id hs => routeTrace_learnKept hs id) _ h

theorem mirrorChanges_learnKept (h : LearnKept b s) (before : State) : LearnKept b (mirrorChanges before s) := by
  unfold mirrorChanges
  split
  · exact h
  · split
    · exact h
    · exact wr_learnKept (foldl_learnKept (fun _ _ hs => hs.of_regs) _ h) ..

end

/-- Where no armed swap waits for a drain, a command's end leaves LEARN and SWAP as the command left them. -/
theorem concluded_learnKept (before after : State) (h : rd after Reg.SWAP_STATE ≠ 2) :
    LearnKept after (concluded before after) := by
  have hr := routeTraces_learnKept (LearnKept.refl after)
  have hs : rd (routeTraces after) Reg.SWAP_STATE ≠ 2 := by rwa [hr.same _ (Or.inr rfl)]
  have ht : triggerSwap (routeTraces after) = routeTraces after := if_neg (fun hc => hs hc.1)
  unfold concluded
  rw [ht]
  exact mirrorChanges_learnKept hr before

/-! ## Arming a swap that applies at once -/

/-- The shadow's digest is noted as its arming ends (R399). -/
def digestNoted (s : State) : State :=
  let d := setDigest s.shadow
  wr (wr s Reg.CONFSET_SHADOW_HI (d / 2 ^ 64)) Reg.CONFSET_SHADOW_LO (d % 2 ^ 64)

/-- ARMED with no error. -/
def armed (s : State) : State :=
  wr (wr (wr (digestNoted s) Reg.SWAP_ERROR 0) Reg.SWAP_DETAIL 0) Reg.SWAP_STATE 2

section
variable {s t : State}

/-! These checks read the shadow alone. -/

theorem shadowRd_congr (h : t.shadow = s.shadow) (a : Addr) : shadowRd t a = shadowRd s a := by
  unfold shadowRd; rw [h]

theorem longOk_congr (h : t.shadow = s.shadow) : longOk t = longOk s := by
  unfold longOk; simp only [shadowRd_congr h]

theorem regionsOk_congr (h : t.shadow = s.shadow) : regionsOk t = regionsOk s := by
  unfold regionsOk; simp only [shadowRd_congr h]

theorem twinDestsOk_congr (h : t.shadow = s.shadow) : twinDestsOk t = twinDestsOk s := by
  unfold twinDestsOk; simp only [shadowRd_congr h]

theorem validate_eq_none (hl : longOk s = true) (hc : firstChordFault s.shadow = none) (hg : firstGroupFault s = none)
    (hr : regionsOk s = true) (ha : shadowRd s Reg.BUFCFG_SPILL_GIB + shadowRd s Reg.ARITHCFG_ACC_GIB ≤ 24)
    (ht : twinDestsOk s = true) : validate s = none := by
  simp only [validate, hl, hc, hg, hr, ht, Nat.not_lt.mpr ha, Bool.true_eq_false, if_false]

/-- Of the checks only that of the route groups reads more than the shadow. -/
theorem validate_congr (h : t.shadow = s.shadow) (hl : longOk s = true) (hc : firstChordFault s.shadow = none)
    (hg : firstGroupFault t = none) (hr : regionsOk s = true)
    (ha : shadowRd s Reg.BUFCFG_SPILL_GIB + shadowRd s Reg.ARITHCFG_ACC_GIB ≤ 24) (ht : twinDestsOk s = true) :
    validate t = none :=
  validate_eq_none ((longOk_congr h).trans hl) ((congrArg firstChordFault h).trans hc) hg
    ((regionsOk_congr h).trans hr) (by simp only [shadowRd_congr h, ha]) ((twinDestsOk_congr h).trans ht)

end

/-- A swap that names no digest, no epoch and no drain applies as soon as its arming ends (R399, R401). -/
theorem doSwapArmed_immediate {s : State} (hs : rd s Reg.SWAP_STATE = 1)
    (he : s.sets.expectHi * 2 ^ 64 + s.sets.expectLo = 0) (ht : s.sets.target = 0) (hg : s.sets.trigger = 0xFFFF)
    (hv : validate (digestNoted s) = none) : doSwapArmed s = applySwap [] (armed s) := by
  unfold doSwapArmed
  rw [if_neg (not_not_intro hs)]
  extract_lets d s1 x expect s2
  have hv : validate s1 = none := hv
  have he : expect = 0 := he
  have ht : x.target = 0 := ht
  have hg : x.trigger = 0xFFFF := hg
  simp only [he, ht, hg, hv, ne_eq, not_true_eq_false, false_and, if_false, if_true]
  rfl

/-! ## The refuting state -/

/-- The MAC address 02:00:00:00:00:01. -/
def stationMac : Nat := 0x020000000001

/-- Way 0 of the bucket of that address under tenant 1. -/
def stationWay : Nat := learnBucket 1 stationMac * 4

/-- An ETH_ENCAP frame of the station, held in facet 0 on slot 0 of route group 0: it comes from endpoint 9 to
destination 5. -/
def heldFrame : Frame :=
  { hdr := mkHdr { kind := KindCode.ETH_ENCAP, msg := 4, tc := 0, ten := 1, dst := 5, src := 9, len := 2 }
    blocks := [0, BitVec.ofNat 128 (stationMac * 2 ^ 32)]
    ingress := 0, whole := true, place := .held, group := 0, slot := 0 }

/-- A set that bridges destination 5 and places the station, as a static entry, at endpoint 7. -/
def bridgingSet : Regs :=
  [(Reg.DEST_ACTION 5, 4), (Reg.LEARN_STATE stationWay, 2), (Reg.LEARN_TEN stationWay, 1),
    (Reg.LEARN_MAC stationWay, stationMac), (Reg.LEARN_EID stationWay, 7), (Reg.FORWARD_HASH_SEED, 1)]

/-- That set stands in the shadow of a swap that is ARMING, while destination 5 is still forwarded and its group is on
hold. -/
def movedStation : State :=
  { regs := [(Reg.DEST_ACTION 5, 1), (Reg.RGROUP_HOLD 0, 1), (Reg.FORWARD_HASH_SEED, 1), (Reg.SWAP_STATE, 1)]
    shadow := bridgingSet
    frames := [(1, heldFrame)]
    nextFrame := 2
    forward := { holds := [(holdKey 0 0 0, [1])] } }

set_option maxRecDepth 100000 in
/-- The swap passes every check of its arming and of its application (R399, R402). -/
theorem movedStation_valid :
    longOk movedStation = true ∧ firstChordFault movedStation.shadow = none ∧ firstGroupFault movedStation = none ∧
    regionsOk movedStation = true ∧
    shadowRd movedStation Reg.BUFCFG_SPILL_GIB + shadowRd movedStation Reg.ARITHCFG_ACC_GIB ≤ 24 ∧
    twinDestsOk movedStation = true ∧ runningFault movedStation = none := by
  decide +kernel

set_option maxRecDepth 100000 in
/-- The released frame is bridged under the new set, and the static entry takes its source (R199, R203). -/
theorem movedStation_applied :
    rd (applySwap [] (armed movedStation)) Reg.SWAP_STATE = 5 ∧
    rd (applySwap [] (armed movedStation)) (Reg.LEARN_EID stationWay) = 9 := by
  decide +kernel

theorem movedStation_armed : doSwapArmed movedStation = applySwap [] (armed movedStation) := by
  obtain ⟨hl, hc, -, hr, ha, ht, -⟩ := movedStation_valid
  have hg : firstGroupFault (digestNoted movedStation) = none := by decide +kernel
  have hv : validate (digestNoted movedStation) = none := validate_congr (s := movedStation) rfl hl hc hg hr ha ht
  exact doSwapArmed_immediate (by decide +kernel) rfl rfl rfl hv

/-- Refutes O37: a frame held through the swap is released under the new set, which bridges it, and its source
replaces the EID of a static entry of LEARN, an element of the set (R199, R203, R204): it reads 9, the shadow 7. -/
theorem not_swapApplied : ¬ Obligations.SwapApplied := by
  unfold Obligations.SwapApplied
  rintro ⟨happlies, -⟩
  obtain ⟨hl, hc, hg, hr, ha, ht, hf⟩ := movedStation_valid
  obtain ⟨t, hexec, hst, -, -, -, -, -, -, -, hset⟩ :=
    happlies movedStation (by decide +kernel) (Or.inl rfl) rfl rfl hl hc hg hr ha ht hf
  obtain ⟨happ, hmoved⟩ := movedStation_applied
  have hend : concluded movedStation (applySwap [] (armed movedStation)) = concluded movedStation t := by
    rw [← movedStation_armed]
    exact Host.Outcome.next.inj hexec
  have hread : rd t (Reg.LEARN_EID stationWay) = 9 := by
    rw [← (concluded_learnKept movedStation t (by omega)).same _ (Or.inl rfl), ← hend,
      (concluded_learnKept movedStation _ (by omega)).same _ (Or.inl rfl), hmoved]
  have hshadow := hset (Reg.LEARN_EID stationWay) (by decide +kernel) (by decide)
  rw [hread] at hshadow
  exact absurd hshadow (by decide +kernel)

end Sys2Proof.Machine

/-! # Family 15: a counter programmed (O42)

A message whose values left are not lawful changes nothing (`exec_counterProgram_refused`). An accepted one is its
writes in order and then one reset of the counter (`exec_counterProgram_accepted`); `rd_counterWrites` says what the
writes leave, and the rules under `counterReset_eq` what the reset does to VALUE, OVF and CFG_GEN and leaves alone. -/

namespace Sys2Proof.Machine

/-! ## A bit taken out of a number -/

/-- The predecessor of an odd number has its lowest bit cleared and no other changed. -/
theorem testBit_pred_of_odd {h : Nat} (hodd : h % 2 = 1) (k : Nat) :
    (h - 1).testBit k = (decide (k ≠ 0) && h.testBit k) := by
  cases k with
  | zero => simp [show (h - 1) % 2 = 0 by omega]
  | succ k =>
    have hdiv : (h - 1) / 2 = h / 2 := by omega
    simp [Nat.testBit_succ, hdiv]

/-- Taking away a bit that is set clears that bit alone. -/
theorem testBit_sub_two_pow {n i : Nat} (hi : n.testBit i = true) (j : Nat) :
    (n - 2 ^ i).testBit j = (decide (j ≠ i) && n.testBit j) := by
  have hodd : n / 2 ^ i % 2 = 1 := by simpa [Nat.testBit_eq_decide_div_mod_eq] using hi
  have hsplit : n = 2 ^ i * (n / 2 ^ i) + n % 2 ^ i := (Nat.div_add_mod ..).symm
  have hless : n - 2 ^ i = 2 ^ i * (n / 2 ^ i - 1) + n % 2 ^ i := by
    have hle : 2 ^ i ≤ 2 ^ i * (n / 2 ^ i) :=
      Nat.le_mul_of_pos_right _ (Nat.pos_of_ne_zero fun h0 => by simp [h0] at hodd)
    rw [Nat.mul_sub_one, ← Nat.sub_add_comm hle, ← hsplit]
  have hlow : n % 2 ^ i < 2 ^ i := Nat.mod_lt _ (Nat.two_pow_pos i)
  rw [hless, Nat.testBit_two_pow_mul_add _ hlow]
  conv_rhs => rw [hsplit, Nat.testBit_two_pow_mul_add _ hlow]
  split
  · next hj => simp [Nat.ne_of_lt hj]
  · next hj =>
    have hij : j - i = 0 ↔ j = i := by omega
    simp [testBit_pred_of_odd hodd, hij]

/-! ## What is lawful -/

theorem counterLawful_of_row {type sel unit tenfilt : Nat} {u : SelUnits} {y : Bool}
    (hrow : selectRow type sel = some (u, y)) (hunit : unitAllowed u unit = true)
    (hten : tenfilt = 0xFFFF ∨ y = true) : counterLawful type sel unit tenfilt = true := by
  simpa [counterLawful, hrow, hunit, or_comm] using hten

theorem counterLawful_eq_false {type sel unit tenfilt : Nat}
    (h : selectRow type sel = none ∨ ∃ u y, selectRow type sel = some (u, y) ∧
      (unitAllowed u unit = false ∨ (tenfilt ≠ 0xFFFF ∧ y = false))) :
    counterLawful type sel unit tenfilt = false := by
  obtain hnone | ⟨u, y, hrow, hbad⟩ := h
  · simp [counterLawful, hnone]
  · obtain hunit | ⟨hten, hcol⟩ := hbad
    · simp [counterLawful, hrow, hunit]
    · simp [counterLawful, hrow, hten, hcol]

theorem counterAccepted_eq_false {s : State} {c : Nat} {writes : List (Nat × Nat)}
    (h : counterLawful (bankType (c / 8 % 26)) (counterAfter s c writes 0) (counterAfter s c writes 1)
      (counterAfter s c writes 5) = false) :
    counterAccepted s c writes = false :=
  Bool.and_eq_false_iff.mpr (Or.inr h)

theorem counterAccepted_of_lawful {s : State} {c : Nat} {writes : List (Nat × Nat)}
    (hrange : ∀ w ∈ writes, ∃ r, rowOf ⟨0x0F01, c, w.1⟩ = some r ∧ r.inRange w.2 = true)
    (hlawful : counterLawful (bankType (c / 8 % 26)) (counterAfter s c writes 0) (counterAfter s c writes 1)
      (counterAfter s c writes 5) = true) :
    counterAccepted s c writes = true := by
  refine Bool.and_eq_true_iff.mpr ⟨List.all_eq_true.mpr fun w hw => ?_, hlawful⟩
  obtain ⟨r, hrow, hr⟩ := hrange w hw
  simp only [hrow, hr]

/-! ## The writes of one message -/

/-- The writes of one message to counter `c`, in order. -/
def counterWrites (c : Nat) (writes : List (Nat × Nat)) (s : State) : State :=
  writes.foldl (fun s w => wr s ⟨0x0F01, c, w.1⟩ w.2) s

theorem counterAfter_cons (s : State) (c el : Nat) (w : Nat × Nat) (ws : List (Nat × Nat)) :
    counterAfter s c (w :: ws) el = counterAfter (wr s ⟨0x0F01, c, w.1⟩ w.2) c ws el := by
  simp [counterAfter, rd_wr, eq_comm]

theorem rd_counterWrites (c el : Nat) (ws : List (Nat × Nat)) (s : State) :
    rd (counterWrites c ws s) ⟨0x0F01, c, el⟩ = counterAfter s c ws el := by
  induction ws generalizing s with
  | nil => rfl
  | cons w ws ih => rw [counterAfter_cons, ← ih]; rfl

theorem rd_counterWrites_of_ne {c : Nat} {ws : List (Nat × Nat)} {a : Addr}
    (ha : ∀ w ∈ ws, a ≠ ⟨0x0F01, c, w.1⟩) (s : State) : rd (counterWrites c ws s) a = rd s a := by
  refine List.foldlRecOn (motive := fun t => rd t a = rd s a) ws _ rfl fun t ht w hw => ?_
  rw [rd_wr_ne t w.2 (ha w hw), ht]

/-- No element of a bank is an element of a counter. -/
theorem rd_counterWrites_bank (c bank el : Nat) (ws : List (Nat × Nat)) (s : State) :
    rd (counterWrites c ws s) ⟨0x0F00, bank, el⟩ = rd s ⟨0x0F00, bank, el⟩ :=
  rd_counterWrites_of_ne (by simp) s

theorem counterWrites_shadow (c : Nat) (ws : List (Nat × Nat)) (s : State) :
    (counterWrites c ws s).shadow = s.shadow :=
  List.foldlRecOn (motive := fun t : State => t.shadow = s.shadow) ws _ rfl fun _ ht _ _ => ht

/-! ## The reset of a counter -/

section
variable {i : Nat} (bank : Nat) (s : State)

theorem counterReset_eq (hi : i < 8) :
    counterReset (bank * 8 + i) s =
      inc (wr (wr s (Reg.CBANK_VALUE bank i) 0) (Reg.CBANK_OVF bank)
        (if (rd s (Reg.CBANK_OVF bank)).testBit i then rd s (Reg.CBANK_OVF bank) - 2 ^ i
          else rd s (Reg.CBANK_OVF bank))) (Reg.CBANK_CFG_GEN bank) 32 := by
  have hbank : (bank * 8 + i) / 8 = bank := by omega
  have hcounter : (bank * 8 + i) % 8 = i := by omega
  simp only [counterReset, hbank, hcounter]

theorem rd_counterReset_value (hi : i < 8) :
    rd (counterReset (bank * 8 + i) s) (Reg.CBANK_VALUE bank i) = 0 := by
  have hgen : 2 + i ≠ 11 := by omega
  have hovf : 2 + i ≠ 10 := by omega
  simp [counterReset_eq bank s hi, rd_inc, rd_wr, hgen, hovf]

theorem testBit_counterReset_ovf (hi : i < 8) (j : Nat) :
    (rd (counterReset (bank * 8 + i) s) (Reg.CBANK_OVF bank)).testBit j =
      (decide (j ≠ i) && (rd s (Reg.CBANK_OVF bank)).testBit j) := by
  rw [counterReset_eq bank s hi, rd_inc, if_neg (by simp), rd_wr_self]
  split
  · next hset => exact testBit_sub_two_pow hset j
  · next hclear =>
    by_cases hj : j = i
    · subst hj; simpa using hclear
    · simp [hj]

theorem rd_counterReset_cfgGen (hi : i < 8) :
    rd (counterReset (bank * 8 + i) s) (Reg.CBANK_CFG_GEN bank) = (rd s (Reg.CBANK_CFG_GEN bank) + 1) % 2 ^ 32 := by
  have hvalue : 11 ≠ 2 + i := by omega
  simp [counterReset_eq bank s hi, rd_inc, rd_wr, hvalue]

theorem rd_counterReset_of_ne (hi : i < 8) {a : Addr} (hv : a ≠ Reg.CBANK_VALUE bank i)
    (ho : a ≠ Reg.CBANK_OVF bank) (hg : a ≠ Reg.CBANK_CFG_GEN bank) :
    rd (counterReset (bank * 8 + i) s) a = rd s a := by
  rw [counterReset_eq bank s hi, rd_inc, if_neg hg, rd_wr_ne _ _ ho, rd_wr_ne _ _ hv]

theorem counterReset_shadow (c : Nat) : (counterReset c s).shadow = s.shadow := by
  simp only [counterReset, inc, wr_shadow]

end

/-! ## The program of a counter -/

section
variable {b : Bank} {i : Fin 8} {ws : List (Fin 6 × BitVec 16)} {s : State}

theorem exec_counterProgram_refused
    (h : counterAccepted s (b.val * 8 + i.val) (ws.map (fun w => (w.1.val, w.2.toNat))) = false) :
    exec (.counterProgram b i ws) s = .next s := by
  have hsame : doCounterProgram b.val i.val (ws.map (fun w => (w.1.val, w.2.toNat))) s = s := if_pos (Or.inr h)
  change Host.Outcome.next (written s _) = _
  rw [written, hsame, ite_self]

theorem exec_counterProgram_accepted (hup : s.groom.up = true) (hne : ws ≠ [])
    (h : counterAccepted s (b.val * 8 + i.val) (ws.map (fun w => (w.1.val, w.2.toNat))) = true) :
    exec (.counterProgram b i ws) s = .next (counterReset (b.val * 8 + i.val)
      (counterWrites (b.val * 8 + i.val) (ws.map (fun w => (w.1.val, w.2.toNat))) s)) := by
  have hdone : doCounterProgram b.val i.val (ws.map (fun w => (w.1.val, w.2.toNat))) s = _ :=
    if_neg (by simp [hne, h])
  change Host.Outcome.next (written s _) = _
  rw [written, if_pos hup, hdone]
  rfl

end

/-- Counter configuration is in force as soon as it is written (R451): no row of CCOUNTER is one of the set. -/
theorem inSet_ccounter (c el : Nat) : inSet ⟨0x0F01, c, el⟩ = false := by
  have hrows : ∀ r ∈ rows0F01, r.kind ≠ .configSet := by decide
  have hobj : objects.find? (fun o => o.index == 0x0F01) = some ⟨0x0F01, 1664, rows0F01⟩ := rfl
  unfold inSet
  split
  · rfl
  · next r hr =>
    simp only [rowOf, hobj, Option.ite_none_right_eq_some] at hr
    exact decide_eq_false (hrows r (List.mem_of_find?_eq_some hr.2))

/-- Settles O42: values that are not lawful refuse the message whole, and an accepted message is its writes followed by
one reset of the counter. -/
theorem countersProgrammed : Obligations.CountersProgrammed := by
  unfold Obligations.CountersProgrammed
  have hlocal : ∀ (b : Bank) (i : Fin 8), (b.val * 8 + i.val) / 8 % 26 = b.val % 26 := fun b i => by omega
  refine ⟨?refusal, ?acceptance, inSet_ccounter⟩
  case refusal =>
    intro b i ws s vs after hbad
    refine exec_counterProgram_refused (counterAccepted_eq_false ?_)
    rw [hlocal]
    exact counterLawful_eq_false hbad
  case acceptance =>
    intro b i ws s u y c vs after hup hne hrange hrow hunit hten
    have hlawful : counterLawful (bankType (c / 8 % 26)) (after 0) (after 1) (after 5) = true := by
      rw [hlocal]
      exact counterLawful_of_row hrow hunit hten
    have hi := i.isLt
    refine ⟨_, exec_counterProgram_accepted hup hne (counterAccepted_of_lawful hrange hlawful), fun el _ => ?_,
      rd_counterReset_value _ _ hi, fun j _ => ?_, ?_, ?_, fun a hv ho hg hc => ?_⟩
    · rw [rd_counterReset_of_ne _ _ hi (by simp) (by simp) (by simp), rd_counterWrites]
    · rw [testBit_counterReset_ovf _ _ hi, rd_counterWrites_bank]
    · rw [rd_counterReset_cfgGen _ _ hi, rd_counterWrites_bank]
    · rw [counterReset_shadow, counterWrites_shadow]
    · have hwrites : ∀ w ∈ vs, a ≠ ⟨0x0F01, c, w.1⟩ := fun w hw => by
        obtain ⟨x, -, rfl⟩ := List.mem_map.mp hw
        exact hc _ x.1.isLt
      rw [rd_counterReset_of_ne _ _ hi hv ho hg, rd_counterWrites_of_ne hwrites]

end Sys2Proof.Machine

/-! # Family 17: the signing keys (O49)

`revocationBarred` says when a slot is not revoked (R537): the command leaves such a slot as it is
(`mayRevoke_eq_false`), and a message that writes STATE 2 to it is answered REFUSED (`ruleRefuses_revocation_iff`). -/

namespace Sys2Proof.Machine

/-! ## What the two commands do -/

section
variable {s : State}

theorem exec_pubkeyWrite_empty {k : Fin 4} (v : BitVec 776) (hup : s.groom.up = true)
    (hempty : rd s (Reg.SIGNKEY_STATE k.val) = 0) :
    exec (.pubkeyWrite k v) s = .next (signkeyChanged
      (wr (wr s (Reg.SIGNKEY_PUBKEY k.val) v.toNat) (Reg.SIGNKEY_STATE k.val) 1)) :=
  congrArg Host.Outcome.next (if_neg (by simp [hup, hempty]))

theorem exec_pubkeyWrite_taken {k : Fin 4} (v : BitVec 776) (htaken : rd s (Reg.SIGNKEY_STATE k.val) ≠ 0) :
    exec (.pubkeyWrite k v) s = .next s :=
  congrArg Host.Outcome.next (if_pos (Or.inr htaken))

theorem exec_signkeyRevoke_allowed {k : Fin 4} (hup : s.groom.up = true) (hmay : mayRevoke s k.val = true) :
    exec (.signkeyRevoke k) s = .next (signkeyChanged (wr s (Reg.SIGNKEY_STATE k.val) 2)) :=
  congrArg Host.Outcome.next (if_neg (by simp [hup, hmay]))

theorem exec_signkeyRevoke_refused {k : Fin 4} (hmay : mayRevoke s k.val = false) :
    exec (.signkeyRevoke k) s = .next s :=
  congrArg Host.Outcome.next (if_pos (Or.inr hmay))

@[simp] theorem rd_signkeyChanged (a : Addr) : rd (signkeyChanged s) a = rd s a := rd_raise ..

end

/-! ## When a slot may be revoked -/

/-- The slot's key signed the image that runs; none runs in recovery. -/
def signedRunning (s : State) (k : Nat) : Prop :=
  rd s Reg.FIRMWARE_RUNNING_SLOT < 2 ∧ signedKey s (imageBase (rd s Reg.FIRMWARE_RUNNING_SLOT)) = k

/-- Some slot other than `k` is VALID. -/
def otherValid (s : State) (k : Nat) : Prop := ∃ j : Fin 4, j.val ≠ k ∧ rd s (Reg.SIGNKEY_STATE j.val) = 1

/-- A slot is kept as it is: it is not VALID, or it is the last VALID one, or it signed the running image. -/
def revocationBarred (s : State) (k : Nat) : Prop :=
  rd s (Reg.SIGNKEY_STATE k) ≠ 1 ∨ ¬ otherValid s k ∨ signedRunning s k

theorem any_otherValid (s : State) (k : Nat) :
    (List.range 4).any (fun j => decide (j ≠ k) && decide (rd s (Reg.SIGNKEY_STATE j) = 1)) = true ↔
      otherValid s k := by
  simp [otherValid, Fin.exists_iff, and_left_comm]

theorem mayRevoke_eq_true_iff (s : State) (k : Nat) : mayRevoke s k = true ↔ ¬ revocationBarred s k := by
  simp only [mayRevoke, Bool.and_eq_true, any_otherValid, Bool.not_eq_true', Bool.and_eq_false_iff,
    decide_eq_true_eq, decide_eq_false_iff_not, revocationBarred, signedRunning]
  tauto

theorem mayRevoke_eq_false {s : State} {k : Nat} (h : revocationBarred s k) : mayRevoke s k = false :=
  Bool.eq_false_iff.mpr fun hmay => (mayRevoke_eq_true_iff s k).mp hmay h

/-! ## A message that writes STATE 2 to one slot -/

/-- The one item of a message that revokes slot `k`. -/
def revocation (k len : Nat) : Write := ⟨Reg.SIGNKEY_STATE k, len, 2⟩

theorem signStateAfter_revocation (s : State) (k len j : Nat) :
    signStateAfter s [revocation k len] j = if j = k then 2 else rd s (Reg.SIGNKEY_STATE j) := by
  simp [signStateAfter, writesValue, writes, revocation, eq_comm]

/-- No slot is VALID after the message exactly when none but `k` is before it. -/
theorem all_signStateAfter_revocation (s : State) (k len : Nat) :
    (List.range 4).all (fun j => decide (signStateAfter s [revocation k len] j ≠ 1)) = true ↔
      ¬ otherValid s k := by
  rw [← any_otherValid, Bool.not_eq_true, List.any_eq_false, List.all_eq_true]
  refine forall₂_congr fun j _ => ?_
  by_cases hj : j = k <;> simp [signStateAfter_revocation, hj]

theorem ruleRefuses_revocation_iff (s : State) (k len : Nat) :
    ruleRefuses s [revocation k len] (revocation k len) = true ↔ revocationBarred s k := by
  change signkeyRefused s [revocation k len] (revocation k len) = true ↔ _
  rw [signkeyRefused, if_neg (by simp [revocation])]
  simp only [Bool.or_eq_true, Bool.and_eq_true, all_signStateAfter_revocation, decide_eq_true_eq, revocationBarred,
    signedRunning]
  simp [revocation, or_assoc]

/-- Settles O49: each command by whether the slot takes a key or may be revoked (R537). -/
theorem signingKeys : Obligations.SigningKeys := by
  unfold Obligations.SigningKeys
  refine ⟨by decide +kernel, ?takesKey, fun k v s => exec_pubkeyWrite_taken v, ?revoked, ?kept⟩
  case takesKey =>
    intro k v s hup hempty
    refine ⟨_, exec_pubkeyWrite_empty v hup hempty, by simp, by simp [rd_wr], fun a hstate hpub => ?_⟩
    rw [rd_signkeyChanged, rd_wr_ne _ _ hstate, rd_wr_ne _ _ hpub]
  case revoked =>
    intro k s hup hvalid hother hunsigned
    have hmay : mayRevoke s k.val = true := by
      obtain ⟨j, hj, hjvalid⟩ := hother
      rw [mayRevoke_eq_true_iff]
      rintro (hbar | hlast | ⟨hrun, hsigned⟩)
      · exact hbar hvalid
      · exact hlast ⟨j, Fin.val_ne_of_ne hj, hjvalid⟩
      · exact hunsigned.elim (Nat.not_le_of_lt hrun) (absurd hsigned)
    refine ⟨_, exec_signkeyRevoke_allowed hup hmay, by simp, fun a hstate => ?_⟩
    rw [rd_signkeyChanged, rd_wr_ne _ _ hstate]
  case kept =>
    intro k len s hrefused
    have hbarred : revocationBarred s k.val := by
      refine hrefused.imp_right (Or.imp_left ?_)
      rintro hlast ⟨j, hj, hjvalid⟩
      exact hlast j (mt (congrArg Fin.val) hj) hjvalid
    exact ⟨exec_signkeyRevoke_refused (mayRevoke_eq_false hbarred),
      (ruleRefuses_revocation_iff s k.val len).mpr hbarred⟩

end Sys2Proof.Machine

/-! # Family 19: a board management line held low (O53)

The target's return to idle leaves nothing in the state: the command counts one BMI_FAULTS and raises the record
(`exec_bmiLineHeldLow`), and the rules of `inc` and `raise` say what that leaves alone. BMI_BUS_FAULT has the bucket of
the rate-limited codes: eight tokens, one gained a second (R490). -/

namespace Sys2Proof.Machine

theorem exec_bmiLineHeldLow (scl : Bool) (s : State) :
    exec (.bmiLineHeldLow scl) s = .next (raise (inc s Reg.PACKAGE_BMI_FAULTS 32) Code.BMI_BUS_FAULT 8
      [(8, if scl then 0 else 1)]) := rfl

@[simp] theorem inc_pins (s : State) (a : Addr) (w : Nat) : (inc s a w).pins = s.pins := wr_pins ..
@[simp] theorem inc_outputs (s : State) (a : Addr) (w : Nat) : (inc s a w).outputs = s.outputs := wr_outputs ..
@[simp] theorem inc_raised (s : State) (a : Addr) (w : Nat) : (inc s a w).raised = s.raised := wr_raised ..

/-- The defaults of a code's bucket (R490). -/
theorem regDefault_codecfg_burst (code : Nat) :
    regDefault (Reg.CODECFG_BURST code) = if code ∈ rateLimitedCodes then 8 else 64 := by simp only [regDefault]

theorem regDefault_codecfg_periodMs (code : Nat) :
    regDefault (Reg.CODECFG_PERIOD_MS code) = if code ∈ rateLimitedCodes then 1000 else 10 := by simp only [regDefault]

/-- The chapter marks the record rate-limited (R592, R601). -/
theorem bmiBusFault_mem_rateLimitedCodes : Code.BMI_BUS_FAULT ∈ rateLimitedCodes := by decide

/-- Settles O53: the command is one count and one record, and each rule of `inc` and `raise` gives a clause (R592). -/
theorem boardBusFault : Obligations.BoardBusFault := by
  unfold Obligations.BoardBusFault
  refine ⟨fun scl s => ⟨_, exec_bmiLineHeldLow scl s, ?pins, ?outputs, ?counted, ?record, ?elsewhere⟩, ?burst, ?period⟩
  case pins => rw [raise_pins, inc_pins]
  case outputs => rw [raise_outputs, inc_outputs]
  case counted => rw [rd_raise, rd_inc, if_pos rfl]
  case record => rw [raise_raised, inc_raised]
  case elsewhere =>
    intro a ha
    rw [rd_raise, rd_inc, if_neg ha]
  case burst => rw [regDefault_codecfg_burst, if_pos bmiBusFault_mem_rateLimitedCodes]
  case period => rw [regDefault_codecfg_periodMs, if_pos bmiBusFault_mem_rateLimitedCodes]

end Sys2Proof.Machine

/-! # What a command leaves unchanged (O2, O57, O58, O59)

`outside P s` is the state with everything blanked but the eleven parts of which Safety.lean speaks, and of these the
ones `P` lets change. `outside P t = outside P s` says of a step from `s` to `t` that it stays inside `P`; the rules
below say so of each function of the model, for every `P` that holds the parts the function itself writes, and `simp`
peels a command's meaning with them (`exec_outside`). -/

namespace Sys2Proof.Machine

/-- The parts of the state whose changes Safety.lean assigns to commands. -/
inductive Part where
  | pending | flash | pins | time | telem | banks | clock | groom | power | shadow | book
deriving DecidableEq

/-- The parts of a state outside `P`; what `P` lets change, and every other field, is blanked. -/
def outside (P : Part → Bool) (s : State) : State :=
  { pending := if P .pending then [] else s.pending
    flash := if P .flash then [] else s.flash
    pins := if P .pins then {} else s.pins
    time := if P .time then {} else s.time
    telem := if P .telem then [] else s.telem
    bankBase := if P .banks then [] else s.bankBase
    clock := if P .clock then {} else s.clock
    groom := if P .groom then {} else s.groom
    power := if P .power then {} else s.power
    shadow := if P .shadow then [] else s.shadow
    book := if P .book then {} else s.book }

/-- Everything but the queue of commands and the flash may change: what a message of Sirgo and a reset can reach. -/
def AllowsRest (P : Part → Bool) : Prop := ∀ p, p ≠ .pending → p ≠ .flash → P p = true

theorem AllowsRest.has {P : Part → Bool} (h : AllowsRest P) {p : Part} (hp : p ≠ .pending) (hf : p ≠ .flash) :
    P p = true := h p hp hf

section
variable (P : Part → Bool) (s : State)

@[simp] theorem outside_wr (a : Addr) (v : Nat) : outside P (wr s a v) = outside P s := (rfl)
@[simp] theorem outside_emit (o : Output) : outside P (emit s o) = outside P s := (rfl)
@[simp] theorem outside_raise (code src : Nat) (items : List (Nat × Nat)) :
    outside P (raise s code src items) = outside P s := (rfl)
@[simp] theorem outside_modLink (p : Nat) (f : Link → Link) : outside P (modLink s p f) = outside P s := (rfl)
@[simp] theorem outside_modLight (f : Light → Light) : outside P (modLight s f) = outside P s := (rfl)
@[simp] theorem outside_modForward (f : Forwarding → Forwarding) : outside P (modForward s f) = outside P s := (rfl)
@[simp] theorem outside_modEgress (f : Egress → Egress) : outside P (modEgress s f) = outside P s := (rfl)
@[simp] theorem outside_modColl (f : Collective → Collective) : outside P (modColl s f) = outside P s := (rfl)
@[simp] theorem outside_modLattice (f : Lattice → Lattice) : outside P (modLattice s f) = outside P s := (rfl)
@[simp] theorem outside_modSets (f : Sets → Sets) : outside P (modSets s f) = outside P s := (rfl)
@[simp] theorem outside_modTwin (f : Twin → Twin) : outside P (modTwin s f) = outside P s := (rfl)
@[simp] theorem outside_modVets (f : Vets → Vets) : outside P (modVets s f) = outside P s := (rfl)

theorem outside_congr {s t : State} (hpending : t.pending = s.pending) (hflash : t.flash = s.flash)
    (hpins : t.pins = s.pins) (htime : t.time = s.time) (htelem : t.telem = s.telem) (hbanks : t.bankBase = s.bankBase)
    (hclock : t.clock = s.clock) (hgroom : t.groom = s.groom) (hpower : t.power = s.power)
    (hshadow : t.shadow = s.shadow) (hbook : t.book = s.book) : outside P t = outside P s := by
  simp only [outside, hpending, hflash, hpins, htime, htelem, hbanks, hclock, hgroom, hpower, hshadow, hbook]

variable {P}
@[simp] theorem outside_modClock (h : P .clock = true) (f : EpochClock → EpochClock) :
    outside P (modClock s f) = outside P s := by simp [outside, h]
@[simp] theorem outside_modBook (h : P .book = true) (f : Book → Book) :
    outside P (modBook s f) = outside P s := by simp [outside, h]
@[simp] theorem outside_modGroom (h : P .groom = true) (f : Groom → Groom) :
    outside P (modGroom s f) = outside P s := by simp [outside, h]
@[simp] theorem outside_modPower (h : P .power = true) (f : Power → Power) :
    outside P (modPower s f) = outside P s := by simp [outside, h]
@[simp] theorem outside_modPins (h : P .pins = true) (f : Pins → Pins) :
    outside P (modPins s f) = outside P s := by simp [outside, h]

theorem outside_flash (h : P .flash = true) (m : Memory) : outside P { s with flash := m } = outside P s := by
  simp [outside, h]
theorem outside_time (h : P .time = true) (x : Timebase) : outside P { s with time := x } = outside P s := by
  simp [outside, h]
theorem outside_telem (h : P .telem = true) (x : Tab TelemBucket) :
    outside P { s with telem := x } = outside P s := by simp [outside, h]
theorem outside_banks (h : P .banks = true) (x : Tab Nat) :
    outside P { s with bankBase := x } = outside P s := by simp [outside, h]
theorem outside_shadow (h : P .shadow = true) (m : Regs) : outside P { s with shadow := m } = outside P s := by
  simp [outside, h]

variable (P)
@[simp] theorem outside_ite (c : Prop) [Decidable c] (t u : State) :
    outside P (if c then t else u) = if c then outside P t else outside P u := apply_ite ..

@[simp] theorem outside_foldl {α : Type} (f : State → α → State) (hf : ∀ s x, outside P (f s x) = outside P s)
    (xs : List α) : outside P (xs.foldl f s) = outside P s :=
  List.foldlRecOn (motive := fun t => outside P t = outside P s) xs f rfl fun t ht x _ => (hf t x).trans ht

@[simp] theorem outside_foldl_fst {α β : Type} (f : State × β → α → State × β)
    (hf : ∀ r x, outside P (f r x).1 = outside P r.1) (xs : List α) (r : State × β) :
    outside P (xs.foldl f r).1 = outside P r.1 :=
  List.foldlRecOn (motive := fun t => outside P t.1 = outside P r.1) xs f rfl fun t ht x _ => (hf t x).trans ht
end

section
variable (P : Part → Bool)

/-! ## The named operations over the state -/

@[simp] theorem outside_wrI (w : Nat) (s : State) (a : Addr) (x : Int) : outside P (wrI w s a x) = outside P s := by
  simp [wrI]
@[simp] theorem outside_inc (s : State) (a : Addr) (w : Nat) : outside P (inc s a w) = outside P s := by simp [inc]
@[simp] theorem outside_incBy (s : State) (a : Addr) (w n : Nat) : outside P (incBy s a w n) = outside P s := by
  simp [incBy]
@[simp] theorem outside_raiseTo (s : State) (a : Addr) (v : Nat) : outside P (raiseTo s a v) = outside P s := by
  simp [raiseTo]
@[simp] theorem outside_putFrame (s : State) (id : Nat) (f : Frame) :
    outside P (putFrame s id f) = outside P s := (rfl)
@[simp] theorem outside_delFrame (s : State) (id : Nat) : outside P (delFrame s id) = outside P s := (rfl)
@[simp] theorem outside_modFrame (s : State) (id : Nat) (g : Frame → Frame) :
    outside P (modFrame s id g) = outside P s := by
  unfold modFrame
  split <;> simp
@[simp] theorem outside_newFrame (s : State) (f : Frame) : outside P (newFrame s f).1 = outside P s := (rfl)
@[simp] theorem outside_modQueue (s : State) (q : Nat) (f : EQueue → EQueue) :
    outside P (modQueue s q f) = outside P s := by simp [modQueue]
@[simp] theorem outside_modSched (s : State) (p : Nat) (f : PortSched → PortSched) :
    outside P (modSched s p f) = outside P s := by simp [modSched]
@[simp] theorem outside_modBucket (s : State) (f : Nat) (g : NotifyBucket → NotifyBucket) :
    outside P (modBucket s f g) = outside P s := by simp [modBucket]
@[simp] theorem outside_setChord (s : State) (c : Nat) (x : ChordState) :
    outside P (setChord s c x) = outside P s := by simp [setChord]
@[simp] theorem outside_modTeam (s : State) (t : Nat) (f : TeamCtx → TeamCtx) :
    outside P (modTeam s t f) = outside P s := by simp [modTeam]
@[simp] theorem outside_modSlot (s : State) (t j : Nat) (f : ChunkSlot → ChunkSlot) :
    outside P (modSlot s t j f) = outside P s := by simp [modSlot]
@[simp] theorem outside_addCounter (s : State) (bank i n : Nat) :
    outside P (addCounter s bank i n) = outside P s := by simp [addCounter]
@[simp] theorem outside_countIn (s : State) (bank sel : Nat) (e : Event) :
    outside P (countIn s bank sel e) = outside P s := by simp [countIn]
@[simp] theorem outside_countPortN (s : State) (p sel n : Nat) : outside P (countPortN s p sel n) = outside P s := by
  simp [countPortN]
@[simp] theorem outside_countPort (s : State) (p sel : Nat) : outside P (countPort s p sel) = outside P s := by
  simp [countPort]
@[simp] theorem outside_countFrame (s : State) (p sel : Nat) (h : Block) :
    outside P (countFrame s p sel h) = outside P s := by simp [countFrame]
@[simp] theorem outside_countFrameIn (s : State) (bank sel : Nat) (h : Block) :
    outside P (countFrameIn s bank sel h) = outside P s := by simp [countFrameIn]
@[simp] theorem outside_discardAt (s : State) (p why : Nat) (h : Block) :
    outside P (discardAt s p why h) = outside P s := by simp [discardAt]
@[simp] theorem outside_discardIn (s : State) (f : Frame) (why : Nat) (h : Block) :
    outside P (discardIn s f why h) = outside P s := by simp [discardIn]
@[simp] theorem outside_parkRing (s : State) (r : Nat) : outside P (parkRing s r) = outside P s := by simp [parkRing]
@[simp] theorem outside_parkToRecount (s : State) (r : Nat) : outside P (parkToRecount s r) = outside P s := by
  simp [parkToRecount]

/-! ## The status computations of the block -/

@[simp] theorem outside_unitRefresh (before after : State) :
    outside P (unitRefresh before after) = outside P after := by simp [unitRefresh]

/-! ## The life of a frame inside the solid -/

@[simp] theorem outside_freeCredits (s : State) (f : Frame) : outside P (freeCredits s f) = outside P s := by
  simp [freeCredits]
@[simp] theorem outside_settle (s : State) (id : Nat) : outside P (settle s id) = outside P s := by
  unfold settle
  split <;> simp
@[simp] theorem outside_unqueue (s : State) (q id : Nat) : outside P (unqueue s q id) = outside P s := by
  simp [unqueue]
@[simp] theorem outside_queueSettled (s : State) (q : Nat) : outside P (queueSettled s q) = outside P s := by
  simp [queueSettled]
@[simp] theorem outside_releaseWaiting (s : State) (q : Nat) : outside P (releaseWaiting s q) = outside P s := by
  simp [releaseWaiting]
@[simp] theorem outside_unhold (s : State) (f : Frame) (id : Nat) : outside P (unhold s f id) = outside P s := by
  simp [unhold]
@[simp] theorem outside_copyDone (s : State) (parent : Nat) : outside P (copyDone s parent) = outside P s := by
  simp [copyDone]
@[simp] theorem outside_removeFrame (s : State) (id : Nat) : outside P (removeFrame s id) = outside P s := by
  unfold removeFrame
  split <;> simp
@[simp] theorem outside_dropIn (s : State) (id why : Nat) : outside P (dropIn s id why) = outside P s := by
  unfold dropIn
  split <;> simp
@[simp] theorem outside_dropOut (s : State) (id why : Nat) : outside P (dropOut s id why) = outside P s := by
  unfold dropOut
  split <;> simp
@[simp] theorem outside_addBlock (s : State) (id : Nat) (b : Block) : outside P (addBlock s id b) = outside P s := by
  simp [addBlock]
@[simp] theorem outside_pumpN (n : Nat) (s : State) (p : Nat) : outside P (pumpN n s p) = outside P s := by
  induction n generalizing s with
  | zero => rfl
  | succ n ih => unfold pumpN; dsimp only; (repeat' split) <;> simp [ih]
@[simp] theorem outside_pumpBlocks (s : State) (p : Nat) : outside P (pumpBlocks s p) = outside P s := by
  simp [pumpBlocks]
@[simp] theorem outside_poisonOut (cause : Nat) (s : State) (id : Nat) :
    outside P (poisonOut cause s id) = outside P s := by
  unfold poisonOut
  split <;> simp
@[simp] theorem outside_cutSending (s : State) (id sent : Nat) : outside P (cutSending s id sent) = outside P s := by
  unfold cutSending
  split <;> simp
@[simp] theorem outside_endShort (s : State) (id cause : Nat) : outside P (endShort s id cause) = outside P s := by
  simp [endShort]
@[simp] theorem outside_truncateIfCut (s : State) (p : Nat) : outside P (truncateIfCut s p) = outside P s := by
  simp [truncateIfCut]

/-! ## Scheduling, Shaping and Policing -/

@[simp] theorem outside_setShaper (s : State) (k : Nat) (x : Shaper) : outside P (setShaper s k x) = outside P s := by
  simp [setShaper]
@[simp] theorem outside_refill (s : State) (k : Nat) : outside P (refill s k) = outside P s := by simp [refill]
@[simp] theorem outside_spend (s : State) (k charge : Nat) : outside P (spend s k charge) = outside P s := by
  simp [spend]
@[simp] theorem outside_swapRefill (s : State) (k : Nat) : outside P (swapRefill s k) = outside P s := by
  simp only [swapRefill]
  (repeat' split) <;> simp
@[simp] theorem outside_wakeQueue (s : State) (q : Nat) : outside P (wakeQueue s q) = outside P s := by
  simp [wakeQueue]
@[simp] theorem outside_wheelEntry (s : State) (k : Nat) : outside P (wheelEntry s k) = outside P s := by
  simp [wheelEntry]
@[simp] theorem outside_doWheelSlotDue (facet : Nat) (s : State) :
    outside P (doWheelSlotDue facet s) = outside P s := by simp [doWheelSlotDue]
@[simp] theorem outside_doShaperSwapRefill (q : Nat) (s : State) :
    outside P (doShaperSwapRefill q s) = outside P s := by simp [doShaperSwapRefill]
@[simp] theorem outside_setPolicer (s : State) (t g : Nat) (x : Policer) :
    outside P (setPolicer s t g x) = outside P s := by simp [setPolicer]
@[simp] theorem outside_countAtIngress (s : State) (f : Frame) (sel : Nat) :
    outside P (countAtIngress s f sel) = outside P s := by simp [countAtIngress]
@[simp] theorem outside_police (s : State) (id : Nat) : outside P (police s id) = outside P s := by
  unfold police
  split <;> simp
@[simp] theorem outside_nextKeepalive (s : State) (p : Nat) : outside P (nextKeepalive s p) = outside P s := by
  simp [nextKeepalive]
@[simp] theorem outside_setCmd (p cmd : Nat) (s : State) : outside P (setCmd p cmd s) = outside P s := by
  simp [setCmd]
@[simp] theorem outside_setCmdBit (p b : Nat) (on : Bool) (s : State) :
    outside P (setCmdBit p b on s) = outside P s := by simp [setCmdBit]
@[simp] theorem outside_chargeLink (s : State) (p v c : Nat) : outside P (chargeLink s p v c) = outside P s := by
  simp [chargeLink]
@[simp] theorem outside_noteCharged (s : State) (p : Nat) (h : Block) :
    outside P (noteCharged s p h) = outside P s := by simp [noteCharged]
@[simp] theorem outside_beginWake (p : Nat) (s : State) : outside P (beginWake p s) = outside P s := by
  simp [beginWake]
@[simp] theorem outside_startWake (p : Nat) (s : State) : outside P (startWake p s) = outside P s := by
  simp [startWake]
@[simp] theorem outside_abortSleep (p : Nat) (s : State) : outside P (abortSleep p s) = outside P s := by
  simp [abortSleep]
@[simp] theorem outside_wakePort (p : Nat) (s : State) : outside P (wakePort p s) = outside P s := by
  unfold wakePort
  split <;> simp
@[simp] theorem outside_markWaiting (s : State) (q : Nat) : outside P (markWaiting s q) = outside P s := by
  simp [markWaiting]
@[simp] theorem outside_ctrlPick (qs : List Nat) (s : State) : outside P (ctrlPick qs s).1 = outside P s := by
  induction qs generalizing s with
  | nil => rfl
  | cons q rest ih => unfold ctrlPick; (repeat' split) <;> simp [ih]
@[simp] theorem outside_ringNext (s : State) (p q : Nat) : outside P (ringNext s p q) = outside P s := by
  simp [ringNext]
@[simp] theorem outside_drrNext (ok : State → Nat → Bool) (n : Nat) (s : State) (p : Nat) :
    outside P (drrNext ok n s p).1 = outside P s := by
  induction n generalizing s with
  | zero => rfl
  | succ n ih => unfold drrNext; dsimp only; (repeat' split) <;> simp [ih]
@[simp] theorem outside_drrPick (n : Nat) (s : State) (p : Nat) : outside P (drrPick n s p).1 = outside P s := by
  induction n generalizing s with
  | zero => exact outside_drrNext ..
  | succ n ih => unfold drrPick; (repeat' split) <;> simp [ih]
@[simp] theorem outside_beginFrame (q id : Nat) (f : Frame) (s : State) :
    outside P (beginFrame q id f s) = outside P s := by simp [beginFrame]
@[simp] theorem outside_noteCtrlHeld (s : State) (p : Nat) : outside P (noteCtrlHeld s p) = outside P s := by
  simp [noteCtrlHeld]
@[simp] theorem outside_doCtrlHeld (p : Nat) (s : State) : outside P (doCtrlHeld p s) = outside P s := by
  unfold doCtrlHeld
  split <;> simp
@[simp] theorem outside_doStallAlert (p v : Nat) (s : State) : outside P (doStallAlert p v s) = outside P s := by
  unfold doStallAlert
  split <;> simp
@[simp] theorem outside_resetSched (p : Nat) (s : State) : outside P (resetSched p s) = outside P s := by
  simp [resetSched]

/-! ## Shared Buffers and Spill -/

@[simp] theorem outside_nextRandom (s : State) (k : Nat) : outside P (nextRandom s k).1 = outside P s := by
  simp [nextRandom]
@[simp] theorem outside_writeSegments (n : Nat) (s : State) (q : Nat) (tail : List Nat) :
    outside P (writeSegments n s q tail) = outside P s := by
  induction n generalizing s tail with
  | zero => rfl
  | succ n ih =>
    unfold writeSegments
    extract_lets r ids cells whole ten g sid grp youngest s1 s2 s3
    have h3 : outside P s3 = outside P s := by simp [s3, s2, s1]
    (repeat' split) <;> simp [ih, h3]
@[simp] theorem outside_spillStep (s : State) (q : Nat) : outside P (spillStep s q) = outside P s := by
  simp [spillStep]
@[simp] theorem outside_ecnMark (s : State) (f : Frame) : outside P (ecnMark s f).1 = outside P s := by
  simp only [ecnMark]
  (repeat' split) <;> simp
@[simp] theorem outside_enqueue (s : State) (id : Nat) : outside P (enqueue s id) = outside P s := by
  unfold enqueue
  split <;> simp
@[simp] theorem outside_admitFrame (s : State) (id : Nat) (r : Region) :
    outside P (admitFrame s id r) = outside P s := by
  unfold admitFrame
  split <;> simp
@[simp] theorem outside_waitFrame (s : State) (id : Nat) (f : Frame) (c : WaitCause) :
    outside P (waitFrame s id f c) = outside P s := by simp [waitFrame]
@[simp] theorem outside_testRequest (s : State) (id : Nat) : outside P (testRequest s id) = outside P s := by
  unfold testRequest
  (repeat' split) <;> simp
@[simp] theorem outside_doAdmissionRetry (g : Nat) (s : State) : outside P (doAdmissionRetry g s) = outside P s := by
  simp [doAdmissionRetry]
@[simp] theorem outside_doAdmitRequest (id : Nat) (s : State) : outside P (doAdmitRequest id s) = outside P s := by
  unfold doAdmitRequest
  split <;> simp
@[simp] theorem outside_setSegment (s : State) (q sid : Nat) (p : SegPlace) :
    outside P (setSegment s q sid p) = outside P s := by simp [setSegment]
@[simp] theorem outside_doSegmentWriteDone (g sid : Nat) (s : State) :
    outside P (doSegmentWriteDone g sid s) = outside P s := by
  unfold doSegmentWriteDone
  split <;> simp
@[simp] theorem outside_doPrefetchIssue (q : Nat) (s : State) : outside P (doPrefetchIssue q s) = outside P s := by
  simp only [doPrefetchIssue]
  (repeat' split) <;> simp
@[simp] theorem outside_doPrefetchDone (q sid : Nat) (bad : List Nat) (corrected : Nat) (s : State) :
    outside P (doPrefetchDone q sid bad corrected s) = outside P s := by
  unfold doPrefetchDone
  split <;> simp
@[simp] theorem outside_doPfStall (q : Nat) (s : State) : outside P (doPfStall q s) = outside P s := by
  simp only [doPfStall]
  (repeat' split) <;> simp
@[simp] theorem outside_spillTick (s : State) (q : Nat) : outside P (spillTick s q) = outside P s := by
  simp [spillTick]
@[simp] theorem outside_hbmQueuesOut (g cg : Nat) (s : State) : outside P (hbmQueuesOut g cg s) = outside P s := by
  simp [hbmQueuesOut]
@[simp] theorem outside_doResidenceSweep (g : Nat) (s : State) : outside P (doResidenceSweep g s) = outside P s := by
  simp [doResidenceSweep]

/-! ## Forwarding, Spraying and Ordering -/

@[simp] theorem outside_failoverCheck (s : State) : outside P (failoverCheck s) = outside P s := by
  simp [failoverCheck]
@[simp] theorem outside_trackChannel (s : State) (f : Frame) (g slot : Nat) :
    outside P (trackChannel s f g slot) = outside P s := by
  simp only [trackChannel]
  (repeat' split) <;> simp
@[simp] theorem outside_sendToward (s : State) (id q : Nat) (repin : Bool) :
    outside P (sendToward s id q repin) = outside P s := by
  unfold sendToward
  split <;> simp
@[simp] theorem outside_spray (s : State) (f : Frame) (g : Nat) : outside P (spray s f g).1 = outside P s := by
  simp only [spray]
  (repeat' split) <;> simp
@[simp] theorem outside_holdFrame (s : State) (id g slot : Nat) :
    outside P (holdFrame s id g slot) = outside P s := by
  unfold holdFrame
  split <;> simp
@[simp] theorem outside_choose (s : State) (id g : Nat) : outside P (choose s id g) = outside P s := by
  simp only [choose]
  (repeat' split) <;> simp
@[simp] theorem outside_sendCopies (s : State) (id : Nat) (f : Frame) (ports : List Nat) :
    outside P (sendCopies s id f ports) = outside P s := by simp [sendCopies]
@[simp] theorem outside_replicate (s : State) (id t : Nat) : outside P (replicate s id t) = outside P s := by
  simp only [replicate]
  (repeat' split) <;> simp
@[simp] theorem outside_floodFrame (s : State) (id : Nat) (f : Frame) :
    outside P (floodFrame s id f) = outside P s := by simp [floodFrame]
@[simp] theorem outside_bridgeForward (s : State) (id : Nat) (failed : Bool) :
    outside P (bridgeForward s id failed) = outside P s := by
  simp only [bridgeForward]
  (repeat' split) <;> simp
@[simp] theorem outside_learnHit (s : State) (f : Frame) (way : Nat × Nat × Bool) (ten mac src : Nat) :
    outside P (learnHit s f way ten mac src) = outside P s := by simp [learnHit]
@[simp] theorem outside_bridge (s : State) (id : Nat) : outside P (bridge s id) = outside P s := by
  simp only [bridge]
  (repeat' split) <;> simp
@[simp] theorem outside_resumeLearning (n : Nat) (s : State) : outside P (resumeLearning n s) = outside P s := by
  induction n generalizing s with
  | zero => rfl
  | succ n ih =>
    unfold resumeLearning
    split
    · rfl
    · rw [ih, outside_bridge]
@[simp] theorem outside_takeInsertion (facet : Nat) (x : Insertion) (s : State) :
    outside P (takeInsertion facet x s) = outside P s := by
  simp only [takeInsertion]
  (repeat' split) <;> simp
@[simp] theorem outside_doLearnInsertion (facet : Nat) (s : State) :
    outside P (doLearnInsertion facet s) = outside P s := by
  unfold doLearnInsertion
  split <;> simp
@[simp] theorem outside_doLearnSweep (i : Nat) (s : State) : outside P (doLearnSweep i s) = outside P s := by
  unfold doLearnSweep
  split <;> simp
@[simp] theorem outside_enqueueRequest (s : State) (r : Request) :
    outside P (enqueueRequest s r) = outside P s := outside_raiseTo ..
@[simp] theorem outside_localWhole (s : State) (id : Nat) : outside P (localWhole s id) = outside P s := by
  unfold localWhole
  split <;> simp
@[simp] theorem outside_deliverLocal (s : State) (id : Nat) : outside P (deliverLocal s id) = outside P s := by
  unfold deliverLocal
  split <;> simp
@[simp] theorem outside_lookup (s : State) (id : Nat) : outside P (lookup s id) = outside P s := by
  unfold lookup
  split <;> simp
@[simp] theorem outside_mirrorCopy (s : State) (i dir p id : Nat) (f : Frame) (h : Block) (ten : Nat) :
    outside P (mirrorCopy s i dir p id f h ten) = outside P s := by simp [mirrorCopy]
@[simp] theorem outside_mirrorAt (s : State) (id dir p : Nat) (h : Block) (ten : Nat) (test : Nat → Bool) :
    outside P (mirrorAt s id dir p h ten test) = outside P s := by
  unfold mirrorAt
  split <;> simp
@[simp] theorem outside_mirrorIngress (s : State) (id p : Nat) (h : Block) :
    outside P (mirrorIngress s id p h) = outside P s := by simp [mirrorIngress]
@[simp] theorem outside_mirrorEgress (s : State) (id p : Nat) (h : Block) :
    outside P (mirrorEgress s id p h) = outside P s := by simp [mirrorEgress]
@[simp] theorem outside_mirrorMatch (s : State) (id p : Nat) (h rx : Block) :
    outside P (mirrorMatch s id p h rx) = outside P s := by simp [mirrorMatch]
@[simp] theorem outside_stage3 (s : State) (id : Nat) : outside P (stage3 s id) = outside P s := by
  unfold stage3
  split <;> simp
@[simp] theorem outside_originate (s : State) (facet : Nat) (h : Block) (blocks : List Block)
    (owner : Nat := 0xFFFFFFFF) :
    outside P (originate s facet h blocks owner) = outside P s := by simp [originate]
@[simp] theorem outside_sendNotify (s : State) (facet : Nat) (h : Block) (blocks : List Block) :
    outside P (sendNotify s facet h blocks) = outside P s := by simp [sendNotify]
@[simp] theorem outside_noteGap (s : State) (facet dst : Nat) : outside P (noteGap s facet dst) = outside P s := by
  simp [noteGap]
@[simp] theorem outside_doQuotaNotify (id : Nat) (s : State) : outside P (doQuotaNotify id s) = outside P s := by
  unfold doQuotaNotify
  split <;> simp
@[simp] theorem outside_resumeBridge (s : State) (id : Nat) : outside P (resumeBridge s id) = outside P s := by
  unfold resumeBridge
  split <;> simp
@[simp] theorem outside_pump (s : State) (p : Nat) : outside P (pump s p) = outside P s := by simp [pump]
@[simp] theorem outside_refuseFrame (s : State) (p why : Nat) (h : Block) :
    outside P (refuseFrame s p why h) = outside P s := by simp [refuseFrame]
@[simp] theorem outside_passFrame (s : State) (p id : Nat) (h : Block) :
    outside P (passFrame s p id h) = outside P s := by simp [passFrame]
@[simp] theorem outside_doFrameHeader (p : Nat) (s : State) : outside P (doFrameHeader p s) = outside P s := by
  simp only [doFrameHeader]
  (repeat' split) <;> simp
@[simp] theorem outside_doFrameBlock1 (p : Nat) (s : State) : outside P (doFrameBlock1 p s) = outside P s := by
  simp only [doFrameBlock1]
  (repeat' split) <;> simp
@[simp] theorem outside_doFrameTail (p : Nat) (s : State) : outside P (doFrameTail p s) = outside P s := by
  simp only [doFrameTail]
  (repeat' split) <;> simp
@[simp] theorem outside_releaseSlot (s : State) (g slot : Nat) : outside P (releaseSlot s g slot) = outside P s := by
  simp [releaseSlot]
@[simp] theorem outside_releaseIfFree (s : State) (g slot : Nat) :
    outside P (releaseIfFree s g slot) = outside P s := by simp [releaseIfFree]
@[simp] theorem outside_releaseLists (s : State) : outside P (releaseLists s) = outside P s := by simp [releaseLists]
@[simp] theorem outside_doHoldSet (g : Nat) (s : State) : outside P (doHoldSet g s) = outside P s := by
  simp [doHoldSet]
@[simp] theorem outside_doHoldClear (g : Nat) (s : State) : outside P (doHoldClear g s) = outside P s := by
  simp [doHoldClear]
@[simp] theorem outside_moveSlot (s : State) (g slot p : Nat) (window : Bool) :
    outside P (moveSlot s g slot p window) = outside P s := by simp [moveSlot]
@[simp] theorem outside_reassign (s : State) (g : Nat) (pick : Nat → Bool) :
    outside P (reassign s g pick).1 = outside P s := by
  refine outside_foldl_fst P _ (fun r x => ?_) _ _
  dsimp only
  split <;> simp
@[simp] theorem outside_repinLost (s : State) (p : Nat) : outside P (repinLost s p) = outside P s := by
  simp [repinLost]
@[simp] theorem outside_groupsLose (before s : State) (ports : List Nat) :
    outside P (groupsLose before s ports) = outside P s := by simp [groupsLose]
@[simp] theorem outside_groupsGainPort (s : State) (p : Nat) : outside P (groupsGainPort s p) = outside P s := by
  simp [groupsGainPort]
@[simp] theorem outside_doRepinEnd (g slot : Nat) (s : State) : outside P (doRepinEnd g slot s) = outside P s := by
  simp only [doRepinEnd]
  (repeat' split) <;> simp
@[simp] theorem outside_doPinRestore (g slot : Nat) (s : State) :
    outside P (doPinRestore g slot s) = outside P s := by simp [doPinRestore]
@[simp] theorem outside_doDepthPublish (facet : Nat) (s : State) :
    outside P (doDepthPublish facet s) = outside P s := by simp [doDepthPublish]

/-! ## The transmit side of a port -/

@[simp] theorem outside_setDrain (s : State) (k : Nat) (d : DrainRun) : outside P (setDrain s k d) = outside P s := by
  simp [setDrain]
@[simp] theorem outside_sendMark (k : Nat) (s : State) (e : Nat × Nat) :
    outside P (sendMark k s e) = outside P s := by simp [sendMark]
@[simp] theorem outside_sendMarks (s : State) : outside P (sendMarks s) = outside P s := by simp [sendMarks]
@[simp] theorem outside_drainCheck (s : State) (g : Nat) : outside P (drainCheck s g) = outside P s := by
  simp [drainCheck]
@[simp] theorem outside_drainTick (s : State) : outside P (drainTick s) = outside P s := by simp [drainTick]
@[simp] theorem outside_doDrainStart (g : Nat) (s : State) : outside P (doDrainStart g s) = outside P s := by
  simp [doDrainStart]
@[simp] theorem outside_startPortDrain (s : State) (p : Nat) : outside P (startPortDrain s p) = outside P s := by
  simp [startPortDrain]
@[simp] theorem outside_doEchoEmit (facet : Nat) (s : State) : outside P (doEchoEmit facet s) = outside P s := by
  unfold doEchoEmit
  split <;> simp
@[simp] theorem outside_doDrainEcho (id : Nat) (s : State) : outside P (doDrainEcho id s) = outside P s := by
  simp only [doDrainEcho]
  (repeat' split) <;> simp
@[simp] theorem outside_doMarkTimeout (g : Nat) (s : State) : outside P (doMarkTimeout g s) = outside P s := by
  simp [doMarkTimeout]
@[simp] theorem outside_doCacheExpire (facet entry : Nat) (s : State) :
    outside P (doCacheExpire facet entry s) = outside P s := by simp [doCacheExpire]
@[simp] theorem outside_doUntrackedEnd (g slot : Nat) (s : State) :
    outside P (doUntrackedEnd g slot s) = outside P s := by simp [doUntrackedEnd]
@[simp] theorem outside_removeMarker (p : Nat) (s : State) (id : Nat) :
    outside P (removeMarker p s id) = outside P s := by
  unfold removeMarker
  split <;> simp
@[simp] theorem outside_takeMarkers (p : Nat) (n : Nat) (s : State) :
    outside P (takeMarkers p n s) = outside P s := by
  induction n generalizing s with
  | zero => rfl
  | succ n ih => unfold takeMarkers; split <;> simp [ih]
@[simp] theorem outside_choosePick (s : State) (p : Nat) : outside P (choosePick s p).1 = outside P s := by
  simp only [choosePick]
  (repeat' split) <;> simp
@[simp] theorem outside_resolvePick (p : Nat) (eccBad : Bool) (n : Nat) (s : State) :
    outside P (resolvePick p eccBad n s) = outside P s := by
  induction n generalizing s with
  | zero => rfl
  | succ n ih => unfold resolvePick; dsimp only; (repeat' split) <;> simp [ih]
@[simp] theorem outside_doSchedPick (p : Nat) (eccBad : Bool) (s : State) :
    outside P (doSchedPick p eccBad s) = outside P s := by simp [doSchedPick]
@[simp] theorem outside_stampOffset (s : State) (id : Nat) : outside P (stampOffset s id) = outside P s := by
  simp [stampOffset]
@[simp] theorem outside_firstBlockSent (s : State) (p id : Nat) :
    outside P (firstBlockSent s p id) = outside P s := by
  simp only [firstBlockSent]
  (repeat' split) <;> simp
@[simp] theorem outside_doFrameTxDone (p : Nat) (s : State) : outside P (doFrameTxDone p s) = outside P s := by
  unfold doFrameTxDone
  split <;> simp

/-! ## What happens to a port that stops -/

@[simp] theorem outside_vetRequest (s : State) (unit prio trig : Nat) :
    outside P (vetRequest s unit prio trig) = outside P s := by
  unfold vetRequest
  extract_lets s1
  exact (rfl : _ = outside P s1).trans (by simp [s1])
@[simp] theorem outside_flushPort (s : State) (p : Nat) : outside P (flushPort s p) = outside P s := by
  simp [flushPort]
@[simp] theorem outside_loseUnacked (s : State) (p : Nat) : outside P (loseUnacked s p) = outside P s := by
  unfold loseUnacked
  extract_lets l open_ gone s1 s2
  have h2 : outside P s2 = outside P s1 := outside_foldl P _ _ (fun s e => by split <;> simp) _
  simp [h2, s1]
@[simp] theorem outside_stopLink (s : State) (p : Nat) : outside P (stopLink s p) = outside P s := by simp [stopLink]
@[simp] theorem outside_beginDown (reason : Nat) (s : State) (p : Nat) :
    outside P (beginDown reason s p) = outside P s := by simp [beginDown]
@[simp] theorem outside_portsDown (s : State) (ports : List Nat) (reason : Nat) :
    outside P (portsDown s ports reason) = outside P s := by simp [portsDown]
@[simp] theorem outside_portDown (s : State) (p reason : Nat) : outside P (portDown s p reason) = outside P s := by
  simp [portDown]
@[simp] theorem outside_leaveService (s : State) (p : Nat) : outside P (leaveService s p) = outside P s := by
  simp [leaveService]
@[simp] theorem outside_retirePorts (s : State) (ports : List Nat) :
    outside P (retirePorts s ports) = outside P s := by simp [retirePorts]
@[simp] theorem outside_releaseHeldPorts (s : State) (ports : List Nat) :
    outside P (releaseHeldPorts s ports) = outside P s := by simp [releaseHeldPorts]
@[simp] theorem outside_repinPorts (s : State) (ports : List Nat) : outside P (repinPorts s ports) = outside P s := by
  simp [repinPorts]
@[simp] theorem outside_dropTapTransfers (s : State) (feed : Nat) :
    outside P (dropTapTransfers s feed) = outside P s := by
  refine outside_foldl P _ _ (fun s e => ?_) _
  split <;> simp
@[simp] theorem outside_favourRecord (s : State) (p old new cause : Nat) :
    outside P (favourRecord s p old new cause) = outside P s := by simp [favourRecord]
@[simp] theorem outside_applyTxSwitch (s : State) (p : Nat) (sw : LaneSwitch) :
    outside P (applyTxSwitch s p sw) = outside P s := by simp [applyTxSwitch]
@[simp] theorem outside_applyRxSwitch (s : State) (p : Nat) (sw : LaneSwitch) :
    outside P (applyRxSwitch s p sw) = outside P s := by simp [applyRxSwitch]

/-! ## Links -/

@[simp] theorem outside_doMarkerSend (p : Nat) (s : State) : outside P (doMarkerSend p s) = outside P s := by
  simp only [doMarkerSend]
  (repeat' split) <;> simp
@[simp] theorem outside_attemptFail (p reason : Nat) (s : State) :
    outside P (attemptFail p reason s) = outside P s := by simp [attemptFail]
@[simp] theorem outside_trainOnMarker (p k : Nat) (m : Nat) (s : State) :
    outside P (trainOnMarker p k m s) = outside P s := by simp [trainOnMarker]
@[simp] theorem outside_doMarkerReceived (p k : Nat) (copies : List MarkerCopy) (s : State) :
    outside P (doMarkerReceived p k copies s) = outside P s := by
  simp only [doMarkerReceived]
  (repeat' split) <;> simp
@[simp] theorem outside_startAttempt (p : Nat) (s : State) : outside P (startAttempt p s) = outside P s := by
  simp [startAttempt]
@[simp] theorem outside_doTrainAlignDone (p laneOk : Nat) (s : State) :
    outside P (doTrainAlignDone p laneOk s) = outside P s := by simp [doTrainAlignDone]
@[simp] theorem outside_doTrainTimeout (p : Nat) (s : State) : outside P (doTrainTimeout p s) = outside P s := by
  simp [doTrainTimeout]
@[simp] theorem outside_sendStream (p w x : Nat) (s : State) : outside P (sendStream p w x s) = outside P s := by
  unfold sendStream
  extract_lets t y n v left words mask s1
  have h1 : outside P s1 = outside P s := outside_modLink ..
  split <;> simp [h1]
@[simp] theorem outside_putFlit (p : Nat) (f : Flit) (s : State) : outside P (putFlit p f s) = outside P s := by
  simp [putFlit]
@[simp] theorem outside_paceFill (p : Nat) (s : State) : outside P (paceFill p s) = outside P s := by simp [paceFill]
@[simp] theorem outside_nakSent (p : Nat) (s : State) : outside P (nakSent p s) = outside P s := by simp [nakSent]
@[simp] theorem outside_poisonSending (p : Nat) (s : State) : outside P (poisonSending p s) = outside P s := by
  unfold poisonSending
  (repeat' split) <;> simp
@[simp] theorem outside_dataSlot (p : Nat) (s : State) : outside P (dataSlot p s) = outside P s := by
  unfold dataSlot
  extract_lets l null cap g n starting s1 g2 f
  have hnull : outside P null = outside P s := by simp [null]
  have h1 : outside P s1 = outside P s := outside_foldl P _ _ (fun s e => by dsimp only; split <;> simp) _
  (repeat' split) <;> simp [hnull, h1]
@[simp] theorem outside_controlSlot (p : Nat) (s : State) : outside P (controlSlot p s) = outside P s := by
  simp [controlSlot]
@[simp] theorem outside_doFlitSlot (p : Nat) (eccBad : Bool) (s : State) :
    outside P (doFlitSlot p eccBad s) = outside P s := by simp [doFlitSlot]
@[simp] theorem outside_takeSymbols (p : Nat) (lanes : LaneSymbols) (s : State) :
    outside P (takeSymbols p lanes s).1 = outside P s := by simp [takeSymbols]
@[simp] theorem outside_takeAck (p : Nat) (h : Nat) (s : State) : outside P (takeAck p h s) = outside P s := by
  simp [takeAck]
@[simp] theorem outside_failFlit (p : Nat) (s : State) : outside P (failFlit p s) = outside P s := by simp [failFlit]
@[simp] theorem outside_loseDataFlit (p : Nat) (f : Flit) (s : State) :
    outside P (loseDataFlit p f s) = outside P s := by simp [loseDataFlit]
@[simp] theorem outside_doDataFlit (p : Nat) (f : Flit) (s : State) : outside P (doDataFlit p f s) = outside P s := by
  simp [doDataFlit]
@[simp] theorem outside_doRetryWait (p : Nat) (s : State) : outside P (doRetryWait p s) = outside P s := by
  simp [doRetryWait]
@[simp] theorem outside_doAckTimeout (p : Nat) (s : State) : outside P (doAckTimeout p s) = outside P s := by
  simp [doAckTimeout]
@[simp] theorem outside_doUncorrectable (p more : Nat) (s : State) :
    outside P (doUncorrectable p more s) = outside P s := by simp [doUncorrectable]
@[simp] theorem outside_takeCredits (p v tot : Nat) (s : State) :
    outside P (takeCredits p v tot s) = outside P s := by simp [takeCredits]
@[simp] theorem outside_takeTimestamps (p : Nat) (pl : Nat) (s : State) :
    outside P (takeTimestamps p pl s) = outside P s := by simp [takeTimestamps]
@[simp] theorem outside_recordRtt (p : Nat) (s : State) : outside P (recordRtt p s) = outside P s := by
  unfold recordRtt
  split <;> simp
@[simp] theorem outside_takeAdvert (p : Nat) (pl : Nat) (s : State) :
    outside P (takeAdvert p pl s) = outside P s := by simp [takeAdvert]
@[simp] theorem outside_takeSleepReq (p : Nat) (s : State) : outside P (takeSleepReq p s) = outside P s := by
  simp [takeSleepReq]
@[simp] theorem outside_takeSleepAck (p : Nat) (s : State) : outside P (takeSleepAck p s) = outside P s := by
  simp [takeSleepAck]
@[simp] theorem outside_takeSleepNak (p : Nat) (s : State) : outside P (takeSleepNak p s) = outside P s := by
  simp [takeSleepNak]
@[simp] theorem outside_peerUnretired (p : Nat) (s : State) : outside P (peerUnretired p s) = outside P s := by
  simp [peerUnretired]
@[simp] theorem outside_takeCmd (p : Nat) (cmd : Nat) (s : State) : outside P (takeCmd p cmd s) = outside P s := by
  simp [takeCmd]
@[simp] theorem outside_goUp (p : Nat) (s : State) : outside P (goUp p s) = outside P s := by
  simp only [goUp]
  (repeat' split) <;> simp
@[simp] theorem outside_takeKeepalive (p : Nat) (pl : Nat) (s : State) :
    outside P (takeKeepalive p pl s) = outside P s := by
  simp only [takeKeepalive]
  (repeat' split) <;> simp
@[simp] theorem outside_takeControl (p : Nat) (pl : Nat) (st : Nat) (s : State) :
    outside P (takeControl p pl st s) = outside P s := by simp [takeControl]
@[simp] theorem outside_linkControl (p : Nat) (f : Flit) (s : State) :
    outside P (linkControl p f s) = outside P s := by simp [linkControl]
@[simp] theorem outside_doKeepaliveTimer (p : Nat) (s : State) : outside P (doKeepaliveTimer p s) = outside P s := by
  simp [doKeepaliveTimer]
@[simp] theorem outside_doKaLost (p : Nat) (s : State) : outside P (doKaLost p s) = outside P s := by simp [doKaLost]
@[simp] theorem outside_excludeLane (p k cause : Nat) (s : State) :
    outside P (excludeLane p k cause s) = outside P s := by simp [excludeLane]
@[simp] theorem outside_doLaneExclude (p k cause : Nat) (s : State) :
    outside P (doLaneExclude p k cause s) = outside P s := by simp [doLaneExclude]
@[simp] theorem outside_doLaneRestore (p k : Nat) (s : State) : outside P (doLaneRestore p k s) = outside P s := by
  simp [doLaneRestore]
@[simp] theorem outside_doSleepIdle (p : Nat) (s : State) : outside P (doSleepIdle p s) = outside P s := by
  simp [doSleepIdle]
@[simp] theorem outside_doSettleClose (p : Nat) (s : State) : outside P (doSettleClose p s) = outside P s := by
  simp [doSettleClose]
@[simp] theorem outside_doWakeDone (p : Nat) (s : State) : outside P (doWakeDone p s) = outside P s := by
  simp [doWakeDone]
@[simp] theorem outside_doWakeTimeout (p : Nat) (s : State) : outside P (doWakeTimeout p s) = outside P s := by
  simp [doWakeTimeout]
@[simp] theorem outside_tellDown (p : Nat) (s : State) : outside P (tellDown p s) = outside P s := by simp [tellDown]
@[simp] theorem outside_doAdminDown (p : Nat) (s : State) : outside P (doAdminDown p s) = outside P s := by
  simp [doAdminDown]
@[simp] theorem outside_doAdminUp (p : Nat) (s : State) : outside P (doAdminUp p s) = outside P s := by
  simp [doAdminUp]

/-! ## Chords -/

@[simp] theorem outside_countChords (s : State) : outside P (countChords s) = outside P s := by simp [countChords]
@[simp] theorem outside_takeSeeds (s : State) (p : Nat) : outside P (takeSeeds s p) = outside P s := by
  simp [takeSeeds]
  (repeat' split) <;> simp
@[simp] theorem outside_dropSeeds (s : State) (p : Nat) : outside P (dropSeeds s p) = outside P s := by
  simp [dropSeeds]
@[simp] theorem outside_seedRing (s : State) (p side k : Nat) : outside P (seedRing s p side k) = outside P s := by
  simp only [seedRing]
  (repeat' split) <;> simp
@[simp] theorem outside_seedRings (s : State) (p side : Nat) : outside P (seedRings s p side) = outside P s := by
  simp [seedRings]
@[simp] theorem outside_seedStrand (x : ChordState) (strand : Nat) (s : State) :
    outside P (seedStrand x strand s) = outside P s := by simp [seedStrand]
@[simp] theorem outside_chordSeed (c : Nat) (s : State) : outside P (chordSeed c s) = outside P s := by
  simp [chordSeed]
@[simp] theorem outside_chordSetup (c pa pb : Nat) (s : State) : outside P (chordSetup c pa pb s) = outside P s := by
  simp [chordSetup]
@[simp] theorem outside_chordTeardown (c : Nat) (s : State) : outside P (chordTeardown c s) = outside P s := by
  simp [chordTeardown]
@[simp] theorem outside_chordMove (c pa pb : Nat) (s : State) : outside P (chordMove c pa pb s) = outside P s := by
  simp [chordMove]
@[simp] theorem outside_doChordPendingReady (c : Nat) (s : State) :
    outside P (doChordPendingReady c s) = outside P s := by simp [doChordPendingReady]
@[simp] theorem outside_doChordRingsLocked (c pab pba : Nat) (s : State) :
    outside P (doChordRingsLocked c pab pba s) = outside P s := by simp [doChordRingsLocked]
@[simp] theorem outside_doChordSettleTimeout (c strand : Nat) (drop : Bool) (s : State) :
    outside P (doChordSettleTimeout c strand drop s) = outside P s := by simp [doChordSettleTimeout]
@[simp] theorem outside_doChordAddClear (c : Nat) (s : State) : outside P (doChordAddClear c s) = outside P s := by
  simp [doChordAddClear]
@[simp] theorem outside_chordUnused (c : Nat) (s : State) : outside P (chordUnused c s) = outside P s := by
  simp [chordUnused]
@[simp] theorem outside_doChordLocalLocked (c : Nat) (s : State) :
    outside P (doChordLocalLocked c s) = outside P s := by simp [doChordLocalLocked]
@[simp] theorem outside_chordsBreak (t : Nat) (s : State) : outside P (chordsBreak t s) = outside P s := by
  simp [chordsBreak]
@[simp] theorem outside_chordsReopen (t : Nat) (s : State) : outside P (chordsReopen t s) = outside P s := by
  simp [chordsReopen]
@[simp] theorem outside_doChordFillEnter (c strand : Nat) (s : State) :
    outside P (doChordFillEnter c strand s) = outside P s := by simp [doChordFillEnter]
@[simp] theorem outside_doChordFillExit (c strand : Nat) (s : State) :
    outside P (doChordFillExit c strand s) = outside P s := by simp [doChordFillExit]

/-! ## Light, Lanes and Feeds -/

@[simp] theorem outside_doRingCountStart (r : Nat) (s : State) : outside P (doRingCountStart r s) = outside P s := by
  simp [doRingCountStart]
@[simp] theorem outside_countRelock (r : Nat) (s : State) : outside P (countRelock r s) = outside P s := by
  simp [countRelock]
@[simp] theorem outside_doRingLineReached (r heater : Nat) (s : State) :
    outside P (doRingLineReached r heater s) = outside P s := by
  simp only [doRingLineReached]
  (repeat' split) <;> simp
@[simp] theorem outside_ringFault (r : Nat) (s : State) : outside P (ringFault r s) = outside P s := by
  simp [ringFault]
@[simp] theorem outside_doRingHeaterFull (r : Nat) (s : State) : outside P (doRingHeaterFull r s) = outside P s := by
  simp [doRingHeaterFull]
@[simp] theorem outside_doRingLockError (r err : Nat) (s : State) :
    outside P (doRingLockError r err s) = outside P s := by simp [doRingLockError]
@[simp] theorem outside_doBusLightLost (r : Nat) (s : State) : outside P (doBusLightLost r s) = outside P s := by
  simp [doBusLightLost]
@[simp] theorem outside_doHoldLightBack (r : Nat) (ok : Bool) (s : State) :
    outside P (doHoldLightBack r ok s) = outside P s := by simp [doHoldLightBack]
@[simp] theorem outside_doHoldTimeout (r : Nat) (s : State) : outside P (doHoldTimeout r s) = outside P s := by
  simp [doHoldTimeout]
@[simp] theorem outside_stepOffset (r used : Nat) (s : State) : outside P (stepOffset r used s) = outside P s := by
  simp [stepOffset]
@[simp] theorem outside_doLaneIdMismatch (r used : Nat) (s : State) :
    outside P (doLaneIdMismatch r used s) = outside P s := by simp [doLaneIdMismatch]
@[simp] theorem outside_doRelockDone (r heater idSlot : Nat) (s : State) :
    outside P (doRelockDone r heater idSlot s) = outside P s := by simp [doRelockDone]
@[simp] theorem outside_doRelockTimeout (r : Nat) (s : State) : outside P (doRelockTimeout r s) = outside P s := by
  simp [doRelockTimeout]
@[simp] theorem outside_setFeedInput (s : State) (feed input : Nat) (x : FeedInput) :
    outside P (setFeedInput s feed input x) = outside P s := by simp [setFeedInput]
@[simp] theorem outside_setMigration (s : State) (feed : Nat) (m : Migration) :
    outside P (setMigration s feed m) = outside P s := by simp [setMigration]
@[simp] theorem outside_clearFail (s : State) (feed input : Nat) :
    outside P (clearFail s feed input) = outside P s := by simp [clearFail]
@[simp] theorem outside_updateStandby (feed : Nat) (s : State) : outside P (updateStandby feed s) = outside P s := by
  simp [updateStandby]
@[simp] theorem outside_updateFau (a : Nat) (s : State) : outside P (updateFau a s) = outside P s := by
  simp [updateFau]
@[simp] theorem outside_reinstatePorts (ports : List Nat) (s : State) :
    outside P (reinstatePorts ports s) = outside P s := by simp [reinstatePorts]
@[simp] theorem outside_noteLit (g : Nat) (s : State) : outside P (noteLit g s) = outside P s := by simp [noteLit]
@[simp] theorem outside_setFeedState (feed v : Nat) (s : State) :
    outside P (setFeedState feed v s) = outside P s := by simp [setFeedState]
@[simp] theorem outside_openPairs (feed : Nat) (s : State) : outside P (openPairs feed s) = outside P s := by
  simp [openPairs]
@[simp] theorem outside_parkFeedRings (s : State) (feed : Nat) : outside P (parkFeedRings s feed) = outside P s := by
  simp [parkFeedRings]
@[simp] theorem outside_announceDark (feed : Nat) (s : State) : outside P (announceDark feed s) = outside P s := by
  simp [announceDark]
@[simp] theorem outside_switchFeed (feed : Nat) (drained flushed : Bool) (s : State) :
    outside P (switchFeed feed drained flushed s) = outside P s := by simp [switchFeed]
@[simp] theorem outside_endBlocked (feed result : Nat) (s : State) :
    outside P (endBlocked feed result s) = outside P s := by simp [endBlocked]
@[simp] theorem outside_judgeDark (feed : Nat) (s : State) : outside P (judgeDark feed s) = outside P s := by
  simp [judgeDark]
@[simp] theorem outside_feedFail (feed : Nat) (s : State) : outside P (feedFail feed s) = outside P s := by
  simp [feedFail]
@[simp] theorem outside_standbyLost (feed : Nat) (s : State) : outside P (standbyLost feed s) = outside P s := by
  simp [standbyLost]
@[simp] theorem outside_standbyOut (feed : Nat) (s : State) : outside P (standbyOut feed s) = outside P s := by
  simp [standbyOut]
@[simp] theorem outside_dropCls (n latch : Nat) (s : State) : outside P (dropCls n latch s) = outside P s := by
  simp [dropCls]
@[simp] theorem outside_doClsPoll (n id status temp : Nat) (lines : List Int) (s : State) :
    outside P (doClsPoll n id status temp lines s) = outside P s := by simp [doClsPoll]
@[simp] theorem outside_doClsAnswerTimeout (n : Nat) (s : State) :
    outside P (doClsAnswerTimeout n s) = outside P s := by simp [doClsAnswerTimeout]
@[simp] theorem outside_doFeedMonitor (feed input : Nat) (total : Int) (lines : List Int) (s : State) :
    outside P (doFeedMonitor feed input total lines s) = outside P s := by
  simp only [doFeedMonitor]
  (repeat' split) <;> simp
@[simp] theorem outside_startMigration (feed : Nat) (s : State) :
    outside P (startMigration feed s) = outside P s := by simp [startMigration]
@[simp] theorem outside_startFeed (s : State) (feed : Nat) : outside P (startFeed s feed) = outside P s := by
  unfold startFeed
  (repeat' split) <;> simp
@[simp] theorem outside_leaveDark (feed : Nat) (s : State) : outside P (leaveDark feed s) = outside P s := by
  simp [leaveDark]
@[simp] theorem outside_doFeedWindow (feed input : Nat) (rows : List (List Int)) (s : State) :
    outside P (doFeedWindow feed input rows s) = outside P s := by simp [doFeedWindow]
@[simp] theorem outside_refuseBusy (feed cmd : Nat) (s : State) :
    outside P (refuseBusy feed cmd s) = outside P s := by simp [refuseBusy]
@[simp] theorem outside_doMigrate (feed : Nat) (s : State) : outside P (doMigrate feed s) = outside P s := by
  simp [doMigrate]
@[simp] theorem outside_doCommission (feed input : Nat) (s : State) :
    outside P (doCommission feed input s) = outside P s := by simp [doCommission]
@[simp] theorem outside_doStandbyChecked (feed : Nat) (s : State) :
    outside P (doStandbyChecked feed s) = outside P s := by simp [doStandbyChecked]
@[simp] theorem outside_doPartnersAcked (feed : Nat) (s : State) :
    outside P (doPartnersAcked feed s) = outside P s := by simp [doPartnersAcked]
@[simp] theorem outside_doAckLimit (feed : Nat) (s : State) : outside P (doAckLimit feed s) = outside P s := by
  simp [doAckLimit]
@[simp] theorem outside_doMigrationDrained (feed : Nat) (s : State) :
    outside P (doMigrationDrained feed s) = outside P s := by simp [doMigrationDrained]
@[simp] theorem outside_doDrainLimit (feed : Nat) (s : State) : outside P (doDrainLimit feed s) = outside P s := by
  simp [doDrainLimit]
@[simp] theorem outside_doTxLocked (feed : Nat) (s : State) : outside P (doTxLocked feed s) = outside P s := by
  simp [doTxLocked]
@[simp] theorem outside_doPortsUp (feed : Nat) (s : State) : outside P (doPortsUp feed s) = outside P s := by
  simp [doPortsUp]
@[simp] theorem outside_doClsFault (n : Nat) (s : State) : outside P (doClsFault n s) = outside P s := by
  simp [doClsFault]
@[simp] theorem outside_assertCls (n : Nat) (s : State) : outside P (assertCls n s) = outside P s := by
  simp [assertCls]
@[simp] theorem outside_doClsEnable (n : Nat) (s : State) : outside P (doClsEnable n s) = outside P s := by
  simp [doClsEnable]
@[simp] theorem outside_doClsDisable (n : Nat) (s : State) : outside P (doClsDisable n s) = outside P s := by
  simp [doClsDisable]
@[simp] theorem outside_doClsRise (n : Nat) (shortfalls : List Int) (s : State) :
    outside P (doClsRise n shortfalls s) = outside P s := by simp [doClsRise]
@[simp] theorem outside_doClsFltRelease (n : Nat) (s : State) : outside P (doClsFltRelease n s) = outside P s := by
  simp [doClsFltRelease]
@[simp] theorem outside_setPair (s : State) (t : Nat) (x : PairState) : outside P (setPair s t x) = outside P s := by
  simp [setPair]
@[simp] theorem outside_endDark (t : Nat) (s : State) : outside P (endDark t s) = outside P s := by simp [endDark]
@[simp] theorem outside_shutPair (t : Nat) (s : State) : outside P (shutPair t s) = outside P s := by simp [shutPair]
@[simp] theorem outside_doLossOfLight (t : Nat) (dbm : Int) (s : State) :
    outside P (doLossOfLight t dbm s) = outside P s := by simp [doLossOfLight]
@[simp] theorem outside_doProbeTimer (t : Nat) (s : State) : outside P (doProbeTimer t s) = outside P s := by
  simp [doProbeTimer]
@[simp] theorem outside_doProbeEnd (t : Nat) (s : State) : outside P (doProbeEnd t s) = outside P s := by
  simp [doProbeEnd]
@[simp] theorem outside_doPartnerLight (t : Nat) (dbm : Int) (s : State) :
    outside P (doPartnerLight t dbm s) = outside P s := by simp [doPartnerLight]
@[simp] theorem outside_doDarkExpired (t : Nat) (s : State) : outside P (doDarkExpired t s) = outside P s := by
  simp [doDarkExpired]
@[simp] theorem outside_doOpticalStart (s : State) : outside P (doOpticalStart s) = outside P s := by
  simp [doOpticalStart]
@[simp] theorem outside_doClsStagger (s : State) : outside P (doClsStagger s) = outside P s := by simp [doClsStagger]

/-! ## The Solid -/

@[simp] theorem outside_doPaceWindow (i hsr : Nat) (s : State) : outside P (doPaceWindow i hsr s) = outside P s := by
  simp [doPaceWindow]
@[simp] theorem outside_doRealign (counters : List Nat) (s : State) (htime : P .time = true) :
    outside P (doRealign counters s) = outside P s := by
  unfold doRealign
  extract_lets found groom hi lo s1
  have h1 : outside P s1 = outside P s := by simp [s1]
  split
  · rw [outside_raise, outside_time s1 htime, h1]
  · rw [outside_time s1 htime, h1]
@[simp] theorem outside_useRef (s : State) (r : Nat) : outside P (useRef s r) = outside P s := by simp [useRef]
@[simp] theorem outside_doRefLoss (r : Nat) (s : State) : outside P (doRefLoss r s) = outside P s := by
  simp [doRefLoss]
@[simp] theorem outside_doRefPrimary (v : Nat) (s : State) : outside P (doRefPrimary v s) = outside P s := by
  simp [doRefPrimary]
@[simp] theorem outside_doRefReappear (r : Nat) (s : State) : outside P (doRefReappear r s) = outside P s := by
  simp [doRefReappear]
@[simp] theorem outside_setPool (s : State) (f g : Nat) (x : PoolGroup) :
    outside P (setPool s f g x) = outside P s := by simp [setPool]
@[simp] theorem outside_balanceFacet (s : State) (f : Nat) : outside P (balanceFacet s f) = outside P s := by
  simp only [balanceFacet]
  (repeat' split) <;> simp
@[simp] theorem outside_balanceLattice (s : State) : outside P (balanceLattice s) = outside P s := by
  simp [balanceLattice]
@[simp] theorem outside_doPoolRetune (f g : Nat) (s : State) : outside P (doPoolRetune f g s) = outside P s := by
  simp only [doPoolRetune]
  (repeat' split) <;> simp
@[simp] theorem outside_countTransfer (s : State) (f : Frame) (sel : Nat) :
    outside P (countTransfer s f sel) = outside P s := by simp [countTransfer]
@[simp] theorem outside_loseTransfer (s : State) (id : Nat) : outside P (loseTransfer s id) = outside P s := by
  unfold loseTransfer
  split <;> simp
@[simp] theorem outside_requestOne (s : State) (id : Nat) : outside P (requestOne s id) = outside P s := by
  unfold requestOne
  split <;> simp
@[simp] theorem outside_doLatticeRequest (id : Nat) (s : State) :
    outside P (doLatticeRequest id s) = outside P s := by
  unfold doLatticeRequest
  split <;> simp
@[simp] theorem outside_land (s : State) (id : Nat) : outside P (land s id) = outside P s := by
  unfold land
  split <;> simp
@[simp] theorem outside_grantOne (s : State) (id : Nat) : outside P (grantOne s id) = outside P s := by
  unfold grantOne
  (repeat' split) <;> simp
@[simp] theorem outside_doLatticeGrant (id : Nat) (s : State) : outside P (doLatticeGrant id s) = outside P s := by
  unfold doLatticeGrant
  split <;> simp
@[simp] theorem outside_doLatticeReceive (id : Nat) (s : State) :
    outside P (doLatticeReceive id s) = outside P s := by
  unfold doLatticeReceive
  split <;> simp
@[simp] theorem outside_latticeWaitTick (s : State) : outside P (latticeWaitTick s) = outside P s := by
  simp [latticeWaitTick]
@[simp] theorem outside_doVertexOut (v : Nat) (s : State) : outside P (doVertexOut v s) = outside P s := by
  simp [doVertexOut]
@[simp] theorem outside_vertexBack (s : State) (v : Nat) : outside P (vertexBack s v) = outside P s := by
  simp [vertexBack]
@[simp] theorem outside_downPairs (s : State) (g : Nat) : outside P (downPairs s g) = outside P s := by
  simp [downPairs]
@[simp] theorem outside_facetOut (g : Nat) (s : State) : outside P (facetOut g s) = outside P s := by simp [facetOut]
@[simp] theorem outside_facetBack (s : State) (g : Nat) : outside P (facetBack s g) = outside P s := by
  simp [facetBack]

/-! ## Teams -/

@[simp] theorem outside_pushOutgoing (s : State) (o : Outgoing) : outside P (pushOutgoing s o) = outside P s := by
  simp [pushOutgoing]
@[simp] theorem outside_sendResult (s : State) (t j : Nat) (entries : List Nat) :
    outside P (sendResult s t j entries) = outside P s := by simp [sendResult]
@[simp] theorem outside_pendNotice (s : State) (n : Notice) : outside P (pendNotice s n) = outside P s := by
  simp [pendNotice]
@[simp] theorem outside_sendTeamNotify (s : State) (facet t entry cause gen chunk missing tries : Nat) :
    outside P (sendTeamNotify s facet t entry cause gen chunk missing tries) = outside P s := by simp [sendTeamNotify]
@[simp] theorem outside_sendDue (facet : Nat) (s : State) (d : Due) :
    outside P (sendDue facet s d) = outside P s := by
  unfold sendDue
  (repeat' split) <;> simp
@[simp] theorem outside_flushNotices (s : State) (facet : Nat) : outside P (flushNotices s facet) = outside P s := by
  simp [flushNotices]
@[simp] theorem outside_flushAllNotices (s : State) : outside P (flushAllNotices s) = outside P s := by
  simp [flushAllNotices]
@[simp] theorem outside_accrueTokens (s : State) (facet : Nat) : outside P (accrueTokens s facet) = outside P s := by
  simp [accrueTokens]
@[simp] theorem outside_doNotifyToken (facet : Nat) (s : State) :
    outside P (doNotifyToken facet s) = outside P s := by simp [doNotifyToken]
@[simp] theorem outside_advanceBase (n : Nat) (s : State) (t : Nat) :
    outside P (advanceBase n s t) = outside P s := by
  induction n generalizing s with
  | zero => rfl
  | succ n ih => unfold advanceBase; dsimp only; split <;> simp [ih]
@[simp] theorem outside_keepReopens (s : State) (t j : Nat) : outside P (keepReopens s t j) = outside P s := by
  simp [keepReopens]
@[simp] theorem outside_dropWork (s : State) (t j : Nat) : outside P (dropWork s t j) = outside P s := by
  simp [dropWork]
@[simp] theorem outside_noteIdle (s : State) (t j : Nat) : outside P (noteIdle s t j) = outside P s := by
  simp [noteIdle]
@[simp] theorem outside_reopenChunk (s : State) (t j : Nat) : outside P (reopenChunk s t j) = outside P s := by
  simp [reopenChunk]
@[simp] theorem outside_loseOutput (s : State) (t j : Nat) : outside P (loseOutput s t j) = outside P s := by
  simp [loseOutput]
@[simp] theorem outside_loseSlot (s : State) (t j : Nat) : outside P (loseSlot s t j).1 = outside P s := by
  simp only [loseSlot]
  (repeat' split) <;> simp
@[simp] theorem outside_recordReopened (s : State) (t n : Nat) : outside P (recordReopened s t n) = outside P s := by
  simp [recordReopened]
@[simp] theorem outside_loseProgress (s : State) (t j : Nat) : outside P (loseProgress s t j) = outside P s := by
  simp [loseProgress]
@[simp] theorem outside_accEcc (s : State) (f t j : Nat) : outside P (accEcc s f t j) = outside P s := by
  simp [accEcc]
@[simp] theorem outside_loseBlock (s : State) (f t j : Nat) : outside P (loseBlock s f t j) = outside P s := by
  simp [loseBlock]
@[simp] theorem outside_doResultSender (facet : Nat) (blockBad : Bool) (s : State) :
    outside P (doResultSender facet blockBad s) = outside P s := by
  unfold doResultSender
  split <;> simp
@[simp] theorem outside_killTeam (s : State) (t st : Nat) : outside P (killTeam s t st) = outside P s := by
  simp [killTeam]
@[simp] theorem outside_failTeam (s : State) (t : Nat) : outside P (failTeam s t) = outside P s := by simp [failTeam]
@[simp] theorem outside_reholdTeams (s : State) : outside P (reholdTeams s) = outside P s := by simp [reholdTeams]
@[simp] theorem outside_rehomeTeam (g : Nat) (r : State × Nat) (t : Nat) :
    outside P (rehomeTeam g r t).1 = outside P r.1 := by
  unfold rehomeTeam
  extract_lets s x fs moved
  split
  · rw [outside_modTeam]
  split
  · rw [outside_failTeam]
  extract_lets s1 c
  have hc : outside P c.1 = outside P s1 := outside_foldl_fst P _ (fun r j => by simp) _ _
  simp [hc, s1, s]

@[simp] theorem outside_loseHome (s : State) (g : Nat) : outside P (loseHome s g) = outside P s := by
  unfold loseHome
  extract_lets s1 r s2
  have hr : outside P r.1 = outside P s1 := outside_foldl_fst P _ (fun r t => outside_rehomeTeam P g r t) _ _
  simp [s2, hr, s1]

/-! ## Harness Engines and Yoke Arrays -/

@[simp] theorem outside_doBlockStage (t j corrected : Nat) (s : State) :
    outside P (doBlockStage t j corrected s) = outside P s := by simp [doBlockStage]
@[simp] theorem outside_doBlockWriteBack (t j : Nat) (s : State) :
    outside P (doBlockWriteBack t j s) = outside P s := by simp [doBlockWriteBack]
@[simp] theorem outside_addStintAt (s : State) (t j kind frame entry : Nat) (groups : List Nat) (tick order : Nat) :
    outside P (addStintAt s t j kind frame entry groups tick order) = outside P s := by simp [addStintAt]
@[simp] theorem outside_addStint (s : State) (t j kind frame entry : Nat) (groups : List Nat) :
    outside P (addStint s t j kind frame entry groups) = outside P s := by simp [addStint]
@[simp] theorem outside_setStint (s : State) (x : Stint) : outside P (setStint s x) = outside P s := by
  simp [setStint]
@[simp] theorem outside_delStint (s : State) (x : Stint) : outside P (delStint s x) = outside P s := by
  simp [delStint]
@[simp] theorem outside_countString (s : State) (e sel n t : Nat) :
    outside P (countString s e sel n t) = outside P s := by simp [countString]
@[simp] theorem outside_maybeEncode (s : State) (t j : Nat) : outside P (maybeEncode s t j) = outside P s := by
  simp [maybeEncode]
@[simp] theorem outside_chunkDone (s : State) (t j : Nat) (blocks : List Block) :
    outside P (chunkDone s t j blocks) = outside P s := by simp [chunkDone]
@[simp] theorem outside_noteCounts (s : State) (t : Nat) (x : TeamCtx) (chunk : Nat) (c : OutCounts) :
    outside P (noteCounts s t x chunk c) = outside P s := by simp [noteCounts]
@[simp] theorem outside_encodeCommit (s : State) (t j : Nat) : outside P (encodeCommit s t j) = outside P s := by
  simp [encodeCommit]
@[simp] theorem outside_finishTrace (s : State) (t j frame : Nat) :
    outside P (finishTrace s t j frame) = outside P s := by
  simp only [finishTrace]
  (repeat' split) <;> simp
@[simp] theorem outside_applyTrace (s : State) (t j frame lo hi : Nat) (groups : List Nat) :
    outside P (applyTrace s t j frame lo hi groups) = outside P s := by
  unfold applyTrace
  split <;> simp
@[simp] theorem outside_engineLeft (s : State) (e : Nat) : outside P (engineLeft s e) = outside P s := by
  simp [engineLeft]
@[simp] theorem outside_startDecay (s : State) (u : Nat) : outside P (startDecay s u) = outside P s := by
  simp [startDecay]
@[simp] theorem outside_suspectEngine (s : State) (e : Nat) : outside P (suspectEngine s e) = outside P s := by
  simp [suspectEngine]
@[simp] theorem outside_dropTrace (s : State) (x : Stint) : outside P (dropTrace s x) = outside P s := by
  simp [dropTrace]
@[simp] theorem outside_doStintClaim (e ecc : Nat) (s : State) : outside P (doStintClaim e ecc s) = outside P s := by
  unfold doStintClaim
  (repeat' split) <;> simp
@[simp] theorem outside_doSectionCommit (e : Nat) (s : State) : outside P (doSectionCommit e s) = outside P s := by
  unfold doSectionCommit
  split <;> simp
@[simp] theorem outside_doCheckFail (e code : Nat) (s : State) : outside P (doCheckFail e code s) = outside P s := by
  unfold doCheckFail
  split <;> simp
@[simp] theorem outside_addYoke (s : State) (t j frame entry : Nat) :
    outside P (addYoke s t j frame entry) = outside P s := by simp [addYoke]
@[simp] theorem outside_yokeTraceBad (s : State) (x : YokeTrace) : outside P (yokeTraceBad s x) = outside P s := by
  simp [yokeTraceBad]
@[simp] theorem outside_doYokePass (f badFrame : Nat) (blockBad : Bool) (s : State) :
    outside P (doYokePass f badFrame blockBad s) = outside P s := by
  simp only [doYokePass]
  (repeat' split) <;> simp
@[simp] theorem outside_dropGroup (s : State) (b : Band) : outside P (dropGroup s b) = outside P s := by
  simp [dropGroup]
@[simp] theorem outside_noteFill (s : State) (f rows passes : Nat) :
    outside P (noteFill s f rows passes) = outside P s := by simp [noteFill]
@[simp] theorem outside_doBandCommit (f : Nat) (s : State) : outside P (doBandCommit f s) = outside P s := by
  unfold doBandCommit
  split <;> simp
@[simp] theorem outside_fallBack (s : State) (xs : List YokeTrace) (groupsOf : YokeTrace → List Nat) :
    outside P (fallBack s xs groupsOf) = outside P s := by simp [fallBack]
@[simp] theorem outside_yokeLeft (s : State) (f : Nat) : outside P (yokeLeft s f) = outside P s := by simp [yokeLeft]
@[simp] theorem outside_suspectYoke (s : State) (f : Nat) : outside P (suspectYoke s f) = outside P s := by
  simp [suspectYoke]
@[simp] theorem outside_doBandFail (f code : Nat) (s : State) : outside P (doBandFail f code s) = outside P s := by
  unfold doBandFail
  split <;> simp
@[simp] theorem outside_doSuspectDecay (u : Nat) (s : State) : outside P (doSuspectDecay u s) = outside P s := by
  simp [doSuspectDecay]
@[simp] theorem outside_doEngineOut (e : Nat) (s : State) : outside P (doEngineOut e s) = outside P s := by
  simp [doEngineOut]
@[simp] theorem outside_doEngineReturn (e : Nat) (s : State) : outside P (doEngineReturn e s) = outside P s := by
  simp [doEngineReturn]
@[simp] theorem outside_doYokeOut (f : Nat) (s : State) : outside P (doYokeOut f s) = outside P s := by
  simp [doYokeOut]
@[simp] theorem outside_yokeBack (s : State) (f : Nat) : outside P (yokeBack s f) = outside P s := by simp [yokeBack]
@[simp] theorem outside_doYokeReturn (f : Nat) (s : State) : outside P (doYokeReturn f s) = outside P s := by
  simp [doYokeReturn]
@[simp] theorem outside_doHbmCgOut (f cg : Nat) (s : State) : outside P (doHbmCgOut f cg s) = outside P s := by
  simp [doHbmCgOut]

/-! ## Teams -/

@[simp] theorem outside_refuseTeam (s : State) (t cmd err : Nat) :
    outside P (refuseTeam s t cmd err) = outside P s := by simp [refuseTeam]
@[simp] theorem outside_teamOk (s : State) (t : Nat) : outside P (teamOk s t) = outside P s := by simp [teamOk]
@[simp] theorem outside_clearTeamCounts (s : State) (t : Nat) : outside P (clearTeamCounts s t) = outside P s := by
  simp [clearTeamCounts]
@[simp] theorem outside_showDigest (s : State) (t : Nat) : outside P (showDigest s t) = outside P s := by
  simp [showDigest]
@[simp] theorem outside_doSetup (t : Nat) (s : State) : outside P (doSetup t s) = outside P s := by simp [doSetup]
@[simp] theorem outside_doRetire (t : Nat) (s : State) : outside P (doRetire t s) = outside P s := by simp [doRetire]
@[simp] theorem outside_doRevise (t : Nat) (s : State) : outside P (doRevise t s) = outside P s := by simp [doRevise]
@[simp] theorem outside_doFree (t : Nat) (s : State) : outside P (doFree t s) = outside P s := by simp [doFree]
@[simp] theorem outside_answerStale (s : State) (t src gen chunk : Nat) :
    outside P (answerStale s t src gen chunk) = outside P s := by
  unfold answerStale
  split <;> simp
@[simp] theorem outside_refuseTrace (s : State) (id why : Nat) : outside P (refuseTrace s id why) = outside P s := by
  unfold refuseTrace
  split <;> simp
@[simp] theorem outside_routeTrace (s : State) (id : Nat) : outside P (routeTrace s id) = outside P s := by
  unfold routeTrace
  (repeat' split) <;> simp
@[simp] theorem outside_routeTraces (s : State) : outside P (routeTraces s) = outside P s := by simp [routeTraces]
@[simp] theorem outside_doPoolGrant (g : Nat) (s : State) : outside P (doPoolGrant g s) = outside P s := by
  unfold doPoolGrant
  split <;> simp
@[simp] theorem outside_lateTrace (s : State) (id t why : Nat) : outside P (lateTrace s id t why) = outside P s := by
  simp [lateTrace]
@[simp] theorem outside_admitTrace (s : State) (id t j entry : Nat) (f : Frame) :
    outside P (admitTrace s id t j entry f) = outside P s := by simp [admitTrace]
@[simp] theorem outside_chunkTrace (s : State) (id t j entry : Nat) (f : Frame) :
    outside P (chunkTrace s id t j entry f) = outside P s := by
  simp only [chunkTrace]
  (repeat' split) <;> simp
@[simp] theorem outside_windowTrace (s : State) (id t entry : Nat) (f : Frame) :
    outside P (windowTrace s id t entry f) = outside P s := by simp [windowTrace]
@[simp] theorem outside_doTraceHome (id ecc : Nat) (s : State) : outside P (doTraceHome id ecc s) = outside P s := by
  simp only [doTraceHome]
  (repeat' split) <;> simp
@[simp] theorem outside_addTry (s : State) (t j : Nat) : outside P (addTry s t j) = outside P s := by simp [addTry]
@[simp] theorem outside_doChunkTimer (t j : Nat) (s : State) : outside P (doChunkTimer t j s) = outside P s := by
  simp [doChunkTimer]
@[simp] theorem outside_resendPartial (s : State) (t j : Nat) : outside P (resendPartial s t j) = outside P s := by
  simp [resendPartial]
@[simp] theorem outside_doResultTimer (t j : Nat) (s : State) : outside P (doResultTimer t j s) = outside P s := by
  simp [doResultTimer]
@[simp] theorem outside_doResultFromParent (id : Nat) (s : State) :
    outside P (doResultFromParent id s) = outside P s := by
  unfold doResultFromParent
  split <;> simp
@[simp] theorem outside_doNotifyFromParent (id : Nat) (s : State) :
    outside P (doNotifyFromParent id s) = outside P s := by
  unfold doNotifyFromParent
  split <;> simp
@[simp] theorem outside_doFacetOut (g : Nat) (s : State) : outside P (doFacetOut g s) = outside P s := by
  simp [doFacetOut]

/-! ## Twins -/

@[simp] theorem outside_sendTwin (s : State) (ms : List TwinMessage) : outside P (sendTwin s ms) = outside P s := by
  simp [sendTwin]
@[simp] theorem outside_noteLag (s : State) : outside P (noteLag s) = outside P s := by simp [noteLag]
@[simp] theorem outside_twinAfterSwap (s : State) : outside P (twinAfterSwap s) = outside P s := by
  simp [twinAfterSwap]
@[simp] theorem outside_pairIfComplete (s : State) : outside P (pairIfComplete s) = outside P s := by
  simp [pairIfComplete]
@[simp] theorem outside_takeOwnership (s : State) : outside P (takeOwnership s) = outside P s := by
  simp [takeOwnership]
@[simp] theorem outside_meetPeer (serial : Nat) (s : State) : outside P (meetPeer serial s) = outside P s := by
  simp [meetPeer]
@[simp] theorem outside_twinKeepalive (p : Nat) (s : State) : outside P (twinKeepalive p s) = outside P s := by
  unfold twinKeepalive
  (repeat' split) <;> simp
@[simp] theorem outside_holdContext (t : Nat) (s : State) : outside P (holdContext t s) = outside P s := by
  simp [holdContext]
@[simp] theorem outside_discardCopy (t : Nat) (s : State) : outside P (discardCopy t s) = outside P s := by
  simp [discardCopy]
@[simp] theorem outside_mirrorPut (a : Addr) (v : Nat) (s : State) : outside P (mirrorPut a v s) = outside P s := by
  simp [mirrorPut]
@[simp] theorem outside_peerTeamState (t st last : Nat) (s : State) :
    outside P (peerTeamState t st last s) = outside P s := by simp [peerTeamState]
@[simp] theorem outside_doTwinMirror (m : TwinMessage) (s : State) : outside P (doTwinMirror m s) = outside P s := by
  unfold doTwinMirror
  (repeat' split) <;> simp
@[simp] theorem outside_adoptSlot (t : Nat) (s : State) (j : Nat) : outside P (adoptSlot t s j) = outside P s := by
  simp [adoptSlot]
@[simp] theorem outside_adoptTeam (s : State) (t : Nat) : outside P (adoptTeam s t) = outside P s := by
  simp [adoptTeam]
@[simp] theorem outside_doPeerLoss (s : State) (hclock : P .clock = true) :
    outside P (doPeerLoss s) = outside P s := by simp [doPeerLoss, hclock]

/-! ## Configuration sets -/

@[simp] theorem outside_noteRefusal (err detail : Nat) (s : State) :
    outside P (noteRefusal err detail s) = outside P s := by simp [noteRefusal]
@[simp] theorem outside_refuseSwap (err detail : Nat) (s : State) :
    outside P (refuseSwap err detail s) = outside P s := by simp [refuseSwap]
@[simp] theorem outside_markShapers (old : Regs) (s : State) : outside P (markShapers old s) = outside P s := by
  simp [markShapers]
@[simp] theorem outside_fillPolicers (old : Regs) (s : State) : outside P (fillPolicers old s) = outside P s := by
  unfold fillPolicers
  extract_lets s1
  have h1 : outside P s1 = outside P s :=
    outside_foldl P _ _ (fun s t => outside_foldl P _ _ (fun s g => by split <;> simp) _) _
  simp [h1]
@[simp] theorem outside_placeSlots (s : State) (g : Nat) (ms : List Nat) :
    outside P (placeSlots s g ms) = outside P s := by simp [placeSlots]
@[simp] theorem outside_openWindow (s : State) (g slot : Nat) : outside P (openWindow s g slot) = outside P s := by
  simp [openWindow]
@[simp] theorem outside_repinGroup (old : Regs) (s : State) (g : Nat) :
    outside P (repinGroup old s g) = outside P s := by simp [repinGroup]
@[simp] theorem outside_reseed (old : Regs) (s : State) : outside P (reseed old s) = outside P s := by simp [reseed]
@[simp] theorem outside_swapPins (old : Regs) (s : State) : outside P (swapPins old s) = outside P s := by
  simp [swapPins]
@[simp] theorem outside_swapChord (old : Regs) (s : State) (c : Nat) :
    outside P (swapChord old s c) = outside P s := by simp [swapChord]
@[simp] theorem outside_swapChords (old : Regs) (s : State) : outside P (swapChords old s) = outside P s := by
  simp [swapChords]
@[simp] theorem outside_swapFailover (old : Regs) (s : State) : outside P (swapFailover old s) = outside P s := by
  simp [swapFailover]
@[simp] theorem outside_swapLong (old : Regs) (s : State) : outside P (swapLong old s) = outside P s := by
  simp [swapLong]
@[simp] theorem outside_swapLearn (s : State) : outside P (swapLearn s) = outside P s := by simp [swapLearn]
@[simp] theorem outside_endHolds (gs : List Nat) (s : State) : outside P (endHolds gs s) = outside P s := by
  simp [endHolds]
@[simp] theorem outside_beforeSwap (s : State) : outside P (beforeSwap s) = outside P s := by simp [beforeSwap]
@[simp] theorem outside_takeSet (s : State) : outside P (takeSet s) = outside P s := (rfl)
@[simp] theorem outside_swapEffects (old : Regs) (s : State) : outside P (swapEffects old s) = outside P s := by
  simp [swapEffects]
@[simp] theorem outside_applySwap (cleared : List Nat) (s : State) :
    outside P (applySwap cleared s) = outside P s := by
  unfold applySwap
  split <;> simp
@[simp] theorem outside_triggerSwap (s : State) : outside P (triggerSwap s) = outside P s := by simp [triggerSwap]
@[simp] theorem outside_doSwapArm (s : State) : outside P (doSwapArm s) = outside P s := by simp [doSwapArm]
theorem outside_validate {s : State} {x : Nat × State} (h : validate s = some x) : outside P x.2 = outside P s := by
  unfold validate at h
  (repeat' split at h) <;> simp at h <;> subst h <;> simp

@[simp] theorem outside_doSwapArmed (s : State) : outside P (doSwapArmed s) = outside P s := by
  unfold doSwapArmed
  extract_lets d s1 x expect s2
  have h1 : outside P s1 = outside P s := by simp [s1]
  have h2 : outside P s2 = outside P s := by simp [s2, h1]
  split
  · rfl
  split
  · simp [h1]
  split
  · simp [h1]
  split
  · next hv => simp [outside_validate P hv, h1]
  · (repeat' split) <;> simp [h2]
@[simp] theorem outside_doSwapDisarm (s : State) : outside P (doSwapDisarm s) = outside P s := by simp [doSwapDisarm]
@[simp] theorem outside_doSwapCopied (s : State) (hshadow : P .shadow = true) :
    outside P (doSwapCopied s) = outside P s := by
  unfold doSwapCopied
  split
  · rfl
  · exact outside_shadow s hshadow _
@[simp] theorem outside_boundarySwap (unsettled : Bool) (s : State) :
    outside P (boundarySwap unsettled s) = outside P s := by simp [boundarySwap]
@[simp] theorem outside_noteSkew (p a b : Nat) (s : State) : outside P (noteSkew p a b s) = outside P s := by
  simp [noteSkew]
@[simp] theorem outside_checkSkew (p epoch swap : Nat) (s : State) :
    outside P (checkSkew p epoch swap s) = outside P s := by simp [checkSkew]
@[simp] theorem outside_checkDigest (p epoch hi lo : Nat) (s : State) :
    outside P (checkDigest p epoch hi lo s) = outside P s := by simp [checkDigest]
@[simp] theorem outside_setKeepalive (p epoch hi lo swap : Nat) (s : State) :
    outside P (setKeepalive p epoch hi lo swap s) = outside P s := by simp [setKeepalive]

/-! ## Counter banks read, cleared, programmed and mirrored -/

@[simp] theorem outside_doBankClear (bank : Nat) (s : State) (hbanks : P .banks = true) :
    outside P (doBankClear bank s) = outside P s := by
  unfold doBankClear
  extract_lets s1
  rw [outside_wr, outside_banks s1 hbanks]
  simp [s1]
@[simp] theorem outside_counterReset (c : Nat) (s : State) : outside P (counterReset c s) = outside P s := by
  simp [counterReset]
@[simp] theorem outside_doCounterProgram (bank i : Nat) (writes : List (Nat × Nat)) (s : State) :
    outside P (doCounterProgram bank i writes s) = outside P s := by simp [doCounterProgram]
@[simp] theorem outside_mirrorBank (epoch flags slot : Nat) (s : State) (bank : Nat) :
    outside P (mirrorBank epoch flags slot s bank) = outside P s := by simp [mirrorBank]
@[simp] theorem outside_mirrorAll (epoch flags slot : Nat) (s : State) :
    outside P (mirrorAll epoch flags slot s) = outside P s := by simp [mirrorAll]
@[simp] theorem outside_takeMirrors (epoch flags : Nat) (s : State) :
    outside P (takeMirrors epoch flags s) = outside P s := by simp [takeMirrors]
@[simp] theorem outside_doCaptureArm (epoch : Nat) (s : State) : outside P (doCaptureArm epoch s) = outside P s := by
  simp [doCaptureArm]
@[simp] theorem outside_setTelemBucket (s : State) (t : Nat) (b : TelemBucket) (htelem : P .telem = true) :
    outside P (setTelemBucket s t b) = outside P s := outside_telem s htelem _
@[simp] theorem outside_refuseTelem (s : State) (id why step : Nat) (f : Frame) :
    outside P (refuseTelem s id why step f) = outside P s := by simp [refuseTelem]
@[simp] theorem outside_queueAnswer (s : State) (f : Frame) (blocks : List Block) :
    outside P (queueAnswer s f blocks) = outside P s := by simp [queueAnswer]
@[simp] theorem outside_doTelemEmit (facet : Nat) (s : State) : outside P (doTelemEmit facet s) = outside P s := by
  unfold doTelemEmit
  split <;> simp
@[simp] theorem outside_doTelemRequest (id : Nat) (s : State) (htelem : P .telem = true) :
    outside P (doTelemRequest id s) = outside P s := by
  unfold doTelemRequest
  split <;> simp [htelem]

/-! ## Epochs -/

@[simp] theorem outside_noteRoot (s : State) (other : Nat × Nat) : outside P (noteRoot s other) = outside P s := by
  simp [noteRoot]
@[simp] theorem outside_noteLapse (s : State) (hclock : P .clock = true) : outside P (noteLapse s) = outside P s := by
  simp [noteLapse, hclock]
@[simp] theorem outside_yieldRoot (b : Nat × Nat) (s : State) (hclock : P .clock = true) :
    outside P (yieldRoot b s) = outside P s := by simp [yieldRoot, hclock]
@[simp] theorem outside_yieldCheck (s : State) (hclock : P .clock = true) :
    outside P (yieldCheck s) = outside P s := by simp [yieldCheck, hclock]
@[simp] theorem outside_setSource (s : State) (p : Nat) : outside P (setSource s p) = outside P s := by
  simp [setSource]
@[simp] theorem outside_sendEpoch (s : State) (p : Nat) : outside P (sendEpoch s p) = outside P s := by
  simp [sendEpoch]
@[simp] theorem outside_aheadCheck (c : Candidate) (s : State) (hclock : P .clock = true) :
    outside P (aheadCheck c s) = outside P s := by simp [aheadCheck, hclock]
@[simp] theorem outside_doEpochFrame (id : Nat) (s : State) (hclock : P .clock = true) :
    outside P (doEpochFrame id s) = outside P s := by
  unfold doEpochFrame
  split <;> simp [hclock]
@[simp] theorem outside_enterHoldover (src : Nat) (s : State) (hclock : P .clock = true) :
    outside P (enterHoldover src s) = outside P s := by simp [enterHoldover, hclock]
@[simp] theorem outside_doCandidateLapse (s : State) (hclock : P .clock = true) :
    outside P (doCandidateLapse s) = outside P s := by simp [doCandidateLapse, hclock]
@[simp] theorem outside_doHoldElect (s : State) (hclock : P .clock = true) :
    outside P (doHoldElect s) = outside P s := by simp [doHoldElect, hclock]
@[simp] theorem outside_follow (s : State) (e : Nat × Candidate) (hclock : P .clock = true) :
    outside P (follow s e) = outside P s := by simp [follow, hclock]
@[simp] theorem outside_becomeRoot (s : State) (other : Nat × Nat) (hclock : P .clock = true) :
    outside P (becomeRoot s other) = outside P s := by simp [becomeRoot, hclock]
@[simp] theorem outside_doStartingEnd (s : State) (hclock : P .clock = true) :
    outside P (doStartingEnd s) = outside P s := by
  simp only [doStartingEnd]
  (repeat' split) <;> simp [hclock]
@[simp] theorem outside_nextNumber (s : State) (hclock : P .clock = true) :
    outside P (nextNumber s) = outside P s := by
  unfold nextNumber
  split <;> simp [hclock]
@[simp] theorem outside_electRoot (s : State) (cs : List (Nat × Nat)) (hclock : P .clock = true) :
    outside P (electRoot s cs) = outside P s := by simp [electRoot, hclock]
@[simp] theorem outside_electSource (s : State) (e : Nat × Candidate) (hclock : P .clock = true) :
    outside P (electSource s e) = outside P s := by simp [electSource, hclock]
@[simp] theorem outside_electNone (s : State) (hclock : P .clock = true) : outside P (electNone s) = outside P s := by
  simp [electNone, hclock]
@[simp] theorem outside_elect (s : State) (hclock : P .clock = true) : outside P (elect s) = outside P s := by
  simp only [elect]
  (repeat' split) <;> simp [hclock]
@[simp] theorem outside_setLength (s : State) (hclock : P .clock = true) : outside P (setLength s) = outside P s := by
  simp only [setLength]
  (repeat' split) <;> simp [hclock]
@[simp] theorem outside_noteExit (before : Nat) (s : State) : outside P (noteExit before s) = outside P s := by
  simp [noteExit]
@[simp] theorem outside_runBoundary (s : State) (hclock : P .clock = true) :
    outside P (runBoundary s) = outside P s := by simp [runBoundary, hclock]
@[simp] theorem outside_startingBoundary (s : State) (hclock : P .clock = true) :
    outside P (startingBoundary s) = outside P s := by simp [startingBoundary, hclock]
@[simp] theorem outside_showFill (s : State) : outside P (showFill s) = outside P s := by simp [showFill]
@[simp] theorem outside_doEpochBoundary (s : State) (hclock : P .clock = true) :
    outside P (doEpochBoundary s) = outside P s := by simp [doEpochBoundary, hclock]
@[simp] theorem outside_doEpochOutEnd (s : State) (hclock : P .clock = true) :
    outside P (doEpochOutEnd s) = outside P s := by simp [doEpochOutEnd, hclock]
@[simp] theorem outside_doEpochIn (s : State) (hclock : P .clock = true) : outside P (doEpochIn s) = outside P s := by
  simp [doEpochIn, hclock]
@[simp] theorem outside_epochKeepalive (p serial prio : Nat) (s : State) (hclock : P .clock = true) :
    outside P (epochKeepalive p serial prio s) = outside P s := by simp [epochKeepalive, hclock]
@[simp] theorem outside_keepalive (p pl : Nat) (s : State) (hclock : P .clock = true) :
    outside P (keepalive p pl s) = outside P s := by simp [keepalive, hclock]
@[simp] theorem outside_doControlFlit (p : Nat) (f : Flit) (s : State) (hclock : P .clock = true) :
    outside P (doControlFlit p f s) = outside P s := by simp [doControlFlit, hclock]
@[simp] theorem outside_takeFlit (p : Nat) (control : Bool) (f : Flit) (s : State) (hclock : P .clock = true) :
    outside P (takeFlit p control f s) = outside P s := by simp [takeFlit, hclock]
@[simp] theorem outside_doSymbols (p : Nat) (control : Bool) (lanes : LaneSymbols) (s : State)
    (hclock : P .clock = true) :
    outside P (doSymbols p control lanes s) = outside P s := by simp [doSymbols, hclock]

/-! ## The studbook -/

@[simp] theorem outside_setTokens (s : State) (code n : Nat) (hbook : P .book = true) :
    outside P (setTokens s code n) = outside P s := by simp [setTokens, hbook]
@[simp] theorem outside_creditSolid (s : State) (hbook : P .book = true) :
    outside P (creditSolid s) = outside P s := by simp [creditSolid, hbook]
@[simp] theorem outside_suppress (s : State) (code : Nat) : outside P (suppress s code) = outside P s := by
  simp [suppress]
@[simp] theorem outside_writeRecord (s : State) (code src data summary : Nat) (hbook : P .book = true) :
    outside P (writeRecord s code src data summary) = outside P s := by simp [writeRecord, hbook]
@[simp] theorem outside_writeOwn (s : State) (code : Nat) (items : List (Nat × Nat)) (hbook : P .book = true) :
    outside P (writeOwn s code items) = outside P s := by simp [writeOwn, hbook]
@[simp] theorem outside_writeSummary (s : State) (code : Nat) (hbook : P .book = true) :
    outside P (writeSummary s code) = outside P s := by simp [writeSummary, hbook]
@[simp] theorem outside_writeSummaries (s : State) (hbook : P .book = true) :
    outside P (writeSummaries s) = outside P s := by simp [writeSummaries, hbook]
@[simp] theorem outside_acceptRecord (s : State) (r : Raised) (hbook : P .book = true) :
    outside P (acceptRecord s r) = outside P s := by simp [acceptRecord, hbook]
@[simp] theorem outside_doStudbookRecord (s : State) (hbook : P .book = true) :
    outside P (doStudbookRecord s) = outside P s := by
  unfold doStudbookRecord
  split
  · rfl
  split
  · rfl
  · rw [outside_acceptRecord _ _ _ hbook, outside_writeSummaries _ _ hbook]
    rfl
@[simp] theorem outside_doBucketToken (code : Nat) (s : State) (hbook : P .book = true) :
    outside P (doBucketToken code s) = outside P s := by
  unfold doBucketToken
  extract_lets n s1 at_ s2 s3
  have h1 : outside P s1 = outside P s := by simp [s1, hbook]
  have h2 : outside P s2 = outside P s1 := by simp [s2, hbook]
  have h3 : outside P s3 = outside P s2 := by simp [s3, hbook]
  split <;> simp [hbook, h3, h2, h1]
@[simp] theorem outside_clipBurst (code burst : Nat) (s : State) (hbook : P .book = true) :
    outside P (clipBurst code burst s) = outside P s := by simp [clipBurst, hbook]
@[simp] theorem outside_trimRaised (s : State) :
    outside P (trimRaised s) = outside P s := outside_foldl P _ _ (fun _ _ => outside_suppress ..) _
@[simp] theorem outside_eraseBookSector (s : State) (k : Nat) (hbook : P .book = true) (hflash : P .flash = true) :
    outside P (eraseBookSector s k) = outside P s := (outside_flash _ hflash _).trans (outside_modBook s hbook _)
@[simp] theorem outside_programRecord (s : State) (seq : Nat) (hbook : P .book = true) (hflash : P .flash = true) :
    outside P (programRecord s seq) = outside P s := by
  unfold programRecord
  extract_lets slot r s1 s2 s3 s4
  have h1 : outside P s1 = outside P s := outside_flash s hflash _
  have h3 : outside P s3 = outside P s2 := by simp only [s3]; split <;> simp
  simp [s4, hflash, hbook, h3, s2, h1]
@[simp] theorem outside_persistAll (s : State) (hbook : P .book = true) (hflash : P .flash = true) :
    outside P (persistAll s) = outside P s := by simp [persistAll, hbook, hflash]
@[simp] theorem outside_doPersist (s : State) (hbook : P .book = true) (hflash : P .flash = true) :
    outside P (doPersist s) = outside P s := by
  simp only [doPersist]
  (repeat' split) <;> simp [hbook, hflash]
@[simp] theorem outside_scanBook (s : State) (hbook : P .book = true) : outside P (scanBook s).1 = outside P s := by
  simp [scanBook, hbook]
@[simp] theorem outside_startBook (cold : Bool) (s : State) (hbook : P .book = true) :
    outside P (startBook cold s) = outside P s := by
  unfold startBook
  split <;> simp [hbook]
@[simp] theorem outside_doStudbookClear (key : Nat) (s : State) (hbook : P .book = true) (hflash : P .flash = true) :
    outside P (doStudbookClear key s) = outside P s := by simp [doStudbookClear, hbook, hflash]
@[simp] theorem outside_doAlertAck (seq : Nat) (s : State) (hbook : P .book = true) :
    outside P (doAlertAck seq s) = outside P s := by
  simp only [doAlertAck]
  (repeat' split) <;> simp [hbook]

/-! ## The groom's flash -/

@[simp] theorem outside_eraseSector (s : State) (k : Nat) (hflash : P .flash = true) (hgroom : P .groom = true) :
    outside P (eraseSector s k) = outside P s := (outside_modGroom _ hgroom _).trans (outside_flash s hflash _)
@[simp] theorem outside_programPages (s : State) (a : Nat) (bs : List Byte) (hflash : P .flash = true)
    (hgroom : P .groom = true) :
    outside P (programPages s a bs) = outside P s := (outside_modGroom _ hgroom _).trans (outside_flash s hflash _)

/-! ## Vet checks -/

@[simp] theorem outside_setVet (s : State) (u : Nat) (r : VetRun) : outside P (setVet s u r) = outside P s := by
  simp [setVet]
@[simp] theorem outside_doVetRequest (u : Nat) (s : State) : outside P (doVetRequest u s) = outside P s := by
  simp [doVetRequest]
@[simp] theorem outside_doPeriodicVet (u : Nat) (overdue : Bool) (s : State) :
    outside P (doPeriodicVet u overdue s) = outside P s := by
  unfold doPeriodicVet
  (repeat' split) <;> simp
@[simp] theorem outside_doVetRetry (u : Nat) (s : State) : outside P (doVetRetry u s) = outside P s := by
  unfold doVetRetry
  split <;> simp
@[simp] theorem outside_doVetRecheck (u : Nat) (s : State) : outside P (doVetRecheck u s) = outside P s := by
  unfold doVetRecheck
  split <;> simp
@[simp] theorem outside_endVet (s : State) (u result points cause pack map : Nat) :
    outside P (endVet s u result points cause pack map) = outside P s := by simp [endVet]
@[simp] theorem outside_abortVet (u cause : Nat) (s : State) : outside P (abortVet u cause s) = outside P s := by
  unfold abortVet
  split <;> simp
@[simp] theorem outside_abortFacet (f cause : Nat) (s : State) : outside P (abortFacet f cause s) = outside P s := by
  simp [abortFacet]
@[simp] theorem outside_doVetWithdraw (u : Nat) (s : State) : outside P (doVetWithdraw u s) = outside P s := by
  simp only [doVetWithdraw]
  (repeat' split) <;> simp
@[simp] theorem outside_doVetYield (u : Nat) (s : State) : outside P (doVetYield u s) = outside P s := by
  simp [doVetYield]
@[simp] theorem outside_setPoint (s : State) (u : Nat) (r : VetRun) (p : Nat) :
    outside P (setPoint s u r p) = outside P s := by simp [setPoint]
@[simp] theorem outside_takeOut (s : State) (u : Nat) : outside P (takeOut s u) = outside P s := by
  unfold takeOut
  split <;> simp
@[simp] theorem outside_startVet (s : State) (u : Nat) (q : VetRequest) :
    outside P (startVet s u q) = outside P s := by simp [startVet]
@[simp] theorem outside_doVetStart (u : Nat) (scan granted : Bool) (s : State) :
    outside P (doVetStart u scan granted s) = outside P s := by
  simp only [doVetStart]
  (repeat' split) <;> simp
@[simp] theorem outside_drainOver (s : State) (u : Nat) (r : VetRun) : outside P (drainOver s u r) = outside P s := by
  unfold drainOver
  split <;> simp
@[simp] theorem outside_doVetDrainDone (u : Nat) (s : State) : outside P (doVetDrainDone u s) = outside P s := by
  unfold doVetDrainDone
  split <;> simp
@[simp] theorem outside_doVetDrainLimit (u : Nat) (s : State) : outside P (doVetDrainLimit u s) = outside P s := by
  unfold doVetDrainLimit
  split <;> simp
@[simp] theorem outside_holdResults (s : State) (u : Nat) (r : VetRun) :
    outside P (holdResults s u r) = outside P s := by simp [holdResults]
@[simp] theorem outside_doVetPoint (u : Nat) (passed : Bool) (localised : Nat) (s : State) :
    outside P (doVetPoint u passed localised s) = outside P s := by
  simp only [doVetPoint]
  (repeat' split) <;> simp
@[simp] theorem outside_doVetHeat (u : Nat) (s : State) : outside P (doVetHeat u s) = outside P s := by
  unfold doVetHeat
  split <;> simp
@[simp] theorem outside_restoreIslands (s : State) (u : Nat) (r : VetRun) :
    outside P (restoreIslands s u r) = outside P s := by simp [restoreIslands]
@[simp] theorem outside_engineBack (s : State) (e : Nat) (stays wasQ aborted : Bool) :
    outside P (engineBack s e stays wasQ aborted) = outside P s := by simp [engineBack]
@[simp] theorem outside_stringBack (s : State) (i : Nat) (r : VetRun) :
    outside P (stringBack s i r) = outside P s := by simp [stringBack]
@[simp] theorem outside_yokeAfter (s : State) (f : Nat) (r : VetRun) : outside P (yokeAfter s f r) = outside P s := by
  simp [yokeAfter]
@[simp] theorem outside_portsBack (s : State) (u : Nat) : outside P (portsBack s u) = outside P s := by
  unfold portsBack
  split <;> simp
@[simp] theorem outside_rowRings (s : State) (u : Nat) (r : VetRun) : outside P (rowRings s u r) = outside P s := by
  simp [rowRings]
@[simp] theorem outside_applyResult (s : State) (u : Nat) (r : VetRun) :
    outside P (applyResult s u r) = outside P s := by
  unfold applyResult
  split <;> simp
@[simp] theorem outside_raiseFloors (s : State) (u : Nat) (r : VetRun) :
    outside P (raiseFloors s u r) = outside P s := by simp [raiseFloors]
@[simp] theorem outside_doVetAbortStop (u : Nat) (s : State) : outside P (doVetAbortStop u s) = outside P s := by
  unfold doVetAbortStop
  split <;> simp
@[simp] theorem outside_doVetEnd (u : Nat) (s : State) : outside P (doVetEnd u s) = outside P s := by
  unfold doVetEnd
  split <;> simp
@[simp] theorem outside_doPackVerify (flashFails : Bool) (s : State) :
    outside P (doPackVerify flashFails s) = outside P s := by simp [doPackVerify]
@[simp] theorem outside_doPaceEnd (i hsr : Nat) (s : State) : outside P (doPaceEnd i hsr s) = outside P s := by
  simp [doPaceEnd]
@[simp] theorem outside_doFacetLeaves (g : Nat) (s : State) : outside P (doFacetLeaves g s) = outside P s := by
  simp [doFacetLeaves]

/-! ## Power, cooling and resets -/

@[simp] theorem outside_applyGrant (f c grant : Nat) (s : State) :
    outside P (applyGrant f c grant s) = outside P s := by simp [applyGrant]
@[simp] theorem outside_takeGrants (grants : List Nat) (s : State) :
    outside P (takeGrants grants s) = outside P s := by simp [takeGrants]
@[simp] theorem outside_warnRings (old new : List Nat) (s : State) :
    outside P (warnRings old new s) = outside P s := by simp [warnRings]
@[simp] theorem outside_forwardHeaters (i : Nat) (a b : Int) (s : State) :
    outside P (forwardHeaters i a b s) = outside P s := by simp [forwardHeaters]
@[simp] theorem outside_stepForward (s : State) : outside P (stepForward s) = outside P s := by simp [stepForward]
@[simp] theorem outside_doGrantPeriod (demands : List Nat) (inputW lossW : Nat) (s : State)
    (hpower : P .power = true) :
    outside P (doGrantPeriod demands inputW lossW s) = outside P s := by
  simp only [doGrantPeriod]
  (repeat' split) <;> simp [hpower]
@[simp] theorem outside_applySwitchVcore (s : State) : outside P (applySwitchVcore s) = outside P s := by
  simp [applySwitchVcore]
@[simp] theorem outside_clearElements (p : Addr → Bool) (s : State) :
    outside P (clearElements p s) = outside P s := (rfl)
@[simp] theorem outside_darken (s : State) : outside P (darken s) = outside P s := by
  unfold darken
  extract_lets s1 s2 s3 s4 s5
  have h5 : outside P s5 = outside P s := by simp [s5, s4, s3, s2, s1]
  clear_value s5
  rw [← h5]
  exact outside_congr P rfl rfl rfl rfl rfl rfl rfl rfl rfl rfl rfl
@[simp] theorem outside_groomDown (s : State) (hgroom : P .groom = true) : outside P (groomDown s) = outside P s := by
  rw [← outside_modGroom s hgroom (fun g => { g with up := false, verified := false, kept := [] })]
  rfl
@[simp] theorem outside_groomTrip (s : State) (hbook : P .book = true) (hgroom : P .groom = true) :
    outside P (groomTrip s) = outside P s := by simp [groomTrip, hbook, hgroom]
@[simp] theorem outside_doGroomCooled (s : State) (hgroom : P .groom = true) :
    outside P (doGroomCooled s) = outside P s := by simp [doGroomCooled, hgroom]
@[simp] theorem outside_tripSolid (inst temp : Nat) (s : State) (hpower : P .power = true) :
    outside P (tripSolid inst temp s) = outside P s := by simp [tripSolid, hpower]
@[simp] theorem outside_storeSample (sensor temp : Nat) (s : State) :
    outside P (storeSample sensor temp s) = outside P s := by simp [storeSample]
@[simp] theorem outside_thermRecords (inst old new : Nat) (t : Int) (s : State) :
    outside P (thermRecords inst old new t s) = outside P s := by simp [thermRecords]
@[simp] theorem outside_judgeTemp (inst : Nat) (t : Int) (s : State) (hpower : P .power = true) :
    outside P (judgeTemp inst t s) = outside P s := by simp [judgeTemp, hpower]
@[simp] theorem outside_tripSample (sensor temp : Nat) (s : State) (hbook : P .book = true)
    (hgroom : P .groom = true) (hpower : P .power = true) :
    outside P (tripSample sensor temp s) = outside P s := by simp [tripSample, hbook, hgroom, hpower]
@[simp] theorem outside_doTempSample (sensor temp : Nat) (s : State) (hbook : P .book = true)
    (hgroom : P .groom = true) (hpower : P .power = true) :
    outside P (doTempSample sensor temp s) = outside P s := by simp [doTempSample, hbook, hgroom, hpower]
@[simp] theorem outside_doThermalTrip (sensor temp : Nat) (s : State) (hbook : P .book = true)
    (hgroom : P .groom = true) (hpower : P .power = true) :
    outside P (doThermalTrip sensor temp s) = outside P s := by simp [doThermalTrip, hbook, hgroom, hpower]
@[simp] theorem outside_doThrottleStep (f : Nat) (s : State) (hpower : P .power = true) :
    outside P (doThrottleStep f s) = outside P s := by simp [doThrottleStep, hpower]
@[simp] theorem outside_solidReset (cause : Nat) (s : State) (hall : AllowsRest P) :
    outside P (solidReset cause s) = outside P s := by
  unfold solidReset
  extract_lets why x g kept kept2
  have hk : outside P kept = outside P s := by simp [kept, outside, hall.has]
  simp [hk, kept2]
@[simp] theorem outside_doVauxApplied (straps : Nat) (s : State) (hall : AllowsRest P) :
    outside P (doVauxApplied straps s) = outside P s := by simp [doVauxApplied, outside, hall.has]
@[simp] theorem outside_doResetFall (s : State) (hall : AllowsRest P) : outside P (doResetFall s) = outside P s := by
  simp only [doResetFall]
  (repeat' split) <;> simp [hall, hall.has]
@[simp] theorem outside_supplyFault (s : State) : outside P (supplyFault s) = outside P s := by simp [supplyFault]
@[simp] theorem outside_islandsOff (s : State) : outside P (islandsOff s) = outside P s := by simp [islandsOff]
@[simp] theorem outside_doPwrgdFall (s : State) (hall : AllowsRest P) : outside P (doPwrgdFall s) = outside P s := by
  simp only [doPwrgdFall]
  (repeat' split) <;> simp [hall, hall.has]
@[simp] theorem outside_doVauxLoss (s : State) (hall : AllowsRest P) : outside P (doVauxLoss s) = outside P s := by
  simp [doVauxLoss, hall]
@[simp] theorem outside_doSolidReset (s : State) (hall : AllowsRest P) :
    outside P (doSolidReset s) = outside P s := by simp [doSolidReset, hall]
@[simp] theorem outside_doEffectiveRelease (s : State) (hpower : P .power = true) (htime : P .time = true) :
    outside P (doEffectiveRelease s) = outside P s := by
  unfold doEffectiveRelease
  split
  · rfl
  · rw [outside_time _ htime, outside_modPower s hpower]
@[simp] theorem outside_doRails (s : State) (hpower : P .power = true) : outside P (doRails s) = outside P s := by
  simp [doRails, hpower]
@[simp] theorem outside_doSelfTest (failed : Nat) (s : State) (hpower : P .power = true) :
    outside P (doSelfTest failed s) = outside P s := by simp [doSelfTest, hpower]
@[simp] theorem outside_doHbmTraining (failed : Nat) (s : State) (hpower : P .power = true) :
    outside P (doHbmTraining failed s) = outside P s := by simp [doHbmTraining, hpower]
@[simp] theorem outside_loadBootset (s : State) (hpower : P .power = true) (hshadow : P .shadow = true) :
    outside P (loadBootset s) = outside P s := by
  unfold loadBootset
  split
  · rfl
  extract_lets want s1
  have h1 : outside P s1 = outside P s := by rw [outside_applySwap, outside_shadow s hshadow]
  split <;> simp [hpower, h1]
@[simp] theorem outside_doBootReady (s : State) (hpower : P .power = true) (hshadow : P .shadow = true) :
    outside P (doBootReady s) = outside P s := by simp [doBootReady, hpower, hshadow]
@[simp] theorem outside_doSupplyOut (aux : Bool) (mv : Nat) (s : State) (hpower : P .power = true) :
    outside P (doSupplyOut aux mv s) = outside P s := by
  simp only [doSupplyOut]
  (repeat' split) <;> simp [hpower]
@[simp] theorem outside_doSupplyIn (aux : Bool) (mv : Nat) (s : State) (hpower : P .power = true) :
    outside P (doSupplyIn aux mv s) = outside P s := by simp [doSupplyIn, hpower]

/-! ## Reads of the dictionary -/

@[simp] theorem outside_readEffect (s : State) (a : Addr) : outside P (readEffect s a) = outside P s := by
  simp [readEffect]

/-! ## Package, Balls and Fibres -/

@[simp] theorem outside_doBmiRefresh (s : State) (hpins : P .pins = true) :
    outside P (doBmiRefresh s) = outside P s := by simp [doBmiRefresh, hpins]
@[simp] theorem outside_doBmiRead (pointer count : Nat) (s : State) :
    outside P (doBmiRead pointer count s) = outside P s := by simp [doBmiRead]
@[simp] theorem outside_doBmiHeldLow (scl : Bool) (s : State) : outside P (doBmiHeldLow scl s) = outside P s := by
  simp [doBmiHeldLow]
@[simp] theorem outside_selectTap (k : Nat) (s : State) (hpins : P .pins = true) :
    outside P (selectTap k s) = outside P s := by simp [selectTap, hpins]
@[simp] theorem outside_doBypass (s : State) (hpins : P .pins = true) : outside P (doBypass s) = outside P s := by
  simp [doBypass, hpins]
@[simp] theorem outside_doIdcode (s : State) (hpins : P .pins = true) : outside P (doIdcode s) = outside P s := by
  simp [doIdcode, hpins]
@[simp] theorem outside_doSamplePreload (cells : BitVec 128) (s : State) (hpins : P .pins = true) :
    outside P (doSamplePreload cells s) = outside P s := by simp [doSamplePreload, hpins]
@[simp] theorem outside_doExtest (s : State) (hpins : P .pins = true) : outside P (doExtest s) = outside P s := by
  simp [doExtest, hpins]

/-! ## The groom -/

@[simp] theorem outside_keyChanged (slot key : Nat) (s : State) :
    outside P (keyChanged slot key s) = outside P s := by simp [keyChanged]
@[simp] theorem outside_storeSecret (slot value : Nat) (s : State) (hgroom : P .groom = true) :
    outside P (storeSecret slot value s) = outside P s := by simp [storeSecret, hgroom]
@[simp] theorem outside_doSecretWrite (slot value key counter : Nat) (s : State) (hgroom : P .groom = true) :
    outside P (doSecretWrite slot value key counter s) = outside P s := by simp [doSecretWrite, hgroom]
@[simp] theorem outside_signkeyChanged (s : State) : outside P (signkeyChanged s) = outside P s := by
  simp [signkeyChanged]
@[simp] theorem outside_doPubkeyWrite (slot value : Nat) (s : State) :
    outside P (doPubkeyWrite slot value s) = outside P s := by simp [doPubkeyWrite]
@[simp] theorem outside_doSignkeyRevoke (slot : Nat) (s : State) :
    outside P (doSignkeyRevoke slot s) = outside P s := by simp [doSignkeyRevoke]
@[simp] theorem outside_doVerify (s : State) (hgroom : P .groom = true) : outside P (doVerify s) = outside P s := by
  simp [doVerify, hgroom]
@[simp] theorem outside_doActivate (s : State) (hgroom : P .groom = true) :
    outside P (doActivate s) = outside P s := by simp [doActivate, hgroom]
@[simp] theorem outside_doConfirm (s : State) : outside P (doConfirm s) = outside P s := by
  simp only [doConfirm]
  (repeat' split) <;> simp
@[simp] theorem outside_doRestart (s : State) (hgroom : P .groom = true) : outside P (doRestart s) = outside P s := by
  simp [doRestart, hgroom]
@[simp] theorem outside_doCancel (s : State) (hgroom : P .groom = true) : outside P (doCancel s) = outside P s := by
  simp [doCancel, hgroom]
@[simp] theorem outside_doConfirmTimeout (s : State) (hgroom : P .groom = true) :
    outside P (doConfirmTimeout s) = outside P s := by simp [doConfirmTimeout, hgroom]
@[simp] theorem outside_runImage (slot : Nat) (s : State) : outside P (runImage slot s) = outside P s := by
  simp [runImage]
@[simp] theorem outside_recover (s : State) : outside P (recover s) = outside P s := by simp [recover]
@[simp] theorem outside_revertTo (bad good : Nat) (s : State) : outside P (revertTo bad good s) = outside P s := by
  simp [revertTo]
@[simp] theorem outside_bootRom (s : State) (hgroom : P .groom = true) : outside P (bootRom s) = outside P s := by
  simp [bootRom, hgroom]
@[simp] theorem outside_raiseKeyFloors (s : State) : outside P (raiseKeyFloors s) = outside P s := by
  simp [raiseKeyFloors]
@[simp] theorem outside_resumeErases (s : State) (hbook : P .book = true) (hflash : P .flash = true)
    (hgroom : P .groom = true) :
    outside P (resumeErases s) = outside P s := by simp [resumeErases, hbook, hflash, hgroom]
@[simp] theorem outside_doBootsetSave (s : State) (hgroom : P .groom = true) :
    outside P (doBootsetSave s) = outside P s := by simp [doBootsetSave, hgroom]
@[simp] theorem outside_doBootsetErase (s : State) (hgroom : P .groom = true) :
    outside P (doBootsetErase s) = outside P s := by simp [doBootsetErase, hgroom]
@[simp] theorem outside_doMgmtLink (m : Nat) (up : Bool) (s : State) :
    outside P (doMgmtLink m up s) = outside P s := by simp [doMgmtLink]

/-! ## Writes to the dictionary -/

@[simp] theorem outside_storeOne (s : State) (e : Addr × Nat) (hshadow : P .shadow = true) :
    outside P (storeOne s e) = outside P s := by
  unfold storeOne
  split
  · exact outside_shadow s hshadow _
  · simp
@[simp] theorem outside_storeWrite (s : State) (w : Write) (hshadow : P .shadow = true) :
    outside P (storeWrite s w) = outside P s := by simp [storeWrite, hshadow]
@[simp] theorem outside_teamCommand (t v : Nat) (s : State) : outside P (teamCommand t v s) = outside P s := by
  unfold teamCommand
  split <;> simp
@[simp] theorem outside_feedCommand (feed v : Nat) (s : State) : outside P (feedCommand feed v s) = outside P s := by
  unfold feedCommand
  split <;> simp
@[simp] theorem outside_firmwareCommand (v : Nat) (s : State) (hgroom : P .groom = true) :
    outside P (firmwareCommand v s) = outside P s := by
  unfold firmwareCommand
  split <;> simp [hgroom]
@[simp] theorem outside_writeSetpoint (n v : Nat) (s : State) : outside P (writeSetpoint n v s) = outside P s := by
  simp only [writeSetpoint]
  (repeat' split) <;> simp
@[simp] theorem outside_setRefused (ws : List Write) (outcome : Nat × Nat) (s : State) :
    outside P (setRefused ws outcome s) = outside P s := by
  unfold setRefused
  split <;> simp

/-! ## Sirgo messages -/

@[simp] theorem outside_bulkWriteBody (role : Nat) (initial stub flashFails : Bool) (items : Nat)
    (body : List Byte) (s : State) (hflash : P .flash = true) (hgroom : P .groom = true) :
    outside P (bulkWriteBody role initial stub flashFails items body s).1 = outside P s := by
  simp only [bulkWriteBody]
  (repeat' split) <;> simp [hflash, hgroom]
@[simp] theorem outside_bulkReadBody (role : Nat) (initial : Bool) (items : Nat) (body : List Byte) (s : State) :
    outside P (bulkReadBody role initial items body s).1 = outside P s := by
  simp only [bulkReadBody]
  (repeat' split) <;> simp
@[simp] theorem outside_sendReplies (s : State) : outside P (sendReplies s) = outside P s := by
  refine outside_foldl P _ _ (fun s e => ?_) _
  split <;> simp
@[simp] theorem outside_sendReply (r : Request) (bytes : List Byte) (s : State) :
    outside P (sendReply r bytes s) = outside P s := by simp [sendReply]
@[simp] theorem outside_answer (keep : Bool) (secret bs : List Byte) (r : Request) (x : Reply) (s : State)
    (hgroom : P .groom = true) :
    outside P (answer keep secret bs r x s) = outside P s := by simp [answer, hgroom]
@[simp] theorem outside_discardPacket (m : Nat) (s : State) : outside P (discardPacket m s) = outside P s := by
  simp [discardPacket]
@[simp] theorem outside_doMgmtPacket (m : Nat) (p : MgmtPacket) (s : State) :
    outside P (doMgmtPacket m p s) = outside P s := by
  unfold doMgmtPacket
  (repeat' split) <;> simp

/-! ## What the commands' meanings share -/

@[simp] theorem outside_doMargin (lane margin : Nat) (s : State) :
    outside P (doMargin lane margin s) = outside P s := by simp [doMargin]
@[simp] theorem outside_doLightUp (s : State) : outside P (doLightUp s) = outside P s := by simp [doLightUp]

end

section
variable (P : Part → Bool)

/-! ## Sirgo: reads, writes and messages -/

@[simp] theorem outside_written (s : State) (f : State → State) (hf : outside P (f s) = outside P s) :
    outside P (written s f) = outside P s := by
  unfold written
  split
  · exact hf
  · rfl

@[simp] theorem outside_mirrorChanges (before after : State) :
    outside P (mirrorChanges before after) = outside P after := by
  unfold mirrorChanges
  (repeat' split) <;> simp

@[simp] theorem outside_concluded (before after : State) : outside P (concluded before after) = outside P after := by
  simp [concluded]

@[simp] theorem outside_getItems (role ten n : Nat) (items : List Item) (s : State) (body : List Byte) :
    outside P (getItems role ten n items s body).1 = outside P s := by
  induction items generalizing n s body with
  | nil => rfl
  | cons x rest ih => unfold getItems; dsimp only; (repeat' split) <;> simp [ih]

theorem outside_rangeStep (limit role ten : Nat) (shadow : Bool) (x : RangeRun) (a : Addr) :
    outside P (rangeStep limit role ten shadow x a).s = outside P x.s := by
  unfold rangeStep
  extract_lets b
  (repeat' split) <;> simp

@[simp] theorem outside_getRange (limit role ten : Nat) (items : List Item) (s : State) :
    outside P (getRange limit role ten items s).1 = outside P s := by
  unfold getRange
  split
  · extract_lets n k r
    have hr : outside P r.s = outside P s :=
      List.foldlRecOn (motive := fun x : RangeRun => outside P x.s = outside P s) _ _ rfl fun x hx i _ =>
        List.foldlRecOn (motive := fun x : RangeRun => outside P x.s = outside P s) _ _ hx fun x hx e _ =>
          (outside_rangeStep P ..).trans hx
    (repeat' split) <;> simp [hr]
  · rfl

section
variable {P}
variable (hall : AllowsRest P)
include hall

/-- Of the writes that start a command only STUDBOOK COMMAND reaches the flash (R496). -/
theorem outside_writeEffect {key v : Nat} {a : Addr} {f : State → State}
    (hflash : a.obj = 0x1003 → a.el = 6 → P .flash = true) (h : writeEffect key a v = some f) (s : State) :
    outside P (f s) = outside P s := by
  unfold writeEffect at h
  extract_lets i at h
  split at h <;> simp only [Option.some.injEq, reduceCtorEq] at h <;> subst h <;> (try dsimp only) <;>
    (repeat' split) <;> simp [hall.has, *]

theorem outside_applyWrites (hflash : P .flash = true) (key : Nat) (ws : List Write) (s : State) :
    outside P (applyWrites key ws s) = outside P s := by
  unfold applyWrites
  extract_lets plain s1 s2
  have h1 : outside P s1 = outside P s :=
    outside_foldl P _ _ (fun s w => outside_storeWrite P s w (hall.has (by decide) (by decide))) _
  have h2 : outside P s2 = outside P s1 := by simp [s2]
  refine (outside_foldl P _ _ (fun s w => ?_) _).trans (h2.trans h1)
  split
  · next hw => exact outside_writeEffect hall (fun _ _ => hflash) hw s
  · rfl

theorem outside_afterResponse (ws : List Write) (s : State) : outside P (afterResponse ws s) = outside P s := by
  refine outside_foldl P _ _ (fun s w => ?_) _
  (repeat' split) <;> simp [hall, hall.has]

theorem outside_doRegisterWrite (hflash : P .flash = true) (a : Addr) (v : Nat) (s : State) :
    outside P (doRegisterWrite a v s) = outside P s := by
  unfold doRegisterWrite
  extract_lets ws st
  split
  · rfl
  split
  · simp
  · rw [outside_afterResponse hall, outside_applyWrites hall hflash]

/-- Of the five operations SET and BULK_WRITE alone can reach the flash (R524, R532). -/
theorem outside_runMessage (flashFails : Bool) (r : Request) (bs : List Byte) (s : State)
    (hflash : P .flash = true ∨ msgOp bs ≠ Op.BULK_WRITE ∧ msgOp bs ≠ Op.SET) (hop : headStatus bs = Status.OK) :
    outside P (runMessage flashFails r bs s).1 = outside P s := by
  have hknown : 1 ≤ msgOp bs ∧ msgOp bs ≤ 5 := by
    simp only [headStatus] at hop
    split at hop
    · exact absurd hop (by decide)
    split at hop
    · exact absurd hop (by decide)
    · omega
  unfold runMessage
  extract_lets k role ten initial body x y
  split
  · next hbulk =>
    have hf := hflash.resolve_right (fun h => h.1 hbulk)
    simp [x, hall.has, hf]
  split
  · simp [y]
  split
  · rfl
  split
  · rfl
  split
  · exact outside_getItems ..
  split
  · exact outside_getRange ..
  · have hset : msgOp bs = Op.SET := by
      simp only [Op.GET, Op.SET, Op.GET_RANGE, Op.BULK_WRITE, Op.BULK_READ] at *
      omega
    have hf := hflash.resolve_right (fun h => h.2 hset)
    dsimp only
    split
    · simp
    · exact outside_applyWrites hall hf ..

theorem outside_executeNew (flashFails : Bool) (secret bs : List Byte) (r : Request) (s : State)
    (hflash : P .flash = true ∨ msgOp bs ≠ Op.BULK_WRITE ∧ msgOp bs ≠ Op.SET) :
    outside P (executeNew flashFails secret bs r s) = outside P s := by
  unfold executeNew
  extract_lets k c s1 inb head x s2
  have h1 : outside P s1 = outside P s := by simp [s1]
  split
  · exact h1
  split
  · simp [h1, hall.has]
  split
  · simp [h1, hall.has]
  · next hhead =>
    have hx : outside P x.1 = outside P s1 := outside_runMessage hall _ _ _ _ hflash (not_not.mp hhead)
    simp [outside_afterResponse hall, s2, hx, h1, hall.has]

theorem outside_executeMessage (flashFails : Bool) (r : Request) (s : State)
    (hflash : P .flash = true ∨ msgOp (requestBytes r) ≠ Op.BULK_WRITE ∧ msgOp (requestBytes r) ≠ Op.SET) :
    outside P (executeMessage flashFails r s) = outside P s := by
  unfold executeMessage
  extract_lets bs k secret floor s1
  have h1 : outside P s1 = outside P s := outside_wr ..
  split
  · simp
  split
  · simp
  split
  · simp [hall.has]
  split
  · simp [h1, hall.has]
  · rw [outside_executeNew hall _ _ _ _ _ hflash, h1]

/-- A message runs under its own operation, or under none the groom knows (R520): only SET and BULK_WRITE
write flash. -/
theorem outside_executeFront (op : Nat) (flashFails : Bool) (s : State)
    (hflash : P .flash = true ∨ op ≠ Op.BULK_WRITE ∧ op ≠ Op.SET) :
    outside P (executeFront op flashFails s) = outside P s := by
  unfold executeFront
  split
  · rfl
  · next r rest hreq =>
    extract_lets o
    split
    · rfl
    · next hop =>
      refine (outside_executeMessage hall flashFails r _ (hflash.imp_right fun hne => ?_)).trans ?_
      · simp only [Op.SET, Op.BULK_WRITE] at *
        omega
      · exact outside_congr P rfl rfl rfl rfl rfl rfl rfl rfl rfl rfl rfl

theorem outside_doGroomStart (hflash : P .flash = true) (s : State) : outside P (doGroomStart s) = outside P s := by
  unfold doGroomStart
  split
  · rfl
  extract_lets cold s1 s2 s3 s4
  have h4 : outside P s4 = outside P s := by simp [s4, s3, s2, s1, hall.has, hflash]
  (repeat' split) <;> simp [hall, h4]

end
end

/-! ## Every command -/

/-- What Safety.lean lets a command change. -/
def mayChange (c : Instr) : Part → Bool
  | .pending => false
  | .flash => mayWriteFlash c
  | .pins => touchesAll c || touchesPins c
  | .time => touchesAll c || touchesTime c
  | .telem => touchesAll c || touchesTelem c
  | .banks => touchesAll c || touchesBanks c
  | .clock => touchesAll c || touchesClock c
  | .groom => touchesAll c || touchesGroom c
  | .power => touchesAll c || touchesPower c
  | .shadow => touchesAll c || touchesShadow c
  | .book => touchesAll c || touchesBook c

theorem allowsRest_mayChange {c : Instr} (h : touchesAll c = true) : AllowsRest (mayChange c) := by
  intro p hp hf
  cases p <;> simp_all [mayChange]

/-- Every command ends in a next state, and stays inside what Safety.lean lets it change. -/
theorem exec_outside (c : Instr) (s : State) :
    ∃ u, exec c s = .next u ∧ outside (mayChange c) u = outside (mayChange c) s := by
  cases c
  case bmiImageRefresh => exact ⟨_, rfl, outside_doBmiRefresh (hpins := rfl) ..⟩
  case bypass => exact ⟨_, rfl, outside_doBypass (hpins := rfl) ..⟩
  case idcode => exact ⟨_, rfl, outside_doIdcode (hpins := rfl) ..⟩
  case samplePreload => exact ⟨_, rfl, outside_doSamplePreload (hpins := rfl) ..⟩
  case extest => exact ⟨_, rfl, outside_doExtest (hpins := rfl) ..⟩
  case timebaseRealign => exact ⟨_, rfl, outside_doRealign (htime := rfl) ..⟩
  case effectiveRelease => exact ⟨_, rfl, outside_doEffectiveRelease (hpower := rfl) (htime := rfl) ..⟩
  case telemetryRequest => exact ⟨_, rfl, (outside_concluded ..).trans (outside_doTelemRequest (htelem := rfl) ..)⟩
  case bankClear => exact ⟨_, rfl, outside_written _ _ _ (outside_doBankClear (hbanks := rfl) ..)⟩
  case epochBoundary => exact ⟨_, rfl, (outside_concluded ..).trans (outside_doEpochBoundary (hclock := rfl) ..)⟩
  case epochFrameReceived => exact ⟨_, rfl, (outside_concluded ..).trans (outside_doEpochFrame (hclock := rfl) ..)⟩
  case candidateLapse => exact ⟨_, rfl, (outside_concluded ..).trans (outside_doCandidateLapse (hclock := rfl) ..)⟩
  case holdElectExpire => exact ⟨_, rfl, (outside_concluded ..).trans (outside_doHoldElect (hclock := rfl) ..)⟩
  case startingEnd => exact ⟨_, rfl, (outside_concluded ..).trans (outside_doStartingEnd (hclock := rfl) ..)⟩
  case epochInEdge => exact ⟨_, rfl, outside_doEpochIn (hclock := rfl) ..⟩
  case epochOutPulseEnd => exact ⟨_, rfl, outside_doEpochOutEnd (hclock := rfl) ..⟩
  case controlFlitReceived => exact ⟨_, rfl, (outside_concluded ..).trans (outside_doSymbols (hclock := rfl) ..)⟩
  case dataFlitReceived => exact ⟨_, rfl, (outside_concluded ..).trans (outside_doSymbols (hclock := rfl) ..)⟩
  case peerLoss => exact ⟨_, rfl, (outside_concluded ..).trans (outside_doPeerLoss (hclock := rfl) ..)⟩
  case secretWrite => exact ⟨_, rfl, outside_doSecretWrite (hgroom := rfl) ..⟩
  case verify => exact ⟨_, rfl, outside_doVerify (hgroom := rfl) ..⟩
  case activate => exact ⟨_, rfl, outside_doActivate (hgroom := rfl) ..⟩
  case cancel => exact ⟨_, rfl, outside_doCancel (hgroom := rfl) ..⟩
  case restart => exact ⟨_, rfl, outside_doRestart (hgroom := rfl) ..⟩
  case confirmTimeout => exact ⟨_, rfl, outside_doConfirmTimeout (hgroom := rfl) ..⟩
  case bootsetSave => exact ⟨_, rfl, outside_doBootsetSave (hgroom := rfl) ..⟩
  case bootsetErase => exact ⟨_, rfl, outside_doBootsetErase (hgroom := rfl) ..⟩
  case tempSample => exact ⟨_, rfl, outside_doTempSample (hbook := rfl) (hgroom := rfl) (hpower := rfl) ..⟩
  case thermalTrip => exact ⟨_, rfl, outside_doThermalTrip (hbook := rfl) (hgroom := rfl) (hpower := rfl) ..⟩
  case groomCooled => exact ⟨_, rfl, outside_doGroomCooled (hgroom := rfl) ..⟩
  case arbGrantPeriod => exact ⟨_, rfl, outside_doGrantPeriod (hpower := rfl) ..⟩
  case throttleStep => exact ⟨_, rfl, outside_doThrottleStep (hpower := rfl) ..⟩
  case railsInRegulation => exact ⟨_, rfl, outside_doRails (hpower := rfl) ..⟩
  case selfTestDone => exact ⟨_, rfl, (outside_concluded ..).trans (outside_doSelfTest (hpower := rfl) ..)⟩
  case hbmTrainingDone => exact ⟨_, rfl, (outside_concluded ..).trans (outside_doHbmTraining (hpower := rfl) ..)⟩
  case supplyOutOfRange => exact ⟨_, rfl, outside_doSupplyOut (hpower := rfl) ..⟩
  case supplyInRange => exact ⟨_, rfl, outside_doSupplyIn (hpower := rfl) ..⟩
  case bootReady =>
    exact ⟨_, rfl, (outside_concluded ..).trans (outside_doBootReady (hpower := rfl) (hshadow := rfl) ..)⟩
  case swapCopyDone => exact ⟨_, rfl, (outside_concluded ..).trans (outside_doSwapCopied (hshadow := rfl) ..)⟩
  case studbookRecord => exact ⟨_, rfl, outside_doStudbookRecord (hbook := rfl) ..⟩
  case codeBucketToken => exact ⟨_, rfl, outside_doBucketToken (hbook := rfl) ..⟩
  case persistProgram => exact ⟨_, rfl, outside_doPersist (hbook := rfl) (hflash := rfl) ..⟩
  case studbookClear =>
    exact ⟨_, rfl, outside_written _ _ _ (outside_doStudbookClear (hbook := rfl) (hflash := rfl) ..)⟩
  case alertAck => exact ⟨_, rfl, outside_written _ _ _ (outside_doAlertAck (hbook := rfl) ..)⟩
  case resetNFall => exact ⟨_, rfl, outside_doResetFall (hall := allowsRest_mayChange (by rfl)) ..⟩
  case solidResetCommand => exact ⟨_, rfl, outside_doSolidReset (hall := allowsRest_mayChange (by rfl)) ..⟩
  case pwrgdInFall => exact ⟨_, rfl, outside_doPwrgdFall (hall := allowsRest_mayChange (by rfl)) ..⟩
  case vauxLoss => exact ⟨_, rfl, outside_doVauxLoss (hall := allowsRest_mayChange (by rfl)) ..⟩
  case vauxApplied => exact ⟨_, rfl, outside_doVauxApplied (hall := allowsRest_mayChange (by rfl)) ..⟩
  case getMsg | getRange | bulkRead =>
    exact ⟨_, rfl, outside_executeFront (allowsRest_mayChange (by rfl)) _ _ _ (.inr ⟨by decide, by decide⟩)⟩
  case bulkWrite => exact ⟨_, rfl, outside_executeFront (allowsRest_mayChange (by rfl)) _ _ _ (.inl rfl)⟩
  case setMsg =>
    exact ⟨_, rfl, (outside_concluded ..).trans
      (outside_executeFront (allowsRest_mayChange (by rfl)) _ _ _ (.inl rfl))⟩
  case registerWrite =>
    exact ⟨_, rfl, (outside_concluded ..).trans
      (outside_doRegisterWrite (allowsRest_mayChange (by rfl)) rfl _ _ _)⟩
  case groomStart => exact ⟨_, rfl, outside_doGroomStart (allowsRest_mayChange (by rfl)) rfl _⟩
  all_goals exact ⟨_, rfl, by simp⟩

/-! ## What equal outsides say of each part -/

section
variable {P : Part → Bool} {s t : State} (h : outside P t = outside P s)
include h

theorem pending_of_outside (hp : P .pending = false) : t.pending = s.pending := by
  simpa [outside, hp] using congrArg State.pending h
theorem flash_of_outside (hp : P .flash = false) : t.flash = s.flash := by
  simpa [outside, hp] using congrArg State.flash h
theorem pins_of_outside (hp : P .pins = false) : t.pins = s.pins := by
  simpa [outside, hp] using congrArg State.pins h
theorem time_of_outside (hp : P .time = false) : t.time = s.time := by
  simpa [outside, hp] using congrArg State.time h
theorem telem_of_outside (hp : P .telem = false) : t.telem = s.telem := by
  simpa [outside, hp] using congrArg State.telem h
theorem bankBase_of_outside (hp : P .banks = false) : t.bankBase = s.bankBase := by
  simpa [outside, hp] using congrArg State.bankBase h
theorem clock_of_outside (hp : P .clock = false) : t.clock = s.clock := by
  simpa [outside, hp] using congrArg State.clock h
theorem groom_of_outside (hp : P .groom = false) : t.groom = s.groom := by
  simpa [outside, hp] using congrArg State.groom h
theorem power_of_outside (hp : P .power = false) : t.power = s.power := by
  simpa [outside, hp] using congrArg State.power h
theorem shadow_of_outside (hp : P .shadow = false) : t.shadow = s.shadow := by
  simpa [outside, hp] using congrArg State.shadow h
theorem book_of_outside (hp : P .book = false) : t.book = s.book := by
  simpa [outside, hp] using congrArg State.book h

end

theorem outside_of_exec {c : Instr} {s t : State} (h : exec c s = .next t) :
    outside (mayChange c) t = outside (mayChange c) s := by
  obtain ⟨u, hu, hout⟩ := exec_outside c s
  obtain rfl : u = t := Host.Outcome.next.inj (hu.symm.trans h)
  exact hout

/-- Settles O58: no command's meaning touches the queue, and only those of `mayWriteFlash` reach the flash. -/
theorem queueAndFlashFrame : Obligations.QueueAndFlashFrame := by
  unfold Obligations.QueueAndFlashFrame
  intro c s t h
  have hout := outside_of_exec h
  refine ⟨pending_of_outside hout rfl, fun hflash => ?_⟩
  have hsame : t.flash = s.flash := flash_of_outside hout hflash
  exact ⟨hsame, fun a => by rw [hsame]⟩

/-- Settles O59: what `mayChange` leaves out of a command's reach is as it was. -/
theorem stateFrame : Obligations.StateFrame := by
  unfold Obligations.StateFrame
  intro c s t h hall
  have hout := outside_of_exec h
  have hnot : ∀ {b : Bool}, b = false → (touchesAll c || b) = false := fun hb => by rw [hall, hb]; rfl
  exact ⟨fun hb => pins_of_outside hout (hnot hb), fun hb => time_of_outside hout (hnot hb),
    fun hb => telem_of_outside hout (hnot hb), fun hb => bankBase_of_outside hout (hnot hb),
    fun hb => clock_of_outside hout (hnot hb), fun hb => groom_of_outside hout (hnot hb),
    fun hb => power_of_outside hout (hnot hb), fun hb => shadow_of_outside hout (hnot hb),
    fun hb => book_of_outside hout (hnot hb)⟩

/-! ## The tick -/

section
variable (P : Part → Bool)

@[simp] theorem outside_stallTick (s : State) (e : Nat × Nat) : outside P (stallTick s e) = outside P s := by
  simp [stallTick]
@[simp] theorem outside_waitTick (s : State) (e : Nat × Nat) : outside P (waitTick s e) = outside P s := by
  simp [waitTick]
@[simp] theorem outside_endStalls (s : State) (p : Nat) : outside P (endStalls s p) = outside P s := by
  simp [endStalls]
@[simp] theorem outside_stallTicks (s : State) : outside P (stallTicks s) = outside P s := by simp [stallTicks]
@[simp] theorem outside_shaperTicks (s : State) : outside P (shaperTicks s) = outside P s := by simp [shaperTicks]
@[simp] theorem outside_ctrlTick (s : State) (p : Nat) : outside P (ctrlTick s p) = outside P s := by simp [ctrlTick]
@[simp] theorem outside_portTicks (s : State) : outside P (portTicks s) = outside P s := by simp [portTicks]
@[simp] theorem outside_facetTick (s : State) (f : Nat) : outside P (facetTick s f) = outside P s := by
  simp [facetTick]
@[simp] theorem outside_arbiterTick (s : State) : outside P (arbiterTick s) = outside P s := by simp [arbiterTick]

/-- What a tick does once the timebase has advanced; a summary that is due may be written (R490). -/
theorem outside_runTick (hbook : P .book = true) (s : State) :
    outside P (runTick s) = outside P (advance ((ctrlPorts s).foldl ctrlTick s)) := by
  simp [runTick, hbook]

end

theorem runTick_time (s : State) : (runTick s).time = (advance s).time := by
  have hctrl : ((ctrlPorts s).foldl ctrlTick s).time = s.time :=
    time_of_outside (P := fun p => decide (p = .book)) (by simp) rfl
  rw [time_of_outside (outside_runTick (fun p => decide (p = .book)) rfl s) rfl]
  simp only [advance, hctrl]

theorem runTick_pending (s : State) : (runTick s).pending = s.pending := by
  have hctrl : ((ctrlPorts s).foldl ctrlTick s).pending = s.pending :=
    pending_of_outside (P := fun p => decide (p = .book)) (by simp) rfl
  rw [pending_of_outside (outside_runTick (fun p => decide (p = .book)) rfl s) rfl]
  exact hctrl

theorem runTick_flash (s : State) : (runTick s).flash = s.flash := by
  have hctrl : ((ctrlPorts s).foldl ctrlTick s).flash = s.flash :=
    flash_of_outside (P := fun p => decide (p = .book)) (by simp) rfl
  rw [flash_of_outside (outside_runTick (fun p => decide (p = .book)) rfl s) rfl]
  exact hctrl

theorem doTick_flash (s : State) : (doTick s).flash = s.flash := by
  unfold doTick
  extract_lets s1
  split
  · exact runTick_flash s1
  · rfl

/-- Settles O2: a tick advances the timebase and nothing after that touches it (R24). -/
theorem emptyQueueTicks : Obligations.EmptyQueueTicks := by
  unfold Obligations.EmptyQueueTicks
  intro s hempty
  refine ⟨doTick s, by rw [step, hempty], ?_⟩
  unfold doTick
  extract_lets s1
  split
  · next hrun =>
    have hrun : s.time.running = true := hrun
    refine ⟨(runTick_pending s1).trans hempty, fun _ => ?_, fun hstand => ?_⟩
    · rw [runTick_time]
      exact ⟨rfl, rfl⟩
    · rw [hrun] at hstand
      cases hstand
  · next hstand => exact ⟨hempty, fun hrun => absurd hrun hstand, fun _ => ⟨rfl, rfl⟩⟩

/-! ## The canonical form of the flash (O57)

Every write of the flash goes through `writeBytes` or `eraseRange`, which keep the canonical form. -/

/-- Every part but the flash. -/
def allButFlash (p : Part) : Bool := decide (p ≠ .flash)

theorem allowsRest_allButFlash : AllowsRest allButFlash := fun _ _ hf => decide_eq_true hf

theorem inv_of_flash {s t : State} (h : t.flash = s.flash) (hs : Inv s) : Inv t := by
  unfold Inv
  rwa [h]

theorem inv_of_outside {s t : State} (h : outside allButFlash t = outside allButFlash s) (hs : Inv s) : Inv t :=
  inv_of_flash (flash_of_outside h rfl) hs

theorem inv_foldl {α : Type} {f : State → α → State} (hf : ∀ s x, Inv s → Inv (f s x)) (xs : List α) {s : State}
    (hs : Inv s) : Inv (xs.foldl f s) := List.foldlRecOn xs f hs fun s hs x _ => hf s x hs

section
variable {s : State} (hs : Inv s)
include hs

theorem inv_eraseBookSector (k : Nat) : Inv (eraseBookSector s k) := Memory.wf_eraseRange _ _ _ hs

theorem inv_eraseSector (k : Nat) : Inv (eraseSector s k) := Memory.wf_eraseRange _ _ _ hs

theorem inv_programPages (a : Nat) (bs : List Byte) : Inv (programPages s a bs) := Memory.wf_writeBytes _ _ _ hs

theorem inv_programRecord (seq : Nat) : Inv (programRecord s seq) := by
  unfold programRecord
  extract_lets slot r s1 s2 s3 s4
  have h1 : Inv s1 := Memory.wf_writeBytes _ _ _ hs
  have h4 : Inv s4 := by
    refine inv_of_outside ?_ h1
    have h3 : outside allButFlash s3 = outside allButFlash s2 := by simp only [s3]; split <;> simp
    simp [s4, h3, s2, allowsRest_allButFlash.has]
  split
  · exact inv_of_outside (outside_raiseTo ..) (inv_eraseBookSector h4 _)
  · exact h4

theorem inv_persistAll : Inv (persistAll s) := by
  unfold persistAll
  extract_lets next oldest first empty s1 s2 s3
  have h1 : Inv s1 := inv_foldl (fun _ _ hu => inv_programRecord hu _) _ hs
  split
  · exact h1
  · exact inv_of_outside (by simp [s3, s2, allowsRest_allButFlash.has]) h1

theorem inv_doPersist : Inv (doPersist s) := by
  unfold doPersist
  extract_lets s1
  have h1 : Inv s1 := inv_persistAll hs
  split
  · exact hs
  split
  · exact h1
  · exact inv_eraseBookSector h1 _

theorem inv_doStudbookClear (key : Nat) : Inv (doStudbookClear key s) := by
  unfold doStudbookClear
  extract_lets c s1 s2 s3
  have h1 : Inv s1 := inv_of_outside (by simp [s1, allowsRest_allButFlash.has]) hs
  have h2 : Inv s2 := inv_persistAll h1
  split
  · exact hs
  · exact inv_of_outside (by simp [s3, allowsRest_allButFlash.has]) h2

theorem inv_resumeErases : Inv (resumeErases s) := by
  unfold resumeErases
  extract_lets ks s1
  exact inv_foldl (fun u k hu => inv_of_outside (outside_raise ..) (inv_eraseBookSector hu k)) _ hs

theorem inv_doGroomStart : Inv (doGroomStart s) := by
  unfold doGroomStart
  extract_lets cold s1 s2 s3 s4
  have h3 : Inv s3 := inv_of_outside (by simp [s3, s2, s1, allowsRest_allButFlash.has]) hs
  have h4 : Inv s4 := inv_resumeErases h3
  split
  · exact hs
  split
  · exact h4
  split
  · exact inv_of_outside (outside_solidReset _ _ _ allowsRest_allButFlash) h4
  split
  · exact inv_of_outside ((outside_islandsOff ..).trans (outside_solidReset _ _ _ allowsRest_allButFlash)) h4
  · exact h4

theorem inv_bulkWriteBody (role : Nat) (initial stub flashFails : Bool) (items : Nat) (body : List Byte) :
    Inv (bulkWriteBody role initial stub flashFails items body s).1 := by
  unfold bulkWriteBody
  extract_lets st
  split
  · exact hs
  split
  · exact hs
  extract_lets a same s1 s2
  have h1 : Inv s1 := inv_of_outside (by simp [s1]) hs
  have h2 : Inv s2 := by
    simp only [s2]
    split
    · exact inv_eraseSector h1 _
    · exact h1
  (repeat' split)
  · exact hs
  · exact hs
  · exact h1
  · exact inv_programPages h2 _ _

theorem inv_writeEffect {key v : Nat} {a : Addr} {f : State → State} (h : writeEffect key a v = some f) :
    Inv (f s) := by
  by_cases hclear : a.obj = 0x1003 ∧ a.el = 6
  · obtain ⟨hobj, hel⟩ := hclear
    simp only [writeEffect, hobj, hel, Option.some.injEq] at h
    subst h
    dsimp only
    split
    · exact inv_doStudbookClear hs key
    · exact hs
  · exact inv_of_outside (outside_writeEffect allowsRest_allButFlash (fun ho he => absurd ⟨ho, he⟩ hclear) h s) hs

theorem inv_applyWrites (key : Nat) (ws : List Write) : Inv (applyWrites key ws s) := by
  unfold applyWrites
  extract_lets plain s1 s2
  have h1 : Inv s1 := inv_foldl (fun u w hu =>
    inv_of_outside (outside_storeWrite _ u w (allowsRest_allButFlash.has (by decide) (by decide))) hu) _ hs
  have h2 : Inv s2 := inv_of_outside (by simp [s2]) h1
  refine inv_foldl (fun u w hu => ?_) _ h2
  split
  · next hw => exact inv_writeEffect hu hw
  · exact hu

theorem inv_doRegisterWrite (a : Addr) (v : Nat) : Inv (doRegisterWrite a v s) := by
  unfold doRegisterWrite
  extract_lets ws st
  split
  · exact hs
  split
  · exact inv_of_outside (by simp) hs
  · exact inv_of_outside (outside_afterResponse allowsRest_allButFlash _ _) (inv_applyWrites hs _ _)

theorem inv_runMessage (flashFails : Bool) (r : Request) (bs : List Byte) :
    Inv (runMessage flashFails r bs s).1 := by
  unfold runMessage
  extract_lets k role ten initial body x y
  split
  · exact inv_bulkWriteBody hs _ _ _ _ _ _
  split
  · exact inv_of_outside (by simp [y]) hs
  split
  · exact hs
  split
  · exact hs
  split
  · exact inv_of_outside (outside_getItems ..) hs
  split
  · exact inv_of_outside (outside_getRange ..) hs
  · dsimp only
    split
    · exact inv_of_outside (by simp) hs
    · exact inv_applyWrites hs _ _

theorem inv_executeNew (flashFails : Bool) (secret bs : List Byte) (r : Request) :
    Inv (executeNew flashFails secret bs r s) := by
  unfold executeNew
  extract_lets k c s1 inb head x s2
  have h1 : Inv s1 := inv_of_outside (by simp [s1]) hs
  have h2 : Inv s2 := inv_of_outside (outside_wr ..) (inv_runMessage h1 _ _ _)
  split
  · exact h1
  split
  · exact inv_of_outside (by simp [allowsRest_allButFlash.has]) h1
  split
  · exact inv_of_outside (by simp [allowsRest_allButFlash.has]) h1
  · refine inv_of_outside ((outside_afterResponse allowsRest_allButFlash _ _).trans ?_) h2
    simp [allowsRest_allButFlash.has]

theorem inv_executeMessage (flashFails : Bool) (r : Request) : Inv (executeMessage flashFails r s) := by
  unfold executeMessage
  extract_lets bs k secret floor s1
  have h1 : Inv s1 := hs
  split
  · exact inv_of_outside (by simp) hs
  split
  · exact inv_of_outside (by simp) hs
  split
  · exact inv_of_outside (by simp [allowsRest_allButFlash.has]) hs
  split
  · exact inv_of_outside (by simp [allowsRest_allButFlash.has]) h1
  · exact inv_executeNew h1 _ _ _ _

theorem inv_executeFront (op : Nat) (flashFails : Bool) : Inv (executeFront op flashFails s) := by
  unfold executeFront
  split
  · exact hs
  · next r rest hreq =>
    dsimp only
    split
    · exact hs
    · refine inv_executeMessage ?_ flashFails r
      exact hs

end

theorem mayWriteFlash_cases {c : Instr} (h : mayWriteFlash c = true) :
    (∃ b, c = .bulkWrite b) ∨ c = .persistProgram ∨ (∃ k, c = .studbookClear k) ∨ c = .groomStart ∨ c = .setMsg ∨
      ∃ o i e v, c = .registerWrite o i e v := by
  cases c
  case bulkWrite => exact .inl ⟨_, rfl⟩
  case persistProgram => exact .inr (.inl rfl)
  case studbookClear => exact .inr (.inr (.inl ⟨_, rfl⟩))
  case groomStart => exact .inr (.inr (.inr (.inl rfl)))
  case setMsg => exact .inr (.inr (.inr (.inr (.inl rfl))))
  case registerWrite => exact .inr (.inr (.inr (.inr (.inr ⟨_, _, _, _, rfl⟩))))
  all_goals exact absurd h Bool.false_ne_true

/-- Every command keeps the canonical form: most never reach the flash, the others write it by operations that keep
it. -/
theorem inv_exec {c : Instr} {s t : State} (hs : Inv s) (h : exec c s = .next t) : Inv t := by
  cases hc : mayWriteFlash c
  case false =>
    have hflash : t.flash = s.flash := flash_of_outside (outside_of_exec h) hc
    exact inv_of_flash hflash hs
  case true =>
    have hend : ∀ {u : State}, Inv u → Inv (concluded s u) := fun hu => inv_of_outside (outside_concluded ..) hu
    rcases mayWriteFlash_cases hc with ⟨b, rfl⟩ | rfl | ⟨k, rfl⟩ | rfl | rfl | ⟨o, i, e, v, rfl⟩ <;>
      obtain rfl := Host.Outcome.next.inj h
    · exact inv_executeFront hs _ _
    · exact inv_doPersist hs
    · unfold written
      split
      · exact inv_doStudbookClear hs _
      · exact hs
    · exact inv_doGroomStart hs
    · exact hend (inv_executeFront hs _ _)
    · exact hend (inv_doRegisterWrite hs _ _)

/-- Settles O57: a command runs by `inv_exec`, and a tick leaves the flash alone. -/
theorem invariantKeptByEveryStep : Obligations.InvariantKeptByEveryStep := by
  unfold Obligations.InvariantKeptByEveryStep
  intro s t hs hstep
  unfold step at hstep
  split at hstep
  · obtain rfl := Host.Outcome.next.inj hstep
    exact inv_of_flash (doTick_flash s) hs
  · next c rest hpending =>
    have hrest : Inv { s with pending := rest } := hs
    exact inv_exec hrest hstep

end Sys2Proof.Machine

/-! # The step and the reset state (O1, O55, O56) -/

namespace Sys2Proof.Machine

/-- Settles O1: the front command runs on the queue's rest. -/
theorem stepRunsTheFrontCommand : Obligations.StepRunsTheFrontCommand := by
  unfold Obligations.StepRunsTheFrontCommand
  intro c rest s
  rfl

/-- Nothing is listed after reset, so every element reads its default. -/
theorem rd_reset (a : Addr) : rd State.reset a = regDefault a := rfl

theorem shadowRd_reset (a : Addr) : shadowRd State.reset a = regDefault a := rfl

/-- Settles O55: both stores of elements are empty, and every other field has its initial value. -/
theorem resetState : Obligations.ResetState := by
  unfold Obligations.ResetState
  refine ⟨rd_reset, shadowRd_reset, rfl, rfl, rfl, rfl, rfl, rfl, rfl, rfl, rfl, rfl, rfl, ?_, ?_,
    fun p => ?_, fun t => ?_⟩ <;>
    rw [rd_reset] <;> simp only [regDefault]

/-- Settles O56: the empty flash is in canonical form. -/
theorem invariantAtReset : Obligations.InvariantAtReset := by
  unfold Obligations.InvariantAtReset Inv
  rfl

end Sys2Proof.Machine

/-! # A command's end (O60) -/

namespace Sys2Proof.Machine

/-- No frame stands as a delivered TRACE. -/
def noTraces (s : State) : Prop := ∀ e ∈ s.frames, ¬ (e.2.place = .localTo ∧ hdrKind e.2.hdr = KindCode.TRACE)

theorem routeTraces_eq_self {s : State} (h : noTraces s) : routeTraces s = s := by
  have hnone : framesWhere s (fun f => decide (f.place = .localTo) && decide (hdrKind f.hdr = KindCode.TRACE) &&
      decide (f.blocks ≠ [])) = [] := by
    rw [framesWhere, List.map_eq_nil_iff, List.filter_eq_nil_iff]
    intro e he
    simpa using fun hl hk => absurd ⟨hl, hk⟩ (h e he)
  rw [routeTraces, hnone]
  rfl

theorem triggerSwap_eq_self {s : State}
    (h : rd s Reg.SWAP_STATE ≠ 2 ∨ s.sets.target ≠ 0 ∨ s.sets.trigger = 0xFFFF) :
    triggerSwap s = s := by
  refine if_neg ?_
  rintro ⟨hstate, htarget, hgroup, -⟩
  rcases h with h | h | h
  · exact h hstate
  · exact h htarget
  · omega

theorem mirrorChanges_eq_self {s t : State} (h : twinState t ≠ TwinState.PAIRED) : mirrorChanges s t = t := if_pos h

theorem concluded_eq_mirrorChanges {s t : State} (hf : noTraces t)
    (hs : rd t Reg.SWAP_STATE ≠ 2 ∨ t.sets.target ≠ 0 ∨ t.sets.trigger = 0xFFFF) :
    concluded s t = mirrorChanges s t := by
  rw [concluded, routeTraces_eq_self hf, triggerSwap_eq_self hs]

theorem sendTwin_eq (s : State) (ms : List TwinMessage) :
    sendTwin s ms = { s with outputs := s.outputs ++ ms.map (fun m => .twin m) } := by
  induction ms generalizing s with
  | nil => simp [sendTwin]
  | cons m ms ih =>
    change sendTwin (emit s (.twin m)) ms = _
    rw [ih]
    simp [emit]

/-- Settles O60: without a delivered TRACE and a swap to trigger, a command's end is the mirroring of what changed. -/
theorem concludedIsIdle : Obligations.ConcludedIsIdle := by
  unfold Obligations.ConcludedIsIdle
  refine ⟨fun s t hquiet => ?_, fun s t hf hs => ?_⟩
  · obtain ⟨hf, hs, htwin⟩ := hquiet
    rw [concluded_eq_mirrorChanges hf (hs.imp_right .inr), mirrorChanges_eq_self htwin]
  · rw [concluded_eq_mirrorChanges hf hs]
    by_cases htwin : twinState t = TwinState.PAIRED
    · rw [mirrorChanges, if_neg (not_not.mpr htwin)]
      split
      · exact .inl rfl
      · next => exact .inr ⟨htwin, changes s t, by rw [sendTwin_eq]⟩
    · exact .inl (mirrorChanges_eq_self htwin)

end Sys2Proof.Machine

/-! # Slow pace windows, realignments and references (O3) -/

namespace Sys2Proof.Machine

/-- A command that ends with `finish` answers with its effect, concluded. -/
theorem finish_eq {s t u : State} (h : t = u) : finish s t = .next (concluded s u) := h ▸ rfl

theorem next_eq {t u : State} (h : t = u) : (.next t : Answer) = .next u := h ▸ rfl

/-! ## Pace windows -/

/-- An island of a harness pair, or one that does not become DEGRADED, ends its window with the window's own work. -/
theorem doPaceEnd_eq_doPaceWindow {i hsr : Nat} {s : State}
    (h : i % 8 < 2 ∨ rd (doPaceWindow i hsr s) (Reg.ISLAND_STATE i) ≠ 2 ∨ rd s (Reg.ISLAND_STATE i) = 2) :
    doPaceEnd i hsr s = doPaceWindow i hsr s := by
  unfold doPaceEnd
  extract_lets t f e
  split
  · rfl
  · rw [if_pos]
    tauto

/-- What a window's end keeps of the reading: the reading itself and the least one. -/
def paceKept (i hsr : Nat) (s : State) : State :=
  let s := wr s (Reg.ISLAND_HSR i) hsr
  if hsr < rd s (Reg.ISLAND_HSR_LOW i) then wr s (Reg.ISLAND_HSR_LOW i) hsr else s

theorem rd_paceKept (i hsr : Nat) (s : State) (a : Addr) :
    rd (paceKept i hsr s) a = if a = Reg.ISLAND_HSR_LOW i then min (rd s (Reg.ISLAND_HSR_LOW i)) hsr
      else if a = Reg.ISLAND_HSR i then hsr else rd s a := by
  have hlow : rd (wr s (Reg.ISLAND_HSR i) hsr) (Reg.ISLAND_HSR_LOW i) = rd s (Reg.ISLAND_HSR_LOW i) := by
    simp [rd_wr]
  simp only [paceKept, hlow]
  by_cases ha : a = Reg.ISLAND_HSR_LOW i
  · subst ha; split <;> simp [rd_wr] <;> omega
  · split <;> simp [rd_wr, ha]

@[simp] theorem paceKept_raised (i hsr : Nat) (s : State) : (paceKept i hsr s).raised = s.raised := by
  unfold paceKept; extract_lets u; split <;> rfl

/-- A window at 700 mV or more judges its reading on the state that keeps it. -/
theorem doPaceWindow_eq {i hsr : Nat} {s : State} (hv : 700 ≤ rd s (Reg.ISLAND_VCORE i)) :
    doPaceWindow i hsr s =
      if 1400 ≤ hsr then paceKept i hsr s
      else if 850 ≤ rd s (Reg.ISLAND_VCORE i) ∧ 850 ≤ rd s (Reg.ISLAND_VFLOOR i) then
        if rd s (Reg.ISLAND_STATE i) = 2 then paceKept i hsr s
        else vetRequest (raise (wr (paceKept i hsr s) (Reg.ISLAND_STATE i) 2) Code.ISLAND_DEGRADED (i / 8) [])
          (islandUnit i) 1 0
      else
        let floor := max (rd s (Reg.ISLAND_VFLOOR i)) (min 850 (rd s (Reg.ISLAND_VCORE i) + 10))
        wr (wr (if rd s (Reg.ISLAND_STATE i) = 0 then
            raise (wr (paceKept i hsr s) (Reg.ISLAND_STATE i) 1) Code.HSR_LOW (i / 8) [] else paceKept i hsr s)
          (Reg.ISLAND_VFLOOR i) floor) (Reg.ISLAND_VCORE i) (max (rd s (Reg.ISLAND_VCORE i)) floor) := by
  have hkept : paceKept i hsr s = if hsr < rd (wr s (Reg.ISLAND_HSR i) hsr) (Reg.ISLAND_HSR_LOW i) then
      wr (wr s (Reg.ISLAND_HSR i) hsr) (Reg.ISLAND_HSR_LOW i) hsr else wr s (Reg.ISLAND_HSR i) hsr := rfl
  have hvcore : rd (wr s (Reg.ISLAND_HSR i) hsr) (Reg.ISLAND_VCORE i) = rd s (Reg.ISLAND_VCORE i) := by simp [rd_wr]
  rw [doPaceWindow, hvcore, if_neg (Nat.not_lt.mpr hv), ← hkept]
  simp [rd_paceKept]

theorem vetRequest_requested (s : State) (unit prio trig : Nat) :
    (Tab.find (vetRequest s unit prio trig).vets.requests unit).isSome = true := by
  simp [vetRequest, Tab.find_set]

theorem rd_vetRequest (s : State) (unit prio trig : Nat) (a : Addr) :
    rd (vetRequest s unit prio trig) a =
      if a = Reg.VET_STATE unit ∧ rd s (Reg.VET_STATE unit) = 0 then 1 else rd s a := by
  change rd (if rd s (Reg.VET_STATE unit) = 0 then wr s (Reg.VET_STATE unit) 1 else s) a = _
  by_cases hidle : rd s (Reg.VET_STATE unit) = 0 <;> simp [hidle, rd_wr]

@[simp] theorem vetRequest_raised (s : State) (unit prio trig : Nat) :
    (vetRequest s unit prio trig).raised = s.raised := by
  change (if rd s (Reg.VET_STATE unit) = 0 then wr s (Reg.VET_STATE unit) 1 else s).raised = _
  split <;> rfl

/-! ## Realignment -/

theorem le_foldl_max (l : List Nat) (m : Nat) : m ≤ l.foldl max m ∧ ∀ x ∈ l, x ≤ l.foldl max m := by
  induction l generalizing m with
  | nil => simp
  | cons y ys ih =>
    obtain ⟨hm, hys⟩ := ih (max m y)
    simp only [List.foldl_cons, List.mem_cons]
    refine ⟨by omega, fun x hx => ?_⟩
    rcases hx with rfl | hx
    · omega
    · exact hys x hx

theorem rd_raiseTo (s : State) (a : Addr) (v : Nat) (b : Addr) :
    rd (raiseTo s a v) b = if b = a then max (rd s a) v else rd s b := by
  unfold raiseTo
  split
  · rw [rd_wr]; split
    · omega
    · rfl
  · split
    · next h => subst h; omega
    · rfl

@[simp] theorem raiseTo_time (s : State) (a : Addr) (v : Nat) : (raiseTo s a v).time = s.time := by
  unfold raiseTo; split <;> rfl

@[simp] theorem raiseTo_raised (s : State) (a : Addr) (v : Nat) : (raiseTo s a v).raised = s.raised := by
  unfold raiseTo; split <;> rfl

/-- The timebase with the groom's counter and the facets' counters set. -/
def setCounters (s : State) (groom : Nat) (facets : List Nat) : State :=
  { s with time := { s.time with groom := groom, facets := facets } }

@[simp] theorem rd_setCounters (s : State) (g : Nat) (l : List Nat) (a : Addr) :
    rd (setCounters s g l) a = rd s a := rfl

@[simp] theorem setCounters_raised (s : State) (g : Nat) (l : List Nat) : (setCounters s g l).raised = s.raised := rfl

@[simp] theorem setCounters_groom (s : State) (g : Nat) (l : List Nat) : (setCounters s g l).time.groom = g := rfl

@[simp] theorem setCounters_facets (s : State) (g : Nat) (l : List Nat) : (setCounters s g l).time.facets = l := rfl

/-- R25 for counters found: those no more than 2 apart stand, and others all come forward to the highest. -/
def realigned (found : List Nat) (groom : Nat) (s : State) : State :=
  let hi := found.foldl max groom
  let lo := found.foldl min groom
  let u := raiseTo s Reg.TIMEBASE_SKEW_MAX (min 255 (hi - lo))
  if 2 < hi - lo then raise (setCounters u hi (found.map (fun _ => hi))) Code.TIMEBASE_SKEW 0xFF []
  else setCounters u groom found

theorem doRealign_eq (counters : List Nat) (s : State) :
    doRealign counters s = realigned ((List.range 8).map (fun f => max (s.time.facets.getD f 0) (counters.getD f 0)))
      (max s.time.groom (counters.getD 8 0)) s := rfl

theorem realigned_raises {found : List Nat} {groom : Nat} {s : State}
    (h : 2 < found.foldl max groom - found.foldl min groom) :
    realigned found groom s = raise (setCounters
      (raiseTo s Reg.TIMEBASE_SKEW_MAX (min 255 (found.foldl max groom - found.foldl min groom)))
      (found.foldl max groom) (found.map (fun _ => found.foldl max groom))) Code.TIMEBASE_SKEW 0xFF [] := if_pos h

theorem realigned_keeps {found : List Nat} {groom : Nat} {s : State}
    (h : ¬ 2 < found.foldl max groom - found.foldl min groom) :
    realigned found groom s = setCounters
      (raiseTo s Reg.TIMEBASE_SKEW_MAX (min 255 (found.foldl max groom - found.foldl min groom))) groom found :=
  if_neg h

/-- What a realignment does, for whatever counters it finds at or above the present ones. -/
theorem realigned_spec {found : List Nat} {groom : Nat} {s : State} (hown : s.time.groom ≤ groom)
    (hlen : found.length = 8) (hfacet : ∀ f, f < 8 → s.time.facets.getD f 0 ≤ found.getD f 0) :
    let hi := found.foldl max groom
    let lo := found.foldl min groom
    let t := realigned found groom s
    rd t Reg.TIMEBASE_SKEW_MAX = max (rd s Reg.TIMEBASE_SKEW_MAX) (min 255 (hi - lo)) ∧
      s.time.groom ≤ t.time.groom ∧ (∀ f, f < 8 → s.time.facets.getD f 0 ≤ t.time.facets.getD f 0) ∧
      (hi - lo ≤ 2 → t.time.groom = groom ∧ t.time.facets = found ∧ t.raised = s.raised) ∧
      (2 < hi - lo → t.time.groom = hi ∧ t.time.facets = found.map (fun _ => hi) ∧
        t.raised = s.raised ++ [⟨Code.TIMEBASE_SKEW, 0xFF, recordData []⟩]) ∧
      ∀ a, a ≠ Reg.TIMEBASE_SKEW_MAX → rd t a = rd s a := by
  intro hi lo t
  obtain ⟨hgroom, hfound⟩ := le_foldl_max found groom
  have hto (f : Nat) (hf : f < 8) : found.getD f 0 ≤ hi := by
    rw [List.getD_eq_getElem _ _ (by omega)]
    exact hfound _ (List.getElem_mem _)
  by_cases hbig : 2 < hi - lo
  · have ht : t = _ := realigned_raises hbig
    clear_value t; subst ht
    refine ⟨by simp [rd_raiseTo, hi, lo], by simpa using hown.trans hgroom, fun f hf => ?_,
      fun h => absurd hbig (by omega), fun _ => by simp [hi], fun a ha => by simp [rd_raiseTo, ha]⟩
    have hall : (found.map (fun _ => hi)).getD f 0 = hi := by
      rw [List.getD_eq_getElem _ _ (by simp [hlen, hf]), List.getElem_map]
    exact (hfacet f hf).trans ((hto f hf).trans hall.ge)
  · have ht : t = _ := realigned_keeps hbig
    clear_value t; subst ht
    exact ⟨by simp [rd_raiseTo, hi, lo], by simpa using hown, fun f hf => by simpa using hfacet f hf,
      fun _ => by simp, fun h => absurd h hbig, fun a ha => by simp [rd_raiseTo, ha]⟩

/-! ## References -/

/-- The first present reference from `n` on, of those in the mask `m` (R26). -/
def refFrom (n m : Nat) : Option Nat :=
  ([n, n + 1, n + 2, n + 3].map (fun x => x % 4)).find? (fun x => m.testBit x)

theorem pickRef_eq (s : State) :
    pickRef s = (refFrom (rd s Reg.TIMEBASE_REF_PRIMARY) (rd s Reg.TIMEBASE_REF_PRESENT)).getD 0xFF := by
  simp only [pickRef, refFrom]
  split
  · next h => rw [h, Option.getD_some]
  · next h => rw [h, Option.getD_none]

/-- Once reference `r` is gone, the first present one after it is `k` places on. -/
theorem refFrom_of_lost : ∀ (r : Fin 4) (m : Fin 16) (k : Fin 4), 1 ≤ k.val → m.val.testBit r = true →
    m.val.testBit ((r + k.val) % 4) = true →
    (∀ j : Fin 4, 1 ≤ j.val → j < k → m.val.testBit ((r + j.val) % 4) = false) →
    refFrom r (m - 2 ^ r.val) = some ((r + k.val) % 4) := by
  decide

theorem refFrom_isSome {n m r : Nat} (hr : r < 4) (hm : m.testBit r = true) :
    ∃ x, refFrom n m = some x ∧ x < 4 := by
  have hsome : (refFrom n m).isSome = true := by
    rw [refFrom, List.find?_isSome]
    refine ⟨r, ?_, hm⟩
    simp only [List.map_cons, List.map_nil, List.mem_cons, List.not_mem_nil, or_false]
    omega
  obtain ⟨x, hx⟩ := Option.isSome_iff_exists.mp hsome
  have hmem := List.mem_of_find?_eq_some hx
  obtain ⟨y, -, rfl⟩ := List.mem_map.mp hmem
  exact ⟨_, hx, Nat.mod_lt _ (by decide)⟩

/-- The reference in use is lost and another is picked: the source moves to it (R26). -/
theorem doRefLoss_moves {r k : Nat} {s : State}
    (hactive : rd s Reg.TIMEBASE_REF_ACTIVE = r) (hpresent : (rd s Reg.TIMEBASE_REF_PRESENT).testBit r = true)
    (hpick : pickRef (wr s Reg.TIMEBASE_REF_PRESENT (rd s Reg.TIMEBASE_REF_PRESENT - 2 ^ r)) = k)
    (hk : k < 4) (hkr : k ≠ r) :
    doRefLoss r s = raise (wr (wr s Reg.TIMEBASE_REF_PRESENT (rd s Reg.TIMEBASE_REF_PRESENT - 2 ^ r))
      Reg.TIMEBASE_REF_ACTIVE k) Code.REF_CHANGE 0xFF [] := by
  have hk255 : k ≠ 0xFF := by omega
  simp [doRefLoss, hpresent, hactive, hpick, rd_wr, useRef, hkr.symm, hk255]

theorem doRefReappear_of_active {r : Nat} {s : State} (hactive : rd s Reg.TIMEBASE_REF_ACTIVE ≠ 0xFF) :
    doRefReappear r s = wr s Reg.TIMEBASE_REF_PRESENT (rd s Reg.TIMEBASE_REF_PRESENT ||| 2 ^ r) := by
  simp [doRefReappear, rd_wr, hactive]

theorem doRefReappear_of_none {r : Nat} (hr : r < 4) {s : State} (hactive : rd s Reg.TIMEBASE_REF_ACTIVE = 0xFF) :
    let u := wr s Reg.TIMEBASE_REF_PRESENT (rd s Reg.TIMEBASE_REF_PRESENT ||| 2 ^ r)
    doRefReappear r s = raise (wr u Reg.TIMEBASE_REF_ACTIVE (pickRef u)) Code.REF_CHANGE 0xFF [] := by
  intro u
  have hu : rd u Reg.TIMEBASE_REF_ACTIVE = 0xFF := by simp [u, rd_wr, hactive]
  have hpick : 0xFF ≠ pickRef u := by
    have hbit : (rd u Reg.TIMEBASE_REF_PRESENT).testBit r = true := by simp [u]
    obtain ⟨x, hx, hlt⟩ := refFrom_isSome (n := rd u Reg.TIMEBASE_REF_PRIMARY) hr hbit
    rw [pickRef_eq, hx, Option.getD_some]
    omega
  change (if rd u Reg.TIMEBASE_REF_ACTIVE = 0xFF then useRef u (pickRef u) else u) = _
  rw [if_pos hu, useRef, hu, if_neg hpick]

theorem doRefPrimary_of_present {v : Nat} {s : State} (hv : v ≤ 3)
    (hpresent : (rd s Reg.TIMEBASE_REF_PRESENT).testBit v = true) (hactive : rd s Reg.TIMEBASE_REF_ACTIVE ≠ v) :
    doRefPrimary v s =
      raise (wr (wr s Reg.TIMEBASE_REF_PRIMARY v) Reg.TIMEBASE_REF_ACTIVE v) Code.REF_CHANGE 0xFF [] := by
  simp [doRefPrimary, Nat.not_lt.mpr hv, rd_wr, hpresent, useRef, hactive]

/-- A management write has its effect while the groom is up. -/
theorem written_of_up {s : State} (h : s.groom.up = true) (f : State → State) : written s f = f s := if_pos h

/-! ## The obligation -/

theorem doPaceWindow_degrades {i hsr : Nat} {s : State} (hv : 850 ≤ rd s (Reg.ISLAND_VCORE i))
    (hfloor : 850 ≤ rd s (Reg.ISLAND_VFLOOR i)) (hhsr : hsr < 1400) (hst : rd s (Reg.ISLAND_STATE i) ≠ 2) :
    doPaceWindow i hsr s = vetRequest (raise (wr (paceKept i hsr s) (Reg.ISLAND_STATE i) 2)
      Code.ISLAND_DEGRADED (i / 8) []) (islandUnit i) 1 0 := by
  rw [doPaceWindow_eq (by omega), if_neg (by omega), if_pos ⟨hv, hfloor⟩, if_neg hst]

theorem doPaceWindow_raises {i hsr : Nat} {s : State} (hv : 700 ≤ rd s (Reg.ISLAND_VCORE i))
    (hlow : rd s (Reg.ISLAND_VCORE i) < 850 ∨ rd s (Reg.ISLAND_VFLOOR i) < 850) (hhsr : hsr < 1400) :
    let floor := max (rd s (Reg.ISLAND_VFLOOR i)) (min 850 (rd s (Reg.ISLAND_VCORE i) + 10))
    doPaceWindow i hsr s = wr (wr (if rd s (Reg.ISLAND_STATE i) = 0 then
        raise (wr (paceKept i hsr s) (Reg.ISLAND_STATE i) 1) Code.HSR_LOW (i / 8) [] else paceKept i hsr s)
      (Reg.ISLAND_VFLOOR i) floor) (Reg.ISLAND_VCORE i) (max (rd s (Reg.ISLAND_VCORE i)) floor) := by
  intro floor
  rw [doPaceWindow_eq hv, if_neg (by omega), if_neg (by omega)]

/-- Settles O3: the windows by `doPaceWindow_eq`, the realignment by `doRealign_eq`, and the references one by one. -/
theorem timebaseAndPace : Obligations.TimebaseAndPace := by
  unfold Obligations.TimebaseAndPace
  refine ⟨⟨?fast, ?slow, ?degraded⟩, ?realign, ?lost, ?back, ?backNone, ?primary⟩
  case fast =>
    intro i hsr s hv hhsr
    have hw := doPaceWindow_eq (hsr := hsr.toNat) hv
    rw [if_pos hhsr] at hw
    have hend : doPaceEnd i hsr.toNat s = paceKept i hsr.toNat s := by
      rw [doPaceEnd_eq_doPaceWindow, hw]
      rw [hw, rd_paceKept]
      simp
      tauto
    refine ⟨paceKept i hsr.toNat s, finish_eq hend, ?_, ?_, ?_, ?_⟩
    · simp [rd_paceKept]
    · simp [rd_paceKept]
    · simp
    · intro a hhsr hlow
      rw [rd_paceKept, if_neg hlow, if_neg hhsr]
  case slow =>
    intro i hsr s hv hlow hhsr hst
    have hw := doPaceWindow_raises hv hlow hhsr
    set floor := max (rd s (Reg.ISLAND_VFLOOR i)) (min 850 (rd s (Reg.ISLAND_VCORE i) + 10))
    have hstate : rd (doPaceWindow i hsr.toNat s) (Reg.ISLAND_STATE i) = 1 := by
      rw [hw]
      split
      · simp [rd_wr]
      · simp [rd_wr, rd_paceKept]; omega
    refine ⟨doPaceWindow i hsr.toNat s,
      finish_eq (doPaceEnd_eq_doPaceWindow (.inr (.inl (by omega)))),
      ?_, ?_, hstate, ?_⟩
    · simp [hw, rd_wr]
    · simp [hw, rd_wr]
    · rw [hw]; simp only [wr_raised]; split <;> simp
  case degraded =>
    intro i hsr s hi hv hfloor hhsr hst
    have hw := doPaceWindow_degrades hv hfloor hhsr hst
    refine ⟨_, finish_eq ((doPaceEnd_eq_doPaceWindow (.inl hi)).trans hw),
      ?_, ?_, ?_, vetRequest_requested ..⟩
    · simp [rd_vetRequest]
    · simp
    · rw [rd_vetRequest]; split
      · decide
      · simp_all
  case realign =>
    intro counters s found groom hi lo
    have hspec := realigned_spec (s := s) (found := found) (groom := groom) (le_max_left ..) (by simp [found])
      (fun f hf => by simp [found, hf])
    exact ⟨realigned found groom s, next_eq (doRealign_eq counters s), hspec⟩
  case lost =>
    intro r k s hprimary hactive hpresent hm hk1 hk3 hbit hbefore
    have hpick : pickRef (wr s Reg.TIMEBASE_REF_PRESENT (rd s Reg.TIMEBASE_REF_PRESENT - 2 ^ r.val)) = (r + k) % 4 := by
      rw [pickRef_eq, rd_wr_self, rd_wr_ne _ _ (by decide), hprimary,
        refFrom_of_lost r ⟨_, hm⟩ ⟨k, by omega⟩ hk1 hpresent hbit (fun j h1 hj => hbefore j h1 hj),
        Option.getD_some]
    exact finish_eq
      (doRefLoss_moves hactive hpresent hpick (by omega) (by omega))
  case back => exact fun r s hactive => next_eq (doRefReappear_of_active hactive)
  case backNone => exact fun r s hactive => next_eq (doRefReappear_of_none r.isLt hactive)
  case primary =>
    intro v s hup hv hpresent hactive
    exact finish_eq
      ((written_of_up hup _).trans (doRefPrimary_of_present hv hpresent hactive))

end Sys2Proof.Machine

/-! # Transfers across the lattice (O4) -/

namespace Sys2Proof.Machine

/-! ## What counting writes -/

/-- `t` is `s` but for its elements. -/
def RegsOnly (s t : State) : Prop := ∃ r, t = { s with regs := r }

theorem RegsOnly.refl (s : State) : RegsOnly s s := ⟨s.regs, rfl⟩

theorem RegsOnly.trans {s t u : State} (h : RegsOnly s t) (g : RegsOnly t u) : RegsOnly s u := by
  obtain ⟨r, rfl⟩ := h
  obtain ⟨r', rfl⟩ := g
  exact ⟨r', rfl⟩

theorem RegsOnly.wr (s : State) (a : Addr) (v : Nat) : RegsOnly s (wr s a v) := ⟨_, rfl⟩

theorem RegsOnly.foldl {α : Type} {f : State → α → State} (hf : ∀ s x, RegsOnly s (f s x))
    (l : List α) (s : State) :
    RegsOnly s (l.foldl f s) := by
  induction l generalizing s with
  | nil => exact .refl s
  | cons x xs ih => exact (hf s x).trans (ih (f s x))

theorem regsOnly_addCounter (s : State) (bank i n : Nat) : RegsOnly s (addCounter s bank i n) := by
  unfold addCounter
  extract_lets v t
  split
  · exact (RegsOnly.wr ..).trans (.wr ..)
  · exact .wr ..

theorem regsOnly_countIn (s : State) (bank sel : Nat) (e : Event) : RegsOnly s (countIn s bank sel e) := by
  refine RegsOnly.foldl (fun s i => ?_) _ s
  extract_lets c
  split
  · exact regsOnly_addCounter ..
  · exact .refl s

theorem regsOnly_countTransfer (s : State) (f : Frame) (sel : Nat) : RegsOnly s (countTransfer s f sel) :=
  regsOnly_countIn ..

@[simp] theorem countIn_lattice (s : State) (bank sel : Nat) (e : Event) :
    (countIn s bank sel e).lattice = s.lattice := by
  obtain ⟨r, h⟩ := regsOnly_countIn s bank sel e
  rw [h]

@[simp] theorem countTransfer_frames (s : State) (f : Frame) (sel : Nat) :
    (countTransfer s f sel).frames = s.frames := by
  obtain ⟨r, h⟩ := regsOnly_countTransfer s f sel
  rw [h]

@[simp] theorem countTransfer_lattice (s : State) (f : Frame) (sel : Nat) :
    (countTransfer s f sel).lattice = s.lattice := countIn_lattice ..

@[simp] theorem findFrame_countTransfer (s : State) (f : Frame) (sel id : Nat) :
    findFrame (countTransfer s f sel) id = findFrame s id := findFrame_congr (countTransfer_frames ..) id

/-! ## Changing one frame -/

theorem modFrame_of_find {s : State} {id : Nat} {f : Frame} (h : findFrame s id = some f) (g : Frame → Frame) :
    modFrame s id g = putFrame s id (g f) := by
  rw [modFrame, h]

theorem siblings_of_noParent {s : State} {id : Nat} {f : Frame} (h : f.parentId = 0) : siblings s id f = [id] :=
  if_pos (.inl h)

theorem pairIsDown_of_ne {s : State} {f g : Nat} (h : rd s (Reg.LATTICE_STATE (f * 8 + g)) ≠ 2) :
    pairIsDown s f g = false := decide_eq_false h

@[simp] theorem freeCredits_frames (s : State) (f : Frame) : (freeCredits s f).frames = s.frames := by
  unfold freeCredits; split <;> rfl

@[simp] theorem freeCredits_lattice (s : State) (f : Frame) : (freeCredits s f).lattice = s.lattice := by
  unfold freeCredits; split <;> rfl

@[simp] theorem freeCredits_egress (s : State) (f : Frame) : (freeCredits s f).egress = s.egress := by
  unfold freeCredits; split <;> rfl

/-- `settle` of a frame that is no parent: it stays, with no credits left where they were given back. -/
theorem settle_of_find {s : State} {id : Nat} {f : Frame} (h : findFrame s id = some f) (hplace : f.place ≠ .parent) :
    settle s id = s ∨ settle s id = putFrame (freeCredits s f) id { f with credits := 0 } := by
  simp only [settle, h, hplace, false_and, if_false]
  split
  · exact .inr rfl
  · exact .inl rfl

/-! ## The commands -/

theorem doLatticeRequest_asks {s : State} {id : Nat} {f : Frame} (hf : findFrame s id = some f)
    (hplace : f.place = .request) (hparent : f.parentId = 0) (hahead : channelAhead s id f = [])
    (hpair : rd s (Reg.LATTICE_STATE (f.facet * 8 + crossTo f)) ≠ 2) :
    doLatticeRequest id s = putFrame s id { f with place := .asked } := by
  simp [doLatticeRequest, requestOne, hf, hplace, hahead, pairIsDown_of_ne hpair, siblings_of_noParent hparent,
    modFrame_of_find hf]

/-- The frame a tap sends: on its way with the pair's next sequence number (R30). -/
def sentFrame (s : State) (f : Frame) (tap : Nat) : Frame :=
  { f with
    place := .lattice, pairSeq := Tab.get 0 s.lattice.seq (f.facet * 8 + crossTo f), tap := tap, crossed := true }

/-- A frame is counted once, when it first crosses (R36). -/
def countedCross (s : State) (f : Frame) : State := if f.crossed then s else countTransfer s f 0x7001

@[simp] theorem findFrame_countedCross (s : State) (f : Frame) (x : Nat) :
    findFrame (countedCross s f) x = findFrame s x := by
  unfold countedCross; split <;> simp

@[simp] theorem countedCross_lattice (s : State) (f : Frame) : (countedCross s f).lattice = s.lattice := by
  unfold countedCross; split <;> simp

/-- The state just before the sent frame settles. -/
def sentState (s : State) (id : Nat) (f : Frame) (tap : Nat) : State :=
  let k := f.facet * 8 + crossTo f
  putFrame (modLattice (putFrame (countedCross s f) id { f with crossed := true })
    (fun l => { l with seq := Tab.put 0 l.seq k (Tab.get 0 s.lattice.seq k + 1) })) id (sentFrame s f tap)

theorem doLatticeGrant_sends {s : State} {id : Nat} {f : Frame} {tap : Nat} (hf : findFrame s id = some f)
    (hplace : f.place = .granted) (hparent : f.parentId = 0) (hcross : f.facet ≠ crossTo f)
    (hpair : rd s (Reg.LATTICE_STATE (f.facet * 8 + crossTo f)) ≠ 2) (hahead : channelAhead s id f = [])
    (htap : tapFor s f.facet id = some tap) :
    doLatticeGrant id s = settle (sentState s id f tap) id := by
  have hgranted : (f.place ≠ .granted) = False := by simp [hplace]
  have hcounted : findFrame (countedCross s f) id = some f := (findFrame_countedCross ..).trans hf
  have hcount : countedCross s f = if f.crossed then s else countTransfer s f 0x7001 := rfl
  have hput (l : Lattice → Lattice) (u : State) :
      findFrame (modLattice (putFrame u id { f with crossed := true }) l) id = some { f with crossed := true } :=
    findFrame_putFrame_self ..
  simp only [doLatticeGrant, grantOne, hf, hgranted, hahead, pairIsDown_of_ne hpair, siblings_of_noParent hparent,
    hcross, htap, List.nil_append, List.foldl_cons, List.foldl_nil, if_false, Bool.false_eq_true, ← hcount,
    modFrame_of_find hcounted, modFrame_of_find (hput ..)]
  rfl

theorem findFrame_modLattice (s : State) (l : Lattice → Lattice) (x : Nat) :
    findFrame (modLattice s l) x = findFrame s x := rfl

theorem findFrame_sentState (s : State) (id : Nat) (f : Frame) (tap x : Nat) :
    findFrame (sentState s id f tap) x = if x = id then some (sentFrame s f tap) else findFrame s x := by
  unfold sentState
  extract_lets k
  rw [findFrame_putFrame, findFrame_modLattice, findFrame_putFrame, findFrame_countedCross]
  split <;> rfl

theorem sentState_seq (s : State) (id : Nat) (f : Frame) (tap : Nat) :
    Tab.get 0 (sentState s id f tap).lattice.seq (f.facet * 8 + crossTo f) =
      Tab.get 0 s.lattice.seq (f.facet * 8 + crossTo f) + 1 := by
  simp [sentState]

/-! ## Landing -/

/-- Writing segments changes no queue's order and of a frame its segment alone. -/
def SegmentsOnly (s t : State) : Prop :=
  (∀ q, (equeue t q).order = (equeue s q).order) ∧
    ∀ id f, findFrame s id = some f → ∃ n, findFrame t id = some { f with segment := n }

theorem SegmentsOnly.refl (s : State) : SegmentsOnly s s := ⟨fun _ => rfl, fun _ f h => ⟨f.segment, h⟩⟩

theorem SegmentsOnly.trans {s t u : State} (h : SegmentsOnly s t) (g : SegmentsOnly t u) : SegmentsOnly s u := by
  obtain ⟨horder, hframe⟩ := h
  obtain ⟨gorder, gframe⟩ := g
  refine ⟨fun q => (gorder q).trans (horder q), fun id f hf => ?_⟩
  obtain ⟨n, hn⟩ := hframe id f hf
  obtain ⟨m, hm⟩ := gframe id _ hn
  exact ⟨m, hm⟩

/-- What leaves the frames and the queues as they were writes no segment. -/
theorem SegmentsOnly.of_eq {s t : State} (hframes : t.frames = s.frames) (hqueues : t.egress.queues = s.egress.queues) :
    SegmentsOnly s t :=
  ⟨fun q => by rw [equeue, equeue, hqueues], fun id f h => ⟨f.segment, (findFrame_congr hframes id).trans h⟩⟩

theorem segmentsOnly_modQueue (s : State) (q : Nat) (g : EQueue → EQueue) (hg : ∀ e, (g e).order = e.order) :
    SegmentsOnly s (modQueue s q g) := by
  refine ⟨fun r => ?_, fun id f h => ⟨f.segment, h⟩⟩
  rw [equeue_modQueue]
  split
  · next h => subst h; exact hg _
  · rfl

theorem segmentsOnly_modFrame (s : State) (id n : Nat) :
    SegmentsOnly s (modFrame s id (fun f => { f with segment := n })) := by
  unfold modFrame
  split
  · exact .refl s
  · next f hf =>
    refine ⟨fun q => rfl, fun x g hg => ?_⟩
    by_cases hx : x = id
    · subst hx
      obtain rfl : f = g := Option.some.inj (hf.symm.trans hg)
      exact ⟨n, findFrame_putFrame_self ..⟩
    · exact ⟨g.segment, by rw [findFrame_putFrame, if_neg hx, hg]⟩

theorem SegmentsOnly.foldl {α : Type} {f : State → α → State} (hf : ∀ s x, SegmentsOnly s (f s x))
    (l : List α) (s : State) : SegmentsOnly s (l.foldl f s) := by
  induction l generalizing s with
  | nil => exact .refl s
  | cons x xs ih => exact (hf s x).trans (ih (f s x))

theorem segmentsOnly_writeSegments (n : Nat) (s : State) (q : Nat) (tail : List Nat) :
    SegmentsOnly s (writeSegments n s q tail) := by
  induction n generalizing s tail with
  | zero => exact .refl s
  | succ n ih =>
    unfold writeSegments
    extract_lets r ids cells whole ten g sid grp youngest u v w
    split
    · exact .refl s
    split
    · split
      · exact .of_eq rfl rfl
      · exact .refl s
    · have hu : SegmentsOnly s u := .of_eq rfl rfl
      have hv : SegmentsOnly u v := segmentsOnly_modQueue u q _ (fun _ => rfl)
      have hw : SegmentsOnly v w := SegmentsOnly.foldl (fun s id => segmentsOnly_modFrame s id sid) ids v
      exact ((hu.trans hv).trans hw).trans (ih w r.2)

theorem segmentsOnly_spillStep (s : State) (q : Nat) : SegmentsOnly s (spillStep s q) := by
  unfold spillStep
  extract_lets e own u tail
  split
  · exact .refl s
  split
  · exact segmentsOnly_writeSegments ..
  split
  · exact (segmentsOnly_modQueue s q (fun e => { e with spill := true }) (fun _ => rfl)).trans
      (segmentsOnly_writeSegments ..)
  · exact .refl s

/-- Settling a queued frame leaves it queued, and every queue as it was. -/
theorem settle_of_queued {s : State} {id : Nat} {f : Frame} (h : findFrame s id = some f) (hplace : f.place = .queued) :
    ∃ g, findFrame (settle s id) id = some g ∧ g.place = .queued ∧ (settle s id).egress = s.egress := by
  rcases settle_of_find h (by simp [hplace]) with heq | heq
  · exact ⟨f, by rw [heq, h], hplace, by rw [heq]⟩
  · exact ⟨{ f with credits := 0 }, by rw [heq, findFrame_putFrame_self], hplace,
      by rw [heq]; exact freeCredits_egress ..⟩

/-- A frame that lands for a port stands queued behind those of its queue (R193). -/
theorem enqueue_of_find {s : State} {id : Nat} {f : Frame} (h : findFrame s id = some f) :
    ∃ g, findFrame (enqueue s id) id = some g ∧ g.place = .queued ∧
      (equeue (enqueue s id) (frameQueue f)).order = (equeue s (frameQueue f)).order ++ [id] := by
  set u := modQueue (putFrame s id { f with place := .queued }) (frameQueue f)
    (fun e => { e with order := e.order ++ [id] }) with hu
  have henqueue : enqueue s id = settle (spillStep u (frameQueue f)) id := by rw [enqueue, h]
  obtain ⟨horder, hframe⟩ := segmentsOnly_spillStep u (frameQueue f)
  obtain ⟨n, hn⟩ := hframe id { f with place := .queued } (findFrame_putFrame_self ..)
  obtain ⟨g, hg, hplace, hegress⟩ := settle_of_queued hn rfl
  refine ⟨g, by rw [henqueue, hg], hplace, ?_⟩
  rw [henqueue, equeue, hegress]
  change (equeue (spillStep u (frameQueue f)) (frameQueue f)).order = _
  rw [horder, hu, equeue_modQueue, if_pos rfl]
  rfl

theorem findFrame_of_single {s : State} {id : Nat} {f : Frame} (h : s.frames = [(id, f)]) :
    findFrame s id = some f := by
  simp [findFrame, h, Tab.find]

theorem putFrame_of_single {s : State} {id : Nat} {f : Frame} (h : s.frames = [(id, f)]) (g : Frame) :
    (putFrame s id g).frames = [(id, g)] := by
  simp [h, Tab.set, Store.insert, Store.erase]

/-- A lone transferred frame has its flow to itself, so it lands as it arrives. -/
theorem doLatticeReceive_alone {s : State} {id : Nat} {f : Frame} (hframes : s.frames = [(id, f)])
    (hplace : f.place = .lattice) :
    doLatticeReceive id s = land (putFrame s id { f with arrived := true }) id := by
  have hsame : sameFlow f { f with arrived := true } = true := by simp [sameFlow, crossTo]
  have horder : flowOrder (putFrame s id { f with arrived := true }) f = [(id, { f with arrived := true })] := by
    rw [flowOrder, putFrame_of_single hframes, List.filter_cons_of_pos (by rw [hsame]; simp [hplace]), List.filter_nil]
    rfl
  simp only [doLatticeReceive, findFrame_of_single hframes, horder]
  simp [hplace]

theorem poolGroup_setPool {s : State} {f g : Nat} (h : f * 5 + g < s.lattice.pools.length) (x : PoolGroup)
    (f' g' : Nat) :
    poolGroup (setPool s f g x) f' g' = if f' * 5 + g' = f * 5 + g then x else poolGroup s f' g' := by
  simp only [poolGroup, setPool, modLattice_lattice, List.getD_eq_getElem?_getD, List.getElem?_set]
  split
  · next heq => rw [if_pos heq.symm, Option.getD_some]
  · next hne => rw [if_neg (Ne.symm hne)]

/-- Settles O4. -/
theorem latticeTransfer : Obligations.LatticeTransfer := by
  unfold Obligations.LatticeTransfer
  refine ⟨?request, ?grant, ?receive, ?retune⟩
  case request =>
    intro id f s hf hplace hparent hahead hpair
    exact finish_eq (doLatticeRequest_asks hf hplace hparent hahead hpair)
  case grant =>
    intro id f s hf hplace hparent hcross hpair hahead htap
    obtain ⟨tap, htap⟩ := Option.isSome_iff_exists.mp htap
    have hsends := doLatticeGrant_sends hf hplace hparent hcross hpair hahead htap
    have hself : findFrame (sentState s id f tap) id = some (sentFrame s f tap) := by
      rw [findFrame_sentState, if_pos rfl]
    refine ⟨settle (sentState s id f tap) id, ?_⟩
    rcases settle_of_find hself (by simp [sentFrame]) with heq | heq <;> rw [heq] at hsends ⊢
    · refine ⟨sentFrame s f tap, finish_eq hsends, hself, rfl, rfl, rfl, rfl, sentState_seq .., fun x hx => ?_⟩
      rw [findFrame_sentState, if_neg hx]
    · refine ⟨{ sentFrame s f tap with credits := 0 }, finish_eq hsends, findFrame_putFrame_self .., rfl, rfl, rfl,
        rfl, ?_, fun x hx => ?_⟩
      · rw [putFrame_lattice, freeCredits_lattice]; exact sentState_seq ..
      · rw [findFrame_putFrame, if_neg hx, findFrame_congr (freeCredits_frames ..), findFrame_sentState, if_neg hx]
  case receive =>
    intro id f s hframes hplace hhome
    have hfind : findFrame (putFrame s id { f with arrived := true }) id = some { f with arrived := true } :=
      findFrame_putFrame_self ..
    have hland : land (putFrame s id { f with arrived := true }) id =
        enqueue (putFrame s id { f with arrived := true }) id := by
      simp only [land, hfind, if_neg (Nat.not_lt.mpr hhome)]
    obtain ⟨g, hg, hqueued, horder⟩ := enqueue_of_find hfind
    exact ⟨_, g, finish_eq ((doLatticeReceive_alone hframes hplace).trans hland), hg, hqueued, horder⟩
  case retune =>
    intro f g peer s hlen htarget
    have hlt : f.val * 5 + g.val < s.lattice.pools.length := by omega
    refine ⟨countIn (setPool s f g { peer := peer, target := none }) (latticeBank f) 0x7004 { port := some peer },
      next_eq (by rw [doPoolRetune, htarget]), ?_, fun f' g' hne => ?_⟩
    · rw [poolGroup, countIn_lattice]
      exact (poolGroup_setPool hlt ..).trans (if_pos rfl)
    · rw [poolGroup, countIn_lattice]
      exact (poolGroup_setPool hlt ..).trans (if_neg hne)

end Sys2Proof.Machine

/-! # What the traffic and the loss of ports leave unchanged

`aside P s` is what of the elements, the records that wait and the tables of the machine lies outside the pieces that
`P` lets change. `aside P t = aside P s` says of a step from `s` to `t` that it changes those pieces alone; an element
of another object and every other table then read as before (`rd_of_aside`). -/

namespace Sys2Proof.Machine

/-- An object of elements, the records of a code that wait, or a table of the machine. -/
inductive Piece where
  | obj (n : Nat)
  | record (code : Nat)
  | lattice | light | links | frames | forward | egress | coll | sets | twin | vets | requests
deriving DecidableEq

/-- The elements, records and tables outside `P`. -/
def aside (P : Piece → Bool) (s : State) : (Addr → Nat) × State :=
  (fun a => if P (.obj a.obj) then 0 else rd s a,
   { raised := s.raised.filter (fun r => !P (.record r.code))
     lattice := if P .lattice then {} else s.lattice
     light := if P .light then {} else s.light
     links := if P .links then [] else s.links
     frames := if P .frames then [] else s.frames
     forward := if P .forward then {} else s.forward
     egress := if P .egress then {} else s.egress
     coll := if P .coll then {} else s.coll
     sets := if P .sets then {} else s.sets
     twin := if P .twin then {} else s.twin
     vets := if P .vets then {} else s.vets
     requests := if P .requests then [] else s.requests })

/-- What a frame's life and the loss of a port write: pins, learned entries, schedulers, shapers,
failovers, counters, the request queue's peak, their records, and the tables of links, frames, forwarding, queues
and requests. -/
@[simp] def trafficPieces : List Piece :=
  [.obj 0x0602, .obj 0x0604, .obj 0x0800, .obj 0x0802, .obj 0x0D07, .obj 0x0F00, .obj 0x0F04,
    .obj 0x1100, .record Code.DATELINE_TWICE, .record Code.FAILOVER, .record Code.HOLD_OVERFLOW,
    .record Code.POISON_SENT, .record Code.PORT_DOWN, .record Code.REPIN, .record Code.RG_NONE_LIVE,
    .record Code.TURN_UP, .record Code.UNIT_STATE, .links, .frames, .forward, .egress, .requests]

/-- What the optical layer writes: FAUs, feeds, lines, rings, pairs, their records, and the table of light. -/
@[simp] def opticsPieces : List Piece :=
  [.obj 0x0200, .obj 0x0201, .obj 0x0202, .obj 0x0203, .obj 0x0205, .record Code.MIGRATE_BLOCKED,
    .record Code.UNIT_STATE, .light]

def Traffic (P : Piece → Bool) : Prop := ∀ x ∈ trafficPieces, P x = true
def Optics (P : Piece → Bool) : Prop := ∀ x ∈ opticsPieces, P x = true

theorem Traffic.all {P : Piece → Bool} (h : Traffic P) :
    P (.obj 0x0602) = true ∧ P (.obj 0x0604) = true ∧ P (.obj 0x0800) = true ∧ P (.obj 0x0802) = true ∧
      P (.obj 0x0D07) = true ∧ P (.obj 0x0F00) = true ∧ P (.obj 0x0F04) = true ∧ P (.obj 0x1100) = true ∧
      P (.record Code.DATELINE_TWICE) = true ∧ P (.record Code.FAILOVER) = true ∧
      P (.record Code.HOLD_OVERFLOW) = true ∧ P (.record Code.POISON_SENT) = true ∧
      P (.record Code.PORT_DOWN) = true ∧ P (.record Code.REPIN) = true ∧ P (.record Code.RG_NONE_LIVE) = true ∧
      P (.record Code.TURN_UP) = true ∧ P (.record Code.UNIT_STATE) = true ∧
      P .links = true ∧ P .frames = true ∧ P .forward = true ∧ P .egress = true ∧ P .requests = true := by
  simpa [Traffic] using h

theorem Optics.all {P : Piece → Bool} (h : Optics P) :
    P (.obj 0x0200) = true ∧ P (.obj 0x0201) = true ∧ P (.obj 0x0202) = true ∧ P (.obj 0x0203) = true ∧
      P (.obj 0x0205) = true ∧ P (.record Code.MIGRATE_BLOCKED) = true ∧ P (.record Code.UNIT_STATE) = true ∧
      P .light = true := by
  simpa [Optics] using h

/-- Everything may change but the pieces of `kept`. -/
def besides (kept : List Piece) : Piece → Bool := fun x => decide (x ∉ kept)

section
variable {kept : List Piece}

@[simp] theorem besides_eq_true {x : Piece} : besides kept x = true ↔ x ∉ kept := decide_eq_true_iff
@[simp] theorem besides_eq_false {x : Piece} : besides kept x = false ↔ x ∈ kept := by simp [besides]
@[simp] theorem traffic_besides : Traffic (besides kept) ↔ ∀ x ∈ trafficPieces, x ∉ kept := by
  simp only [Traffic, besides_eq_true]
@[simp] theorem optics_besides : Optics (besides kept) ↔ ∀ x ∈ opticsPieces, x ∉ kept := by
  simp only [Optics, besides_eq_true]
end

section
variable {P : Piece → Bool} {s t : State} (h : aside P t = aside P s)
include h

theorem rd_of_aside {a : Addr} (ha : P (.obj a.obj) = false) : rd t a = rd s a := by
  have hread := congrFun (congrArg Prod.fst h) a
  simpa [aside, ha] using hread

theorem mem_raised_of_aside {r : Raised} (hr : P (.record r.code) = false) : r ∈ t.raised ↔ r ∈ s.raised := by
  have hraised : t.raised.filter (fun r => !P (.record r.code)) = s.raised.filter (fun r => !P (.record r.code)) :=
    congrArg (fun x => x.2.raised) h
  have hmem : r ∈ t.raised.filter (fun r => !P (.record r.code)) ↔
      r ∈ s.raised.filter (fun r => !P (.record r.code)) := by
    rw [hraised]
  simpa [hr] using hmem

theorem lattice_of_aside (hp : P .lattice = false) : t.lattice = s.lattice := by
  simpa [aside, hp] using congrArg (fun x => x.2.lattice) h
theorem light_of_aside (hp : P .light = false) : t.light = s.light := by
  simpa [aside, hp] using congrArg (fun x => x.2.light) h
theorem links_of_aside (hp : P .links = false) : t.links = s.links := by
  simpa [aside, hp] using congrArg (fun x => x.2.links) h
theorem frames_of_aside (hp : P .frames = false) : t.frames = s.frames := by
  simpa [aside, hp] using congrArg (fun x => x.2.frames) h
theorem forward_of_aside (hp : P .forward = false) : t.forward = s.forward := by
  simpa [aside, hp] using congrArg (fun x => x.2.forward) h
theorem egress_of_aside (hp : P .egress = false) : t.egress = s.egress := by
  simpa [aside, hp] using congrArg (fun x => x.2.egress) h
theorem coll_of_aside (hp : P .coll = false) : t.coll = s.coll := by
  simpa [aside, hp] using congrArg (fun x => x.2.coll) h
theorem vets_of_aside (hp : P .vets = false) : t.vets = s.vets := by
  simpa [aside, hp] using congrArg (fun x => x.2.vets) h
end

theorem rd_of_besides {kept : List Piece} {s t : State} (h : aside (besides kept) t = aside (besides kept) s)
    {a : Addr} (ha : .obj a.obj ∈ kept) : rd t a = rd s a :=
  rd_of_aside h (besides_eq_false.mpr ha)

section
variable (P : Piece → Bool) (s : State)

theorem aside_eq {t : State} (hregs : t.regs = s.regs) (hrest : (aside P t).2 = (aside P s).2) :
    aside P t = aside P s := by
  refine Prod.ext (funext fun a => ?_) hrest
  simp only [aside, rd_congr hregs]

@[simp] theorem aside_emit (o : Output) : aside P (emit s o) = aside P s := (rfl)
@[simp] theorem aside_modBook (f : Book → Book) : aside P (modBook s f) = aside P s := (rfl)
@[simp] theorem aside_modClock (f : EpochClock → EpochClock) : aside P (modClock s f) = aside P s := (rfl)
@[simp] theorem aside_modGroom (f : Groom → Groom) : aside P (modGroom s f) = aside P s := (rfl)
@[simp] theorem aside_modPower (f : Power → Power) : aside P (modPower s f) = aside P s := (rfl)
@[simp] theorem aside_modPins (f : Pins → Pins) : aside P (modPins s f) = aside P s := (rfl)

variable {P}
@[simp] theorem aside_wr {a : Addr} (h : P (.obj a.obj) = true) (v : Nat) : aside P (wr s a v) = aside P s := by
  refine Prod.ext (funext fun b => ?_) rfl
  by_cases hb : b = a
  · subst hb; simp [aside, h]
  · simp [aside, rd_wr, hb]
@[simp] theorem aside_raise {code : Nat} (h : P (.record code) = true) (src : Nat) (items : List (Nat × Nat)) :
    aside P (raise s code src items) = aside P s := aside_eq P s rfl (by simp [aside, h])
@[simp] theorem aside_modLattice (h : P .lattice = true) (f : Lattice → Lattice) :
    aside P (modLattice s f) = aside P s := aside_eq P s rfl (by simp [aside, h])
@[simp] theorem aside_modLight (h : P .light = true) (f : Light → Light) :
    aside P (modLight s f) = aside P s := aside_eq P s rfl (by simp [aside, h])
@[simp] theorem aside_modLink (h : P .links = true) (p : Nat) (f : Link → Link) :
    aside P (modLink s p f) = aside P s := aside_eq P s rfl (by simp [aside, h])
@[simp] theorem aside_putFrame (h : P .frames = true) (id : Nat) (f : Frame) :
    aside P (putFrame s id f) = aside P s := aside_eq P s rfl (by simp [aside, h])
@[simp] theorem aside_delFrame (h : P .frames = true) (id : Nat) :
    aside P (delFrame s id) = aside P s := aside_eq P s rfl (by simp [aside, h])
@[simp] theorem aside_newFrame (h : P .frames = true) (f : Frame) :
    aside P (newFrame s f).1 = aside P s := aside_eq P s rfl (by simp [aside, newFrame, h])
@[simp] theorem aside_modForward (h : P .forward = true) (f : Forwarding → Forwarding) :
    aside P (modForward s f) = aside P s := aside_eq P s rfl (by simp [aside, h])
@[simp] theorem aside_modEgress (h : P .egress = true) (f : Egress → Egress) :
    aside P (modEgress s f) = aside P s := aside_eq P s rfl (by simp [aside, h])
@[simp] theorem aside_modColl (h : P .coll = true) (f : Collective → Collective) :
    aside P (modColl s f) = aside P s := aside_eq P s rfl (by simp [aside, h])
@[simp] theorem aside_modSets (h : P .sets = true) (f : Sets → Sets) :
    aside P (modSets s f) = aside P s := aside_eq P s rfl (by simp [aside, h])
@[simp] theorem aside_modTwin (h : P .twin = true) (f : Twin → Twin) :
    aside P (modTwin s f) = aside P s := aside_eq P s rfl (by simp [aside, h])
@[simp] theorem aside_modVets (h : P .vets = true) (f : Vets → Vets) :
    aside P (modVets s f) = aside P s := aside_eq P s rfl (by simp [aside, h])

variable (P)
@[simp] theorem aside_ite (c : Prop) [Decidable c] (t u : State) :
    aside P (if c then t else u) = if c then aside P t else aside P u := apply_ite ..

@[simp] theorem aside_foldl {α : Type} (f : State → α → State) (hf : ∀ s x, aside P (f s x) = aside P s)
    (xs : List α) : aside P (xs.foldl f s) = aside P s :=
  List.foldlRecOn (motive := fun t => aside P t = aside P s) xs f rfl fun t ht x _ => (hf t x).trans ht

@[simp] theorem aside_foldl_fst {α β : Type} (f : State × β → α → State × β)
    (hf : ∀ r x, aside P (f r x).1 = aside P r.1) (xs : List α) (r : State × β) :
    aside P (xs.foldl f r).1 = aside P r.1 :=
  List.foldlRecOn (motive := fun t => aside P t.1 = aside P r.1) xs f rfl fun t ht x _ => (hf t x).trans ht
end

section
variable (P : Piece → Bool)

/-! ## The named operations over the state -/

@[simp] theorem aside_inc (s : State) (a : Addr) (w : Nat) (h : P (.obj a.obj) = true) :
    aside P (inc s a w) = aside P s := by
  exact aside_wr s h _
@[simp] theorem aside_raiseTo (s : State) (a : Addr) (v : Nat) (h : P (.obj a.obj) = true) :
    aside P (raiseTo s a v) = aside P s := by
  unfold raiseTo
  split
  · exact aside_wr s h v
  · rfl
@[simp] theorem aside_modFrame (s : State) (id : Nat) (g : Frame → Frame) (hframes : P .frames = true) :
    aside P (modFrame s id g) = aside P s := by
  unfold modFrame
  split <;> simp [hframes]
@[simp] theorem aside_modQueue (s : State) (q : Nat) (f : EQueue → EQueue) (hegress : P .egress = true) :
    aside P (modQueue s q f) = aside P s := by
  simp [modQueue, hegress]
@[simp] theorem aside_modSched (s : State) (p : Nat) (f : PortSched → PortSched) (hegress : P .egress = true) :
    aside P (modSched s p f) = aside P s := by
  simp [modSched, hegress]
@[simp] theorem aside_modBucket (s : State) (f : Nat) (g : NotifyBucket → NotifyBucket) (hegress : P .egress = true) :
    aside P (modBucket s f g) = aside P s := by
  simp [modBucket, hegress]
@[simp] theorem aside_modTeam (s : State) (t : Nat) (f : TeamCtx → TeamCtx) (hcoll : P .coll = true) :
    aside P (modTeam s t f) = aside P s := by
  simp [modTeam, hcoll]
@[simp] theorem aside_modSlot (s : State) (t j : Nat) (f : ChunkSlot → ChunkSlot) (hcoll : P .coll = true) :
    aside P (modSlot s t j f) = aside P s := by
  simp [modSlot, hcoll]
@[simp] theorem aside_addCounter (s : State) (bank i n : Nat) (h0F00 : P (.obj 0x0F00) = true) :
    aside P (addCounter s bank i n) = aside P s := by
  simp [addCounter, h0F00]
@[simp] theorem aside_countIn (s : State) (bank sel : Nat) (e : Event) (h0F00 : P (.obj 0x0F00) = true) :
    aside P (countIn s bank sel e) = aside P s := by
  simp [countIn, h0F00]
@[simp] theorem aside_countPortN (s : State) (p sel n : Nat) (h0F00 : P (.obj 0x0F00) = true) :
    aside P (countPortN s p sel n) = aside P s := by
  simp [countPortN, h0F00]
@[simp] theorem aside_countPort (s : State) (p sel : Nat) (h0F00 : P (.obj 0x0F00) = true) :
    aside P (countPort s p sel) = aside P s := by
  simp [countPort, h0F00]
@[simp] theorem aside_countFrame (s : State) (p sel : Nat) (h : Block) (h0F00 : P (.obj 0x0F00) = true) :
    aside P (countFrame s p sel h) = aside P s := by
  simp [countFrame, h0F00]
@[simp] theorem aside_countFrameIn (s : State) (bank sel : Nat) (h : Block) (h0F00 : P (.obj 0x0F00) = true) :
    aside P (countFrameIn s bank sel h) = aside P s := by
  simp [countFrameIn, h0F00]
@[simp] theorem aside_discardAt (s : State) (p why : Nat) (h : Block) (h0F00 : P (.obj 0x0F00) = true)
    (h0F04 : P (.obj 0x0F04) = true) :
    aside P (discardAt s p why h) = aside P s := by
  simp [discardAt, h0F00, h0F04]
@[simp] theorem aside_discardIn (s : State) (f : Frame) (why : Nat) (h : Block) (h0F00 : P (.obj 0x0F00) = true)
    (h0F04 : P (.obj 0x0F04) = true) :
    aside P (discardIn s f why h) = aside P s := by
  simp [discardIn, h0F00, h0F04]

/-! ## The status computations of the block -/

@[simp] theorem aside_unitRefresh (before after : State) (hUnitState : P (.record Code.UNIT_STATE) = true) :
    aside P (unitRefresh before after) = aside P after := by
  simp [unitRefresh, hUnitState]

/-! ## The life of a frame inside the solid -/

@[simp] theorem aside_freeCredits (s : State) (f : Frame) (hlinks : P .links = true) :
    aside P (freeCredits s f) = aside P s := by
  simp [freeCredits, hlinks]
@[simp] theorem aside_settle (s : State) (id : Nat) (hlinks : P .links = true) (hframes : P .frames = true) :
    aside P (settle s id) = aside P s := by
  unfold settle
  split <;> simp [hlinks, hframes]
@[simp] theorem aside_unqueue (s : State) (q id : Nat) (hegress : P .egress = true) :
    aside P (unqueue s q id) = aside P s := by
  simp [unqueue, hegress]
@[simp] theorem aside_queueSettled (s : State) (q : Nat) (h0802 : P (.obj 0x0802) = true) (hegress : P .egress = true)
    :
    aside P (queueSettled s q) = aside P s := by
  simp [queueSettled, h0802, hegress]
@[simp] theorem aside_releaseWaiting (s : State) (q : Nat) (h0800 : P (.obj 0x0800) = true)
    (hegress : P .egress = true) :
    aside P (releaseWaiting s q) = aside P s := by
  simp [releaseWaiting, h0800, hegress]
@[simp] theorem aside_unhold (s : State) (f : Frame) (id : Nat) (hforward : P .forward = true) :
    aside P (unhold s f id) = aside P s := by
  simp [unhold, hforward]
@[simp] theorem aside_copyDone (s : State) (parent : Nat) (hlinks : P .links = true) (hframes : P .frames = true) :
    aside P (copyDone s parent) = aside P s := by
  simp [copyDone, hlinks, hframes]
@[simp] theorem aside_removeFrame (s : State) (id : Nat) (hP : Traffic P) :
    aside P (removeFrame s id) = aside P s := by
  unfold removeFrame
  split <;> simp [hP.all]
@[simp] theorem aside_dropIn (s : State) (id why : Nat) (hP : Traffic P) :
    aside P (dropIn s id why) = aside P s := by
  unfold dropIn
  split <;> simp [hP, hP.all]
@[simp] theorem aside_dropOut (s : State) (id why : Nat) (hP : Traffic P) :
    aside P (dropOut s id why) = aside P s := by
  unfold dropOut
  split <;> simp [hP, hP.all]
@[simp] theorem aside_poisonOut (cause : Nat) (s : State) (id : Nat) (hP : Traffic P) :
    aside P (poisonOut cause s id) = aside P s := by
  unfold poisonOut
  split <;> simp [hP.all]
@[simp] theorem aside_endShort (s : State) (id cause : Nat) (hP : Traffic P) :
    aside P (endShort s id cause) = aside P s := by
  simp [endShort, hP]
@[simp] theorem aside_truncateIfCut (s : State) (p : Nat) (hP : Traffic P) :
    aside P (truncateIfCut s p) = aside P s := by
  simp [truncateIfCut, hP, hP.all]

/-! ## Scheduling, Shaping and Policing -/

@[simp] theorem aside_setShaper (s : State) (k : Nat) (x : Shaper) (hegress : P .egress = true) :
    aside P (setShaper s k x) = aside P s := by
  simp [setShaper, hegress]
@[simp] theorem aside_countAtIngress (s : State) (f : Frame) (sel : Nat) (h0F00 : P (.obj 0x0F00) = true) :
    aside P (countAtIngress s f sel) = aside P s := by
  simp [countAtIngress, h0F00]
@[simp] theorem aside_nextKeepalive (s : State) (p : Nat) (hlinks : P .links = true) :
    aside P (nextKeepalive s p) = aside P s := by
  simp [nextKeepalive, hlinks]
@[simp] theorem aside_setCmd (p cmd : Nat) (s : State) (hlinks : P .links = true) :
    aside P (setCmd p cmd s) = aside P s := by
  simp [setCmd, hlinks]
@[simp] theorem aside_setCmdBit (p b : Nat) (on : Bool) (s : State) (hlinks : P .links = true) :
    aside P (setCmdBit p b on s) = aside P s := by
  simp [setCmdBit, hlinks]
@[simp] theorem aside_resetSched (p : Nat) (s : State) (hP : Traffic P) :
    aside P (resetSched p s) = aside P s := by
  simp [resetSched, hP.all]

/-! ## Shared Buffers and Spill -/

@[simp] theorem aside_nextRandom (s : State) (k : Nat) (hforward : P .forward = true) :
    aside P (nextRandom s k).1 = aside P s := by
  simp [nextRandom, hforward]

/-! ## Forwarding, Spraying and Ordering -/

@[simp] theorem aside_failoverCheck (s : State) (h0D07 : P (.obj 0x0D07) = true)
    (hFailover : P (.record Code.FAILOVER) = true) :
    aside P (failoverCheck s) = aside P s := by
  simp [failoverCheck, h0D07, hFailover]
@[simp] theorem aside_trackChannel (s : State) (f : Frame) (g slot : Nat) (hforward : P .forward = true) :
    aside P (trackChannel s f g slot) = aside P s := by
  simp only [trackChannel]
  (repeat' split) <;> simp [hforward]
@[simp] theorem aside_sendToward (s : State) (id q : Nat) (repin : Bool) (hP : Traffic P) :
    aside P (sendToward s id q repin) = aside P s := by
  unfold sendToward
  split <;> simp [hP, hP.all]
@[simp] theorem aside_spray (s : State) (f : Frame) (g : Nat) (hforward : P .forward = true) :
    aside P (spray s f g).1 = aside P s := by
  simp only [spray]
  (repeat' split) <;> simp [hforward]
@[simp] theorem aside_holdFrame (s : State) (id g slot : Nat) (hP : Traffic P) :
    aside P (holdFrame s id g slot) = aside P s := by
  unfold holdFrame
  split <;> simp [hP, hP.all]
@[simp] theorem aside_choose (s : State) (id g : Nat) (hP : Traffic P) :
    aside P (choose s id g) = aside P s := by
  simp only [choose]
  (repeat' split) <;> simp [hP, hP.all]
@[simp] theorem aside_sendCopies (s : State) (id : Nat) (f : Frame) (ports : List Nat) (hP : Traffic P) :
    aside P (sendCopies s id f ports) = aside P s := by
  simp [sendCopies, hP, hP.all]
@[simp] theorem aside_replicate (s : State) (id t : Nat) (hP : Traffic P) :
    aside P (replicate s id t) = aside P s := by
  simp only [replicate]
  (repeat' split) <;> simp [hP, hP.all]
@[simp] theorem aside_floodFrame (s : State) (id : Nat) (f : Frame) (hP : Traffic P) :
    aside P (floodFrame s id f) = aside P s := by
  simp [floodFrame, hP, hP.all]
@[simp] theorem aside_bridgeForward (s : State) (id : Nat) (failed : Bool) (hP : Traffic P) :
    aside P (bridgeForward s id failed) = aside P s := by
  simp only [bridgeForward]
  (repeat' split) <;> simp [hP, hP.all]
@[simp] theorem aside_learnHit (s : State) (f : Frame) (way : Nat × Nat × Bool) (ten mac src : Nat) (hP : Traffic P) :
    aside P (learnHit s f way ten mac src) = aside P s := by
  simp [learnHit, hP.all]
@[simp] theorem aside_bridge (s : State) (id : Nat) (hP : Traffic P) :
    aside P (bridge s id) = aside P s := by
  simp only [bridge]
  (repeat' split) <;> simp [hP, hP.all]
@[simp] theorem aside_enqueueRequest (s : State) (r : Request) (h1100 : P (.obj 0x1100) = true)
    (hrequests : P .requests = true) :
    aside P (enqueueRequest s r) = aside P s := by
  unfold enqueueRequest
  rw [aside_raiseTo P _ _ _ h1100]
  exact aside_eq P s rfl (by simp [aside, hrequests])
@[simp] theorem aside_localWhole (s : State) (id : Nat) (hP : Traffic P) :
    aside P (localWhole s id) = aside P s := by
  unfold localWhole
  split <;> simp [hP, hP.all]
@[simp] theorem aside_deliverLocal (s : State) (id : Nat) (hP : Traffic P) :
    aside P (deliverLocal s id) = aside P s := by
  unfold deliverLocal
  split <;> simp [hP, hP.all]
@[simp] theorem aside_lookup (s : State) (id : Nat) (hP : Traffic P) :
    aside P (lookup s id) = aside P s := by
  unfold lookup
  split <;> simp [hP, hP.all]
@[simp] theorem aside_originate (s : State) (facet : Nat) (h : Block) (blocks : List Block)
    (owner : Nat := 0xFFFFFFFF) (hP : Traffic P) :
    aside P (originate s facet h blocks owner) = aside P s := by
  simp [originate, hP, hP.all]
@[simp] theorem aside_sendNotify (s : State) (facet : Nat) (h : Block) (blocks : List Block) (hP : Traffic P)
    (h0902 : P (.obj 0x0902) = true) :
    aside P (sendNotify s facet h blocks) = aside P s := by
  simp [sendNotify, hP, hP.all, h0902]
@[simp] theorem aside_releaseSlot (s : State) (g slot : Nat) (hP : Traffic P) :
    aside P (releaseSlot s g slot) = aside P s := by
  refine aside_foldl P s _ (fun s facet => ?_) _
  simp [hP, hP.all]
@[simp] theorem aside_releaseIfFree (s : State) (g slot : Nat) (hP : Traffic P) :
    aside P (releaseIfFree s g slot) = aside P s := by
  simp [releaseIfFree, hP]
@[simp] theorem aside_releaseLists (s : State) (hP : Traffic P) :
    aside P (releaseLists s) = aside P s := by
  simp [releaseLists, hP]
@[simp] theorem aside_moveSlot (s : State) (g slot p : Nat) (window : Bool) (hP : Traffic P) :
    aside P (moveSlot s g slot p window) = aside P s := by
  unfold moveSlot
  extract_lets i s1 s2
  have h2 : aside P s2 = aside P s := by simp [s2, s1, hP.all]
  rw [aside_foldl P s2 _ (fun s facet => by simp [hP.all]) _, h2]
@[simp] theorem aside_reassign (s : State) (g : Nat) (pick : Nat → Bool) (hP : Traffic P) :
    aside P (reassign s g pick).1 = aside P s := by
  refine aside_foldl_fst P _ (fun r x => ?_) _ _
  dsimp only
  split <;> simp [hP]
@[simp] theorem aside_repinLost (s : State) (p : Nat) (hP : Traffic P) :
    aside P (repinLost s p) = aside P s := by
  simp [repinLost, hP, hP.all]
@[simp] theorem aside_groupsLose (before s : State) (ports : List Nat) (hP : Traffic P) :
    aside P (groupsLose before s ports) = aside P s := by
  unfold groupsLose
  extract_lets s1 s2
  have h1 : aside P s1 = aside P s := by simp [s1, hP]
  have h2 : aside P s2 = aside P s1 := aside_foldl P s1 _ (fun s p => by simp [hP.all]) _
  simp [hP, hP.all, h2, h1]
@[simp] theorem aside_groupsGainPort (s : State) (p : Nat) (hP : Traffic P) :
    aside P (groupsGainPort s p) = aside P s := by
  simp [groupsGainPort, hP]

/-! ## The transmit side of a port -/

@[simp] theorem aside_setDrain (s : State) (k : Nat) (d : DrainRun) (hforward : P .forward = true) :
    aside P (setDrain s k d) = aside P s := by
  simp [setDrain, hforward]

/-! ## What happens to a port that stops -/

@[simp] theorem aside_flushPort (s : State) (p : Nat) (hP : Traffic P) :
    aside P (flushPort s p) = aside P s := by
  simp [flushPort, hP]
@[simp] theorem aside_loseUnacked (s : State) (p : Nat) (hP : Traffic P) :
    aside P (loseUnacked s p) = aside P s := by
  unfold loseUnacked
  extract_lets l open_ gone s1 s2
  have h1 : aside P s1 = aside P s := by simp [s1, hP.all]
  have h2 : aside P s2 = aside P s1 := aside_foldl P _ _ (fun s e => by split <;> simp [hP, hP.all]) _
  simp [h2, h1, hP]
@[simp] theorem aside_stopLink (s : State) (p : Nat) (hP : Traffic P) (h0300 : P (.obj 0x0300) = true) :
    aside P (stopLink s p) = aside P s := by
  simp [stopLink, hP, hP.all, h0300]
@[simp] theorem aside_beginDown (reason : Nat) (s : State) (p : Nat) (hP : Traffic P) (h0300 : P (.obj 0x0300) = true)
    :
    aside P (beginDown reason s p) = aside P s := by
  simp [beginDown, hP, hP.all, h0300]
@[simp] theorem aside_portsDown (s : State) (ports : List Nat) (reason : Nat) (hP : Traffic P)
    (h0300 : P (.obj 0x0300) = true) :
    aside P (portsDown s ports reason) = aside P s := by
  simp [portsDown, hP, hP.all, h0300]
@[simp] theorem aside_leaveService (s : State) (p : Nat) (hP : Traffic P) (h0300 : P (.obj 0x0300) = true) :
    aside P (leaveService s p) = aside P s := by
  simp [leaveService, hP, hP.all, h0300]
@[simp] theorem aside_releaseHeldPorts (s : State) (ports : List Nat) (hP : Traffic P) :
    aside P (releaseHeldPorts s ports) = aside P s := by
  simp [releaseHeldPorts, hP, hP.all]
@[simp] theorem aside_dropTapTransfers (s : State) (feed : Nat) (hP : Traffic P) :
    aside P (dropTapTransfers s feed) = aside P s := by
  refine aside_foldl P _ _ (fun s e => ?_) _
  split <;> simp [hP, hP.all]

/-! ## Links -/

@[simp] theorem aside_attemptFail (p reason : Nat) (s : State) (h0F00 : P (.obj 0x0F00) = true)
    (hlinks : P .links = true) (h0300 : P (.obj 0x0300) = true) (hTrainFail : P (.record Code.TRAIN_FAIL) = true) :
    aside P (attemptFail p reason s) = aside P s := by
  simp [attemptFail, h0F00, hlinks, h0300, hTrainFail]
@[simp] theorem aside_doTrainTimeout (p : Nat) (s : State) (h0F00 : P (.obj 0x0F00) = true) (hlinks : P .links = true)
    (h0300 : P (.obj 0x0300) = true) (hTrainFail : P (.record Code.TRAIN_FAIL) = true) :
    aside P (doTrainTimeout p s) = aside P s := by
  simp [doTrainTimeout, h0F00, hlinks, h0300, hTrainFail]
@[simp] theorem aside_sendStream (p w x : Nat) (s : State) (hlinks : P .links = true) :
    aside P (sendStream p w x s) = aside P s := by
  unfold sendStream
  extract_lets t y n v left words mask s1
  have h1 : aside P s1 = aside P s := aside_modLink s hlinks ..
  split <;> simp [h1]
@[simp] theorem aside_putFlit (p : Nat) (f : Flit) (s : State) (hlinks : P .links = true) :
    aside P (putFlit p f s) = aside P s := by
  simp [putFlit, hlinks]

/-! ## Light, Lanes and Feeds -/

@[simp] theorem aside_setFeedInput (s : State) (feed input : Nat) (x : FeedInput) (hlight : P .light = true) :
    aside P (setFeedInput s feed input x) = aside P s := by
  simp [setFeedInput, hlight]
@[simp] theorem aside_setMigration (s : State) (feed : Nat) (m : Migration) (hlight : P .light = true) :
    aside P (setMigration s feed m) = aside P s := by
  simp [setMigration, hlight]
@[simp] theorem aside_clearFail (s : State) (feed input : Nat) (hlight : P .light = true) :
    aside P (clearFail s feed input) = aside P s := by
  simp [clearFail, hlight]
@[simp] theorem aside_updateStandby (feed : Nat) (s : State) (h0201 : P (.obj 0x0201) = true) :
    aside P (updateStandby feed s) = aside P s := by
  simp [updateStandby, h0201]
@[simp] theorem aside_updateFau (a : Nat) (s : State) (h0200 : P (.obj 0x0200) = true) :
    aside P (updateFau a s) = aside P s := by
  simp [updateFau, h0200]
@[simp] theorem aside_reinstatePorts (ports : List Nat) (s : State) (hP : Traffic P) :
    aside P (reinstatePorts ports s) = aside P s := by
  simp [reinstatePorts, hP, hP.all]
@[simp] theorem aside_noteLit (g : Nat) (s : State) (hlight : P .light = true) :
    aside P (noteLit g s) = aside P s := by
  simp [noteLit, hlight]
@[simp] theorem aside_setFeedState (feed v : Nat) (s : State) (hO : Optics P) :
    aside P (setFeedState feed v s) = aside P s := by
  simp [setFeedState, hO.all]
@[simp] theorem aside_openPairs (feed : Nat) (s : State) (h0205 : P (.obj 0x0205) = true) (hlight : P .light = true) :
    aside P (openPairs feed s) = aside P s := by
  simp [openPairs, h0205, hlight]
@[simp] theorem aside_parkFeedRings (s : State) (feed : Nat) (h0203 : P (.obj 0x0203) = true) :
    aside P (parkFeedRings s feed) = aside P s := by
  refine aside_foldl P s _ (fun s p => ?_) _
  simp [h0203]
@[simp] theorem aside_announceDark (feed : Nat) (s : State) (hP : Traffic P) (h0205 : P (.obj 0x0205) = true)
    (h0300 : P (.obj 0x0300) = true) :
    aside P (announceDark feed s) = aside P s := by
  simp [announceDark, hP, hP.all, h0205, h0300]
@[simp] theorem aside_switchFeed (feed : Nat) (drained flushed : Bool) (s : State) (hP : Traffic P) (hO : Optics P)
    (h0300 : P (.obj 0x0300) = true) :
    aside P (switchFeed feed drained flushed s) = aside P s := by
  simp [switchFeed, hP, hP.all, hO, hO.all, h0300]
@[simp] theorem aside_endBlocked (feed result : Nat) (s : State) (hO : Optics P) :
    aside P (endBlocked feed result s) = aside P s := by
  simp [endBlocked, hO, hO.all]
@[simp] theorem aside_judgeDark (feed : Nat) (s : State) (hO : Optics P) :
    aside P (judgeDark feed s) = aside P s := by
  simp [judgeDark, hO, hO.all]
@[simp] theorem aside_feedFail (feed : Nat) (s : State) (hP : Traffic P) (hO : Optics P)
    (h0300 : P (.obj 0x0300) = true) (hFadeFail : P (.record Code.FADE_FAIL) = true) :
    aside P (feedFail feed s) = aside P s := by
  simp [feedFail, hP, hP.all, hO, hO.all, h0300, hFadeFail]
@[simp] theorem aside_standbyLost (feed : Nat) (s : State) (hP : Traffic P) (hO : Optics P)
    (h0300 : P (.obj 0x0300) = true) (hFadeFail : P (.record Code.FADE_FAIL) = true) :
    aside P (standbyLost feed s) = aside P s := by
  simp [standbyLost, hP, hO, h0300, hFadeFail]
@[simp] theorem aside_standbyOut (feed : Nat) (s : State) (hP : Traffic P) (hO : Optics P)
    (h0300 : P (.obj 0x0300) = true) (hFadeFail : P (.record Code.FADE_FAIL) = true) :
    aside P (standbyOut feed s) = aside P s := by
  simp [standbyOut, hP, hO, hO.all, h0300, hFadeFail]
@[simp] theorem aside_doClsDisable (n : Nat) (s : State) (hP : Traffic P) (hO : Optics P)
    (h0204 : P (.obj 0x0204) = true) (h0300 : P (.obj 0x0300) = true) (hFadeFail : P (.record Code.FADE_FAIL) = true)
    :
    aside P (doClsDisable n s) = aside P s := by
  simp [doClsDisable, hP, hO, hO.all, h0204, h0300, hFadeFail]

/-! ## The Solid -/

@[simp] theorem aside_countTransfer (s : State) (f : Frame) (sel : Nat) (h0F00 : P (.obj 0x0F00) = true) :
    aside P (countTransfer s f sel) = aside P s := by
  simp [countTransfer, h0F00]
@[simp] theorem aside_loseTransfer (s : State) (id : Nat) (hP : Traffic P) :
    aside P (loseTransfer s id) = aside P s := by
  unfold loseTransfer
  split <;> simp [hP, hP.all]
@[simp] theorem aside_doVertexOut (v : Nat) (s : State) (hP : Traffic P) (h0300 : P (.obj 0x0300) = true)
    (hlattice : P .lattice = true) :
    aside P (doVertexOut v s) = aside P s := by
  simp [doVertexOut, hP, hP.all, h0300, hlattice]
@[simp] theorem aside_downPairs (s : State) (g : Nat) (h0103 : P (.obj 0x0103) = true)
    (hLatticeDown : P (.record Code.LATTICE_DOWN) = true) :
    aside P (downPairs s g) = aside P s := by
  simp [downPairs, h0103, hLatticeDown]
@[simp] theorem aside_facetOut (g : Nat) (s : State) (hP : Traffic P) (h0103 : P (.obj 0x0103) = true)
    (h0300 : P (.obj 0x0300) = true) (hLatticeDown : P (.record Code.LATTICE_DOWN) = true)
    (hlattice : P .lattice = true) :
    aside P (facetOut g s) = aside P s := by
  simp [facetOut, hP, hP.all, h0103, h0300, hLatticeDown, hlattice]

/-! ## Teams -/

@[simp] theorem aside_pendNotice (s : State) (n : Notice) (hcoll : P .coll = true) :
    aside P (pendNotice s n) = aside P s := by
  simp [pendNotice, hcoll]
@[simp] theorem aside_sendTeamNotify (s : State) (facet t entry cause gen chunk missing tries : Nat) (hP : Traffic P)
    (h0902 : P (.obj 0x0902) = true) (h0A00 : P (.obj 0x0A00) = true) :
    aside P (sendTeamNotify s facet t entry cause gen chunk missing tries) = aside P s := by
  simp [sendTeamNotify, hP, h0902, h0A00]
@[simp] theorem aside_sendDue (facet : Nat) (s : State) (d : Due) (hP : Traffic P) (h0902 : P (.obj 0x0902) = true)
    (h0A00 : P (.obj 0x0A00) = true) (hcoll : P .coll = true) :
    aside P (sendDue facet s d) = aside P s := by
  unfold sendDue
  (repeat' split) <;> simp [hP, h0902, h0A00, hcoll]
@[simp] theorem aside_flushNotices (s : State) (facet : Nat) (hP : Traffic P) (h0902 : P (.obj 0x0902) = true)
    (h0A00 : P (.obj 0x0A00) = true) (hcoll : P .coll = true) :
    aside P (flushNotices s facet) = aside P s := by
  simp [flushNotices, hP, h0902, h0A00, hcoll]
@[simp] theorem aside_flushAllNotices (s : State) (hP : Traffic P) (h0902 : P (.obj 0x0902) = true)
    (h0A00 : P (.obj 0x0A00) = true) (hcoll : P .coll = true) :
    aside P (flushAllNotices s) = aside P s := by
  simp [flushAllNotices, hP, h0902, h0A00, hcoll]
@[simp] theorem aside_keepReopens (s : State) (t j : Nat) (hcoll : P .coll = true) :
    aside P (keepReopens s t j) = aside P s := by
  simp [keepReopens, hcoll]
@[simp] theorem aside_dropWork (s : State) (t j : Nat) (hP : Traffic P) (hcoll : P .coll = true) :
    aside P (dropWork s t j) = aside P s := by
  simp [dropWork, hP, hcoll]
@[simp] theorem aside_noteIdle (s : State) (t j : Nat) (hcoll : P .coll = true) :
    aside P (noteIdle s t j) = aside P s := by
  simp [noteIdle, hcoll]
@[simp] theorem aside_reopenChunk (s : State) (t j : Nat) (hP : Traffic P) (h0A00 : P (.obj 0x0A00) = true)
    (hcoll : P .coll = true) :
    aside P (reopenChunk s t j) = aside P s := by
  simp [reopenChunk, hP, hP.all, h0A00, hcoll]
@[simp] theorem aside_loseOutput (s : State) (t j : Nat) (hcoll : P .coll = true) :
    aside P (loseOutput s t j) = aside P s := by
  simp [loseOutput, hcoll]
@[simp] theorem aside_loseSlot (s : State) (t j : Nat) (hP : Traffic P) (h0A00 : P (.obj 0x0A00) = true)
    (hcoll : P .coll = true) :
    aside P (loseSlot s t j).1 = aside P s := by
  simp only [loseSlot]
  (repeat' split) <;> simp [hP, h0A00, hcoll]
@[simp] theorem aside_recordReopened (s : State) (t n : Nat) (hTeamReopened : P (.record Code.TEAM_REOPENED) = true) :
    aside P (recordReopened s t n) = aside P s := by
  simp [recordReopened, hTeamReopened]
@[simp] theorem aside_killTeam (s : State) (t st : Nat) (hP : Traffic P) (h0902 : P (.obj 0x0902) = true)
    (h0A00 : P (.obj 0x0A00) = true) (hcoll : P .coll = true) :
    aside P (killTeam s t st) = aside P s := by
  simp [killTeam, hP, h0902, h0A00, hcoll]
@[simp] theorem aside_failTeam (s : State) (t : Nat) (hP : Traffic P) (h0902 : P (.obj 0x0902) = true)
    (h0A00 : P (.obj 0x0A00) = true) (hTeamFailed : P (.record Code.TEAM_FAILED) = true) (hcoll : P .coll = true) :
    aside P (failTeam s t) = aside P s := by
  simp [failTeam, hP, h0902, h0A00, hTeamFailed, hcoll]
@[simp] theorem aside_rehomeTeam (g : Nat) (r : State × Nat) (t : Nat) (hP : Traffic P)
    (h0902 : P (.obj 0x0902) = true) (h0A00 : P (.obj 0x0A00) = true) (hcoll : P .coll = true)
    (hTeamFailed : P (.record Code.TEAM_FAILED) = true) (hTeamReopened : P (.record Code.TEAM_REOPENED) = true) :
    aside P (rehomeTeam g r t).1 = aside P r.1 := by
  unfold rehomeTeam
  extract_lets s x fs moved
  split
  · exact aside_modTeam P _ _ _ hcoll
  split
  · simp [hP, h0902, h0A00, hcoll, hTeamFailed, s]
  extract_lets s1 c
  have hc : aside P c.1 = aside P s1 := aside_foldl_fst P _ (fun r j => by simp [hP, h0A00, hcoll]) _ _
  simp [hc, s1, s, hcoll, hTeamReopened]
@[simp] theorem aside_reholdTeams (s : State) (htwin : P .twin = true) :
    aside P (reholdTeams s) = aside P s := by
  simp [reholdTeams, htwin]
@[simp] theorem aside_loseHome (s : State) (g : Nat) (hP : Traffic P) (h0902 : P (.obj 0x0902) = true)
    (h0A00 : P (.obj 0x0A00) = true) (hHomeMoved : P (.record Code.HOME_MOVED) = true)
    (hTeamFailed : P (.record Code.TEAM_FAILED) = true) (hTeamReopened : P (.record Code.TEAM_REOPENED) = true)
    (hcoll : P .coll = true) (htwin : P .twin = true) :
    aside P (loseHome s g) = aside P s := by
  unfold loseHome
  extract_lets s1 r s2
  have h1 : aside P s1 = aside P s := by simp [s1, htwin]
  have hr : aside P r.1 = aside P s1 :=
    aside_foldl_fst P _ (fun r t => by simp [hP, h0902, h0A00, hcoll, hTeamFailed, hTeamReopened]) _ _
  simp [s2, hr, h1, hP, h0902, h0A00, hcoll, hHomeMoved]

/-! ## Teams -/

@[simp] theorem aside_doFacetOut (g : Nat) (s : State) (hP : Traffic P) (h0103 : P (.obj 0x0103) = true)
    (h0300 : P (.obj 0x0300) = true) (h0902 : P (.obj 0x0902) = true) (h0A00 : P (.obj 0x0A00) = true)
    (hHomeMoved : P (.record Code.HOME_MOVED) = true) (hLatticeDown : P (.record Code.LATTICE_DOWN) = true)
    (hTeamFailed : P (.record Code.TEAM_FAILED) = true) (hTeamReopened : P (.record Code.TEAM_REOPENED) = true)
    (hcoll : P .coll = true) (hlattice : P .lattice = true) (htwin : P .twin = true) :
    aside P (doFacetOut g s) = aside P s := by
  simp [doFacetOut, hP, h0103, h0300, h0902, h0A00, hHomeMoved, hLatticeDown, hTeamFailed, hTeamReopened, hcoll,
    hlattice, htwin]

/-! ## Vet checks -/

@[simp] theorem aside_setVet (s : State) (u : Nat) (r : VetRun) (hvets : P .vets = true) :
    aside P (setVet s u r) = aside P s := by
  simp [setVet, hvets]
@[simp] theorem aside_abortVet (u cause : Nat) (s : State) (h1001 : P (.obj 0x1001) = true) (hvets : P .vets = true) :
    aside P (abortVet u cause s) = aside P s := by
  unfold abortVet
  split <;> simp [h1001, hvets]
@[simp] theorem aside_abortFacet (f cause : Nat) (s : State) (h1001 : P (.obj 0x1001) = true) (hvets : P .vets = true)
    :
    aside P (abortFacet f cause s) = aside P s := by
  simp [abortFacet, h1001, hvets]
@[simp] theorem aside_doFacetLeaves (g : Nat) (s : State) (hP : Traffic P) (h0103 : P (.obj 0x0103) = true)
    (h0300 : P (.obj 0x0300) = true) (h0902 : P (.obj 0x0902) = true) (h0A00 : P (.obj 0x0A00) = true)
    (h1001 : P (.obj 0x1001) = true) (hHomeMoved : P (.record Code.HOME_MOVED) = true)
    (hLatticeDown : P (.record Code.LATTICE_DOWN) = true) (hTeamFailed : P (.record Code.TEAM_FAILED) = true)
    (hTeamReopened : P (.record Code.TEAM_REOPENED) = true) (hcoll : P .coll = true) (hlattice : P .lattice = true)
    (htwin : P .twin = true) (hvets : P .vets = true) :
    aside P (doFacetLeaves g s) = aside P s := by
  simp [doFacetLeaves, hP, h0103, h0300, h0902, h0A00, h1001, hHomeMoved, hLatticeDown, hTeamFailed, hTeamReopened,
    hcoll, hlattice, htwin, hvets]
end

end Sys2Proof.Machine

/-! # Ports that go down, and units out of service (O5) -/

namespace Sys2Proof.Machine

/-- Counting writes banks alone. -/
@[simp] theorem rd_countPort (s : State) (p sel : Nat) {a : Addr} (ha : a.obj ≠ 0x0F00) :
    rd (countPort s p sel) a = rd s a :=
  rd_of_besides (kept := [.obj a.obj]) (aside_countPort _ _ _ _ (by simp [ha.symm])) (by simp)

/-! ## The elements of a port that stops -/

theorem rd_stopLink (s : State) (p : Nat) {a : Addr} (ha : a.obj = 0x0300) :
    rd (stopLink s p) a = if a = Reg.PORT_STATE p ∨ a = Reg.PORT_TXMASK p ∨ a = Reg.PORT_RXMASK p ∨
      a = Reg.PORT_FLIT_RATE p then 0 else rd s a := by
  set u := wr (wr (wr (wr s (Reg.PORT_STATE p) 0) (Reg.PORT_TXMASK p) 0) (Reg.PORT_RXMASK p) 0)
    (Reg.PORT_FLIT_RATE p) 0 with hu
  have hrest : aside (besides [.obj 0x0300]) (stopLink s p) = aside (besides [.obj 0x0300]) u := by
    simp [stopLink, ← hu]
  rw [rd_of_besides hrest (by simp [ha]), hu]
  simp only [rd_wr]
  split_ifs <;> simp_all

/-- What `beginDown` writes of a port's elements; a port that is down already is left as it is. -/
theorem rd_beginDown (reason : Nat) (s : State) (p : Nat) {a : Addr} (ha : a.obj = 0x0300) :
    rd (beginDown reason s p) a =
      if rd s (Reg.PORT_STATE p) = 0 then rd s a
      else if a = Reg.PORT_STATE p then 0
      else if a = Reg.PORT_DOWN_REASON p then reason
      else if rd s (Reg.PORT_STATE p) ≤ 4 then rd s a
      else if a = Reg.PORT_TXMASK p ∨ a = Reg.PORT_RXMASK p ∨ a = Reg.PORT_FLIT_RATE p then 0
      else if a = Reg.PORT_DOWNS p then (rd s (Reg.PORT_DOWNS p) + 1) % 2 ^ 32
      else rd s a := by
  unfold beginDown
  extract_lets st u v
  by_cases hdown : st = 0
  · rw [if_pos hdown, if_pos hdown]
  by_cases hidle : st ≤ 4
  · rw [if_neg hdown, if_pos hidle, if_neg hdown, if_pos hidle]
    simp only [u, rd_wr, rd_modLink]
    split_ifs <;> simp_all
  · rw [if_neg hdown, if_neg hidle, if_neg hdown, if_neg hidle, rd_countPort _ _ _ (by simp [ha])]
    simp only [v, rd_inc, rd_wr, rd_stopLink _ _ ha, rd_stopLink _ _ (a := Reg.PORT_DOWNS p) rfl]
    split_ifs <;> simp_all

theorem rd_beginDown_other (reason : Nat) (s : State) (p : Nat) {a : Addr} (ha : a.obj = 0x0300) (hne : a.inst ≠ p) :
    rd (beginDown reason s p) a = rd s a := by
  have hreg (el : Nat) : a ≠ ⟨0x0300, p, el⟩ := fun h => hne (by rw [h])
  rw [rd_beginDown reason s p ha]
  simp [hreg]

/-- The elements of ports after `portsDown` are those `beginDown` leaves: what follows writes none. -/
theorem rd_portsDown (s : State) (ports : List Nat) (reason : Nat) {a : Addr} (ha : a.obj = 0x0300) :
    rd (portsDown s ports reason) a = rd (ports.foldl (beginDown reason) s) a := by
  refine rd_of_besides (kept := [.obj 0x0300]) ?_ (by simp [ha])
  simp [portsDown]

theorem rd_foldl_beginDown_other (reason : Nat) (ports : List Nat) (s : State) {a : Addr} (ha : a.obj = 0x0300)
    (hne : a.inst ∉ ports) : rd (ports.foldl (beginDown reason) s) a = rd s a :=
  List.foldlRecOn (motive := fun t => rd t a = rd s a) ports _ rfl fun t ht p hp =>
    (rd_beginDown_other reason t p ha fun h => hne (h ▸ hp)).trans ht

theorem portState_foldl_beginDown (reason : Nat) (ports : List Nat) (s : State) (p : Nat) :
    rd (ports.foldl (beginDown reason) s) (Reg.PORT_STATE p) = if p ∈ ports then 0 else rd s (Reg.PORT_STATE p) := by
  induction ports generalizing s with
  | nil => rfl
  | cons q qs ih =>
    rw [List.foldl_cons, ih, rd_beginDown reason s q rfl]
    by_cases hpq : p = q
    · subst hpq
      split_ifs <;> simp_all
    · simp [hpq]

/-- R117: every port taken down is out of every state. -/
theorem portState_portsDown (s : State) (ports : List Nat) (reason p : Nat) :
    rd (portsDown s ports reason) (Reg.PORT_STATE p) = if p ∈ ports then 0 else rd s (Reg.PORT_STATE p) :=
  (rd_portsDown s ports reason rfl).trans (portState_foldl_beginDown ..)

theorem portUp_of_state {s : State} {p : Nat} (h : rd s (Reg.PORT_STATE p) = 0) : portUp s p = false := by
  simp [portUp, h]

/-! ## A facet, and a vertex -/

/-- What one element of a list brings about, and every other keeps, holds after the whole list. -/
theorem foldl_establishes {α β : Type} {Q : β → Prop} {f : β → α → β} (hkeep : ∀ s x, Q s → Q (f s x))
    {l : List α} {x : α} (hx : x ∈ l) (hset : ∀ s, Q (f s x)) (s : β) : Q (l.foldl f s) := by
  induction l generalizing s with
  | nil => exact absurd hx List.not_mem_nil
  | cons y ys ih =>
    rcases List.mem_cons.mp hx with rfl | hx
    · exact List.foldlRecOn (motive := Q) ys f (hset s) fun t ht z _ => hkeep t z ht
    · exact ih hx (f s y)

/-- R38: both pairs between the facet and another go DOWN. -/
theorem rd_downPairs (s : State) {g x y : Nat} (hx : x < 8) (hxg : x ≠ g) (hy : y = g * 8 + x ∨ y = x * 8 + g) :
    rd (downPairs s g) (Reg.LATTICE_STATE y) = 2 := by
  refine foldl_establishes (Q := fun t => rd t (Reg.LATTICE_STATE y) = 2) (fun t z ht => ?_) (List.mem_range.mpr hx)
    (fun t => ?_) s
  · dsimp only
    split_ifs <;> simp [rd_wr, ht]
  · rw [if_neg hxg]
    rcases hy with rfl | rfl <;> split <;> simp [rd_wr]

/-- What a facet taken out leaves written, after the frames on their way are gone (R38). -/
theorem facetOut_spec (g : Facet) (s : State) (h : g.val ∉ s.lattice.outFacets) :
    g.val ∈ (facetOut g s).lattice.outFacets ∧
      (∀ x : Facet, g ≠ x → rd (facetOut g s) (Reg.LATTICE_STATE (g * 8 + x)) = 2 ∧
        rd (facetOut g s) (Reg.LATTICE_STATE (x * 8 + g)) = 2) ∧
      ∀ i, i < 256 → rd (facetOut g s) (Reg.PORT_STATE (g * 256 + i)) = 0 := by
  unfold facetOut
  extract_lets before removed s2 s3 s4
  rw [if_neg (by simpa using h)]
  set kept : List Piece := [.obj 0x0300, .obj 0x0103, .lattice] with hkept
  have hend : aside (besides kept) (unitRefresh before ((framesWhere s4 (facetWaits g)).foldl loseTransfer s4)) =
      aside (besides kept) s4 := by simp [hkept]
  have hpairs : aside (besides [.obj 0x0300, .lattice]) s4 = aside (besides [.obj 0x0300, .lattice]) s3 := by
    simp [s4]
  have hports : aside (besides [.lattice]) s3 = aside (besides [.lattice]) s2 := by
    simp [s3]
  refine ⟨?_, fun x hx => ⟨?_, ?_⟩, fun i hi => ?_⟩
  · rw [lattice_of_aside hend (by simp [hkept]), lattice_of_aside hpairs (by simp), lattice_of_aside hports (by simp)]
    simp [s2]
  · rw [rd_of_besides hend (by simp [hkept])]
    exact rd_downPairs s3 x.isLt (fun h => hx (Fin.ext h.symm)) (.inl rfl)
  · rw [rd_of_besides hend (by simp [hkept])]
    exact rd_downPairs s3 x.isLt (fun h => hx (Fin.ext h.symm)) (.inr rfl)
  · rw [rd_of_besides hend (by simp [hkept]), rd_of_besides hpairs (by simp)]
    exact (portState_portsDown ..).trans (if_pos (List.mem_map.mpr ⟨i, List.mem_range.mpr hi, rfl⟩))

/-- Settles O5: the unit is marked and its pairs and ports go down; what follows writes none of these. -/
theorem unitsOutOfService : Obligations.UnitsOutOfService := by
  unfold Obligations.UnitsOutOfService
  refine ⟨fun g x s hgx hin => ?_, fun v s hin => ?_⟩
  · obtain ⟨hmark, hpairs, hports⟩ := facetOut_spec g s hin
    have hleaves : doFacetLeaves g s = abortFacet g 3 (loseHome (facetOut g s) g) := by
      simp [doFacetLeaves, doFacetOut, hin]
    have hrest : aside (besides [.obj 0x0300, .obj 0x0103, .lattice]) (doFacetLeaves g s) =
        aside (besides [.obj 0x0300, .obj 0x0103, .lattice]) (facetOut g s) := by
      simp [hleaves]
    refine ⟨doFacetLeaves g s, rfl, ?_, ?_, ?_, fun i hi => portUp_of_state ?_⟩
    · rwa [lattice_of_aside hrest (by simp)]
    · rw [rd_of_besides hrest (by simp)]; exact (hpairs x hgx).1
    · rw [rd_of_besides hrest (by simp)]; exact (hpairs x hgx).2
    · rw [rd_of_besides hrest (by simp)]; exact hports i hi
  · have hout : doVertexOut v s = portsDown (unitRefresh s (modLattice s (fun l => { l with
        outVertices := l.outVertices ++ [v.val] }))) ((List.range 16).map (fun i => v * 16 + i)) 10 := by
      simp [doVertexOut, hin]
    have hrest : aside (besides [.lattice]) (doVertexOut v s) =
        aside (besides [.lattice]) (modLattice s (fun l => { l with outVertices := l.outVertices ++ [v.val] })) := by
      simp [hout]
    refine ⟨doVertexOut v s, rfl, ?_, fun i hi => portUp_of_state ?_⟩
    · rw [lattice_of_aside hrest (by simp)]
      simp
    · rw [hout]
      exact (portState_portsDown ..).trans (if_pos (List.mem_map.mpr ⟨i, List.mem_range.mpr hi, rfl⟩))

end Sys2Proof.Machine

/-! # Ring locks (O6) -/

namespace Sys2Proof.Machine

theorem doRingCountStart_counts {r : Nat} {s : State} (hstate : rd s (Reg.RING_STATE r) = 1)
    (hlight : busLight s r = true) (hturn : rowTurn s r = true)
    (hroom : (ringsIn s 2).length + ((ringsIn s 1).filter (fun q => decide (q < r) && wantsCount s q)).length <
      rd s Reg.OPTICS_SWEEP_MAX) :
    doRingCountStart r s = wr s (Reg.RING_STATE r) 2 := by
  have hwants : wantsCount s r = true := by simp [wantsCount, hstate, hlight, hturn]
  exact if_pos ⟨hwants, hroom⟩

theorem doRingLineReached_locks {r h : Nat} {s : State} (hstate : rd s (Reg.RING_STATE r) = 2)
    (hfirst : Tab.get false s.light.recount r = false) :
    doRingLineReached r h s =
      wr (wr (wr s (Reg.RING_STATE r) 3) (Reg.RING_HEATER r) h) (Reg.RING_LOCK_ERR r) 0 := by
  simp [doRingLineReached, hstate, hfirst]

/-- Settles O6: each clause is one branch of the lock state machine (R53 to R56). -/
theorem ringLocks : Obligations.RingLocks := by
  unfold Obligations.RingLocks
  refine ⟨fun r s hstate hlight hturn hroom => next_eq (doRingCountStart_counts hstate hlight hturn hroom),
    fun r h s hstate hfirst => next_eq (doRingLineReached_locks hstate hfirst),
    fun r s hstate => finish_eq (if_pos hstate),
    fun r s hstate => finish_eq ((if_pos hstate).trans (if_pos rfl)),
    fun l m s => rfl⟩

end Sys2Proof.Machine

/-! # Light source modules (O8) -/

namespace Sys2Proof.Machine

/-- What a module's loss does to the feeds it serves writes none of the modules' elements. -/
theorem rd_foldl_feedLoss (f g : State → Nat → State)
    (hf : ∀ s x, aside (besides [.obj 0x0204]) (f s x) = aside (besides [.obj 0x0204]) s)
    (hg : ∀ s x, aside (besides [.obj 0x0204]) (g s x) = aside (besides [.obj 0x0204]) s)
    (l : List (Nat × Nat)) (s : State) {a : Addr} (ha : a.obj = 0x0204) :
    rd (l.foldl (fun s x => if rd s (Reg.FEED_SELECTED x.1) = x.2 then f s x.1 else g s x.1) s) a = rd s a :=
  rd_of_besides (kept := [.obj 0x0204])
    (aside_foldl _ s _ (fun s x => by split; exacts [hf .., hg ..]) l) (by simp [ha])

theorem rd_dropCls (n latch : Nat) (s : State) {a : Addr} (ha : a.obj = 0x0204) :
    rd (dropCls n latch s) a =
      if a = Reg.CLS_LATCH n then latch else if a = Reg.CLS_EN_STATE n then 0 else rd s a := by
  unfold dropCls
  extract_lets u v
  rw [rd_foldl_feedLoss (fun s x => feedFail x s) (fun s x => standbyOut x s)
    (fun s x => by simp) (fun s x => by simp) _ _ ha]
  simp only [v, u, rd_modLight, rd_wr]

theorem rd_doClsDisable (n : Nat) (s : State) {a : Addr} (ha : a.obj = 0x0204) :
    rd (doClsDisable n s) a =
      if a = Reg.CLS_EN_STATE n then 0 else if a = Reg.CLS_ENABLE n then 0 else rd s a := by
  unfold doClsDisable
  extract_lets u v
  rw [rd_foldl_feedLoss (fun s x => judgeDark x s) (fun s x => standbyOut x s)
    (fun s x => by simp) (fun s x => by simp) _ _ ha]
  simp only [v, u, rd_modLight, rd_wr]

theorem doClsPoll_of_enabled {n id st temp : Nat} {lines : List Int} {s : State} (hup : s.groom.up = true)
    (hen : rd s (Reg.CLS_EN_STATE n) = 1) :
    let m : ClsState := Tab.get {} s.light.modules n
    let m' : ClsState := { answered := true, lines := if lines = [] then m.lines else lines, status := st }
    let u := wr (wr s (Reg.CLS_MODULE_ID n) id) (Reg.CLS_TEMP n) temp
    doClsPoll n id st temp lines s =
      modLight (if m.answered then u else emit u (.clsWrite n 0x50 (rd s (Reg.CLS_SETPOINT n))))
        (fun x => { x with modules := Tab.put {} x.modules n m' }) := by
  intro m m' u
  have hset : rd u (Reg.CLS_SETPOINT n) = rd s (Reg.CLS_SETPOINT n) := by simp [u, rd_wr]
  rw [doClsPoll, if_neg (by simp [hup, hen]), hset.symm]

theorem doClsEnable_asserts {n : Nat} {s : State} (hflt : rd s (Reg.CLS_FLT n) = 0) {a : Addr} (ha : a.obj = 0x0204) :
    rd (doClsEnable n s) a = if a = Reg.CLS_EN_STATE n then 1 else if a = Reg.CLS_LATCH n then 0
      else if a = Reg.CLS_ENABLE n then 1 else rd s a := by
  unfold doClsEnable
  extract_lets u
  have hu (b : Addr) (hb : b.obj = 0x0204) : rd u b = rd s b :=
    rd_of_besides (kept := [.obj 0x0204]) (aside_foldl _ s _ (fun s x => aside_clearFail _ _ _ _ (by simp)) _)
      (by simp [hb])
  simp [assertCls, rd_wr, hu, hflt, ha]

/-- Settles O8: what the loss of a module does to its feeds leaves the modules' elements as they are. -/
theorem lightSourceModules : Obligations.LightSourceModules := by
  unfold Obligations.LightSourceModules
  refine ⟨?poll, ?enable, ?disable, ?timeout, ?fault, ?rise, fun c s => rfl⟩
  case poll =>
    intro c id st temp lines s hup hen
    refine ⟨_, next_eq (doClsPoll_of_enabled hup hen), ?_, ?_, ?_, by simp⟩
    · rw [rd_modLight]; split <;> simp [rd_wr]
    · rw [rd_modLight]; split <;> simp
    · rw [modLight_outputs]; split <;> simp
  case enable =>
    intro c s hup hflt
    exact ⟨doClsEnable c s, finish_eq (written_of_up hup _), by simp [doClsEnable_asserts hflt],
      by simp [doClsEnable_asserts hflt], by simp [doClsEnable_asserts hflt]⟩
  case disable =>
    intro c s hup
    exact ⟨doClsDisable c s, finish_eq (written_of_up hup _), by simp [rd_doClsDisable], by simp [rd_doClsDisable],
      by simp [rd_doClsDisable]⟩
  case timeout =>
    intro c s hen hanswered
    exact ⟨_, finish_eq (if_pos ⟨hen, hanswered⟩), by simp [rd_dropCls], by simp [rd_dropCls], by simp⟩
  case fault =>
    intro c s hen
    refine ⟨raise (dropCls c 2 (wr s (Reg.CLS_FLT c) 1)) Code.CLS_LATCH 9 [], finish_eq (if_pos ?_),
      by simp [rd_dropCls], by simp [rd_dropCls], by simp [rd_dropCls], by simp⟩
    simpa [rd_wr] using hen
  case rise =>
    intro c ds d s hen hmem hd
    have hany : ds.any (fun d => decide (300 < d)) = true := List.any_eq_true.mpr ⟨d, hmem, by simpa using hd⟩
    exact ⟨_, finish_eq (if_pos ⟨hen, hany⟩), by simp [rd_dropCls], by simp [rd_dropCls], by simp⟩

end Sys2Proof.Machine

/-! # Feeds judged (O9) -/

namespace Sys2Proof.Machine

/-! ## The inputs of a module -/

theorem feedInput_setFeedInput (s : State) {f i g j : Nat} (hi : i < 2) (hj : j < 2) (x : FeedInput) :
    feedInput (setFeedInput s f i x) g j = if g = f ∧ j = i then x else feedInput s g j := by
  have hkey : g * 2 + j = f * 2 + i ↔ g = f ∧ j = i := by omega
  simp only [feedInput, setFeedInput, modLight_light, Tab.get_put, hkey]

theorem clsInputs_lt {n : Nat} {y : Nat × Nat} (h : y ∈ clsInputs n) : y.2 < 2 := by
  simp only [clsInputs, List.mem_append, List.mem_map] at h
  rcases h with ⟨k, -, rfl⟩ | ⟨k, -, rfl⟩ <;> simp

/-- With no input of a module fallen, its sample shows neither a lost module nor a break. -/
theorem clsInputs_quiet {s : State} {n : Nat}
    (h : ∀ y ∈ clsInputs n, totalFell (feedInput s y.1 y.2) = false) :
    (clsInputs n).all (fun y => totalFell (feedInput s y.1 y.2)) = false ∧ feedBroken s n = false := by
  have hmem : (n * 4 + 0, 0) ∈ clsInputs n := by simp [clsInputs]
  refine ⟨List.all_eq_false.mpr ⟨_, hmem, Bool.eq_false_iff.mp (h _ hmem)⟩, ?_⟩
  rw [feedBroken, List.any_eq_false]
  intro y hy
  simp [h y hy]

/-- A total is new but has not fallen by more than 10 dB below any of the past 10. -/
theorem totalFell_cons {x : FeedInput} {total : Int} (h : ∀ v ∈ x.totals, v - total ≤ 1000) (y : FeedInput)
    (hy : y.totals = (total :: x.totals).take 11) : totalFell y = false := by
  rw [totalFell, hy]
  simp only [List.take_succ_cons, List.any_eq_false, decide_eq_true_eq]
  intro v hv
  have := h v (List.mem_of_mem_take hv)
  omega

/-- The input as a feed-monitor sample leaves it (R75). -/
def monitored (s : State) (f i : Nat) (total : Int) (lines : List Int) : FeedInput :=
  let x := feedInput s f i
  let rel := (List.range 32).map (fun k => lines.getD k 0 - lineRef s f i k)
  let fr := if lines = [] then x.failRun else runs x.failRun (rel.map (fun d => decide (d ≤ -400)))
  { x with
    totals := (total :: x.totals).take 11, failRun := fr, at_ := now s,
    level := if lines = [] then x.level
      else (List.range 32).map (fun k => if 2 ≤ fr.getD k 0 then 3 else x.level.getD k 0) }

/-- A sample that fell at no input of its module goes on to the lines alone. -/
theorem doFeedMonitor_eq {s : State} {f i : Nat} (hi : i < 2) {total : Int} {lines : List Int}
    (hown : ∀ v ∈ (feedInput s f i).totals, v - total ≤ 1000)
    (hothers : ∀ y ∈ clsInputs (clsOf f i), y ≠ (f, i) → totalFell (feedInput s y.1 y.2) = false) :
    let m := monitored s f i total lines
    let u := setFeedInput s f i m
    doFeedMonitor f i total lines s =
      if m.level.any (fun v => decide (v = 3)) = false then u
      else if rd s (Reg.FEED_SELECTED f) = i then
        feedFail f ((List.range 32).foldl (fun s k =>
          if m.level.getD k 0 = 3 then wr s (Reg.LINE_STATE (f * 32 + k)) 3 else s) u)
      else standbyOut f u := by
  intro m u
  have hquiet : ∀ y ∈ clsInputs (clsOf f i), totalFell (feedInput u y.1 y.2) = false := by
    intro y hy
    rw [feedInput_setFeedInput s hi (clsInputs_lt hy)]
    split
    · exact totalFell_cons hown m rfl
    · next hne => exact hothers y hy fun h => hne (by simp [h])
  obtain ⟨hall, hbroken⟩ := clsInputs_quiet hquiet
  unfold doFeedMonitor
  extract_lets x n rel selected fr level failed t enabled
  have ht : t = u := rfl
  rw [ht, hall, hbroken]
  simp only [Bool.and_false, Bool.false_eq_true, if_false]
  simp only [selected, decide_eq_true_eq]
  rfl

@[simp] theorem rd_setFeedInput (s : State) (f i : Nat) (x : FeedInput) (a : Addr) :
    rd (setFeedInput s f i x) a = rd s a := rfl

/-! ## The state of a feed -/

@[simp] theorem rd_unitRefresh (before s : State) (a : Addr) : rd (unitRefresh before s) a = rd s a :=
  rd_of_besides (kept := [.obj a.obj]) (by simp) (by simp)

theorem rd_updateStandby (f : Nat) (s : State) {a : Addr} (ha : a ≠ Reg.FEED_STANDBY f) :
    rd (updateStandby f s) a = rd s a := by
  unfold updateStandby
  extract_lets sel i v
  split <;> rw [rd_wr_ne _ _ ha]

theorem rd_updateFau (fau : Nat) (s : State) {a : Addr} (ha : a.obj ≠ 0x0200) : rd (updateFau fau s) a = rd s a :=
  rd_of_besides (kept := [.obj a.obj]) (by simp [ha.symm]) (by simp)

theorem rd_noteLit (fau : Nat) (s : State) (a : Addr) : rd (noteLit fau s) a = rd s a :=
  rd_of_besides (kept := [.obj a.obj]) (by simp) (by simp)

@[simp] theorem feedState_setFeedState (f v : Nat) (s : State) : rd (setFeedState f v s) (Reg.FEED_STATE f) = v := by
  rw [setFeedState, rd_updateFau _ _ (by simp), rd_updateStandby _ _ (by simp), rd_noteLit, rd_wr_self]

@[simp] theorem feedState_switchFeed (f : Nat) (drained flushed : Bool) (s : State) :
    rd (switchFeed f drained flushed s) (Reg.FEED_STATE f) = 3 := by
  simp [switchFeed]

theorem feedState_judgeDark (f : Nat) (s : State) :
    rd (judgeDark f s) (Reg.FEED_STATE f) = rd s (Reg.FEED_STATE f) ∨ rd (judgeDark f s) (Reg.FEED_STATE f) = 5 := by
  unfold judgeDark
  split <;> simp

/-- R72: a feed that fails while it serves leaves service, with its record. -/
theorem feedFail_spec {f : Nat} {s : State} (hst : rd s (Reg.FEED_STATE f) ≤ 2) :
    3 ≤ rd (feedFail f s) (Reg.FEED_STATE f) ∧ ⟨Code.FADE_FAIL, 9, recordData []⟩ ∈ (feedFail f s).raised := by
  unfold feedFail
  extract_lets st before m ports s1 s2 s3 sel ready s4 s5
  rw [if_neg (by omega), if_neg (by omega), if_neg (by omega)]
  have h4 : rd s4 (Reg.FEED_STATE f) = 4 ∧ ⟨Code.FADE_FAIL, 9, recordData []⟩ ∈ s4.raised := by
    have hkeep : aside (besides [.record Code.FADE_FAIL]) s4 = aside (besides [.record Code.FADE_FAIL]) s3 := by
      simp [s4]
    exact ⟨by simp [s4], (mem_raised_of_aside hkeep (by simp)).mpr (by simp [s3])⟩
  obtain ⟨hstate, hrecord⟩ := h4
  split
  · exact ⟨by simp,
      (mem_raised_of_aside (P := besides [.record Code.FADE_FAIL]) (s := s4) (by simp) (by simp)).mpr hrecord⟩
  · have h5 : s5 = s4 := if_neg (by omega)
    rw [h5]
    refine ⟨?_, (mem_raised_of_aside (P := besides [.record Code.FADE_FAIL]) (s := s4) (by simp) (by simp)).mpr hrecord⟩
    have hmig : rd (setMigration s4 f {}) (Reg.FEED_STATE f) = 4 := hstate
    rcases feedState_judgeDark f (setMigration s4 f {}) with h | h <;> omega

/-! ## Sweeps over a range -/

/-- An element that one turn of a sweep writes, and no other turn touches. -/
theorem rd_foldl_range {f : State → Nat → State} {a : Addr} {i n v : Nat} (hi : i < n)
    (hset : ∀ s, rd (f s i) a = v) (hkeep : ∀ s j, j ≠ i → rd (f s j) a = rd s a) (s : State) :
    rd ((List.range n).foldl f s) a = v := by
  induction n with
  | zero => omega
  | succ n ih =>
    rw [List.range_succ, List.foldl_append, List.foldl_cons, List.foldl_nil]
    by_cases hin : i = n
    · subst hin; exact hset _
    · rw [hkeep _ _ (Ne.symm hin), ih (by omega)]

/-- An element that no turn of a sweep touches. -/
theorem rd_foldl_of_keep {α : Type} {f : State → α → State} {a : Addr} {l : List α}
    (hkeep : ∀ s, ∀ x ∈ l, rd (f s x) a = rd s a) (s : State) : rd (l.foldl f s) a = rd s a :=
  List.foldlRecOn (motive := fun t => rd t a = rd s a) l f rfl fun t ht x hx => (hkeep t x hx).trans ht

/-- A sweep of writes leaves the other tables as they are. -/
theorem light_foldl_of_keep {α : Type} {f : State → α → State} {l : List α}
    (hkeep : ∀ s x, (f s x).light = s.light) (s : State) : (l.foldl f s).light = s.light :=
  List.foldlRecOn (motive := fun t => t.light = s.light) l f rfl fun t ht x _ => (hkeep t x).trans ht

/-! ## Windows -/

theorem getD_map_range {α : Type} (g : Nat → α) {n k : Nat} (hk : k < n) (d : α) :
    ((List.range n).map g).getD k d = g k := by
  simp [List.getD_eq_getElem?_getD, hk]

theorem runs_getD (old : List Nat) (g : Nat → Int) (p : Int → Bool) {k : Nat} (hk : k < 32) :
    (runs old (((List.range 32).map g).map p)).getD k 0 = if p (g k) then old.getD k 0 + 1 else 0 := by
  rw [runs, getD_map_range _ hk, List.map_map, getD_map_range _ hk]
  rfl

theorem lineLevel_migrate {old w m wc mc : Nat} (hold : old ≠ 3) (hm : 3 ≤ m) : lineLevel old w m wc mc = 2 := by
  simp [lineLevel, hold, hm]

theorem lineLevel_warn {w m wc mc : Nat} (hw : 3 ≤ w) (hm : m < 3) : lineLevel 0 w m wc mc = 1 := by
  simp [lineLevel, hw, hm]

/-- The input as a scanned round leaves it (R68). -/
def scanned (s : State) (f i : Nat) (rows : List (List Int)) : FeedInput :=
  let x := feedInput s f i
  let rel := (List.range 32).map (fun k => ((rows.map tapMean).getD k (0, 0)).1 - lineRef s f i k)
  let wRun := runs x.warnRun (rel.map (fun d => decide (d ≤ -150)))
  let mRun := runs x.migRun (rel.map (fun d => decide (d ≤ -250)))
  let wClr := runs x.warnClear (rel.map (fun d => decide (-100 ≤ d)))
  let mClr := runs x.migClear (rel.map (fun d => decide (-200 ≤ d)))
  { x with
    lines := (rows.map tapMean).map (fun m => m.1), warnRun := wRun, migRun := mRun, warnClear := wClr,
    migClear := mClr, level := (List.range 32).map (fun k => lineLevel (x.level.getD k 0) (wRun.getD k 0)
      (mRun.getD k 0) (wClr.getD k 0) (mClr.getD k 0)) }

theorem tapMean_getD {rows : List (List Int)} {k : Nat} (hk : k < rows.length) :
    (rows.map tapMean).getD k (0, 0) = tapMean (rows.getD k []) := by
  simp [List.getD_eq_getElem?_getD, hk]

/-- A third window at or below MIGRATE, on a line not failed (R68). -/
theorem scanned_migrate {s : State} {f i : Nat} {rows : List (List Int)} {k : Nat} (hk : k < 32)
    (hlen : rows.length = 32) (hfail : (feedInput s f i).level.getD k 0 ≠ 3)
    (hrun : 2 ≤ (feedInput s f i).migRun.getD k 0)
    (hd : (tapMean (rows.getD k [])).1 - lineRef s f i k ≤ -250) :
    (scanned s f i rows).level.getD k 0 = 2 := by
  simp only [scanned]
  rw [getD_map_range _ hk, runs_getD _ _ _ hk, runs_getD _ _ _ hk, tapMean_getD (by omega)]
  exact lineLevel_migrate hfail (by rw [if_pos (decide_eq_true hd)]; omega)

/-- A third window below WARN alone, on a line OK so far. -/
theorem scanned_warn {s : State} {f i : Nat} {rows : List (List Int)} {k : Nat} (hk : k < 32)
    (hlen : rows.length = 32) (hok : (feedInput s f i).level.getD k 0 = 0)
    (hrun : 2 ≤ (feedInput s f i).warnRun.getD k 0)
    (hd : (tapMean (rows.getD k [])).1 - lineRef s f i k ≤ -150)
    (habove : -250 < (tapMean (rows.getD k [])).1 - lineRef s f i k) :
    (scanned s f i rows).level.getD k 0 = 1 := by
  simp only [scanned]
  rw [getD_map_range _ hk, runs_getD _ _ _ hk, runs_getD _ _ _ hk, tapMean_getD (by omega)]
  rw [hok, if_pos (decide_eq_true hd), if_neg (by simpa using habove)]
  exact lineLevel_warn (by omega) (by omega)

/-- The sweep that stores an unselected input's lines. -/
def storeStandby (f : Nat) (rows : List (List Int)) (s : State) : State :=
  (List.range 32).foldl (fun s k =>
    wrI 16 s (Reg.LINE_STBY_DBM (f * 32 + k)) ((rows.map tapMean).getD k (0, 0)).1) s

/-- The sweep that stores a selected input's lines, their spread and their level. -/
def storeSelected (f : Nat) (rows : List (List Int)) (level : List Nat) (s : State) : State :=
  (List.range 32).foldl (fun s k =>
    let m := (rows.map tapMean).getD k (0, 0)
    let s := wrI 16 s (Reg.LINE_SEL_DBM (f * 32 + k)) m.1
    let s := wr s (Reg.LINE_SPREAD (f * 32 + k)) m.2
    let s := wr s (Reg.LINE_STATE (f * 32 + k)) (level.getD k 0)
    if 200 < m.2 then raise s Code.TAP_SPREAD 9 [] else s) s

@[simp] theorem storeStandby_light (f : Nat) (rows : List (List Int)) (s : State) :
    (storeStandby f rows s).light = s.light := by
  unfold storeStandby
  exact light_foldl_of_keep (fun _ _ => wr_light ..) s

@[simp] theorem storeSelected_light (f : Nat) (rows : List (List Int)) (level : List Nat) (s : State) :
    (storeSelected f rows level s).light = s.light := by
  unfold storeSelected
  refine light_foldl_of_keep (fun s k => ?_) s
  extract_lets m s1 s2 s3
  split <;> rfl

theorem rd_wrI (w : Nat) (s : State) (a b : Addr) (x : Int) :
    rd (wrI w s a x) b = if b = a then toRaw w x else rd s b := rd_wr ..

@[simp] theorem updateStandby_light (f : Nat) (s : State) : (updateStandby f s).light = s.light :=
  light_of_aside (P := besides [.light]) (by simp) (by simp)

/-- The sweeps write lines alone. -/
theorem rd_storeStandby (f : Nat) (rows : List (List Int)) (s : State) {a : Addr} (ha : a.obj ≠ 0x0202) :
    rd (storeStandby f rows s) a = rd s a :=
  rd_foldl_of_keep (fun s k _ => by rw [rd_wrI, if_neg (fun h => ha (by rw [h]))]) s

theorem rd_storeSelected (f : Nat) (rows : List (List Int)) (level : List Nat) (s : State) {a : Addr}
    (ha : a.obj ≠ 0x0202) : rd (storeSelected f rows level s) a = rd s a := by
  have hne (k el : Nat) : a ≠ ⟨0x0202, k, el⟩ := fun h => ha (by rw [h])
  refine rd_foldl_of_keep (fun s k _ => ?_) s
  extract_lets m s1 s2 s3
  split <;> simp [s3, s2, s1, rd_wr, rd_wrI, hne]

/-- What a sweep stores of one line. -/
theorem storeStandby_line (f : Nat) {rows : List (List Int)} (s : State) {k : Nat} (hk : k < 32)
    (hlen : rows.length = 32) :
    rd (storeStandby f rows s) (Reg.LINE_STBY_DBM (f * 32 + k)) = toRaw 16 (tapMean (rows.getD k [])).1 := by
  rw [← tapMean_getD (by omega)]
  exact rd_foldl_range hk (fun s => by simp [rd_wrI]) (fun s j hj => by simp [rd_wrI, hj.symm]) s

theorem storeSelected_line (f : Nat) {rows : List (List Int)} (level : List Nat) (s : State) {k : Nat} (hk : k < 32)
    (hlen : rows.length = 32) :
    let t := storeSelected f rows level s
    rd t (Reg.LINE_SEL_DBM (f * 32 + k)) = toRaw 16 (tapMean (rows.getD k [])).1 ∧
      rd t (Reg.LINE_SPREAD (f * 32 + k)) = (tapMean (rows.getD k [])).2 ∧
      rd t (Reg.LINE_STATE (f * 32 + k)) = level.getD k 0 := by
  rw [← tapMean_getD (by omega)]
  refine ⟨rd_foldl_range hk (fun s => ?_) (fun s j hj => ?_) s, rd_foldl_range hk (fun s => ?_) (fun s j hj => ?_) s,
    rd_foldl_range hk (fun s => ?_) (fun s j hj => ?_) s⟩ <;> dsimp only <;> split <;> simp [rd_wr, rd_wrI] <;>
    omega

/-- A round of an unselected input, in no migration and not DARK. -/
theorem doFeedWindow_standby {f i : Nat} {rows : List (List Int)} {s : State} (hlen : rows.length = 32)
    (hsel : rd s (Reg.FEED_SELECTED f) ≠ i) (hdark : rd s (Reg.FEED_STATE f) ≠ 5) (hmig : (migration s f).step = 0) :
    doFeedWindow f i rows s =
      updateStandby f (storeStandby f rows (setFeedInput s f i (scanned s f i rows))) := by
  unfold doFeedWindow
  extract_lets x sel selected means rel wRun mRun wClr mClr level oldWorst worst u u1 u2 st u3 u4 v1 v2
  have hv2 : v2 = updateStandby f (storeStandby f rows (setFeedInput s f i (scanned s f i rows))) := rfl
  have hstate : rd v2 (Reg.FEED_STATE f) = rd s (Reg.FEED_STATE f) := by
    rw [hv2, rd_updateStandby _ _ (by simp), rd_storeStandby _ _ _ (by simp), rd_setFeedInput]
  have hstep : (migration v2 f).step = 0 := by
    rw [← hmig, migration, hv2, updateStandby_light, storeStandby_light]
    rfl
  have hlost : standbyLost f v2 = v2 := if_neg (by omega)
  rw [if_neg (by simp [hlen]), if_neg (by simpa [selected] using hsel), hlost, ite_self, ← hv2]
  exact if_pos (.inl (hstate ▸ hdark))

/-- A round of the selected input that serves, where migration is not automatic. -/
theorem doFeedWindow_selected {f i : Nat} {rows : List (List Int)} {s : State} (hlen : rows.length = 32)
    (hsel : rd s (Reg.FEED_SELECTED f) = i) (hst : rd s (Reg.FEED_STATE f) ≤ 2)
    (hmode : cfgRd s (Reg.FEED_MODE f) ≠ 0) :
    let w := storeSelected f rows (scanned s f i rows).level (setFeedInput s f i (scanned s f i rows))
    ∃ u, doFeedWindow f i rows s = wr u (Reg.FEED_STATE f) (min ((scanned s f i rows).level.foldl max 0) 2) ∧
      u.light = w.light ∧ ∀ a, a ≠ Reg.FEED_WORST f → rd u a = rd w a := by
  intro w
  unfold doFeedWindow
  extract_lets x sel selected means rel wRun mRun wClr mClr level oldWorst worst u u1 u2 st u3 u4 v1 v2
  have hu1 : u1 = w := rfl
  have hlight : u4.light = w.light := by
    have h2 : u2.light = w.light := by rw [← hu1]; exact wr_light ..
    simp only [u4, u3]
    split <;> split <;> exact h2
  have hread (a : Addr) (ha : a ≠ Reg.FEED_WORST f) : rd u4 a = rd w a := by
    have h2 : rd u2 a = rd w a := by rw [← hu1]; exact rd_wr_ne _ _ ha
    simp only [u4, u3]
    split <;> split <;> exact h2
  have hw (a : Addr) (ha : a.obj ≠ 0x0202) : rd w a = rd s a := by
    rw [rd_storeSelected _ _ _ _ ha, rd_setFeedInput]
  have hserves : ¬ 3 ≤ st := by
    have hst2 : st = rd w (Reg.FEED_STATE f) := by rw [← hu1]; exact rd_wr_ne _ _ (by simp)
    rw [hst2, hw _ (by simp)]
    omega
  have hmanual : cfgRd u4 (Reg.FEED_MODE f) ≠ 0 := by
    rwa [cfgRd, hread _ (by simp), hw _ (by simp)]
  refine ⟨u4, ?_, hlight, hread⟩
  rw [if_neg (by simp [hlen]), if_pos (by simpa [selected] using hsel), if_neg hserves,
    if_neg (fun h => hmanual h.2.2)]
  rfl

/-- A new sample with no line at its FAIL threshold leaves no failed line. -/
theorem monitored_no_fail {s : State} {f i : Nat} {total : Int} {lines : List Int}
    (hlevel : ∀ v ∈ (feedInput s f i).level, v ≠ 3)
    (hlines : ∀ k, k < 32 → lines ≠ [] → -400 < lines.getD k 0 - lineRef s f i k) :
    (monitored s f i total lines).level.any (fun v => decide (v = 3)) = false := by
  have hold (k : Nat) : (feedInput s f i).level.getD k 0 ≠ 3 := by
    rw [List.getD_eq_getElem?_getD]
    cases h : (feedInput s f i).level[k]? with
    | none => simp
    | some v => exact hlevel v (List.mem_of_getElem? h)
  simp only [monitored, List.any_eq_false, decide_eq_true_eq]
  by_cases hnone : lines = []
  · simpa [hnone] using hlevel
  · simp only [if_neg hnone, List.mem_map, List.mem_range]
    rintro v ⟨k, hk, rfl⟩
    have habove := hlines k hk hnone
    rw [runs_getD _ _ _ hk, if_neg (c := decide _ = true) (by simp only [decide_eq_true_eq]; omega), if_neg (by omega)]
    exact hold k

/-- A second sample at or below a line's FAIL threshold confirms its failure. -/
theorem monitored_fail {s : State} {f i k : Nat} {total : Int} {lines : List Int} (hk : k < 32) (hne : lines ≠ [])
    (hrun : 1 ≤ (feedInput s f i).failRun.getD k 0) (hd : lines.getD k 0 - lineRef s f i k ≤ -400) :
    (monitored s f i total lines).level.any (fun v => decide (v = 3)) = true := by
  simp only [monitored, if_neg hne, List.any_eq_true, decide_eq_true_eq, List.mem_map, List.mem_range]
  refine ⟨3, ⟨k, hk, if_pos ?_⟩, rfl⟩
  rw [runs_getD _ _ _ hk, if_pos (decide_eq_true hd)]
  omega

/-- R75: the sweep of failed lines leaves the feed's state. -/
theorem rd_failedLines (f : Nat) (level : List Nat) (s : State) {a : Addr} (ha : a.obj ≠ 0x0202) :
    rd ((List.range 32).foldl (fun s k =>
      if level.getD k 0 = 3 then wr s (Reg.LINE_STATE (f * 32 + k)) 3 else s) s) a = rd s a :=
  rd_foldl_of_keep (fun s k _ => by
    split
    · rw [rd_wr_ne _ _ (fun h => ha (by rw [h]))]
    · rfl) s

/-! ## Commissioning -/

/-- A bit of the commissioned inputs, set anew. -/
def recommission (c i : Nat) (whole : Bool) : Nat :=
  let without := if c.testBit i then c - 2 ^ i else c
  if whole then without + 2 ^ i else without

theorem testBit_recommission (c i : Nat) (whole : Bool) : (recommission c i whole).testBit i = whole := by
  unfold recommission
  extract_lets without
  have hclear : without.testBit i = false := by
    by_cases hbit : c.testBit i
    · have hle : 2 ^ i ≤ c := Nat.ge_two_pow_of_testBit hbit
      have hsplit : c = 2 ^ i + (c - 2 ^ i) := by omega
      have hlow : (c - 2 ^ i).testBit i = false := by
        rw [hsplit, Nat.testBit_two_pow_add_eq] at hbit
        simpa using hbit
      rwa [show without = c - 2 ^ i from if_pos hbit]
    · rw [show without = c from if_neg hbit]
      exact Bool.eq_false_iff.mpr hbit
  cases whole with
  | false => simpa using hclear
  | true => rw [if_pos rfl, Nat.add_comm, Nat.testBit_two_pow_add_eq, hclear]; rfl

/-- The element that keeps a line's commissioned power. -/
def refAddr (f i k : Nat) : Addr := if i = 0 then Reg.LINE_REF_A (f * 32 + k) else Reg.LINE_REF_B (f * 32 + k)

theorem refAddr_inj {f i j k : Nat} : refAddr f i j = refAddr f i k ↔ j = k := by
  unfold refAddr
  split <;> simp

theorem refAddr_obj (f i k : Nat) : (refAddr f i k).obj = 0x0202 := by
  unfold refAddr
  split <;> rfl

theorem refAddr_ne {a : Addr} (ha : a.obj ≠ 0x0202) (f i k : Nat) : a ≠ refAddr f i k :=
  fun h => ha (by rw [h, refAddr_obj])

/-- The powers of the lines as commissioning finds them. -/
def foundPower (s : State) (f i : Nat) : List Int :=
  let selected := decide (rd s (Reg.FEED_SELECTED f) = i)
  let lines := (feedInput s f i).lines
  (List.range 32).map (fun k =>
    if selected then rdI 16 s (Reg.LINE_SEL_DBM (f * 32 + k)) else lines.getD k (-32768))

theorem foundPower_eq (s : State) (f i : Nat) :
    foundPower s f i = (List.range 32).map (fun k => if rd s (Reg.FEED_SELECTED f) = i then
      rdI 16 s (Reg.LINE_SEL_DBM (f * 32 + k)) else (feedInput s f i).lines.getD k (-32768)) := by
  simp [foundPower]

/-- The sweep that stores the found powers. -/
def storeRefs (f i : Nat) (power : List Int) (s : State) : State :=
  (List.range 32).foldl (fun s k => wrI 16 s
    (if i = 0 then Reg.LINE_REF_A (f * 32 + k) else Reg.LINE_REF_B (f * 32 + k)) (power.getD k (-32768))) s

theorem rd_storeRefs {f i : Nat} {power : List Int} {a : Addr} (ha : ∀ k, k < 32 → a ≠ refAddr f i k) (s : State) :
    rd (storeRefs f i power s) a = rd s a :=
  rd_foldl_of_keep (fun _ k hk => rd_wr_ne _ _ (ha k (List.mem_range.mp hk))) s

theorem storeRefs_line (f i : Nat) (power : List Int) {k : Nat} (hk : k < 32) (s : State) :
    rd (storeRefs f i power s) (refAddr f i k) = toRaw 16 (power.getD k (-32768)) := by
  unfold storeRefs
  refine rd_foldl_range hk (fun s => ?_) (fun s j hj => ?_) s
  · exact rd_wr_self ..
  · exact rd_wr_ne _ _ fun h => hj (refAddr_inj.mp h).symm

/-- The state as commissioning leaves it, before STANDBY is judged anew. -/
def recommissioned (f i : Nat) (s : State) : State :=
  let power := foundPower s f i
  let u := storeRefs f i power s
  clearFail (wr (wr u (Reg.FEED_COMMISSIONED f) (recommission (rd u (Reg.FEED_COMMISSIONED f)) i
    (power.all (fun v => decide (v ≠ -32768))))) (Reg.FEED_RESULT f) 0) f i

theorem doCommission_eq_leaveDark {f i : Nat} {s : State} (hmig : rd s (Reg.FEED_STATE f) ≠ 3) :
    doCommission f i s = leaveDark f (updateStandby f (recommissioned f i s)) :=
  if_neg hmig

theorem rd_clearFail (s : State) (f i : Nat) (a : Addr) : rd (clearFail s f i) a = rd s a := rfl

theorem rd_recommissioned {f i : Nat} {s : State} {a : Addr} (hc : a ≠ Reg.FEED_COMMISSIONED f)
    (hr : a ≠ Reg.FEED_RESULT f) : rd (recommissioned f i s) a = rd (storeRefs f i (foundPower s f i) s) a := by
  rw [recommissioned, rd_clearFail, rd_wr_ne _ _ hr, rd_wr_ne _ _ hc]

theorem doCommission_eq {f i : Nat} {s : State} (hmig : rd s (Reg.FEED_STATE f) ≠ 3)
    (hdark : rd s (Reg.FEED_STATE f) ≠ 5) : doCommission f i s = updateStandby f (recommissioned f i s) := by
  have hlit : rd (updateStandby f (recommissioned f i s)) (Reg.FEED_STATE f) ≠ 5 := by
    rwa [rd_updateStandby _ _ (by simp), rd_recommissioned (by simp) (by simp),
      rd_storeRefs (fun k _ => refAddr_ne (by simp) f i k)]
  rw [doCommission_eq_leaveDark hmig, leaveDark, if_pos (.inl hlit)]

theorem doCommission_spec {f i : Nat} {s : State} (hmig : rd s (Reg.FEED_STATE f) ≠ 3)
    (hdark : rd s (Reg.FEED_STATE f) ≠ 5) :
    (∀ k, k < 32 → rd (doCommission f i s) (refAddr f i k) = toRaw 16 ((foundPower s f i).getD k (-32768))) ∧
      (rd (doCommission f i s) (Reg.FEED_COMMISSIONED f)).testBit i =
        (foundPower s f i).all (fun v => decide (v ≠ -32768)) ∧
      rd (doCommission f i s) (Reg.FEED_RESULT f) = 0 ∧
      ∀ a, a ≠ Reg.FEED_COMMISSIONED f → a ≠ Reg.FEED_RESULT f → a ≠ Reg.FEED_STANDBY f →
        (∀ k, k < 32 → a ≠ refAddr f i k) → rd (doCommission f i s) a = rd s a := by
  rw [doCommission_eq hmig hdark]
  refine ⟨fun k hk => ?_, ?_, ?_, fun a hc hr hs ha => ?_⟩
  · have hne {a : Addr} (ha : a.obj ≠ 0x0202) : refAddr f i k ≠ a := (refAddr_ne ha f i k).symm
    rw [rd_updateStandby _ _ (hne (by simp)), rd_recommissioned (hne (by simp)) (hne (by simp)),
      storeRefs_line _ _ _ hk]
  · rw [rd_updateStandby _ _ (by simp), recommissioned, rd_clearFail, rd_wr_ne _ _ (by simp), rd_wr_self,
      testBit_recommission]
  · rw [rd_updateStandby _ _ (by simp), recommissioned, rd_clearFail, rd_wr_self]
  · rw [rd_updateStandby _ _ hs, rd_recommissioned hc hr, rd_storeRefs ha]

/-- Settles O9: a sample and a round are judged by the lines they bring, and commissioning sweeps the lines. -/
theorem feedsJudged : Obligations.FeedsJudged := by
  unfold Obligations.FeedsJudged
  refine ⟨fun f i total lines s hown hothers hlevel hlines => ?_,
    fun f i k total lines s hown hothers hsel hst hne hrun hd => ?_, fun f i rows s hlen hsel hdark hmig => ?_,
    fun f i rows s hlen hsel hst hmode => ?_, fun f s hup hmig hdark => ?_, fun f s hup hmig hdark => ?_⟩
  · refine ⟨_, finish_eq ((doFeedMonitor_eq i.2 hown hothers).trans (if_pos (monitored_no_fail hlevel hlines))),
      ?_, ?_, fun a => rfl⟩ <;> rw [feedInput_setFeedInput _ i.2 i.2, if_pos ⟨rfl, rfl⟩] <;> rfl
  · have heq := (doFeedMonitor_eq (total := total) (lines := lines) i.2 hown hothers).trans
      ((if_neg (by rw [monitored_fail k.2 hne hrun hd]; simp)).trans (if_pos hsel))
    exact ⟨_, finish_eq heq, feedFail_spec (by rwa [rd_failedLines _ _ _ (by simp)])⟩
  · refine ⟨_, finish_eq (doFeedWindow_standby hlen hsel hdark hmig), ?_, fun k hk => ?_, ?_⟩
    · rw [feedInput, updateStandby_light, storeStandby_light, ← feedInput,
        feedInput_setFeedInput _ i.2 i.2, if_pos ⟨rfl, rfl⟩]
      simp [scanned]
    · rw [rd_updateStandby _ _ (by simp), storeStandby_line _ _ hk hlen]
    · rw [rd_updateStandby _ _ (by simp), rd_storeStandby _ _ _ (by simp), rd_setFeedInput]
  · obtain ⟨u, hu, hlight, hread⟩ := doFeedWindow_selected hlen hsel hst hmode
    have hin : feedInput (wr u (Reg.FEED_STATE f)
        (min ((scanned s f i rows).level.foldl max 0) 2)) f i = scanned s f i rows := by
      rw [feedInput, wr_light, hlight, storeSelected_light, ← feedInput, feedInput_setFeedInput _ i.2 i.2,
        if_pos ⟨rfl, rfl⟩]
    refine ⟨_, finish_eq hu, ?_, fun k hk => ?_, ?_⟩
    · rw [hin]
      simp [scanned]
    · obtain ⟨hsel', hspread, hline⟩ := storeSelected_line f (scanned s f i rows).level
        (setFeedInput s f i (scanned s f i rows)) hk hlen
      rw [hin, rd_wr_ne _ _ (by simp), rd_wr_ne _ _ (by simp), rd_wr_ne _ _ (by simp), hread _ (by simp),
        hread _ (by simp), hread _ (by simp)]
      exact ⟨hsel', hspread, hline, scanned_migrate hk hlen, scanned_warn hk hlen⟩
    · rw [hin, rd_wr_self, Nat.min_comm]
  · obtain ⟨hline, hbit, hresult, hrest⟩ := doCommission_spec (i := 0) hmig hdark
    rw [foundPower_eq] at hline hbit
    refine ⟨_, finish_eq (written_of_up hup _), fun k hk => ?_, ?_, hresult, hrest⟩
    · exact (hline k hk).trans (by rw [getD_map_range _ hk])
    · exact hbit.trans (by rw [List.all_map]; rfl)
  · obtain ⟨hline, hbit, hresult, hrest⟩ := doCommission_spec (i := 1) hmig hdark
    rw [foundPower_eq] at hline hbit
    refine ⟨_, finish_eq (written_of_up hup _), fun k hk => ?_, ?_, hresult, hrest⟩
    · exact (hline k hk).trans (by rw [getD_map_range _ hk])
    · exact hbit.trans (by rw [List.all_map]; rfl)

end Sys2Proof.Machine

/-! # Chord fill, learning and pins (O20, O22, O23) -/

namespace Sys2Proof.Machine

/-! ## Chord fill -/

@[simp] theorem rd_setChord (s : State) (c : Nat) (x : ChordState) (a : Addr) : rd (setChord s c x) a = rd s a := rfl

@[simp] theorem chordOf_wr (s : State) (a : Addr) (v c : Nat) : chordOf (wr s a v) c = chordOf s c := rfl

/-- A strand's bit of FILL set, and the coder's note of it. -/
theorem doChordFillEnter_eq {c d : Nat} {s : State}
    (hst : rd s (Reg.CHORD_STATE c) = 3 ∨ rd s (Reg.CHORD_STATE c) = 4)
    (hlit : (chordOf s c).dumped.getD d false = false) (hbit : (rd s (Reg.CHORD_FILL c)).testBit d = false) :
    doChordFillEnter c d s =
      wr (setChord s c { chordOf s c with fillOn := (chordOf s c).fillOn.set d true }) (Reg.CHORD_FILL c)
        (rd s (Reg.CHORD_FILL c) + 2 ^ d) := if_pos ⟨hst, hlit, hbit⟩

theorem doChordFillExit_eq {c d : Nat} {s : State} (hbit : (rd s (Reg.CHORD_FILL c)).testBit d = true) :
    doChordFillExit c d s =
      wr (setChord s c { chordOf s c with fillOn := (chordOf s c).fillOn.set d false }) (Reg.CHORD_FILL c)
        (rd s (Reg.CHORD_FILL c) - 2 ^ d) := if_pos hbit

/-- What a fill bit's write leaves: the new bit, the note, and every other element. -/
theorem fill_written (s : State) (c v : Nat) (x : ChordState) :
    let t := wr (setChord s c x) (Reg.CHORD_FILL c) v
    rd t (Reg.CHORD_FILL c) = v ∧ chordOf t c = x ∧ ∀ a, a ≠ Reg.CHORD_FILL c → rd t a = rd s a :=
  ⟨rd_wr_self .., by rw [chordOf_wr, chordOf_setChord, if_pos rfl], fun _ ha => rd_wr_ne _ _ ha⟩

/-- Settles O20: each command writes the strand's bit of FILL and its note, and no more. -/
theorem chordFill : Obligations.ChordFill := by
  unfold Obligations.ChordFill
  refine ⟨fun c d s hst hlit hbit => ?_, fun c d s hbit => ?_⟩
  · obtain ⟨hfill, hchord, hrest⟩ := fill_written s c (rd s (Reg.CHORD_FILL c) + 2 ^ d.val)
      { chordOf s c with fillOn := (chordOf s c).fillOn.set d true }
    exact ⟨_, next_eq (doChordFillEnter_eq hst hlit hbit), hfill, by rw [hchord], hrest⟩
  · obtain ⟨hfill, hchord, hrest⟩ := fill_written s c (rd s (Reg.CHORD_FILL c) - 2 ^ d.val)
      { chordOf s c with fillOn := (chordOf s c).fillOn.set d false }
    exact ⟨_, next_eq (doChordFillExit_eq hbit), hfill, by rw [hchord], hrest⟩

/-! ## Learning -/

/-- A lone insertion takes the free way of its bucket, and its frame goes on. -/
theorem takeInsertion_lone {g i : Nat} {x : Insertion} {s : State} (hlone : s.forward.insertions = [x])
    (hnew : learnedWay s s.sets.stamp x.ten x.mac = none)
    (hfree : [x.bucket * 4, x.bucket * 4 + 1, x.bucket * 4 + 2, x.bucket * 4 + 3].find? (wayEmpty s) = some i) :
    takeInsertion g x s = bridgeForward (modForward s (fun w => { w with
      insertions := [], learned := Tab.set w.learned i ⟨x.ten, x.mac, x.eid, true, 0⟩ })) x.frame false := by
  have hnew' : learnedWay (modForward s (fun w => { w with insertions := w.insertions.erase x })) s.sets.stamp
      x.ten x.mac = none := hnew
  have hfree' : [x.bucket * 4, x.bucket * 4 + 1, x.bucket * 4 + 2, x.bucket * 4 + 3].find?
      (wayEmpty (modForward s (fun w => { w with insertions := w.insertions.erase x }))) = some i := hfree
  unfold takeInsertion
  simp only [modForward_sets, hnew', hfree']
  simp [modForward, hlone]

theorem doLearnInsertion_lone {g : Nat} {x : Insertion} {s : State} (hlone : s.forward.insertions = [x])
    (hown : x.bucket % 8 = g) :
    doLearnInsertion g s = resumeLearning s.frames.length (takeInsertion g x s) := by
  simp [doLearnInsertion, hlone, hown]

theorem bridgeForward_of_gone {s : State} {id : Nat} (h : findFrame s id = none) (b : Bool) :
    bridgeForward s id b = s := by
  simp [bridgeForward, h]

/-- With no frame that waits to learn, none resumes. -/
theorem resumeLearning_of_none {s : State} (h : ∀ e ∈ s.frames, e.2.place ≠ .learning) (n : Nat) :
    resumeLearning n s = s := by
  cases n with
  | zero => rfl
  | succ n =>
    have hnone : s.frames.find? (fun e => decide (e.2.place = .learning) && !e.2.macWait &&
        !(s.forward.insertions.any (fun x => decide (x.frame = e.1))) && !learnBlocked s e.1 e.2) = none := by
      rw [List.find?_eq_none]
      intro e he
      simp [h e he]
    rw [resumeLearning, hnone]

/-! ## The swept entries -/

theorem doLearnSweep_hit {i : Nat} {e : Learned} {s : State} (he : Tab.find s.forward.learned i = some e)
    (hhit : e.hit = true) :
    doLearnSweep i s = modForward s (fun w => { w with
      learned := Tab.set w.learned i { e with hit := false, sweeps := 0 } }) := by
  simp [doLearnSweep, he, hhit]

theorem doLearnSweep_dropped {i : Nat} {e : Learned} {s : State} (he : Tab.find s.forward.learned i = some e)
    (hhit : e.hit = false) (hsweeps : 1 ≤ e.sweeps) :
    doLearnSweep i s = modForward s (fun w => { w with learned := Tab.del w.learned i }) := by
  simp [doLearnSweep, he, hhit, hsweeps]

theorem doLearnSweep_counted {i : Nat} {e : Learned} {s : State} (he : Tab.find s.forward.learned i = some e)
    (hhit : e.hit = false) (hsweeps : e.sweeps = 0) :
    doLearnSweep i s = modForward s (fun w => { w with
      learned := Tab.set w.learned i { e with sweeps := 1 } }) := by
  simp [doLearnSweep, he, hhit, hsweeps]

/-! ## Published levels -/

theorem Tab.get_eq_find {α : Type} (d : α) (m : Tab α) (k : Nat) : Tab.get d m k = (Tab.find m k).getD d := by
  induction m with
  | nil => rfl
  | cons e m ih =>
    simp only [Tab.get, Store.get, Tab.find]
    split
    · rfl
    · exact ih

/-- What a table keeps of the keys that satisfy a test. -/
theorem Tab.get_filter {α : Type} (d : α) (m : Tab α) (p : Nat → Bool) (k : Nat) :
    Tab.get d (m.filter (fun e => p e.1)) k = if p k then Tab.get d m k else d := by
  induction m with
  | nil => simp [Tab.get, Store.get]
  | cons e m ih =>
    obtain ⟨j, v⟩ := e
    simp only [Tab.get, Store.get] at ih ⊢
    by_cases hj : p j
    · rw [List.filter_cons_of_pos (p := fun e : Nat × α => p e.1) hj, Store.get, ih]
      by_cases hjk : j = k
      · subst hjk; simp [hj]
      · simp [hjk]
    · rw [List.filter_cons_of_neg (p := fun e : Nat × α => p e.1) hj, ih]
      by_cases hjk : j = k
      · subst hjk; simp [hj]
      · simp [hjk]

/-- A sweep of puts by one rule. -/
theorem Tab.get_foldl_put {α : Type} [DecidableEq α] (d : α) (g : Nat → α) (l : List Nat) (m : Tab α) (k : Nat) :
    Tab.get d (l.foldl (fun t q => Tab.put d t q (g q)) m) k = if k ∈ l then g k else Tab.get d m k := by
  induction l generalizing m with
  | nil => simp
  | cons q l ih =>
    rw [List.foldl_cons, ih, Tab.get_put]
    by_cases hk : k = q <;> by_cases hl : k ∈ l <;> simp [hk, hl]

theorem queueFacet_queueOf {p vl : Nat} (hvl : vl ≤ 8) (h : Block) : queueFacet (queueOf p vl (hdrTc h)) = p / 256 := by
  have htc : hdrTc h < 8 := Nat.mod_lt _ (by decide)
  unfold queueFacet queuePort queueOf
  congr 1
  omega

/-- The depth of a queue that no frame is in. -/
theorem depthBytes_of_empty {s : State} {q : Nat}
    (h : ∀ e ∈ s.frames, inQueue e.2 = true → frameQueue e.2 ≠ q) : depthBytes s q = 0 := by
  unfold depthBytes sumFrames
  refine List.foldlRecOn (motive := fun n => n = 0) _ _ rfl fun n hn e he => ?_
  rw [if_neg (by simpa using h e he), hn]

/-- DEPTH_PUBLISH publishes the level of each queue of the facet and no other. -/
theorem doDepthPublish_get {g : Nat} {s : State} (hvl : ∀ e ∈ s.frames, e.2.outVl ≤ 8) (q : Nat) :
    Tab.get 0 (doDepthPublish g s).forward.published q =
      if queueFacet q = g then depthLevel (depthBytes s q) else Tab.get 0 s.forward.published q := by
  have hfacet : ∀ e ∈ s.frames, queueFacet (frameQueue e.2) = e.2.egress / 256 :=
    fun e he => queueFacet_queueOf (hvl e he) _
  unfold doDepthPublish
  extract_lets kept qs t
  have hmem : q ∈ qs ↔ ∃ e ∈ s.frames, (inQueue e.2 = true ∧ e.2.egress / 256 = g) ∧ frameQueue e.2 = q := by
    simp only [qs, List.mem_eraseDups, List.mem_map, List.mem_filter, Bool.and_eq_true, decide_eq_true_eq, and_assoc]
  have ht : Tab.get 0 t q = if q ∈ qs then depthLevel (depthBytes s q) else Tab.get 0 kept q :=
    Tab.get_foldl_put 0 (fun q => depthLevel (depthBytes s q)) qs kept q
  have hkept : Tab.get 0 kept q = if queueFacet q ≠ g then Tab.get 0 s.forward.published q else 0 := by
    simpa only [decide_eq_true_eq] using Tab.get_filter 0 s.forward.published (fun q => decide (queueFacet q ≠ g)) q
  show Tab.get 0 t q = _
  rw [ht, hkept]
  by_cases hq : queueFacet q = g
  · by_cases hin : q ∈ qs
    · simp [hq, hin]
    · have hempty : depthBytes s q = 0 := depthBytes_of_empty fun e he hqueue heq =>
        hin (hmem.mpr ⟨e, he, ⟨hqueue, by rw [← hfacet e he, heq, hq]⟩, heq⟩)
      simp [hq, hin, hempty, depthLevel]
  · have hout : q ∉ qs := fun h => by
      obtain ⟨e, he, ⟨-, heg⟩, rfl⟩ := hmem.mp h
      exact hq ((hfacet e he).trans heg)
    simp [hq, hout]

/-- Settles O22: an insertion, a swept entry and a published level, each by the rule of its command. -/
theorem learningAndLevels : Obligations.LearningAndLevels := by
  unfold Obligations.LearningAndLevels
  refine ⟨fun g x i s hlone hown hnew hfree => ?_, fun i e s he hhit => ?_, fun i e s he hhit hsweeps => ?_,
    fun i e s he hhit hsweeps => ?_, fun g s hvl => ?_⟩
  · intro u
    have heq : doLearnInsertion g s = resumeLearning s.frames.length (bridgeForward u x.frame false) := by
      rw [doLearnInsertion_lone hlone hown, takeInsertion_lone hlone hnew hfree]
    refine ⟨finish_eq heq, fun hgone hidle => finish_eq (heq.trans ?_)⟩
    rw [bridgeForward_of_gone (s := u) hgone, resumeLearning_of_none (s := u) hidle]
  · exact ⟨_, next_eq (doLearnSweep_hit he hhit), (Tab.find_set ..).trans (if_pos rfl), rfl⟩
  · exact ⟨_, next_eq (doLearnSweep_dropped he hhit hsweeps), (Tab.find_del ..).trans (if_pos rfl), rfl⟩
  · exact ⟨_, next_eq (doLearnSweep_counted he hhit hsweeps), (Tab.find_set ..).trans (if_pos rfl), rfl⟩
  · exact ⟨_, next_eq rfl, rfl, rfl, doDepthPublish_get hvl⟩

/-! ## Pins and holds -/

theorem doRepinEnd_past {g k e : Nat} {s : State} (he : Tab.find s.forward.repinEnd (g * 256 + k) = some e)
    (hpast : e ≤ now s) :
    doRepinEnd g k s = modForward s (fun w => { w with repinEnd := Tab.del w.repinEnd (g * 256 + k) }) := by
  simp [doRepinEnd, he, hpast]

theorem releaseLists_of_none {s : State} (h : s.forward.holds = []) : releaseLists s = s := by
  simp [releaseLists, h]

/-- Settles O23: a window's end, an idle slot's return and the two holds, each by what its command tests. -/
theorem pinsAndHolds : Obligations.PinsAndHolds := by
  unfold Obligations.PinsAndHolds
  refine ⟨fun g k e s he hpast => ?_, fun g k s hon hmoved hhome hlive hidle => ?_, fun g s hup => ?_,
    fun g s hup hnone => ?_⟩
  · exact ⟨_, finish_eq (doRepinEnd_past he hpast), (Tab.find_del ..).trans (if_pos rfl), rfl, rfl⟩
  · exact finish_eq (if_pos ⟨hon, hmoved, hhome, hlive, hidle⟩)
  · exact finish_eq (written_of_up hup _)
  · exact finish_eq ((written_of_up hup _).trans (releaseLists_of_none hnone))

end Sys2Proof.Machine

/-! # Banks and captures, the board and test ports, lane markers (O41, O54, O13) -/

namespace Sys2Proof.Machine

/-! ## Counter banks -/

theorem value_ne_ovf {b c i : Nat} (hi : i < 8) : Reg.CBANK_VALUE b i ≠ Reg.CBANK_OVF c := by
  intro h
  have := congrArg Addr.el h
  dsimp only at this
  omega

theorem rd_addCounter {i : Nat} (hi : i < 8) (s : State) (bank n : Nat) (a : Addr) :
    rd (addCounter s bank i n) a =
      if a = Reg.CBANK_OVF bank ∧ 2 ^ 48 ≤ rd s (Reg.CBANK_VALUE bank i) + n then
        rd s (Reg.CBANK_OVF bank) ||| 2 ^ i
      else if a = Reg.CBANK_VALUE bank i then (rd s (Reg.CBANK_VALUE bank i) + n) % 2 ^ 48
      else rd s a := by
  unfold addCounter
  extract_lets v t
  have hovf : rd t (Reg.CBANK_OVF bank) = rd s (Reg.CBANK_OVF bank) := rd_wr_ne _ _ (value_ne_ovf hi).symm
  have ht (b : Addr) : rd t b = if b = Reg.CBANK_VALUE bank i then v % 2 ^ 48 else rd s b := rd_wr ..
  by_cases hwrap : 2 ^ 48 ≤ v
  · rw [if_pos hwrap, rd_wr, hovf, ht]
    simp only [v, hwrap, and_true]
  · rw [if_neg hwrap, ht, if_neg (c := _ ∧ _) (fun h => hwrap h.2)]

/-- R450: a set OVF bit outlasts a counter's event. -/
theorem ovf_addCounter {s : State} {b i j : Nat} (hi : i < 8) (h : (rd s (Reg.CBANK_OVF b)).testBit j = true)
    (bank n : Nat) : (rd (addCounter s bank i n) (Reg.CBANK_OVF b)).testBit j = true := by
  rw [rd_addCounter hi]
  split
  · next hb =>
    obtain ⟨hb, -⟩ := hb
    rw [Nat.testBit_or, ← hb, h, Bool.true_or]
  · rwa [if_neg (value_ne_ovf hi).symm]

theorem ovf_countIn {s : State} {b j : Nat} (h : (rd s (Reg.CBANK_OVF b)).testBit j = true) (bank sel : Nat)
    (e : Event) : (rd (countIn s bank sel e) (Reg.CBANK_OVF b)).testBit j = true := by
  unfold countIn
  refine List.foldlRecOn (motive := fun t : State => (rd t (Reg.CBANK_OVF b)).testBit j = true) _ _ h
    fun t ht i hi => ?_
  dsimp only
  split
  · exact ovf_addCounter (List.mem_range.mp hi) ht ..
  · exact ht

/-- What no turn of a sweep changes. -/
theorem proj_foldl_of_keep {α β : Type} (proj : State → β) {f : State → α → State} {l : List α}
    (h : ∀ s x, proj (f s x) = proj s) (s : State) : proj (l.foldl f s) = proj s :=
  List.foldlRecOn (motive := fun t => proj t = proj s) l f rfl fun t ht x _ => (h t x).trans ht

/-- The sweep that zeroes a bank's first values. -/
def zeroValues (b n : Nat) (s : State) : State :=
  (List.range n).foldl (fun s i => wr s (Reg.CBANK_VALUE b i) 0) s

theorem zeroValues_value (b : Nat) {i n : Nat} (hi : i < n) (s : State) :
    rd (zeroValues b n s) (Reg.CBANK_VALUE b i) = 0 := by
  refine rd_foldl_range hi (fun s => ?_) (fun s j hj => ?_) s
  · exact rd_wr_self ..
  · exact rd_wr_ne _ _ (by simpa using hj.symm)

theorem rd_zeroValues {b n : Nat} {a : Addr} (ha : ∀ i, i < n → a ≠ Reg.CBANK_VALUE b i) (s : State) :
    rd (zeroValues b n s) a = rd s a := by
  refine rd_foldl_of_keep (fun s i hi => ?_) s
  exact rd_wr_ne _ _ (ha i (List.mem_range.mp hi))

theorem now_zeroValues (b n : Nat) (s : State) : now (zeroValues b n s) = now s := by
  refine proj_foldl_of_keep now (fun _ _ => ?_) s
  rfl

theorem bankBase_zeroValues (b n : Nat) (s : State) : (zeroValues b n s).bankBase = s.bankBase := by
  refine proj_foldl_of_keep State.bankBase (fun _ _ => ?_) s
  rfl

/-- CLEAR, once the values are 0: the bank's clear tick, and OVF. -/
def cleared (b : Nat) (s : State) : State :=
  wr { s with bankBase := Tab.put 0 s.bankBase b (now s) } (Reg.CBANK_OVF b) 0

theorem doBankClear_eq (b : Nat) (s : State) : doBankClear b s = cleared b (zeroValues b 8 s) := by
  unfold doBankClear zeroValues cleared
  rfl

theorem rd_cleared (b : Nat) (s : State) (a : Addr) :
    rd (cleared b s) a = if a = Reg.CBANK_OVF b then 0 else rd s a := rd_wr ..

theorem bankTick_cleared (b c : Nat) (s : State) :
    bankTick (cleared b s) c = if c = b then 0 else bankTick s c := by
  show now s - Tab.get 0 (Tab.put 0 s.bankBase b (now s)) c = _
  rw [Tab.get_put]
  split
  · omega
  · rfl

/-- Settles O41: by what one counter's addition writes, and the sweep of CLEAR. -/
theorem banksAndCaptures : Obligations.BanksAndCaptures := by
  unfold Obligations.BanksAndCaptures
  refine ⟨fun b i n s => ?_, fun b bank sel j e s h => ovf_countIn h .., fun b s hup => ?_,
    fun e s hup hlater => ?_, fun e s hpast => ?_⟩
  · intro v
    have hv : rd s (Reg.CBANK_VALUE b i) + n = v := rfl
    refine ⟨?_, fun j _ => ?_⟩
    · rw [rd_addCounter i.2, if_neg (fun h => value_ne_ovf i.2 h.1), if_pos rfl]
    rw [rd_addCounter i.2, hv]
    by_cases hwrap : 2 ^ 48 ≤ v
    · rw [if_pos ⟨rfl, hwrap⟩, Nat.testBit_or, Nat.testBit_two_pow, decide_eq_true hwrap, Bool.or_comm,
        Bool.and_true]
      simp only [eq_comm]
    · rw [if_neg (fun h => hwrap h.2), if_neg (value_ne_ovf i.2).symm, decide_eq_false hwrap, Bool.and_false,
        Bool.false_or]
  · refine ⟨_, next_eq ((written_of_up hup _).trans (doBankClear_eq b s)), fun i hi => ?_, ?_, ?_,
      fun a ha hvalue => ?_, fun c hc => ?_⟩
    · rw [rd_cleared, if_neg (value_ne_ovf hi), zeroValues_value _ hi]
    · rw [rd_cleared, if_pos rfl]
    · rw [bankTick_cleared, if_pos rfl]
    · rw [rd_cleared, if_neg ha, rd_zeroValues hvalue]
    · rw [bankTick_cleared, if_neg hc, bankTick, now_zeroValues, bankBase_zeroValues, bankTick]
  · have heq : doCaptureArm e.toNat s = wr (wr s Reg.CAPTURE_EPOCH e.toNat) Reg.CAPTURE_STATE 1 :=
      if_neg (Nat.not_le.mpr hlater)
    refine ⟨_, next_eq ((written_of_up hup _).trans heq), ?_, rd_wr_self .., fun a hepoch hstate => ?_⟩
    · rw [rd_wr_ne _ _ (by simp), rd_wr_self]
    · rw [rd_wr_ne _ _ hstate, rd_wr_ne _ _ hepoch]
  · have heq : doCaptureArm e.toNat s = s := if_pos hpast
    refine next_eq (ite_eq_right_iff.mpr fun _ => heq)

/-! ## The board's target and the test port -/

theorem bmiByte_beyond {s : State} {r : Nat} (h : 0x3F < r) : bmiByte s r = 0xFF := if_pos h

/-- A register of the image that no live value overlays. -/
theorem bmiByte_image {s : State} {r : Nat} (h : r ≤ 0x3F) (h10 : r ≠ 0x10) (h24 : r ≠ 0x24) (h25 : r ≠ 0x25) :
    bmiByte s r = s.pins.image.getD r 0 := by
  simp only [bmiByte, if_neg (Nat.not_lt.mpr h), if_neg h10, if_neg h24, if_neg h25]

theorem doBmiRead_of_enabled {pointer count : Nat} {s : State} (h : rd s Reg.PACKAGE_BMI_EN ≠ 0) :
    doBmiRead pointer count s = emit (inc s Reg.PACKAGE_BMI_READS 64)
      (.bmi ((List.range count).map (fun k => bmiByte s (pointer + k)))) := if_neg h

theorem clsDriven_of_extest {s : State} (htap : s.pins.tap = 3) (hreset : s.power.resetN = false) :
    clsDriven s = 0 := if_pos ⟨htap, hreset⟩

/-- The sweep by which EXTEST holds CLS_EN low. -/
def modulesLow (n : Nat) (s : State) : State := (List.range n).foldl (fun s n => wr s (Reg.CLS_EN_STATE n) 0) s

theorem rd_modulesLow {n m : Nat} (hn : n < m) (s : State) : rd (modulesLow m s) (Reg.CLS_EN_STATE n) = 0 := by
  refine rd_foldl_range hn (fun s => ?_) (fun s j hj => ?_) s
  · exact rd_wr_self ..
  · exact rd_wr_ne _ _ (by simpa using hj.symm)

@[simp] theorem modulesLow_pins (n : Nat) (s : State) : (modulesLow n s).pins = s.pins := by
  refine proj_foldl_of_keep State.pins (fun _ _ => ?_) s
  rfl

@[simp] theorem modulesLow_power (n : Nat) (s : State) : (modulesLow n s).power = s.power := by
  refine proj_foldl_of_keep State.power (fun _ _ => ?_) s
  rfl

@[simp] theorem modulesLow_outputs (n : Nat) (s : State) : (modulesLow n s).outputs = s.outputs := by
  refine proj_foldl_of_keep State.outputs (fun _ _ => ?_) s
  rfl

/-- The cells driven onto the pins. -/
def driven (s : State) : State := emit s (.jtag "EXTEST" 128 s.pins.cells.toNat)

theorem doExtest_of_reset {s : State} (h : s.power.resetN = false) :
    doExtest s = driven (modulesLow 16 (selectTap 3 s)) := by
  unfold doExtest modulesLow
  rw [if_neg (by simp [h])]
  rfl

theorem rd_driven (s : State) (a : Addr) : rd (driven s) a = rd s a := rfl

theorem driven_pins (s : State) : (driven s).pins = s.pins := rfl

theorem driven_power (s : State) : (driven s).power = s.power := rfl

theorem driven_outputs (s : State) :
    (driven s).outputs = s.outputs ++ [.jtag "EXTEST" 128 s.pins.cells.toNat] := rfl

/-- Settles O54: each transaction's answer and what it leaves of the pins. -/
theorem boardAndTestPorts : Obligations.BoardAndTestPorts := by
  unfold Obligations.BoardAndTestPorts
  refine ⟨fun p n s hen => ?_, fun p n s hen => next_eq (if_pos hen), fun s hup => ?_, fun s => rfl, fun s => rfl,
    fun cells s => ⟨_, _, next_eq rfl, rfl, rfl, rfl, rfl⟩, fun s hreset => ?_, fun s hreset => ?_⟩
  · refine ⟨_, _, next_eq (doBmiRead_of_enabled hen), rfl, by simp, rd_wr_self .., fun a ha => rd_wr_ne _ _ ha,
      fun k hk => ?_⟩
    rw [getD_map_range _ hk]
    exact ⟨bmiByte_beyond, bmiByte_image⟩
  · exact next_eq (if_neg (by simp [hup]))
  · have hpins : (driven (modulesLow 16 (selectTap 3 s))).pins = { s.pins with tap := 3, trstN := true } := by
      rw [driven_pins, modulesLow_pins]
      rfl
    refine ⟨_, next_eq (doExtest_of_reset hreset), by rw [hpins], by rw [hpins],
      clsDriven_of_extest (by rw [hpins]) ?_, fun n hn => ?_, ?_⟩
    · rw [driven_power, modulesLow_power]
      exact hreset
    · rw [rd_driven, rd_modulesLow hn]
    · rw [driven_outputs, modulesLow_outputs, modulesLow_pins]
      rfl
  · exact next_eq (if_pos hreset)

/-! ## Lane markers -/

/-- What a port's next marker shows of its link. -/
theorem markerBlock_congr {s t : State} {p : Nat} (hlink : link t p = link s p) (hread : ∀ a, rd t a = rd s a)
    (k : Nat) : markerBlock t p k = markerBlock s p k := by
  simp only [markerBlock, hlink, hread]

/-- A write to a link that leaves it as it was. -/
theorem link_modLink_of_id {s : State} {p : Nat} {f : Link → Link} (h : f (link s p) = link s p) :
    link (modLink s p f) p = link s p := by rw [link_modLink_self, h]

/-- A projection of the links that one link's write keeps. -/
theorem proj_modLink {α : Type} (proj : Link → α) {f : Link → Link} (h : ∀ l, proj (f l) = proj l) (s : State)
    (p q : Nat) : proj (link (modLink s p f) q) = proj (link s q) := by
  rw [link_modLink]
  split
  · next hq => rw [h, hq]
  · rfl

@[simp] theorem link_countPort (s : State) (p sel q : Nat) : link (countPort s p sel) q = link s q :=
  link_congr (links_of_aside (P := besides [.links]) (by simp) (by simp)) q

/-- A requested lane switch gets its marker number once the port's markers show it. -/
def numberSwitch (l : Link) : Link :=
  { l with rxSwitch := l.rxSwitch.map (fun sw =>
      if sw.at_ < 2 ^ 32 then sw else { sw with at_ := (l.markNo + 2) % 2 ^ 32 }) }

/-- The markers of a port's four lanes. -/
def sendMarkers (p : Nat) (s : State) : State :=
  [0, 1, 2, 3].foldl (fun s k => emit s (.marker p k (laneMarker (markerBlock s p k)))) s

theorem link_sendMarkers (p q : Nat) (s : State) : link (sendMarkers p s) q = link s q := by
  simp only [sendMarkers, List.foldl_cons, List.foldl_nil, link_emit]

theorem rd_sendMarkers (p : Nat) (s : State) (a : Addr) : rd (sendMarkers p s) a = rd s a := by
  simp only [sendMarkers, List.foldl_cons, List.foldl_nil, rd_emit]

theorem sendMarkers_outputs (p : Nat) (s : State) : (sendMarkers p s).outputs = s.outputs ++
    [.marker p 0 (laneMarker (markerBlock s p 0)), .marker p 1 (laneMarker (markerBlock s p 1)),
      .marker p 2 (laneMarker (markerBlock s p 2)), .marker p 3 (laneMarker (markerBlock s p 3))] := by
  simp only [sendMarkers, List.foldl_cons, List.foldl_nil, emit, List.append_assoc]
  rfl

/-- A port's markers with no lane switch waiting: the outputs, and the number counted on. -/
theorem doMarkerSend_eq {p : Nat} {s : State} (hawake : rd s (Reg.PORT_STATE p) ≠ 6)
    (hopen : rd s (Reg.EYE_STATE (pairOf p)) = 0) (hfree : chordTakes s p = false)
    (htx : (link s p).txSwitch = none) :
    doMarkerSend p s = modLink (sendMarkers p (modLink s p numberSwitch)) p
      (fun l => { l with markNo := (l.markNo + 1) % 2 ^ 32 }) := by
  have hnone : (link (sendMarkers p (modLink s p numberSwitch)) p).txSwitch = none := by
    rw [link_sendMarkers, link_modLink_self]
    exact htx
  unfold doMarkerSend
  rw [if_neg (by simp [hawake, hopen, hfree])]
  extract_lets u v l w
  have hl : l.txSwitch = none := hnone
  simp only [w, hl]
  rfl

/-- What of a link its received markers count, and its waiting switch. -/
def laneCounts (l : Link) : List Nat × List Nat × Nat × Option LaneSwitch := (l.good, l.bad, l.peerMark, l.rxSwitch)

theorem laneCounts_beginWake (p q : Nat) (s : State) :
    laneCounts (link (beginWake p s) q) = laneCounts (link s q) := by
  unfold beginWake
  extract_lets u
  have hu : laneCounts (link u q) = laneCounts (link s q) := by
    simp only [u]
    split
    · rfl
    · unfold setCmd
      split
      · rfl
      · unfold nextKeepalive
        refine (proj_modLink laneCounts (fun l => ?_) ..).trans (proj_modLink laneCounts (fun l => ?_) ..) <;> rfl
  refine (proj_modLink laneCounts (fun l => ?_) ..).trans hu
  rfl

/-- A running port is in no training. -/
theorem trainOnMarker_of_up {p : Nat} {s : State} (h : rd s (Reg.PORT_STATE p) = 5) (k m : Nat) :
    trainOnMarker p k m s = s := if_pos (.inr (.inr (by omega)))

/-- A good copy counts for its lane. -/
theorem doMarkerReceived_good {p k : Nat} {copies : List MarkerCopy} {c : MarkerCopy} {s : State}
    (hc : copies.find? markerGood = some c) (hup : rd s (Reg.PORT_STATE p) = 5) (hrx : (link s p).rxSwitch = none) :
    laneCounts (link (doMarkerReceived p k copies s) p) =
      ((link s p).good.set k ((link s p).good.getD k 0 + 1), (link s p).bad.set k 0, field c.toNat 204 32, none) := by
  unfold doMarkerReceived
  split
  · next hnone => rw [hc] at hnone; cases hnone
  next c' hc' =>
  obtain rfl : c = c' := Option.some.inj (hc.symm.trans hc')
  extract_lets m lst s1 lst' s2 s3 s4 l req up s5
  have h1 : link s1 p = link s p ∧ rd s1 (Reg.PORT_STATE p) = 5 := by
    simp only [s1]
    split
    · exact ⟨link_countPort .., by rw [rd_countPort _ _ _ (by simp), hup]⟩
    · exact ⟨rfl, hup⟩
  obtain ⟨hlink, hstate⟩ := h1
  have h2 : laneCounts (link s2 p) = ((link s p).good.set k ((link s p).good.getD k 0 + 1),
      (link s p).bad.set k 0, field c.toNat 204 32, none) := by
    simp only [s2, link_modLink_self, hlink, laneCounts, hrx]
    rfl
  have h3 : s3 = s2 := trainOnMarker_of_up (s := s2) hstate _ _
  have h4 : laneCounts (link s4 p) = laneCounts (link s2 p) := by
    simp only [s4]
    split
    · rw [laneCounts_beginWake, h3]
    · rw [h3]
  have h5 : laneCounts (link s5 p) = laneCounts (link s4 p) := by
    simp only [s5]
    split
    · split
      · refine proj_modLink laneCounts (fun l => ?_) ..
        rfl
      · rfl
    · refine proj_modLink laneCounts (fun l => ?_) ..
      rfl
  have hnone : l.rxSwitch = none := congrArg (fun x => x.2.2.2) (h4.trans h2)
  rw [hnone, h5, h4, h2]

/-- Settles O13: by what a marker shows and what each lane counts. -/
theorem laneMarkers : Obligations.LaneMarkers := by
  unfold Obligations.LaneMarkers
  refine ⟨fun p s hawake hopen hfree hrx htx => ?_,
    fun p k copies s hc hgood hbad => ?_, fun p k copies c s hc hup hrx hgood hbad => ?_⟩
  · have hu : link (modLink s p numberSwitch) p = link s p :=
      link_modLink_of_id (by rw [numberSwitch, hrx, Option.map_none, ← hrx])
    refine ⟨_, finish_eq (doMarkerSend_eq hawake hopen hfree htx), ?_, ?_, fun a => ?_⟩
    · rw [modLink_outputs, sendMarkers_outputs]
      simp only [markerBlock_congr hu (rd_modLink s p _), modLink_outputs]
    · rw [link_modLink_self, link_sendMarkers, hu]
    · rw [rd_modLink, rd_sendMarkers, rd_modLink]
  · have heq : doMarkerReceived p k copies s = countPort (modLink s p (fun l => { l with
        good := l.good.set k 0, bad := l.bad.set k (l.bad.getD k 0 + 1) })) p 0x2005 := by
      simp [doMarkerReceived, hc]
    refine ⟨_, finish_eq heq, ?_, ?_⟩ <;> simp [hgood, hbad, k.2]
  · have h := doMarkerReceived_good (k := k) hc hup hrx
    have hgood' := congrArg Prod.fst h
    have hbad' := congrArg (fun x => x.2.1) h
    have hpeer := congrArg (fun x => x.2.2.1) h
    simp only [laneCounts] at hgood' hbad' hpeer
    refine ⟨_, finish_eq rfl, ?_, ?_, hpeer⟩
    · rw [hgood']; simp [hgood, k.2]
    · rw [hbad']; simp [hbad, k.2]

end Sys2Proof.Machine

/-! # Shapers and timers (O27) -/

namespace Sys2Proof.Machine

/-! ## Shapers -/

theorem find_setShaper (s : State) (k j : Nat) (x : Shaper) :
    Tab.find (setShaper s k x).egress.shapers j = if j = k then some x else Tab.find s.egress.shapers j :=
  Tab.find_set ..

theorem shaper_setShaper_self (s : State) (k : Nat) (x : Shaper) : shaper (setShaper s k x) k = x := by
  simp [shaper, find_setShaper]

@[simp] theorem rd_setShaper (s : State) (k : Nat) (x : Shaper) (a : Addr) : rd (setShaper s k x) a = rd s a := rfl

theorem shaper_setShaper_ne (s : State) {k j : Nat} (x : Shaper) (h : j ≠ k) :
    shaper (setShaper s k x) j = shaper s j := by
  have hcap : shaperCap (setShaper s k x) j = shaperCap s j := rfl
  simp only [shaper, find_setShaper, if_neg h, hcap]

theorem shaper_of_find {s : State} {k : Nat} {x : Shaper} (h : Tab.find s.egress.shapers k = some x) :
    shaper s k = x := by
  simp [shaper, h]

theorem queue_not_ctrlKey (q : Queue) : isCtrlKey q = false := decide_eq_false (by omega)

/-- What a wheel slot's entry leaves: its shaper refilled as of now, and the greatest lateness. -/
theorem wheelEntry_spec {s : State} {k : Nat} (hlate : now s - (shaper s k).slot ≤ 1344) :
    ∃ y, Tab.find (wheelEntry s k).egress.shapers k = some y ∧
      y.last = now s ∧
      rd (wheelEntry s k) Reg.SCHED_LATE_MAX = max (rd s Reg.SCHED_LATE_MAX) (now s - (shaper s k).slot) ∧
      (wheelEntry s k).raised = s.raised := by
  unfold wheelEntry
  extract_lets x facet late u v y
  have hv : v = u := if_neg (Nat.not_lt.mpr hlate)
  have hnow : now v = now s := by rw [hv]; simp only [u, raiseTo]; split <;> rfl
  have hrefilled : y.last = now s := hnow
  have hraised : u.raised = s.raised := by simp only [u, raiseTo]; split <;> rfl
  refine ⟨_, (find_setShaper ..).trans (if_pos rfl), ?_, ?_, ?_⟩
  · unfold enterWheel
    split <;> exact hrefilled
  · rw [rd_setShaper, hv]
    simp only [u, rd_raiseTo, if_true]
    rfl
  · show v.raised = _
    rw [hv, hraised]

/-- A facet's wheel with one due shaper. -/
theorem doWheelSlotDue_lone {g : Facet} {q : Queue} {x : Shaper} {s : State}
    (hlone : s.egress.shapers = [(q.val, x)]) (hfacet : queueFacet q = g) (hon : x.slot ≠ 0) (hdue : x.slot ≤ now s)
    (hswap : x.swapOld = none) : doWheelSlotDue g s = wheelEntry s q := by
  simp [doWheelSlotDue, hlone, queue_not_ctrlKey, hfacet, hon, hdue, hswap]

/-- The swap refill ends a shaper's old rate. -/
theorem shaper_swapRefill {s : State} {k : Nat} (h : (shaper s k).swapOld.isSome = true) :
    (shaper (swapRefill s k) k).swapOld = none := by
  obtain ⟨⟨rate, burst⟩, hold⟩ := Option.isSome_iff_exists.mp h
  unfold swapRefill
  simp only [hold]
  split
  · rw [shaper_setShaper_self]
  · rw [shaper_setShaper_self, apply_ite Shaper.swapOld, ite_self]

theorem shaper_swapRefill_ne (s : State) {k j : Nat} (h : j ≠ k) : shaper (swapRefill s k) j = shaper s j := by
  unfold swapRefill
  extract_lets x
  split
  · rfl
  · dsimp only
    split <;> rw [shaper_setShaper_ne _ _ h]

theorem regs_swapRefill (s : State) (k : Nat) : (swapRefill s k).regs = s.regs := by
  unfold swapRefill
  extract_lets x
  split
  · rfl
  · dsimp only
    split <;> rfl

/-! ## Timers of queues and notices -/

theorem doCtrlHeld_due {p since : Nat} {s : State} (hheld : (sched s p).heldSince = some since)
    (hlong : 1000000 < now s - since) (htold : (sched s p).heldTold = false) :
    doCtrlHeld p s = modSched (raise s Code.CTRL_HELD (p / 256) [(16, twinPort s p)]) p
      (fun x => { x with heldTold := true }) := by
  simp [doCtrlHeld, hheld, hlong, htold]

theorem doStallAlert_due {p v q since : Nat} {s : State} (hqueue : waitingQueue s p v = some q)
    (hstall : (sched s p).stalls.find? (fun e => decide (e.1 = v)) = some (v, since))
    (hlong : rd s Reg.FLOWCFG_STALL_ALERT * 1000 ≤ now s - since) (hfirst : (sched s p).starved.contains v = false) :
    doStallAlert p v s = modSched (raise s Code.CREDIT_STARVED (p / 256) [(16, twinPort s p), (8, v)]) p
      (fun x => { x with starved := x.starved ++ [v] }) := by
  unfold doStallAlert
  rw [hqueue, hstall]
  exact if_pos ⟨hlong, hfirst⟩

/-- With no notice due, NOTIFY_TOKEN accrues alone. -/
theorem doNotifyToken_idle {g : Nat} {s : State} (h : dueNotices s g = []) :
    doNotifyToken g s = accrueTokens s g := by
  have hdue : dueNotices (accrueTokens s g) g = dueNotices s g := rfl
  rw [doNotifyToken, flushNotices, hdue, h, List.foldl_nil]

theorem bucket_accrueTokens (s : State) (g : Nat) :
    let n := (bucket s g).frac + (now s - (bucket s g).last) * rd s Reg.FLOWCFG_NOTIFY_RATE
    (bucket (accrueTokens s g) g).tokens = min 64 ((bucket s g).tokens + n / 1000000) ∧
      (bucket (accrueTokens s g) g).last = now s ∧
      ((bucket s g).tokens + n / 1000000 < 64 → (bucket (accrueTokens s g) g).frac = n % 1000000) := by
  intro n
  unfold accrueTokens
  rw [bucket_modBucket, if_pos rfl]
  dsimp only
  split
  · next hfull => exact ⟨(Nat.min_eq_left hfull).symm, rfl, fun h => absurd hfull (Nat.not_le.mpr h)⟩
  · next hroom => exact ⟨(Nat.min_eq_right (Nat.le_of_lt (Nat.not_le.mp hroom))).symm, rfl, fun _ => rfl⟩

/-- Settles O27: each timer by what its command does when it is due. -/
theorem shapersAndTimers : Obligations.ShapersAndTimers := by
  unfold Obligations.ShapersAndTimers
  refine ⟨fun g q x s hlone hfacet hon hdue hlate hswap => ?_, fun q x s hx hswap => ?_,
    fun p since s hheld hlong htold => next_eq (doCtrlHeld_due hheld hlong htold),
    fun p v q since s hqueue hstall hlong hfirst => next_eq (doStallAlert_due hqueue hstall hlong hfirst),
    fun g s hnone => ?_⟩
  · have hx : shaper s q = x := shaper_of_find (by simp [hlone, Tab.find])
    obtain ⟨y, hy, hlast, hmax, hraised⟩ := wheelEntry_spec (s := s) (k := q) (by rwa [hx])
    exact ⟨_, y, next_eq (doWheelSlotDue_lone hlone hfacet hon hdue hswap), hy, hlast, by rw [hmax, hx], hraised⟩
  · have hkey : q.val ≠ ctrlKey (queuePort q) := by unfold ctrlKey; omega
    refine ⟨_, next_eq rfl, ?_, ?_⟩
    · rw [doShaperSwapRefill, shaper_swapRefill_ne _ hkey]
      exact shaper_swapRefill (by rwa [shaper_of_find hx])
    · exact (regs_swapRefill ..).trans (regs_swapRefill ..)
  · obtain ⟨htokens, hlast, hfrac⟩ := bucket_accrueTokens s g
    exact ⟨_, finish_eq (doNotifyToken_idle hnone), htokens, hlast, hfrac, rfl⟩

end Sys2Proof.Machine

/-! # Arming a swap, and the twin's messages (O36, O39) -/

namespace Sys2Proof.Machine

/-! ## Keys that a filter leaves out -/

theorem Store.filter_erase {κ α : Type} [DecidableEq κ] (p : κ × α → Bool) {k : κ} (h : ∀ v, p (k, v) = false)
    (m : List (κ × α)) : (Store.erase m k).filter p = m.filter p := by
  induction m with
  | nil => rfl
  | cons e m ih =>
    obtain ⟨j, v⟩ := e
    by_cases hj : j = k
    · subst hj
      rw [Store.erase, if_pos rfl, ih, List.filter_cons_of_neg (by simp [h])]
    · rw [Store.erase, if_neg hj, List.filter_cons, List.filter_cons, ih]

theorem Store.filter_insert {κ α : Type} (lt : κ → κ → Bool) (p : κ × α → Bool) {k : κ} (h : ∀ v, p (k, v) = false)
    (v : α) (m : List (κ × α)) : (Store.insert lt k v m).filter p = m.filter p := by
  induction m with
  | nil => simp [Store.insert, h]
  | cons e m ih =>
    rw [Store.insert]
    split
    · rw [List.filter_cons_of_neg (by simp [h])]
    · rw [List.filter_cons, List.filter_cons, ih]

theorem Regs.filter_put (p : Addr × Nat → Bool) {a : Addr} (h : ∀ v, p (a, v) = false) (m : Regs) (v : Nat) :
    (m.put a v).filter p = m.filter p := by
  unfold Regs.put Store.put
  split
  · exact Store.filter_erase p h m
  · rw [Store.filter_insert _ p h, Store.filter_erase p h]

/-- A write of another column leaves the list of an element's instances. -/
theorem listed_wr (s : State) {a : Addr} {obj el : Nat} (h : ¬(a.obj = obj ∧ a.el = el)) (v : Nat)
    (p : Nat → Bool) : listed (wr s a v) obj el p = listed s obj el p := by
  unfold listed
  exact congrArg _ (Regs.filter_put _ (fun v => by simp [h]) s.regs v)

theorem chordHeld_wr (s : State) {a : Addr} (h : a.obj ≠ 0x0400) (v p : Nat) :
    chordHeld (wr s a v) p = chordHeld s p := by
  unfold chordHeld activeChords
  rw [listed_wr _ (fun hw => h hw.1)]
  rfl

theorem firstGroupFault_wr (s : State) {a : Addr} (h : a.obj ≠ 0x0400) (v : Nat) :
    firstGroupFault (wr s a v) = firstGroupFault s := by
  unfold firstGroupFault
  simp only [chordHeld_wr s h]
  rfl

/-! ## Arming -/

theorem doSwapArm_idle {s : State} (hidle : rd s Reg.SWAP_STATE = 0) (hold : oldSetHeld s = false) :
    doSwapArm s = wr (modSets s (fun x => { x with
      target := rd s Reg.SWAP_TARGET, force := rd s Reg.SWAP_FORCE, trigger := rd s Reg.SWAP_TRIGGER_GROUP,
      expectHi := rd s Reg.SWAP_EXPECT_HI, expectLo := rd s Reg.SWAP_EXPECT_LO, locked := true }))
      Reg.SWAP_STATE 1 := by
  unfold doSwapArm
  simp only [hidle, hold]
  rfl

theorem doSwapArm_waiting {s : State} (hwaits : rd s Reg.SWAP_STATE = 2 ∨ rd s Reg.SWAP_STATE = 3) :
    doSwapArm s = noteRefusal 1 0 s := by
  unfold doSwapArm
  rw [if_neg (by omega), if_pos (by omega)]

theorem rd_noteRefusal (err detail : Nat) (s : State) {a : Addr} (he : a ≠ Reg.SWAP_ERROR) (hd : a ≠ Reg.SWAP_DETAIL) :
    rd (noteRefusal err detail s) a = rd s a :=
  (rd_wr_ne _ _ hd).trans (rd_wr_ne _ _ he)

theorem noteRefusal_error (err detail : Nat) (s : State) : rd (noteRefusal err detail s) Reg.SWAP_ERROR = err :=
  (rd_wr_ne _ _ (by simp)).trans (rd_wr_self ..)

theorem noteRefusal_detail (err detail : Nat) (s : State) : rd (noteRefusal err detail s) Reg.SWAP_DETAIL = detail :=
  rd_wr_self ..

/-- What a refused swap leaves. -/
theorem refuseSwap_spec (err detail : Nat) (s : State) :
    rd (refuseSwap err detail s) Reg.SWAP_STATE = 0 ∧ rd (refuseSwap err detail s) Reg.SWAP_ERROR = err ∧
      (refuseSwap err detail s).sets.locked = false := by
  refine ⟨?_, noteRefusal_error .., rfl⟩
  rw [refuseSwap, rd_noteRefusal _ _ _ (by simp) (by simp), rd_modSets, rd_wr_self]

theorem rd_refuseSwap (err detail : Nat) (s : State) {a : Addr} (ha : a.obj ≠ 0x0D01) :
    rd (refuseSwap err detail s) a = rd s a := by
  rw [refuseSwap, rd_noteRefusal _ _ _ (fun h => ha (by rw [h])) (fun h => ha (by rw [h])), rd_modSets,
    rd_wr_ne _ _ (fun h => ha (by rw [h]))]

theorem rd_digestNoted (s : State) {a : Addr} (hhi : a ≠ Reg.CONFSET_SHADOW_HI) (hlo : a ≠ Reg.CONFSET_SHADOW_LO) :
    rd (digestNoted s) a = rd s a :=
  (rd_wr_ne _ _ hlo).trans (rd_wr_ne _ _ hhi)

theorem digestNoted_hi (s : State) : rd (digestNoted s) Reg.CONFSET_SHADOW_HI = setDigest s.shadow / 2 ^ 64 :=
  (rd_wr_ne _ _ (by simp)).trans (rd_wr_self ..)

theorem digestNoted_lo (s : State) : rd (digestNoted s) Reg.CONFSET_SHADOW_LO = setDigest s.shadow % 2 ^ 64 :=
  rd_wr_self ..

/-- A digest other than expected (R399). -/
theorem doSwapArmed_digest {s : State} (hst : rd s Reg.SWAP_STATE = 1)
    (hset : s.sets.expectHi * 2 ^ 64 + s.sets.expectLo ≠ 0)
    (hother : s.sets.expectHi * 2 ^ 64 + s.sets.expectLo ≠ setDigest s.shadow) :
    doSwapArmed s = refuseSwap 2 0 (digestNoted s) :=
  (if_neg (not_not_intro hst)).trans (if_pos ⟨hset, hother⟩)

/-- An epoch that has all but come. -/
theorem doSwapArmed_late {s : State} (hst : rd s Reg.SWAP_STATE = 1)
    (hdigest : s.sets.expectHi * 2 ^ 64 + s.sets.expectLo = 0 ∨
      s.sets.expectHi * 2 ^ 64 + s.sets.expectLo = setDigest s.shadow)
    (htarget : s.sets.target ≠ 0) (hlate : s.sets.target ≤ rd s Reg.EPOCH_NUMBER + 1) :
    doSwapArmed s = refuseSwap 3 0 (digestNoted s) := by
  have hepoch : rd (digestNoted s) Reg.EPOCH_NUMBER = rd s Reg.EPOCH_NUMBER := rd_digestNoted s (by simp) (by simp)
  unfold doSwapArmed
  rw [if_neg (not_not_intro hst)]
  extract_lets d s1 x expect s2
  have hcome : x.target ≤ rd s1 Reg.EPOCH_NUMBER + 1 := by
    rw [show rd s1 Reg.EPOCH_NUMBER = rd s Reg.EPOCH_NUMBER from hepoch]
    exact hlate
  rw [if_neg (fun h => hdigest.elim h.1 h.2), if_pos ⟨htarget, hcome⟩]
  rfl

/-- A valid set for an epoch still to come. -/
theorem doSwapArmed_waits {s : State} (hst : rd s Reg.SWAP_STATE = 1)
    (hdigest : s.sets.expectHi * 2 ^ 64 + s.sets.expectLo = 0 ∨
      s.sets.expectHi * 2 ^ 64 + s.sets.expectLo = setDigest s.shadow)
    (hlater : rd s Reg.EPOCH_NUMBER + 1 < s.sets.target) (hvalid : validate (digestNoted s) = none) :
    doSwapArmed s = armed s := by
  have hepoch : rd (digestNoted s) Reg.EPOCH_NUMBER = rd s Reg.EPOCH_NUMBER := rd_digestNoted s (by simp) (by simp)
  unfold doSwapArmed
  rw [if_neg (not_not_intro hst)]
  extract_lets d s1 x expect s2
  have h1 : s1 = digestNoted s := rfl
  have htarget : x.target ≠ 0 := fun h => by
    have hx : x.target = s.sets.target := rfl
    omega
  rw [if_neg (fun h => hdigest.elim h.1 h.2), if_neg (fun h => Nat.not_le.mpr hlater (hepoch ▸ h.2)), h1, hvalid]
  exact if_pos htarget

theorem digestNoted_sets (s : State) : (digestNoted s).sets = s.sets := by
  simp only [digestNoted, wr_sets]

theorem digestNoted_shadow (s : State) : (digestNoted s).shadow = s.shadow := by
  simp only [digestNoted, wr_shadow]

theorem armed_sets (s : State) : (armed s).sets = s.sets := by
  simp only [armed, wr_sets, digestNoted_sets]

theorem armed_state (s : State) : rd (armed s) Reg.SWAP_STATE = 2 := rd_wr_self ..

theorem armed_error (s : State) : rd (armed s) Reg.SWAP_ERROR = 0 := by
  rw [armed, rd_wr_ne _ _ (by simp), rd_wr_ne _ _ (by simp), rd_wr_self]

/-- Settles O36: by what ARM, the end of arming and DISARM write. -/
theorem swapArming : Obligations.SwapArming := by
  unfold Obligations.SwapArming
  refine ⟨fun s hup hidle hold => ?_, fun s hup hwaits => ?_, fun s hst hset hother => ?_,
    fun s hst hdigest htarget hlate => ?_,
    fun s hst hdigest hlater hlong hchord hgroup hregions harith htwin => ?_, fun s hup hwaits => ?_⟩
  · exact ⟨_, finish_eq ((written_of_up hup _).trans (doSwapArm_idle hidle hold)), rd_wr_self .., rfl,
      fun a ha => rd_wr_ne _ _ ha⟩
  · exact ⟨_, finish_eq ((written_of_up hup _).trans (doSwapArm_waiting hwaits)),
      rd_noteRefusal _ _ _ (by simp) (by simp), rfl, noteRefusal_error .., noteRefusal_detail .., rfl⟩
  · obtain ⟨hstate, herror, hlocked⟩ := refuseSwap_spec 2 0 (digestNoted s)
    refine ⟨_, finish_eq (doSwapArmed_digest hst hset hother), hstate, herror, hlocked, ?_, ?_⟩
    · rw [rd_refuseSwap _ _ _ (by simp), digestNoted_hi]
    · rw [rd_refuseSwap _ _ _ (by simp), digestNoted_lo]
  · obtain ⟨hstate, herror, hlocked⟩ := refuseSwap_spec 3 0 (digestNoted s)
    exact ⟨_, finish_eq (doSwapArmed_late hst hdigest htarget hlate), hstate, herror, hlocked⟩
  · have hgroup' : firstGroupFault (digestNoted s) = none := by
      rw [digestNoted, firstGroupFault_wr _ (by simp), firstGroupFault_wr _ (by simp), hgroup]
    have hvalid : validate (digestNoted s) = none :=
      validate_congr (digestNoted_shadow s) hlong hchord hgroup' hregions harith htwin
    exact ⟨_, finish_eq (doSwapArmed_waits hst hdigest hlater hvalid), armed_state s, armed_error s, armed_sets s⟩
  · have heq : doSwapDisarm s = modSets (wr (wr s Reg.SWAP_ERROR 6) Reg.SWAP_STATE 0)
        (fun x => { x with locked := false }) := if_pos hwaits
    refine ⟨_, finish_eq ((written_of_up hup _).trans heq), ?_, ?_, rfl, rfl, fun a hstate herror => ?_⟩
    · rw [rd_modSets, rd_wr_self]
    · rw [rd_modSets, rd_wr_ne _ _ (by simp), rd_wr_self]
    · rw [rd_modSets, rd_wr_ne _ _ hstate, rd_wr_ne _ _ herror]

/-! ## The twin's messages -/

/-- The peer's last message to a member whose own state is sent. -/
theorem doTwinMirror_complete {s : State}
    (hst : twinState s = TwinState.FORMING ∨ twinState s = TwinState.REJOINING) (hsent : s.twin.sentAll = true) :
    doTwinMirror .complete s = raise (wr (modTwin s (fun w => { w with gotAll := true })) Reg.TWIN_STATE
      TwinState.PAIRED) Code.TWIN_PAIRED 0xFF [] := by
  have hmirrors : twinState s = TwinState.FORMING ∨ twinState s = TwinState.PAIRED ∨
      twinState s = TwinState.REJOINING := hst.imp_right .inr
  exact (if_neg (not_not_intro hmirrors)).trans (if_pos ⟨rfl, hsent, hst⟩)

theorem doTwinMirror_teamField {s : State}
    (hst : twinState s = TwinState.FORMING ∨ twinState s = TwinState.PAIRED) (t : Team) (el v : Nat) :
    doTwinMirror (.teamField t el v) s = mirrorPut ⟨0x0A00, t, el⟩ v s := by
  have hmirrors : twinState s = TwinState.FORMING ∨ twinState s = TwinState.PAIRED ∨
      twinState s = TwinState.REJOINING := hst.imp_right .inl
  exact if_neg (not_not_intro hmirrors)

/-- A member outside a forming or paired twin hears nothing. -/
theorem doTwinMirror_deaf {s : State} (hst : twinState s = TwinState.NONE ∨ twinState s = TwinState.ALONE)
    (m : TwinMessage) : doTwinMirror m s = s := by
  refine if_pos ?_
  rcases hst with h | h <;> simp [h]

/-! ## A lost peer -/

theorem aside_showDigest {P : Piece → Bool} (s : State) (t : Nat) (h0A00 : P (.obj 0x0A00) = true) :
    aside P (showDigest s t) = aside P s := by
  simp [showDigest, h0A00]

theorem aside_adoptSlot {P : Piece → Bool} (t : Nat) (s : State) (j : Nat) (hP : Traffic P)
    (h0A00 : P (.obj 0x0A00) = true) (hcoll : P .coll = true) : aside P (adoptSlot t s j) = aside P s := by
  simp [adoptSlot, hP, h0A00, hcoll]

/-- R418: a context taken over is written from its copy, and stays within the harness and the traffic. -/
theorem aside_adoptTeam {P : Piece → Bool} (s : State) (t : Nat) (hP : Traffic P) (h0902 : P (.obj 0x0902) = true)
    (h0A00 : P (.obj 0x0A00) = true) (h0A01 : P (.obj 0x0A01) = true) (h0D06 : P (.obj 0x0D06) = true)
    (hTeamFailed : P (.record Code.TEAM_FAILED) = true) (hTeamReopened : P (.record Code.TEAM_REOPENED) = true)
    (hcoll : P .coll = true) (htwin : P .twin = true) : aside P (adoptTeam s t) = aside P s := by
  unfold adoptTeam
  extract_lets g x s1 s2 s3 s4 s5 fs r p s6 s7 s8 n
  have h1 : aside P s1 = aside P s := aside_foldl P s _ (fun s e => by simp [h0A00]) _
  have h2 : aside P s2 = aside P s1 :=
    aside_foldl P s1 _ (fun s m => aside_foldl P s _ (fun s e => by simp [h0A01]) _) _
  have h5 : aside P s5 = aside P s := by simp [s5, s4, s3, h1, h2, h0A00, h0D06, htwin]
  have h7 : aside P s7 = aside P s := by simp [s7, s6, aside_showDigest, h0A00, hcoll, h5]
  split
  · simp [hP, h0902, h0A00, hcoll, hTeamFailed, h7]
  · have h8 : aside P s8 = aside P s :=
      (aside_foldl P s7 _ (fun s j => aside_adoptSlot t s j hP h0A00 hcoll) _).trans h7
    simp [hTeamReopened, h8]

/-- The contexts held for the peer, each taken over. -/
def adoptAll (ts : List Nat) (s : State) : State := ts.foldl adoptTeam s

theorem aside_adoptAll {P : Piece → Bool} (ts : List Nat) (s : State) (hP : Traffic P)
    (h0902 : P (.obj 0x0902) = true) (h0A00 : P (.obj 0x0A00) = true) (h0A01 : P (.obj 0x0A01) = true)
    (h0D06 : P (.obj 0x0D06) = true) (hTeamFailed : P (.record Code.TEAM_FAILED) = true)
    (hTeamReopened : P (.record Code.TEAM_REOPENED) = true) (hcoll : P .coll = true) (htwin : P .twin = true) :
    aside P (adoptAll ts s) = aside P s :=
  aside_foldl P s _ (fun s t => aside_adoptTeam s t hP h0902 h0A00 h0A01 h0D06 hTeamFailed hTeamReopened hcoll htwin) ts

theorem adoptAll_clock (ts : List Nat) (s : State) : (adoptAll ts s).clock = s.clock :=
  clock_of_outside (P := fun _ => false) (by simp [adoptAll]) rfl

/-- A member alone: the takeover counted, and the pair's ports no candidates. -/
def alone (s : State) : State :=
  let s := raise (wr s Reg.TWIN_STATE TwinState.ALONE) Code.TWIN_PEER_LOST 0xFF []
  let s := inc s Reg.TWIN_TAKEOVERS 32
  modClock s (fun c => { c with candidates := c.candidates.filter (fun e => !isPairPort s e.1) })

theorem doPeerLoss_eq {s : State} (hst : twinState s = TwinState.PAIRED ∨ twinState s = TwinState.REJOINING)
    (hsilent : peerSilent s = true) :
    doPeerLoss s = flushAllNotices (modTwin (adoptAll ((alone s).twin.held.map (fun e => e.1)) (alone s))
      (fun _ => {})) := by
  unfold doPeerLoss
  rw [if_neg (by simp [hst, hsilent])]
  rfl

theorem alone_spec (s : State) :
    rd (alone s) Reg.TWIN_STATE = TwinState.ALONE ∧
      rd (alone s) Reg.TWIN_TAKEOVERS = (rd s Reg.TWIN_TAKEOVERS + 1) % 2 ^ 32 ∧
      (∀ k, rd (alone s) (Reg.TWIN_PAIR k) = rd s (Reg.TWIN_PAIR k)) ∧
      (∀ e ∈ (alone s).clock.candidates, isPairPort s e.1 = false) ∧
      ⟨Code.TWIN_PEER_LOST, 0xFF, recordData []⟩ ∈ (alone s).raised := by
  have hpair (k : Nat) : rd (alone s) (Reg.TWIN_PAIR k) = rd s (Reg.TWIN_PAIR k) := by
    have hlow (n : Nat) (h : n < 32) : Reg.TWIN_PAIR k ≠ ⟨0x0D05, 0, n⟩ := fun heq => by
      have := congrArg Addr.el heq
      dsimp only at this
      omega
    rw [alone, rd_modClock, rd_inc, if_neg (hlow _ (by decide)), rd_raise, rd_wr_ne _ _ (hlow _ (by decide))]
  refine ⟨?_, ?_, hpair, fun e he => ?_, List.mem_append_right _ (List.mem_singleton.mpr rfl)⟩
  · rw [alone, rd_modClock, rd_inc, if_neg (by simp), rd_raise, rd_wr_self]
  · rw [alone, rd_modClock, rd_inc, if_pos rfl, rd_raise, rd_wr_ne _ _ (by simp)]
  · have hkept : (!isPairPort (alone s) e.1) = true := (List.mem_filter.mp he).2
    simpa [isPairPort, mapHas, hpair] using hkept

/-- R418: what a member keeps of its aloneness while it takes the contexts over and sends its notices. -/
theorem doPeerLoss_spec {s : State} (hst : twinState s = TwinState.PAIRED ∨ twinState s = TwinState.REJOINING)
    (hsilent : peerSilent s = true) :
    (∀ a, a.obj = 0x0D05 → rd (doPeerLoss s) a = rd (alone s) a) ∧
      (doPeerLoss s).clock = (alone s).clock ∧
      (⟨Code.TWIN_PEER_LOST, 0xFF, recordData []⟩ ∈ (doPeerLoss s).raised ↔
        ⟨Code.TWIN_PEER_LOST, 0xFF, recordData []⟩ ∈ (alone s).raised) := by
  rw [doPeerLoss_eq hst hsilent]
  have hkeep : aside (besides [.obj 0x0D05, .record Code.TWIN_PEER_LOST]) (flushAllNotices (modTwin
      (adoptAll ((alone s).twin.held.map (fun e => e.1)) (alone s)) (fun _ => {}))) =
      aside (besides [.obj 0x0D05, .record Code.TWIN_PEER_LOST]) (alone s) := by
    simp [aside_adoptAll]
  have hclock : (flushAllNotices (modTwin (adoptAll ((alone s).twin.held.map (fun e => e.1)) (alone s))
      (fun _ => {}))).clock = (alone s).clock :=
    (clock_of_outside (P := fun _ => false)
      (s := adoptAll ((alone s).twin.held.map (fun e => e.1)) (alone s)) (by simp) rfl).trans (adoptAll_clock ..)
  exact ⟨fun a ha => rd_of_besides hkeep (by simp [ha]), hclock, mem_raised_of_aside hkeep (by simp)⟩

/-- Settles O39: by what each message and the loss of the peer write. -/
theorem twinMessages : Obligations.TwinMessages := by
  unfold Obligations.TwinMessages
  refine ⟨fun s hst hsent => ?_, fun team el v s hst => ?_, fun m s hst => finish_eq (doTwinMirror_deaf hst m),
    fun s hst hsilent => ?_⟩
  · refine ⟨_, finish_eq (doTwinMirror_complete hst hsent), ?_, rfl, rfl, fun a ha => ?_⟩
    · rw [twinState, rd_raise, rd_wr_self]
    · rw [rd_raise, rd_wr_ne _ _ ha, rd_modTwin]
  · exact ⟨_, finish_eq (doTwinMirror_teamField hst team el v), Regs.get_put_self .., rfl⟩
  · obtain ⟨hstate, htakeovers, hpair, hcandidates, hrecord⟩ := alone_spec s
    obtain ⟨hread, hclock, hraised⟩ := doPeerLoss_spec hst hsilent
    refine ⟨_, finish_eq rfl, (hread _ rfl).trans hstate, (hread _ rfl).trans htakeovers, fun e he => ?_,
      hraised.mpr hrecord⟩
    have hpairs : isPairPort (doPeerLoss s) e.1 = isPairPort s e.1 := by
      simp only [isPairPort, mapHas, hread (Reg.TWIN_PAIR _) rfl, hpair]
    rw [hclock] at he
    exact hpairs ▸ hcandidates e he

end Sys2Proof.Machine

/-! # Engines, blocks and administration (O33) -/

namespace Sys2Proof.Machine

/-! ## Blocks -/

@[simp] theorem countIn_coll (s : State) (bank sel : Nat) (e : Event) : (countIn s bank sel e).coll = s.coll :=
  coll_of_aside (P := besides [.coll]) (by simp) (by simp)

theorem chunkSlot_congr {s t : State} (h : t.coll.slots = s.coll.slots) (u j : Nat) :
    chunkSlot t u j = chunkSlot s u j := by
  unfold chunkSlot
  rw [h]

theorem chunkSlot_modSlot_self (s : State) (t j : Nat) (f : ChunkSlot → ChunkSlot) :
    chunkSlot (modSlot s t j f) t j = f (chunkSlot s t j) := by
  rw [chunkSlot_modSlot, if_pos rfl]

/-- The list of idle blocks is all that idleness touches. -/
theorem chunkSlot_noteIdle (s : State) (t j u k : Nat) : chunkSlot (noteIdle s t j) u k = chunkSlot s u k := by
  unfold noteIdle
  split
  · rfl
  split
  · rfl
  split <;> rfl

theorem doBlockStage_staged {t j corrected : Nat} {s : State} (hactive : teamState s t = TeamState.ACTIVE)
    (hwindow : j < (team s t).window) (hhbm : inHbm s t j = true) (hout : (chunkSlot s t j).staged = false)
    (hwanted : blockWanted s t j = true)
    (hroom : stageUsed s (homeOf s t j) + slotBytes (team s t) ≤ rd s Reg.ARITHCFG_STAGE_AREA * 1048576) :
    (chunkSlot (doBlockStage t j corrected s) t j).staged = true := by
  unfold doBlockStage
  extract_lets f x s1 s2 s3
  rw [if_neg (by simp [hactive, hwindow, hhbm, hout, hwanted, f, x, hroom])]
  have h1 : (chunkSlot s1 t j).staged = true := by rw [chunkSlot_modSlot_self]
  rw [chunkSlot_noteIdle]
  simp only [s3, s2, chunkSlot_congr (congrArg Collective.slots (countIn_coll ..)), h1]

/-- The oldest idle block of a home is written back and leaves the list. -/
theorem doBlockWriteBack_eq {t j : Nat} {s : State} (hidle : chunkBusy s t j = false)
    (hfirst : (s.coll.writeBack.filter (fun y => decide (homeOf s y.1 y.2 = homeOf s t j))).head? = some (t, j)) :
    let u := modColl s (fun c => { c with writeBack := c.writeBack.filter (fun y => decide (y ≠ (t, j))) })
    let v := modSlot u t j (fun k => { k with staged := false })
    ∃ n, doBlockWriteBack t j s = countIn v (hbmBank (homeOf s t j) (Config.blockGroup t j).val) 0x6004 n :=
  ⟨_, if_neg (by simp [hidle, hfirst])⟩

/-! ## Engines -/

/-- An engine that leaves service while another of its facet serves takes nothing with it. -/
theorem engineLeft_of_other {s : State} {e e' : Nat} (hfacet : e' / 40 = e / 40)
    (hserves : rd s (Reg.HENGINE_STATE e') = 0) : engineLeft s e = s := by
  have hin : e' ∈ enginesIn s (e / 40) := by
    simp only [enginesIn, List.mem_filter, List.mem_map, List.mem_range, decide_eq_true_eq]
    exact ⟨⟨e' % 40, Nat.mod_lt _ (by decide), by omega⟩, hserves⟩
  have hsome : (enginesIn s (e / 40)).isEmpty = false := by
    rw [List.isEmpty_eq_false_iff]
    exact List.ne_nil_of_mem hin
  rw [engineLeft, hsome]
  exact if_neg (by simp)

theorem doEngineOut_eq {e e' : Nat} {s : State} (hin : rd s (Reg.HENGINE_STATE e) = 0) (hne : e' ≠ e)
    (hfacet : e' / 40 = e / 40) (hserves : rd s (Reg.HENGINE_STATE e') = 0) :
    doEngineOut e s = wr (wr s (Reg.HENGINE_ADMIN e) 1) (Reg.HENGINE_STATE e) 1 := by
  have hstate : rd (wr s (Reg.HENGINE_ADMIN e) 1) (Reg.HENGINE_STATE e) = 0 := by rw [rd_wr_ne _ _ (by simp), hin]
  refine (if_pos hstate).trans (engineLeft_of_other hfacet ?_)
  rw [rd_wr_ne _ _ (by simpa using hne), rd_wr_ne _ _ (by simp), hserves]

theorem doEngineReturn_eq {e : Nat} {s : State} (hout : rd s (Reg.HENGINE_STATE e) = 1) :
    doEngineReturn e s = wr (wr s (Reg.HENGINE_ADMIN e) 0) (Reg.HENGINE_STATE e) 0 := by
  have hstate : rd (wr s (Reg.HENGINE_ADMIN e) 0) (Reg.HENGINE_STATE e) = 1 := by rw [rd_wr_ne _ _ (by simp), hout]
  exact if_pos hstate

/-! ## Yokes -/

/-- A yoke with no trace on it leaves its record and gives up its waiting bands. -/
theorem yokeLeft_of_none {s : State} (h : s.coll.yoke = []) (f : Nat) :
    yokeLeft s f = modColl (raise s Code.YOKE_FALLBACK f [])
      (fun c => { c with bands := c.bands.filter (fun b => !(decide (b.facet = f) && !b.issued)) }) := by
  simp [yokeLeft, fallBack, modColl, raise, h]

theorem doYokeOut_eq {f : Nat} {s : State} (hin : rd s (Reg.YOKE_STATE f) = 0) :
    doYokeOut f s = yokeLeft (wr (wr s (Reg.YOKE_ADMIN f) 1) (Reg.YOKE_STATE f) 1) f :=
  if_pos (by rw [rd_wr_ne _ _ (by simp), hin])

theorem doYokeReturn_eq {f : Nat} {s : State} (hout : rd s (Reg.YOKE_STATE f) = 1) :
    doYokeReturn f s = raise (wr (wr s (Reg.YOKE_ADMIN f) 0) (Reg.YOKE_STATE f) 0) Code.YOKE_RESTORED f [] :=
  if_pos (by rw [rd_wr_ne _ _ (by simp), hout])

/-- Settles O33: by what staging, writing back, leaving and returning write. -/
theorem enginesBlocksAndAdministration : Obligations.EnginesBlocksAndAdministration := by
  unfold Obligations.EnginesBlocksAndAdministration
  refine ⟨fun t j corrected s hactive hwindow hhbm hout hwanted hroom => ?_, fun t j s hidle hfirst => ?_,
    fun e e' s hup hin hne hfacet hserves => ?_, fun e s hup hout => ?_, fun g s hup hin hnone => ?_,
    fun g s hup hout => ?_⟩
  · exact ⟨_, next_eq rfl, doBlockStage_staged hactive hwindow hhbm hout hwanted hroom⟩
  · obtain ⟨n, hn⟩ := doBlockWriteBack_eq hidle hfirst
    refine ⟨_, next_eq hn, ?_, ?_⟩
    · rw [chunkSlot_congr (congrArg Collective.slots (countIn_coll ..)), chunkSlot_modSlot_self]
    · rw [countIn_coll]
      intro hmem
      have := (List.mem_filter.mp hmem).2
      simp at this
  · exact finish_eq ((written_of_up hup _).trans
      (doEngineOut_eq hin (fun h => hne (Fin.ext h)) hfacet hserves))
  · exact finish_eq ((written_of_up hup _).trans (doEngineReturn_eq hout))
  · have hleft := yokeLeft_of_none (s := wr (wr s (Reg.YOKE_ADMIN g) 1) (Reg.YOKE_STATE g) 1) hnone g
    refine ⟨_, finish_eq ((written_of_up hup _).trans ((doYokeOut_eq hin).trans hleft)), ?_, ?_, rfl,
      fun a hadmin hstate => ?_⟩
    · rw [rd_modColl, rd_raise, rd_wr_ne _ _ (by simp), rd_wr_self]
    · rw [rd_modColl, rd_raise, rd_wr_self]
    · rw [rd_modColl, rd_raise, rd_wr_ne _ _ hstate, rd_wr_ne _ _ hadmin]
  · exact finish_eq ((written_of_up hup _).trans (doYokeReturn_eq hout))

end Sys2Proof.Machine

/-! # What admission, epochs and mirrors leave unchanged -/

namespace Sys2Proof.Machine

section
variable (P : Piece → Bool)

/-! ## The named operations over the state -/

@[simp] theorem aside_wrI (w : Nat) (s : State) (a : Addr) (x : Int) (h : P (.obj a.obj) = true) :
    aside P (wrI w s a x) = aside P s := by
  exact aside_wr s h _

/-! ## Scheduling, Shaping and Policing -/

@[simp] theorem aside_swapRefill (s : State) (k : Nat) (hegress : P .egress = true) :
    aside P (swapRefill s k) = aside P s := by
  simp only [swapRefill]
  (repeat' split) <;> simp [hegress]
@[simp] theorem aside_wakeQueue (s : State) (q : Nat) (hegress : P .egress = true) :
    aside P (wakeQueue s q) = aside P s := by
  simp [wakeQueue, hegress]
@[simp] theorem aside_beginWake (p : Nat) (s : State) (hlinks : P .links = true) (h0300 : P (.obj 0x0300) = true) :
    aside P (beginWake p s) = aside P s := by
  simp [beginWake, hlinks, h0300]
@[simp] theorem aside_startWake (p : Nat) (s : State) (hlinks : P .links = true) (h0300 : P (.obj 0x0300) = true) :
    aside P (startWake p s) = aside P s := by
  simp [startWake, hlinks, h0300]
@[simp] theorem aside_abortSleep (p : Nat) (s : State) (hlinks : P .links = true) :
    aside P (abortSleep p s) = aside P s := by
  simp [abortSleep, hlinks]
@[simp] theorem aside_wakePort (p : Nat) (s : State) (hlinks : P .links = true) (h0300 : P (.obj 0x0300) = true) :
    aside P (wakePort p s) = aside P s := by
  unfold wakePort
  split <;> simp [hlinks, h0300]

/-! ## Shared Buffers and Spill -/

@[simp] theorem aside_writeSegments (n : Nat) (s : State) (q : Nat) (tail : List Nat) (hframes : P .frames = true)
    (hegress : P .egress = true) (hSpillFull : P (.record Code.SPILL_FULL) = true) :
    aside P (writeSegments n s q tail) = aside P s := by
  induction n generalizing s tail with
  | zero => rfl
  | succ n ih =>
    unfold writeSegments
    extract_lets r ids cells whole ten g sid grp youngest s1 s2 s3
    have h3 : aside P s3 = aside P s := by simp [s3, s2, s1, hegress, hframes]
    (repeat' split) <;> simp [ih, h3, hegress, hSpillFull]
@[simp] theorem aside_spillStep (s : State) (q : Nat) (hframes : P .frames = true) (hegress : P .egress = true)
    (hSpillFull : P (.record Code.SPILL_FULL) = true) :
    aside P (spillStep s q) = aside P s := by
  simp [spillStep, hframes, hegress, hSpillFull]
@[simp] theorem aside_ecnMark (s : State) (f : Frame) (hP : Traffic P) :
    aside P (ecnMark s f).1 = aside P s := by
  simp only [ecnMark]
  (repeat' split) <;> simp [hP.all]
@[simp] theorem aside_enqueue (s : State) (id : Nat) (hP : Traffic P)
    (hSpillFull : P (.record Code.SPILL_FULL) = true) :
    aside P (enqueue s id) = aside P s := by
  unfold enqueue
  split <;> simp [hP.all, hSpillFull]
@[simp] theorem aside_admitFrame (s : State) (id : Nat) (r : Region) (hP : Traffic P) (h0300 : P (.obj 0x0300) = true)
    (h0703 : P (.obj 0x0703) = true) (h0704 : P (.obj 0x0704) = true)
    (hSpillFull : P (.record Code.SPILL_FULL) = true) :
    aside P (admitFrame s id r) = aside P s := by
  unfold admitFrame
  split <;> simp [hP, hP.all, h0300, h0703, h0704, hSpillFull]
@[simp] theorem aside_waitFrame (s : State) (id : Nat) (f : Frame) (c : WaitCause) (hframes : P .frames = true)
    (h0702 : P (.obj 0x0702) = true) :
    aside P (waitFrame s id f c) = aside P s := by
  simp [waitFrame, hframes, h0702]
@[simp] theorem aside_testRequest (s : State) (id : Nat) (hP : Traffic P) (h0300 : P (.obj 0x0300) = true)
    (h0702 : P (.obj 0x0702) = true) (h0703 : P (.obj 0x0703) = true) (h0704 : P (.obj 0x0704) = true)
    (hSpillFull : P (.record Code.SPILL_FULL) = true) :
    aside P (testRequest s id) = aside P s := by
  unfold testRequest
  (repeat' split) <;> simp [hP, hP.all, h0300, h0702, h0703, h0704, hSpillFull]

/-! ## The Solid -/

@[simp] theorem aside_setPool (s : State) (f g : Nat) (x : PoolGroup) (hlattice : P .lattice = true) :
    aside P (setPool s f g x) = aside P s := by
  simp [setPool, hlattice]
@[simp] theorem aside_balanceFacet (s : State) (f : Nat) (hlattice : P .lattice = true) :
    aside P (balanceFacet s f) = aside P s := by
  simp only [balanceFacet]
  (repeat' split) <;> simp [hlattice]
@[simp] theorem aside_balanceLattice (s : State) (hlattice : P .lattice = true) :
    aside P (balanceLattice s) = aside P s := by
  simp [balanceLattice, hlattice]

/-! ## Counter banks read, cleared, programmed and mirrored -/

@[simp] theorem aside_mirrorBank (epoch flags slot : Nat) (s : State) (bank : Nat) (h0F02 : P (.obj 0x0F02) = true) :
    aside P (mirrorBank epoch flags slot s bank) = aside P s := by
  simp [mirrorBank, h0F02]
@[simp] theorem aside_mirrorAll (epoch flags slot : Nat) (s : State) (h0F02 : P (.obj 0x0F02) = true) :
    aside P (mirrorAll epoch flags slot s) = aside P s := by
  simp [mirrorAll, h0F02]
@[simp] theorem aside_takeMirrors (epoch flags : Nat) (s : State) (h0F02 : P (.obj 0x0F02) = true)
    (h0F03 : P (.obj 0x0F03) = true) (hCaptureTaken : P (.record Code.CAPTURE_TAKEN) = true) :
    aside P (takeMirrors epoch flags s) = aside P s := by
  simp [takeMirrors, h0F02, h0F03, hCaptureTaken]

/-! ## Epochs -/

@[simp] theorem aside_noteRoot (s : State) (other : Nat × Nat) (hEpochRoot : P (.record Code.EPOCH_ROOT) = true) :
    aside P (noteRoot s other) = aside P s := by
  simp [noteRoot, hEpochRoot]
@[simp] theorem aside_noteLapse (s : State) :
    aside P (noteLapse s) = aside P s := by
  simp [noteLapse]
@[simp] theorem aside_yieldRoot (b : Nat × Nat) (s : State) (h0D00 : P (.obj 0x0D00) = true)
    (hEpochRoot : P (.record Code.EPOCH_ROOT) = true) :
    aside P (yieldRoot b s) = aside P s := by
  simp [yieldRoot, h0D00, hEpochRoot]
@[simp] theorem aside_setSource (s : State) (p : Nat) (h0D00 : P (.obj 0x0D00) = true)
    (hEpochSource : P (.record Code.EPOCH_SOURCE) = true) :
    aside P (setSource s p) = aside P s := by
  simp [setSource, h0D00, hEpochSource]
@[simp] theorem aside_sendEpoch (s : State) (p : Nat) (hP : Traffic P) (h0300 : P (.obj 0x0300) = true)
    (h0702 : P (.obj 0x0702) = true) (h0703 : P (.obj 0x0703) = true) (h0704 : P (.obj 0x0704) = true)
    (hSpillFull : P (.record Code.SPILL_FULL) = true) :
    aside P (sendEpoch s p) = aside P s := by
  simp [sendEpoch, hP, hP.all, h0300, h0702, h0703, h0704, hSpillFull]
@[simp] theorem aside_enterHoldover (src : Nat) (s : State) (h0D00 : P (.obj 0x0D00) = true)
    (hEpochSource : P (.record Code.EPOCH_SOURCE) = true) (hHoldoverEnter : P (.record Code.HOLDOVER_ENTER) = true) :
    aside P (enterHoldover src s) = aside P s := by
  simp [enterHoldover, h0D00, hEpochSource, hHoldoverEnter]
@[simp] theorem aside_follow (s : State) (e : Nat × Candidate) (h0D00 : P (.obj 0x0D00) = true)
    (hEpochSource : P (.record Code.EPOCH_SOURCE) = true) :
    aside P (follow s e) = aside P s := by
  simp [follow, h0D00, hEpochSource]
@[simp] theorem aside_becomeRoot (s : State) (other : Nat × Nat) (h0D00 : P (.obj 0x0D00) = true)
    (hEpochRoot : P (.record Code.EPOCH_ROOT) = true) (hEpochSource : P (.record Code.EPOCH_SOURCE) = true) :
    aside P (becomeRoot s other) = aside P s := by
  simp [becomeRoot, h0D00, hEpochRoot, hEpochSource]
@[simp] theorem aside_nextNumber (s : State) (h0D00 : P (.obj 0x0D00) = true)
    (hEpochJump : P (.record Code.EPOCH_JUMP) = true) :
    aside P (nextNumber s) = aside P s := by
  unfold nextNumber
  split <;> simp [h0D00, hEpochJump]
@[simp] theorem aside_electRoot (s : State) (cs : List (Nat × Nat)) (h0D00 : P (.obj 0x0D00) = true)
    (hEpochRoot : P (.record Code.EPOCH_ROOT) = true) (hEpochSource : P (.record Code.EPOCH_SOURCE) = true)
    (hHoldoverEnter : P (.record Code.HOLDOVER_ENTER) = true) :
    aside P (electRoot s cs) = aside P s := by
  simp [electRoot, h0D00, hEpochRoot, hEpochSource, hHoldoverEnter]
@[simp] theorem aside_electSource (s : State) (e : Nat × Candidate) (h0D00 : P (.obj 0x0D00) = true)
    (hEpochRoot : P (.record Code.EPOCH_ROOT) = true) (hEpochSource : P (.record Code.EPOCH_SOURCE) = true) :
    aside P (electSource s e) = aside P s := by
  simp [electSource, h0D00, hEpochRoot, hEpochSource]
@[simp] theorem aside_electNone (s : State) (h0D00 : P (.obj 0x0D00) = true)
    (hEpochRoot : P (.record Code.EPOCH_ROOT) = true) (hEpochSource : P (.record Code.EPOCH_SOURCE) = true) :
    aside P (electNone s) = aside P s := by
  simp [electNone, h0D00, hEpochRoot, hEpochSource]
@[simp] theorem aside_elect (s : State) (h0D00 : P (.obj 0x0D00) = true)
    (hEpochRoot : P (.record Code.EPOCH_ROOT) = true) (hEpochSource : P (.record Code.EPOCH_SOURCE) = true)
    (hHoldoverEnter : P (.record Code.HOLDOVER_ENTER) = true) :
    aside P (elect s) = aside P s := by
  simp only [elect]
  (repeat' split) <;> simp [h0D00, hEpochRoot, hEpochSource, hHoldoverEnter]
@[simp] theorem aside_setLength (s : State) (h0D00 : P (.obj 0x0D00) = true) :
    aside P (setLength s) = aside P s := by
  simp only [setLength]
  (repeat' split) <;> simp [h0D00]
@[simp] theorem aside_noteExit (before : Nat) (s : State) (hHoldoverExit : P (.record Code.HOLDOVER_EXIT) = true) :
    aside P (noteExit before s) = aside P s := by
  simp [noteExit, hHoldoverExit]
@[simp] theorem aside_runBoundary (s : State) (h0D00 : P (.obj 0x0D00) = true)
    (hEpochJump : P (.record Code.EPOCH_JUMP) = true) (hEpochRoot : P (.record Code.EPOCH_ROOT) = true)
    (hEpochSource : P (.record Code.EPOCH_SOURCE) = true) (hHoldoverEnter : P (.record Code.HOLDOVER_ENTER) = true)
    (hHoldoverExit : P (.record Code.HOLDOVER_EXIT) = true) :
    aside P (runBoundary s) = aside P s := by
  simp [runBoundary, h0D00, hEpochJump, hEpochRoot, hEpochSource, hHoldoverEnter, hHoldoverExit]
@[simp] theorem aside_showFill (s : State) (h0C01 : P (.obj 0x0C01) = true) (hcoll : P .coll = true) :
    aside P (showFill s) = aside P s := by
  simp [showFill, h0C01, hcoll]

end

end Sys2Proof.Machine

/-! # The epoch boundary (O35) -/

namespace Sys2Proof.Machine

/-! ## What an election leaves of the clock

The own number, and the own priority as it was latched, are no part of an election. -/

section
variable (s : State)

/-- The own number and the latched priority. -/
def clockKept (s : State) : Nat × Nat := (rd s Reg.EPOCH_NUMBER, s.clock.prio)

theorem clockKept_wr {a : Addr} (ha : a ≠ Reg.EPOCH_NUMBER) (v : Nat) : clockKept (wr s a v) = clockKept s := by
  rw [clockKept, rd_wr_ne _ _ ha.symm]
  rfl

theorem clockKept_writeIf (c : Prop) [Decidable c] {a : Addr} (ha : a ≠ Reg.EPOCH_NUMBER) (v : Nat) :
    clockKept (if c then wr s a v else s) = clockKept s := by
  split
  · exact clockKept_wr s ha v
  · rfl

@[simp] theorem clockKept_setSource (p : Nat) : clockKept (setSource s p) = clockKept s := by
  unfold setSource
  split
  · rfl
  · exact clockKept_wr s (by simp) p

@[simp] theorem clockKept_noteRoot (c : Nat × Nat) : clockKept (noteRoot s c) = clockKept s := (rfl)

@[simp] theorem clockKept_noteLapse : clockKept (noteLapse s) = clockKept s := by
  unfold noteLapse
  split <;> rfl

@[simp] theorem clockKept_raise (c src : Nat) (items : List (Nat × Nat)) :
    clockKept (raise s c src items) = clockKept s := (rfl)

/-- A change of the clock's other fields. -/
theorem clockKept_modClock {f : EpochClock → EpochClock} (h : (f s.clock).prio = s.clock.prio) :
    clockKept (modClock s f) = clockKept s :=
  congrArg (Prod.mk _) h

@[simp] theorem clockKept_enterHoldover (src : Nat) : clockKept (enterHoldover src s) = clockKept s := by
  unfold enterHoldover
  rw [clockKept_raise, clockKept_setSource, clockKept_wr _ (by simp), clockKept_modClock _ rfl]

@[simp] theorem clockKept_follow (e : Nat × Candidate) : clockKept (follow s e) = clockKept s := by
  unfold follow
  rw [clockKept_modClock _ rfl, clockKept_wr _ (by simp), clockKept_wr _ (by simp), clockKept_wr _ (by simp),
    clockKept_setSource]

@[simp] theorem clockKept_becomeRoot (c : Nat × Nat) : clockKept (becomeRoot s c) = clockKept s := by
  unfold becomeRoot
  rw [clockKept_noteRoot, clockKept_modClock _ rfl, clockKept_wr _ (by simp), clockKept_setSource,
    clockKept_wr _ (by simp), clockKept_wr _ (by simp), clockKept_wr _ (by simp)]

theorem clockKept_electRoot (cs : List (Nat × Nat)) : clockKept (electRoot s cs) = clockKept s := by
  unfold electRoot
  extract_lets st own s1 timed src since s2 s3
  have h1 : clockKept s1 = clockKept s := by
    simp only [s1]
    split
    · rw [clockKept_wr _ (by simp), clockKept_wr _ (by simp)]
    · rfl
  have h2 : clockKept s2 = clockKept s := (clockKept_modClock s1 rfl).trans h1
  split
  · split
    · have h3 : clockKept s3 = clockKept s2 := by
        simp only [s3]
        split
        · rw [clockKept_setSource, clockKept_wr _ (by simp)]
        · rw [clockKept_becomeRoot]
      rw [clockKept_modClock _ rfl, h3, h2]
    · exact h2
  · split
    · rw [clockKept_enterHoldover]
      split
      · exact h2
      · rw [clockKept_becomeRoot, h2]
    · split
      · rw [clockKept_setSource, h2]
      · rw [clockKept_becomeRoot, h2]

theorem clockKept_electSource (e : Nat × Candidate) : clockKept (electSource s e) = clockKept s := by
  unfold electSource
  extract_lets st
  split
  · split
    · split <;> simp
    · rw [clockKept_modClock _ rfl, clockKept_wr _ (by simp), clockKept_follow]
  · split
    · rw [clockKept_noteRoot, clockKept_wr _ (by simp), clockKept_follow]
    · exact clockKept_follow s e

theorem clockKept_yieldRoot (c : Nat × Nat) : clockKept (yieldRoot c s) = clockKept s := by
  unfold yieldRoot
  rw [clockKept_noteLapse, clockKept_noteRoot, clockKept_wr _ (by simp), clockKept_wr _ (by simp)]

theorem clockKept_electNone : clockKept (electNone s) = clockKept s := by
  unfold electNone
  split
  · exact clockKept_setSource s _
  · extract_lets s1 s2
    have h1 : clockKept s1 = clockKept s := by
      simp only [s1]
      split
      · rw [clockKept_yieldRoot, clockKept_wr _ (by simp)]
      · rfl
    rw [clockKept_modClock _ rfl]
    simp only [s2, clockKept_setSource, h1]

/-- An election latches the priority and keeps the number. -/
theorem clockKept_elect : clockKept (elect s) = (rd s Reg.EPOCH_NUMBER, rd s Reg.EPOCH_PRIO) := by
  unfold elect
  extract_lets gone s1 kept cs
  have h1 : clockKept s1 = (rd s Reg.EPOCH_NUMBER, rd s Reg.EPOCH_PRIO) := rfl
  split
  · rw [clockKept_electRoot, h1]
  · split
    · rw [clockKept_electSource, h1]
    · rw [clockKept_electNone, h1]

/-- The clock with the period a root gives and no edge measured. -/
theorem clockKept_setPeriod : clockKept (modClock (if decide (epochState s = EpochState.ROOT) = true then
    modClock s (fun c => { c with period := rd s Reg.EPOCH_PERIOD_LOG2 }) else s)
    (fun c => { c with edgeD := none })) = clockKept s := by
  split <;> rfl

theorem clockKept_setLength : clockKept (setLength s) = clockKept s := by
  unfold setLength
  dsimp only
  split
  · rw [clockKept_modClock _ rfl, clockKept_writeIf _ _ (by simp), clockKept_setPeriod]
  · rw [clockKept_modClock _ rfl, wrI, clockKept_wr _ (by simp), clockKept_wr _ (by simp), clockKept_setPeriod]

theorem clockKept_noteExit (before : Nat) : clockKept (noteExit before s) = clockKept s := by
  unfold noteExit
  split <;> rfl

theorem epochAdd_one (n : Nat) : epochAdd n 1 = (n + 1) % 2 ^ 48 := by
  unfold epochAdd
  omega

/-- R388: with no jump to take, a boundary counts the number on by one. -/
theorem nextNumber_plain {s : State} (h : s.clock.jump = none) :
    nextNumber s = modClock (wr s Reg.EPOCH_NUMBER ((rd s Reg.EPOCH_NUMBER + 1) % 2 ^ 48))
      (fun c => { c with jump := none, jumped := false }) := by
  unfold nextNumber
  simp only [h, epochAdd_one]

theorem clockKept_runBoundary {s : State} (h : s.clock.jump = none) :
    clockKept (runBoundary s) = ((rd s Reg.EPOCH_NUMBER + 1) % 2 ^ 48, rd s Reg.EPOCH_PRIO) := by
  unfold runBoundary
  rw [clockKept_noteExit, clockKept_setLength, clockKept_elect, nextNumber_plain h, rd_modClock, rd_modClock,
    rd_wr_self, rd_wr_ne _ _ (by simp)]

end

/-! ## Mirrors -/

/-- A bank's counters stand in a slot of its mirrors (R457). -/
def Mirrored (epoch slot b : Nat) (s t : State) : Prop :=
  rd t (Reg.CMIRROR_EPOCH (b * 5 + slot)) = epoch ∧ rd t (Reg.CMIRROR_TICK (b * 5 + slot)) = bankTick s b ∧
    rd t (Reg.CMIRROR_CFG_GEN (b * 5 + slot)) = rd s (Reg.CBANK_CFG_GEN b) ∧
    rd t (Reg.CMIRROR_OVF (b * 5 + slot)) = rd s (Reg.CBANK_OVF b) ∧
    ∀ i, i < 8 → rd t (Reg.CMIRROR_VALUE (b * 5 + slot) i) = rd s (Reg.CBANK_VALUE b i)

/-- What the mirrors take: the elements outside them, and the banks' ages. -/
def Unmirrored (s t : State) : Prop := (∀ a, a.obj ≠ 0x0F02 → rd t a = rd s a) ∧ ∀ b, bankTick t b = bankTick s b

theorem Unmirrored.refl (s : State) : Unmirrored s s := ⟨fun _ _ => rfl, fun _ => rfl⟩

theorem Unmirrored.trans {s t u : State} (h : Unmirrored s t) (k : Unmirrored t u) : Unmirrored s u :=
  ⟨fun a ha => (k.1 a ha).trans (h.1 a ha), fun b => (k.2 b).trans (h.2 b)⟩

theorem unmirrored_wr (s : State) (m el v : Nat) : Unmirrored s (wr s ⟨0x0F02, m, el⟩ v) :=
  ⟨fun _ ha => rd_wr_ne _ _ (fun h => ha (by rw [h])), fun _ => rfl⟩

/-- The sweep that mirrors a bank's values. -/
def mirrorValues (m bank n : Nat) (s : State) : State :=
  (List.range n).foldl (fun s i => wr s (Reg.CMIRROR_VALUE m i) (rd s (Reg.CBANK_VALUE bank i))) s

theorem unmirrored_mirrorValues (m bank n : Nat) (s : State) : Unmirrored s (mirrorValues m bank n s) :=
  List.foldlRecOn (motive := Unmirrored s) _ _ (Unmirrored.refl s)
    fun t ht _ _ => ht.trans (unmirrored_wr t ..)

theorem mirrorValues_value (m bank : Nat) {i n : Nat} (hi : i < n) (s : State) :
    rd (mirrorValues m bank n s) (Reg.CMIRROR_VALUE m i) = rd s (Reg.CBANK_VALUE bank i) := by
  induction n with
  | zero => omega
  | succ n ih =>
    have hstep : mirrorValues m bank (n + 1) s = wr (mirrorValues m bank n s) (Reg.CMIRROR_VALUE m n)
        (rd (mirrorValues m bank n s) (Reg.CBANK_VALUE bank n)) := by
      simp [mirrorValues, List.range_succ]
    rw [hstep, rd_wr]
    by_cases hin : i = n
    · subst hin
      rw [if_pos rfl, (unmirrored_mirrorValues m bank i s).1 _ (by simp)]
    · rw [if_neg (by simpa using hin), ih (by omega)]

theorem rd_mirrorValues (m bank n : Nat) (s : State) {a : Addr} (ha : ∀ i, i < n → a ≠ Reg.CMIRROR_VALUE m i) :
    rd (mirrorValues m bank n s) a = rd s a :=
  rd_foldl_of_keep (fun _ i hi => rd_wr_ne _ _ (ha i (List.mem_range.mp hi))) s

/-- The elements of a mirror beside its values. -/
def mirrorHead (epoch flags m : Nat) (bank : Nat) (s : State) : State :=
  let s := wr (wr s (Reg.CMIRROR_EPOCH m) epoch) (Reg.CMIRROR_FLAGS m) flags
  let s := wr s (Reg.CMIRROR_CFG_GEN m) (rd s (Reg.CBANK_CFG_GEN bank))
  let s := wr s (Reg.CMIRROR_TICK m) (bankTick s bank)
  wr s (Reg.CMIRROR_OVF m) (rd s (Reg.CBANK_OVF bank))

theorem mirrorBank_eq (epoch flags slot bank : Nat) (s : State) :
    mirrorBank epoch flags slot s bank =
      mirrorValues (bank * 5 + slot) bank 8 (mirrorHead epoch flags (bank * 5 + slot) bank s) := by
  unfold mirrorBank mirrorValues mirrorHead
  rfl

theorem unmirrored_mirrorHead (epoch flags m bank : Nat) (s : State) : Unmirrored s (mirrorHead epoch flags m bank s) :=
  (((((unmirrored_wr s ..).trans (unmirrored_wr _ ..)).trans (unmirrored_wr _ ..)).trans (unmirrored_wr _ ..)).trans
    (unmirrored_wr _ ..))

theorem unmirrored_mirrorBank (epoch flags slot bank : Nat) (s : State) :
    Unmirrored s (mirrorBank epoch flags slot s bank) := by
  rw [mirrorBank_eq]
  exact (unmirrored_mirrorHead ..).trans (unmirrored_mirrorValues ..)

theorem mirrorBank_mirrored (epoch flags slot bank : Nat) (s : State) :
    Mirrored epoch slot bank s (mirrorBank epoch flags slot s bank) := by
  rw [mirrorBank_eq]
  have hhead := unmirrored_mirrorHead epoch flags (bank * 5 + slot) bank s
  have hlow (el : Nat) (hel : el < 8) : ∀ i, i < 8 → (⟨0x0F02, bank * 5 + slot, el⟩ : Addr) ≠
      Reg.CMIRROR_VALUE (bank * 5 + slot) i := fun i _ h => by
    have := congrArg Addr.el h
    dsimp only at this
    omega
  refine ⟨?_, ?_, ?_, ?_, fun i hi => ?_⟩
  · rw [rd_mirrorValues _ _ _ _ (hlow 0 (by decide))]
    simp [mirrorHead, rd_wr]
  · rw [rd_mirrorValues _ _ _ _ (hlow 3 (by decide))]
    simp [mirrorHead, rd_wr, bankTick]
  · rw [rd_mirrorValues _ _ _ _ (hlow 2 (by decide))]
    simp [mirrorHead, rd_wr]
  · rw [rd_mirrorValues _ _ _ _ (hlow 4 (by decide))]
    simp [mirrorHead, rd_wr]
  · rw [mirrorValues_value _ _ hi, hhead.1 _ (by simp)]

/-- A mirror of another bank or slot is untouched. -/
theorem rd_mirrorBank (epoch flags slot bank : Nat) (s : State) {a : Addr} (ha : a.inst ≠ bank * 5 + slot) :
    rd (mirrorBank epoch flags slot s bank) a = rd s a := by
  have hne (el : Nat) : a ≠ ⟨0x0F02, bank * 5 + slot, el⟩ := fun h => ha (by rw [h])
  rw [mirrorBank_eq, rd_mirrorValues _ _ _ _ (fun i _ => hne _)]
  simp only [mirrorHead, rd_wr, if_neg (hne _)]

theorem Mirrored.of_kept {epoch slot b : Nat} {s t u : State} (h : Mirrored epoch slot b s t)
    (hkeep : ∀ a : Addr, a.obj = 0x0F02 → a.inst = b * 5 + slot → rd u a = rd t a) : Mirrored epoch slot b s u := by
  obtain ⟨h1, h2, h3, h4, h5⟩ := h
  exact ⟨(hkeep _ rfl rfl).trans h1, (hkeep _ rfl rfl).trans h2, (hkeep _ rfl rfl).trans h3,
    (hkeep _ rfl rfl).trans h4, fun i hi => (hkeep _ rfl rfl).trans (h5 i hi)⟩

/-- A mirror shows what the banks held already before a step that leaves them. -/
theorem Mirrored.of_banks {epoch slot b : Nat} {s t u : State} (h : Mirrored epoch slot b t u)
    (hread : ∀ a : Addr, a.obj = 0x0F00 → rd t a = rd s a) (htick : ∀ b, bankTick t b = bankTick s b) :
    Mirrored epoch slot b s u := by
  obtain ⟨h1, h2, h3, h4, h5⟩ := h
  exact ⟨h1, h2.trans (htick b), h3.trans (hread _ rfl), h4.trans (hread _ rfl),
    fun i hi => (h5 i hi).trans (hread _ rfl)⟩

/-- The first banks, each mirrored in one slot. -/
def mirrorFirst (epoch flags slot n : Nat) (s : State) : State :=
  (List.range n).foldl (mirrorBank epoch flags slot) s

theorem mirrorFirst_succ (epoch flags slot n : Nat) (s : State) :
    mirrorFirst epoch flags slot (n + 1) s = mirrorBank epoch flags slot (mirrorFirst epoch flags slot n s) n := by
  simp [mirrorFirst, List.range_succ]

theorem unmirrored_mirrorFirst (epoch flags slot n : Nat) (s : State) :
    Unmirrored s (mirrorFirst epoch flags slot n s) :=
  List.foldlRecOn (motive := Unmirrored s) _ _ (Unmirrored.refl s)
    fun t ht b _ => ht.trans (unmirrored_mirrorBank epoch flags slot b t)

theorem mirrorFirst_mirrored (epoch flags slot : Nat) {b n : Nat} (hb : b < n) (s : State) :
    Mirrored epoch slot b s (mirrorFirst epoch flags slot n s) := by
  induction n with
  | zero => omega
  | succ n ih =>
    rw [mirrorFirst_succ]
    by_cases hbn : b = n
    · subst hbn
      have hfirst := unmirrored_mirrorFirst epoch flags slot b s
      exact (mirrorBank_mirrored ..).of_banks (fun a ha => hfirst.1 a (by simp [ha])) hfirst.2
    · exact (ih (by omega)).of_kept fun a _ ha => rd_mirrorBank _ _ _ _ _ (by omega)

/-- The mirrors of another slot are untouched. -/
theorem rd_mirrorFirst (epoch flags slot n : Nat) (s : State) {a : Addr} (ha : ∀ b, a.inst ≠ b * 5 + slot) :
    rd (mirrorFirst epoch flags slot n s) a = rd s a :=
  rd_foldl_of_keep (fun s b _ => rd_mirrorBank epoch flags slot b s (ha b)) s

theorem mirrorAll_eq (epoch flags slot : Nat) (s : State) :
    mirrorAll epoch flags slot s = mirrorFirst epoch flags slot 208 s := by
  unfold mirrorAll mirrorFirst
  rfl

/-- R456, R457: every bank stands in the epoch's slot, whether or not a capture was due too. -/
theorem takeMirrors_mirrored (epoch flags : Nat) {b : Nat} (hb : b < 208) (s : State) :
    Mirrored epoch (epoch % 4) b s (takeMirrors epoch flags s) := by
  unfold takeMirrors
  extract_lets s1 s2 s3
  have h1 : Mirrored epoch (epoch % 4) b s s1 := by
    simp only [s1, mirrorAll_eq]
    exact mirrorFirst_mirrored epoch flags _ hb s
  split
  · refine h1.of_kept fun a hobj hinst => ?_
    have hne (el : Nat) : a ≠ ⟨0x0F03, 0, el⟩ := fun h => by rw [h] at hobj; cases hobj
    simp only [s3, s2]
    rw [rd_raise, rd_wr_ne _ _ (hne _), rd_wr_ne _ _ (hne _), mirrorAll_eq, rd_mirrorFirst _ _ _ _ _ (by omega)]
  · exact h1

/-! ## The boundary -/

/-- A boundary's own part: the election, the tick it fell on, EPOCH_OUT, and the mirrors. -/
def boundaryMirrors (s : State) : State :=
  let s := wr (runBoundary s) Reg.EPOCH_BOUNDARY (now (runBoundary s))
  let s := modClock s (fun c => { c with out := true, outLong := unsettled s })
  takeMirrors (rd s Reg.EPOCH_NUMBER) (epochFlags s false) s

/-- Its frames and the balance of the lattice. -/
def boundarySends (s : State) : State := showFill (balanceLattice ((epochPorts s).foldl sendEpoch s))

/-- The studbook's mark. -/
def markBook (s : State) : State :=
  wr (wr s Reg.STUDBOOK_MARK_EPOCH (rd s Reg.EPOCH_NUMBER)) Reg.STUDBOOK_MARK_SEQ (rd s Reg.STUDBOOK_NEXT_SEQ)

theorem doEpochBoundary_eq {s : State} (h : epochState s ≠ EpochState.STARTING) :
    doEpochBoundary s = boundarySwap (unsettled (markBook (boundarySends (boundaryMirrors s))))
      (markBook (boundarySends (boundaryMirrors s))) := by
  unfold doEpochBoundary
  simp only [decide_eq_false h, Bool.false_eq_true, if_false]
  rfl

theorem now_of_time {s t : State} (h : t.time = s.time) : now t = now s := by
  unfold now
  rw [h]

/-- An election leaves the timebase and the banks' ages. -/
theorem runBoundary_ages (s : State) :
    now (runBoundary s) = now s ∧ ∀ b, bankTick (runBoundary s) b = bankTick s b := by
  have hkeep : outside (fun p => decide (p = .clock)) (runBoundary s) = outside (fun p => decide (p = .clock)) s := by
    simp
  have hnow : now (runBoundary s) = now s := now_of_time (time_of_outside hkeep rfl)
  refine ⟨hnow, fun b => ?_⟩
  rw [bankTick, bankTick, hnow, bankBase_of_outside hkeep rfl]

theorem rd_runBoundary (s : State) {a : Addr} (ha : a.obj ≠ 0x0D00) : rd (runBoundary s) a = rd s a :=
  rd_of_besides (kept := [.obj a.obj]) (by simp [ha.symm]) (by simp)

theorem rd_takeMirrors (epoch flags : Nat) (s : State) {a : Addr} (hm : a.obj ≠ 0x0F02) (hc : a.obj ≠ 0x0F03) :
    rd (takeMirrors epoch flags s) a = rd s a :=
  rd_of_besides (kept := [.obj a.obj]) (by simp [hm.symm, hc.symm]) (by simp)

/-- What a boundary's own part leaves of the clock, the banks and the rest. -/
theorem boundaryMirrors_spec {s : State} (hjump : s.clock.jump = none) :
    let n := (rd s Reg.EPOCH_NUMBER + 1) % 2 ^ 48
    rd (boundaryMirrors s) Reg.EPOCH_NUMBER = n ∧ rd (boundaryMirrors s) Reg.EPOCH_BOUNDARY = now s ∧
      (boundaryMirrors s).clock.out = true ∧ (boundaryMirrors s).clock.prio = rd s Reg.EPOCH_PRIO ∧
      (∀ b, b < 208 → Mirrored n (n % 4) b s (boundaryMirrors s)) ∧
      ∀ a : Addr, a.obj ≠ 0x0D00 → a.obj ≠ 0x0F02 → a.obj ≠ 0x0F03 → rd (boundaryMirrors s) a = rd s a := by
  intro n
  obtain ⟨hnow, htick⟩ := runBoundary_ages s
  have hkept := clockKept_runBoundary hjump
  have hnumber : rd (runBoundary s) Reg.EPOCH_NUMBER = n := congrArg Prod.fst hkept
  have hprio : (runBoundary s).clock.prio = rd s Reg.EPOCH_PRIO := congrArg Prod.snd hkept
  unfold boundaryMirrors
  extract_lets u v
  have hv (a : Addr) (ha : a ≠ Reg.EPOCH_BOUNDARY) : rd v a = rd (runBoundary s) a := rd_wr_ne _ _ ha
  have hvn : rd v Reg.EPOCH_NUMBER = n := (hv _ (by simp)).trans hnumber
  have hvb : rd v Reg.EPOCH_BOUNDARY = now s := (rd_wr_self ..).trans hnow
  have hclock (e k : Nat) : (takeMirrors e k v).clock = v.clock :=
    clock_of_outside (P := fun _ => false) (by simp) rfl
  rw [hclock, hvn]
  refine ⟨?_, ?_, rfl, hprio, fun b hb => ?_, fun a hobj hm hc => ?_⟩
  · rw [rd_takeMirrors _ _ _ (by simp) (by simp), hvn]
  · rw [rd_takeMirrors _ _ _ (by simp) (by simp), hvb]
  · refine (takeMirrors_mirrored n _ hb v).of_banks (fun a ha => ?_) htick
    have hobj : a.obj ≠ 0x0D00 := by rw [ha]; decide
    rw [hv a (fun h => hobj (by rw [h])), rd_runBoundary s hobj]
  · rw [rd_takeMirrors _ _ _ hm hc, hv a (fun h => hobj (by rw [h])), rd_runBoundary s hobj]

/-- The frames of a boundary and its balance leave the clock, the swap, the mirrors and the studbook. -/
theorem rd_boundarySends (s : State) {a : Addr}
    (ha : a.obj = 0x0D00 ∨ a.obj = 0x0D01 ∨ a.obj = 0x0F02 ∨ a.obj = 0x1003) :
    rd (boundarySends s) a = rd s a :=
  rd_of_besides (kept := [.obj 0x0D00, .obj 0x0D01, .obj 0x0F02, .obj 0x1003]) (by simp [boundarySends])
    (by rcases ha with h | h | h | h <;> simp [h])

theorem boundarySends_clock (s : State) : (boundarySends s).clock = s.clock :=
  clock_of_outside (P := fun _ => false) (by simp [boundarySends]) rfl

theorem rd_markBook (s : State) {a : Addr} (ha : a.obj ≠ 0x1003) : rd (markBook s) a = rd s a := by
  rw [markBook, rd_wr_ne _ _ (fun h => ha (by rw [h])), rd_wr_ne _ _ (fun h => ha (by rw [h]))]

theorem markBook_clock (s : State) : (markBook s).clock = s.clock := rfl

theorem markBook_mark (s : State) : rd (markBook s) Reg.STUDBOOK_MARK_EPOCH = rd s Reg.EPOCH_NUMBER ∧
    rd (markBook s) Reg.STUDBOOK_MARK_SEQ = rd s Reg.STUDBOOK_NEXT_SEQ :=
  ⟨(rd_wr_ne _ _ (by simp)).trans (rd_wr_self ..), rd_wr_self ..⟩

theorem boundarySwap_of_none {s : State} (h : swapWaits s = false) (late : Bool) : boundarySwap late s = s :=
  if_pos (.inl h)

/-- Settles O35: the election keeps the number nextNumber counts on, and nothing after the mirrors writes them. -/
theorem epochBoundary : Obligations.EpochBoundary := by
  unfold Obligations.EpochBoundary
  intro s hstarting hjump hswap
  obtain ⟨hnumber, hboundary, hout, hprio, hmirrors, hrest⟩ := boundaryMirrors_spec hjump
  have hread (a : Addr) (ha : a.obj = 0x0D00 ∨ a.obj = 0x0D01 ∨ a.obj = 0x0F02) :
      rd (markBook (boundarySends (boundaryMirrors s))) a = rd (boundaryMirrors s) a := by
    rw [rd_markBook _ (by rcases ha with h | h | h <;> simp [h]),
      rd_boundarySends _ (ha.imp_right fun h => h.imp_right .inl)]
  have hclock : (markBook (boundarySends (boundaryMirrors s))).clock = (boundaryMirrors s).clock := by
    rw [markBook_clock, boundarySends_clock]
  have hnone : swapWaits (markBook (boundarySends (boundaryMirrors s))) = false := by
    rw [swapWaits, hread Reg.SWAP_STATE (.inr (.inl rfl)),
      hrest Reg.SWAP_STATE (by simp) (by simp) (by simp)]
    exact hswap
  obtain ⟨hepoch, hseq⟩ := markBook_mark (boundarySends (boundaryMirrors s))
  refine ⟨_, finish_eq ((doEpochBoundary_eq hstarting).trans (boundarySwap_of_none hnone _)), ?_, ?_, ?_, ?_, ?_, ?_,
    fun b => ?_⟩
  · rw [hread Reg.EPOCH_NUMBER (.inl rfl), hnumber]
  · rw [hread Reg.EPOCH_BOUNDARY (.inl rfl), hboundary]
  · rw [hclock, hout]
  · rw [hclock, hprio]
  · rw [hepoch, rd_boundarySends (a := Reg.EPOCH_NUMBER) _ (.inl rfl), hnumber]
  · rw [hseq, rd_boundarySends (a := Reg.STUDBOOK_NEXT_SEQ) _ (by simp),
      hrest Reg.STUDBOOK_NEXT_SEQ (by simp) (by simp) (by simp)]
  · exact (hmirrors b b.2).of_kept fun a hobj _ => hread a (.inr (.inr hobj))

end Sys2Proof.Machine

/-! # What the answer to a TELEMETRY request leaves unchanged -/

namespace Sys2Proof.Machine

section
variable (P : Piece → Bool)

/-! ## Counter banks read, cleared, programmed and mirrored -/

@[simp] theorem aside_queueAnswer (s : State) (f : Frame) (blocks : List Block) (hforward : P .forward = true) :
    aside P (queueAnswer s f blocks) = aside P s := by
  simp [queueAnswer, hforward]
@[simp] theorem aside_doTelemEmit (facet : Nat) (s : State) (hP : Traffic P) :
    aside P (doTelemEmit facet s) = aside P s := by
  unfold doTelemEmit
  split <;> simp [hP, hP.all]

end

end Sys2Proof.Machine

/-! # TELEMETRY requests (O43) -/

namespace Sys2Proof.Machine

/-! ## A removed frame is gone -/

/-- No step of `s` to `t` brings a frame into being. -/
def NoNewFrame (s t : State) : Prop := ∀ id, findFrame s id = none → findFrame t id = none

theorem NoNewFrame.of_frames {s t : State} (h : t.frames = s.frames) : NoNewFrame s t :=
  fun id hid => (findFrame_congr h id).trans hid

theorem NoNewFrame.trans {s t u : State} (h : NoNewFrame s t) (k : NoNewFrame t u) : NoNewFrame s u :=
  fun id hid => k id (h id hid)

/-- A write to a frame that is there. -/
theorem noNewFrame_putFrame {s : State} {id : Nat} {f : Frame} (h : findFrame s id = some f) (g : Frame) :
    NoNewFrame s (putFrame s id g) := fun j hj => by
  rw [findFrame_putFrame, if_neg (fun e => by rw [e, h] at hj; cases hj), hj]

theorem noNewFrame_delFrame (s : State) (id : Nat) : NoNewFrame s (delFrame s id) := fun j hj => by
  rw [findFrame_delFrame, hj, ite_self]

theorem noNewFrame_settle (s : State) (id : Nat) : NoNewFrame s (settle s id) := by
  unfold settle
  split
  · exact .of_frames rfl
  · next f hf =>
    extract_lets ended free t
    have hfree : findFrame (freeCredits s f) id = some f := by
      rw [findFrame_congr (freeCredits_frames ..), hf]
    have ht : NoNewFrame s t := by
      simp only [t]
      split
      · exact (NoNewFrame.of_frames (freeCredits_frames ..)).trans (noNewFrame_putFrame hfree _)
      · exact .of_frames rfl
    split
    · exact ht.trans (noNewFrame_delFrame _ _)
    · exact ht

theorem noNewFrame_modFrame (s : State) (id : Nat) (g : Frame → Frame) : NoNewFrame s (modFrame s id g) := by
  unfold modFrame
  split
  · exact .of_frames rfl
  · next f hf => exact noNewFrame_putFrame hf _

theorem noNewFrame_copyDone (s : State) (parent : Nat) : NoNewFrame s (copyDone s parent) := by
  unfold copyDone
  split
  · exact .of_frames rfl
  · exact (noNewFrame_modFrame _ _ _).trans (noNewFrame_settle _ _)

theorem findFrame_removeFrame_self (s : State) (id : Nat) : findFrame (removeFrame s id) id = none := by
  unfold removeFrame
  split
  · next h => exact h
  · next f hf =>
    extract_lets s1 s2 s3 s4 q head s5 s6
    have h4 : findFrame s4 id = none := by rw [findFrame_delFrame, if_pos rfl]
    have h5 : NoNewFrame s4 s5 := .of_frames (frames_of_aside (P := besides [.frames]) (by simp [s5]) (by simp))
    have h6 : NoNewFrame s5 s6 := .of_frames (frames_of_aside (P := besides [.frames]) (by simp [s6]) (by simp))
    split
    · exact noNewFrame_copyDone _ _ _ (h6 _ (h5 _ h4))
    · exact h6 _ (h5 _ h4)

theorem findFrame_dropIn_self (s : State) (id why : Nat) : findFrame (dropIn s id why) id = none := by
  unfold dropIn
  split
  · next h => exact h
  · exact findFrame_removeFrame_self ..

/-! ## Refusals -/

theorem findFrame_refuseTelem (s : State) (id why step : Nat) (f : Frame) :
    findFrame (refuseTelem s id why step f) id = none :=
  findFrame_dropIn_self ..

/-- A dropped request writes no element of its tenant. -/
theorem rd_dropIn_tenant (s : State) (id why : Nat) {a : Addr} (ha : a.obj = 0x0E01) :
    rd (dropIn s id why) a = rd s a :=
  rd_of_besides (kept := [.obj 0x0E01]) (by simp) (by simp [ha])

theorem rd_refuseTelem (s : State) (id why step : Nat) (f : Frame) {a : Addr} (ha : a.obj = 0x0E01) :
    rd (refuseTelem s id why step f) a =
      if a = Reg.TENANT_TELEM_REFUSED (hdrTen f.hdr) then
        (rd s (Reg.TENANT_TELEM_REFUSED (hdrTen f.hdr)) + 1) % 2 ^ 64
      else rd s a := by
  unfold refuseTelem
  rw [rd_dropIn_tenant _ _ _ ha]
  split
  · rw [rd_inc]
  · rw [rd_raise, rd_inc]

/-- A request of a tenant not enabled, or past its rate, is refused. -/
theorem doTelemRequest_refused {id : Nat} {f : Frame} {s : State} (hf : findFrame s id = some f)
    (hplace : f.place = .localTo) (hwhole : f.whole = true) (hkind : hdrKind f.hdr = KindCode.TELEMETRY)
    (hno : rd s (Reg.TENANT_TELEM_EN (hdrTen f.hdr)) = 0 ∨ (telemBucket s (hdrTen f.hdr)).tokens < 1000000) :
    ∃ u why step, doTelemRequest id s = refuseTelem u id why step f ∧ ∀ a, rd u a = rd s a := by
  unfold doTelemRequest
  rw [hf]
  dsimp only
  rw [if_neg (by simp [hplace, hwhole, hkind])]
  split
  · exact ⟨_, _, _, rfl, fun _ => rfl⟩
  · next hen => exact ⟨_, _, _, if_pos (hno.resolve_left hen), fun _ => rfl⟩

/-! ## Requests served -/

@[simp] theorem rd_setTelemBucket (s : State) (t : Nat) (b : TelemBucket) (a : Addr) :
    rd (setTelemBucket s t b) a = rd s a := rfl

/-- The state as a served request leaves it, before its response is sent. -/
def served (s : State) (id : Nat) (f : Frame) : State :=
  let n := hdrTen f.hdr
  let s := setTelemBucket s n { telemBucket s n with tokens := (telemBucket s n).tokens - 1000000 }
  inc (removeFrame s id) (Reg.TENANT_TELEM_SERVED n) 64

theorem doTelemRequest_served {id : Nat} {f : Frame} {s : State} (hf : findFrame s id = some f)
    (hplace : f.place = .localTo) (hwhole : f.whole = true) (hkind : hdrKind f.hdr = KindCode.TELEMETRY)
    (hen : rd s (Reg.TENANT_TELEM_EN (hdrTen f.hdr)) ≠ 0)
    (htokens : 1000000 ≤ (telemBucket s (hdrTen f.hdr)).tokens) (hgood : telemBad f (f.blocks.getD 0 0) = false)
    (hown : ∀ r ∈ telemRefs (f.blocks.getD 0 0),
      rd s (Reg.CCOUNTER_TENFILT (refBank r * 8 + refCounter r)) = hdrTen f.hdr) :
    doTelemRequest id s = doTelemEmit f.facet (queueAnswer (served s id f) f
      (answerBlocks (served s id f) (f.blocks.getD 0 0))) := by
  have hrefs (u : State) (hu : ∀ a, rd u a = rd s a) : ¬(telemRefs (f.blocks.getD 0 0)).any (fun r =>
      decide (refBank r ≤ 207) &&
        decide (rd u (Reg.CCOUNTER_TENFILT (refBank r * 8 + refCounter r)) ≠ hdrTen f.hdr)) = true := by
    simp only [List.any_eq_true, not_exists, not_and]
    intro r hr
    simp [hu, hown r hr]
  unfold doTelemRequest
  rw [hf]
  dsimp only
  rw [if_neg (by simp [hplace, hwhole, hkind]), if_neg hen, if_neg (Nat.not_lt.mpr htokens),
    if_neg (hrefs _ (rd_setTelemBucket _ _ _)), if_neg (by rw [hgood]; exact Bool.false_ne_true)]
  rfl

theorem rd_removeFrame_tenant (s : State) (id : Nat) {a : Addr} (ha : a.obj = 0x0E01) :
    rd (removeFrame s id) a = rd s a :=
  rd_of_besides (kept := [.obj 0x0E01]) (by simp) (by simp [ha])

theorem rd_served (s : State) (id : Nat) (f : Frame) {a : Addr} (ha : a.obj = 0x0E01) :
    rd (served s id f) a = if a = Reg.TENANT_TELEM_SERVED (hdrTen f.hdr) then
      (rd s (Reg.TENANT_TELEM_SERVED (hdrTen f.hdr)) + 1) % 2 ^ 64 else rd s a := by
  unfold served
  rw [rd_inc, rd_removeFrame_tenant _ _ ha, rd_removeFrame_tenant _ _ rfl, rd_setTelemBucket, rd_setTelemBucket]

theorem served_telem (s : State) (id : Nat) (f : Frame) :
    Tab.get {} (served s id f).telem (hdrTen f.hdr) =
      { tokens := (telemBucket s (hdrTen f.hdr)).tokens - 1000000, last := now s } := by
  have hremoved (u : State) : (removeFrame u id).telem = u.telem :=
    telem_of_outside (P := fun _ => false) (by simp) rfl
  unfold served
  rw [inc, wr_telem, hremoved, setTelemBucket, Tab.get_put_self]
  rfl

/-- The response leaves the tenant's elements and its tokens. -/
theorem answered_rest (s : State) (f : Frame) (blocks : List Block) (facet : Nat) :
    (∀ a : Addr, a.obj = 0x0E01 → rd (doTelemEmit facet (queueAnswer s f blocks)) a = rd s a) ∧
      (doTelemEmit facet (queueAnswer s f blocks)).telem = s.telem :=
  ⟨fun a ha => rd_of_besides (kept := [.obj 0x0E01]) (by simp) (by simp [ha]),
    telem_of_outside (P := fun _ => false) (by simp) rfl⟩

theorem doTelemEmit_room {k : Nat} {e : Nat × Block × List Block} {s : State}
    (he : s.forward.telem.find? (fun x => decide (x.1 = k)) = some e)
    (hroom : stagingRoom s k 3 e.2.2.length = true) :
    doTelemEmit k s = originate (modForward s (fun w => { w with telem := w.telem.erase e })) k e.2.1 e.2.2 := by
  unfold doTelemEmit
  rw [he]
  exact if_neg (by simp [hroom])

/-- Settles O43: a refused request writes its count and goes; a served one takes its token before it is answered. -/
theorem telemetryRequests : Obligations.TelemetryRequests := by
  unfold Obligations.TelemetryRequests
  refine ⟨fun id f s hf hplace hwhole hkind hno => ?_, fun id f s => ?_,
    fun k e s he hroom => finish_eq (doTelemEmit_room he hroom)⟩
  · obtain ⟨u, why, step, heq, hu⟩ := doTelemRequest_refused hf hplace hwhole hkind hno
    refine ⟨_, finish_eq heq, findFrame_refuseTelem .., ?_, ?_⟩
    · rw [rd_refuseTelem _ _ _ _ _ rfl, if_pos rfl, hu]
    · rw [rd_refuseTelem _ _ _ _ _ rfl, if_neg (by simp), hu]
  · intro n b hf hplace hwhole hkind hen htokens hgood hown
    obtain ⟨hrest, htelem⟩ := answered_rest (served s id f) f (answerBlocks (served s id f) b) f.facet
    refine ⟨_, finish_eq (doTelemRequest_served hf hplace hwhole hkind hen htokens hgood hown), ?_, ?_, ?_⟩
    · rw [hrest _ rfl, rd_served _ _ _ rfl, if_pos rfl]
    · rw [hrest _ rfl, rd_served _ _ _ rfl, if_neg (by simp)]
    · rw [htelem]
      exact served_telem s id f

end Sys2Proof.Machine

/-! # What an EPOCH frame's checks leave unchanged -/

namespace Sys2Proof.Machine

section
variable (P : Piece → Bool)

/-! ## Epochs -/

@[simp] theorem aside_yieldCheck (s : State) (h0D00 : P (.obj 0x0D00) = true)
    (hEpochRoot : P (.record Code.EPOCH_ROOT) = true) :
    aside P (yieldCheck s) = aside P s := by
  simp [yieldCheck, h0D00, hEpochRoot]
@[simp] theorem aside_aheadCheck (c : Candidate) (s : State) :
    aside P (aheadCheck c s) = aside P s := by
  simp [aheadCheck]

end

end Sys2Proof.Machine

/-! # Epochs and election (O34) -/

namespace Sys2Proof.Machine

/-! ## Sources -/

theorem rd_setSource (s : State) (p : Nat) (a : Addr) :
    rd (setSource s p) a = if a = Reg.EPOCH_SOURCE then p else rd s a := by
  unfold setSource
  split
  · next h =>
    split
    · next ha => rw [ha, h]
    · rfl
  · rw [rd_raise, rd_wr]

theorem rd_follow (s : State) (e : Nat × Candidate) (a : Addr) :
    rd (follow s e) a =
      if a = Reg.EPOCH_DIST then min 15 (e.2.dist + 1)
      else if a = Reg.EPOCH_ROOT_SERIAL then e.2.serial
      else if a = Reg.EPOCH_ROOT_PRIO then e.2.prio
      else if a = Reg.EPOCH_SOURCE then e.1 else rd s a := by
  unfold follow
  rw [rd_modClock, rd_wr, rd_wr, rd_wr, rd_setSource]

theorem rd_becomeRoot (s : State) (other : Nat × Nat) (a : Addr) :
    rd (becomeRoot s other) a =
      if a = Reg.EPOCH_STATE then EpochState.ROOT
      else if a = Reg.EPOCH_SOURCE then (if rd s Reg.EPOCH_EPOCH_IN_EN = 1 then 0xFFFE else 0xFFFF)
      else if a = Reg.EPOCH_DIST then 0
      else if a = Reg.EPOCH_ROOT_SERIAL then rd s Reg.IDENTITY_SERIAL
      else if a = Reg.EPOCH_ROOT_PRIO then s.clock.prio else rd s a := by
  unfold becomeRoot
  extract_lets o s1 s2
  have h1 : rd s1 Reg.EPOCH_EPOCH_IN_EN = rd s Reg.EPOCH_EPOCH_IN_EN := by
    simp only [s1, rd_wr]
    rfl
  unfold noteRoot
  rw [rd_raise, rd_modClock, rd_wr]
  simp only [s2, rd_setSource, h1, s1, rd_wr]
  rfl

theorem rd_enterHoldover (src : Nat) (s : State) (a : Addr) :
    rd (enterHoldover src s) a =
      if a = Reg.EPOCH_SOURCE then src else if a = Reg.EPOCH_STATE then EpochState.HOLDOVER else rd s a := by
  unfold enterHoldover
  rw [rd_raise, rd_setSource, rd_wr, rd_modClock]

theorem enterHoldover_record (src : Nat) (s : State) :
    ⟨Code.HOLDOVER_ENTER, 0xFF, recordData []⟩ ∈ (enterHoldover src s).raised :=
  List.mem_append_right _ (List.mem_singleton.mpr rfl)

/-! ## The end of STARTING -/

/-- The own priority as it is latched. -/
def latched (s : State) : State := modClock s (fun c => { c with prio := rd s Reg.EPOCH_PRIO })

theorem doStartingEnd_follows {s : State} {e : Nat × Candidate} (hst : epochState s = EpochState.STARTING)
    (he : bestSource s = some e) :
    doStartingEnd s = follow (wr (wr (latched s) Reg.EPOCH_STATE EpochState.FOLLOWER) Reg.EPOCH_NUMBER
      (numberAt e.2.boundary e.2.number e.2.period (rd s Reg.EPOCH_BOUNDARY))) e := by
  have hbest : bestSource (latched s) = some e := he
  unfold doStartingEnd
  rw [if_neg (not_not_intro hst)]
  extract_lets u
  rw [show u = latched s from rfl, hbest]
  rfl

theorem doStartingEnd_roots {s : State} (hst : epochState s = EpochState.STARTING) (hnone : bestSource s = none)
    (hprio : rd s Reg.EPOCH_PRIO ≠ 255) :
    doStartingEnd s = becomeRoot (latched s) (bestClaim (claims (latched s))) := by
  have hbest : bestSource (latched s) = none := hnone
  unfold doStartingEnd
  rw [if_neg (not_not_intro hst)]
  extract_lets u
  rw [show u = latched s from rfl, hbest]
  exact if_pos hprio

/-! ## EPOCH frames -/

/-- The candidate that a frame makes of its port (R390). -/
def heard (s : State) (f : Frame) : Candidate :=
  let b1 := (f.blocks.getD 0 0).toNat
  let b2 := (f.blocks.getD 1 0).toNat
  { serial := field b1 16 64, prio := field b1 8 8, dist := field b1 4 4,
    partner := rd s (Reg.PORT_PEER_SERIAL f.ingress), at_ := now s,
    boundary := (f.arrival : Int) - (rd s (Reg.PORT_RTT f.ingress) / 2 : Nat) - (field b2 96 32 : Nat),
    number := field b1 80 48, period := field b2 91 5, holdover := b1.testBit 3, slewing := b1.testBit 2 }

theorem noteLapse_candidates (s : State) : (noteLapse s).clock.candidates = s.clock.candidates := by
  unfold noteLapse
  split <;> rfl

theorem setSource_clock (s : State) (p : Nat) : (setSource s p).clock = s.clock := by
  unfold setSource
  split <;> rfl

theorem aheadCheck_candidates (c : Candidate) (s : State) :
    (aheadCheck c s).clock.candidates = s.clock.candidates := by
  unfold aheadCheck
  extract_lets st p mine
  split
  · rfl
  · split <;> rfl

theorem yieldCheck_candidates (s : State) : (yieldCheck s).clock.candidates = s.clock.candidates := by
  unfold yieldCheck yieldRoot
  extract_lets b
  split
  · rw [noteLapse_candidates]
    rfl
  · rfl

/-- What follows a frame's candidate leaves the candidates and the frames. -/
def judgeHeard (c : Candidate) (s : State) : State :=
  yieldCheck (aheadCheck c (if epochState s = EpochState.FOLLOWER then noteLapse s else s))

theorem judgeHeard_candidates (c : Candidate) (s : State) :
    (judgeHeard c s).clock.candidates = s.clock.candidates := by
  unfold judgeHeard
  rw [yieldCheck_candidates, aheadCheck_candidates]
  split
  · exact noteLapse_candidates s
  · rfl

theorem judgeHeard_frames (c : Candidate) (s : State) : (judgeHeard c s).frames = s.frames :=
  frames_of_aside (P := besides [.frames]) (by simp [judgeHeard]) (by simp)

/-- The candidates with one port heard. -/
def noteHeard (p : Nat) (c : Candidate) (s : State) : State :=
  modClock s (fun k => { k with
    candidates := if c.dist ≤ 14 then Tab.set k.candidates p c else Tab.del k.candidates p })

theorem find_noteHeard (p : Nat) (c : Candidate) (s : State) :
    Tab.find (noteHeard p c s).clock.candidates p = if c.dist ≤ 14 then some c else none := by
  show Tab.find (if c.dist ≤ 14 then _ else _) p = _
  split
  · rw [Tab.find_set, if_pos rfl]
  · rw [Tab.find_del, if_pos rfl]

theorem doEpochFrame_eq {id : Nat} {f : Frame} {s : State} (hf : findFrame s id = some f)
    (hplace : f.place = .localTo) (hwhole : f.whole = true) (hkind : hdrKind f.hdr = KindCode.EPOCH)
    (hrole : rd s (Reg.PORT_PEER_ROLE f.ingress) ≤ 1) (hhop : hdrHop f.hdr = 1) (hlen : hdrLen f.hdr = 2)
    (hblocks : f.blocks.length = 2) (hlow : 16 ≤ field (f.blocks.getD 1 0).toNat 91 5)
    (hhigh : field (f.blocks.getD 1 0).toNat 91 5 ≤ 24) :
    doEpochFrame id s = judgeHeard (heard (removeFrame s id) f)
      (noteHeard f.ingress (heard (removeFrame s id) f) (removeFrame s id)) := by
  unfold doEpochFrame
  rw [hf]
  dsimp only
  rw [if_neg (by simp [hplace, hwhole, hkind]),
    if_neg (by rw [hhop, hlen, hblocks]; exact fun h => by omega)]
  rfl

/-- A frame that leaves keeps what its candidate shows. -/
theorem heard_removeFrame (s : State) (id : Nat) (f : Frame) : heard (removeFrame s id) f = heard s f := by
  have hport (a : Addr) (ha : a.obj = 0x0300) : rd (removeFrame s id) a = rd s a :=
    rd_of_besides (kept := [.obj 0x0300]) (by simp) (by simp [ha])
  have hnow : now (removeFrame s id) = now s :=
    now_of_time (time_of_outside (P := fun _ => false) (by simp) rfl)
  simp only [heard, hport (Reg.PORT_PEER_SERIAL f.ingress) rfl, hport (Reg.PORT_RTT f.ingress) rfl, hnow]

/-! ## Edges -/

/-- The own boundary that an edge is measured against. -/
def nearest (s : State) : Nat :=
  if tickGap (now s) (rd s Reg.EPOCH_BOUNDARY) ≤ tickGap (now s) s.clock.next then rd s Reg.EPOCH_BOUNDARY
  else s.clock.next

/-- An edge within 1,000 ticks of the one before. -/
def edgeAgain (s : State) : Bool :=
  match s.clock.lastEdge with
  | some e => decide (now s - e < 1000)
  | none => false

theorem edgeAgain_iff (s : State) : edgeAgain s = true ↔ ∃ e, s.clock.lastEdge = some e ∧ now s - e < 1000 := by
  unfold edgeAgain
  split
  · next e h => simp [h]
  · next h => simp [h]

theorem doEpochIn_eq {s : State} (hen : rd s Reg.EPOCH_EPOCH_IN_EN ≠ 0) :
    doEpochIn s =
      if 1024 < tickGap (now s) (nearest s) ∨ edgeAgain s = true then inc s Reg.EPOCH_EPIN_REJECTS 32
      else modClock s (fun c => { c with lastEdge := some (now s), edgeD := some ((nearest s : Int) - now s) }) := by
  unfold doEpochIn
  rw [if_neg hen]
  rfl

/-- The nearer boundary is too far when both are. -/
theorem nearest_far {s : State} (hb : 1024 < tickGap (now s) (rd s Reg.EPOCH_BOUNDARY))
    (hn : 1024 < tickGap (now s) s.clock.next) : 1024 < tickGap (now s) (nearest s) := by
  unfold nearest
  split <;> assumption

/-- Settles O34: each command by the values its election, its frame or its edge writes. -/
theorem epochsAndElection : Obligations.EpochsAndElection := by
  unfold Obligations.EpochsAndElection
  refine ⟨⟨fun id f s => ?_, fun e s hst he => ?_, fun s hst hnone hprio => ?_,
    fun s hst hnone hedges hlapse => ?_, fun s hst hdue => finish_eq (if_pos ⟨hst, hdue⟩)⟩,
    fun s hoff => next_eq (if_pos hoff), fun s hen => ?_, fun s hen hbad => ?_, fun s => rfl⟩
  · intro b1 b2 hf hplace hwhole hkind hrole hhop hlen hblocks hlow hhigh
    refine ⟨_, finish_eq (doEpochFrame_eq hf hplace hwhole hkind hrole hhop hlen hblocks hlow hhigh), ?_, ?_⟩
    · rw [findFrame_congr (judgeHeard_frames ..)]
      exact findFrame_removeFrame_self s id
    · rw [judgeHeard_candidates, find_noteHeard, heard_removeFrame]
      rfl
  · refine ⟨_, finish_eq (doStartingEnd_follows hst he), ?_⟩
    simp only [rd_follow]
    refine ⟨?_, rfl, rfl, rfl, rfl, ?_⟩
    · simp [rd_wr]
    · simp
  · refine ⟨_, finish_eq (doStartingEnd_roots hst hnone hprio), ?_⟩
    simp only [rd_becomeRoot]
    exact ⟨rfl, rfl, rfl, rfl, rfl, rfl⟩
  · refine ⟨_, finish_eq (if_pos ⟨hst, hnone, hedges, hlapse⟩), ?_, ?_, enterHoldover_record ..,
      fun a hstate hsource => ?_⟩
    · rw [rd_enterHoldover, if_neg (by simp), if_pos rfl]
    · rw [rd_enterHoldover, if_pos rfl]
    · rw [rd_enterHoldover, if_neg hsource, if_neg hstate]
  · intro b own hnear hapart
    refine next_eq ((doEpochIn_eq hen).trans (if_neg ?_))
    rintro (hfar | hagain)
    · exact Nat.not_le.mpr hfar hnear
    · obtain ⟨e, he, hsoon⟩ := (edgeAgain_iff s).mp hagain
      have := hapart e he
      omega
  · have hreject : 1024 < tickGap (now s) (nearest s) ∨ edgeAgain s = true :=
      hbad.imp (fun h => nearest_far h.1 h.2) (edgeAgain_iff s).mpr
    refine ⟨_, next_eq ((doEpochIn_eq hen).trans (if_pos hreject)), rfl, ?_, fun a ha => ?_⟩
    · rw [rd_inc, if_pos rfl]
    · rw [rd_inc, if_neg ha]

end Sys2Proof.Machine

/-! # Stints and bands (O31, O32) -/

namespace Sys2Proof.Machine

/-! ## Sorting keeps the elements -/

theorem mem_insertBy {α : Type} (le : α → α → Bool) (x y : α) (l : List α) : y ∈ insertBy le x l ↔ y = x ∨ y ∈ l := by
  induction l with
  | nil => simp [insertBy]
  | cons z l ih =>
    rw [insertBy]
    split
    · simp
    · rw [List.mem_cons, ih, List.mem_cons]
      tauto

theorem mem_sortBy {α : Type} (le : α → α → Bool) (y : α) (l : List α) : y ∈ sortBy le l ↔ y ∈ l := by
  induction l with
  | nil => rfl
  | cons x l ih => rw [sortBy, mem_insertBy, ih, List.mem_cons]

/-! ## Stints -/

@[simp] theorem inc_coll (s : State) (a : Addr) (w : Nat) : (inc s a w).coll = s.coll := (rfl)

@[simp] theorem countString_coll (s : State) (e sel n t : Nat) : (countString s e sel n t).coll = s.coll :=
  countIn_coll ..

theorem stintOf_mem {s : State} {e : Nat} {x : Stint} (h : stintOf s e = some x) : x ∈ s.coll.stints :=
  List.mem_of_find?_eq_some h

/-- A stint that is there is replaced by its next state. -/
theorem mem_setStint {s : State} {x y : Stint} (hx : x ∈ s.coll.stints) (hid : y.id = x.id) :
    y ∈ (setStint s y).coll.stints :=
  List.mem_map.mpr ⟨x, hx, if_pos hid.symm⟩

theorem bestStint_mem {s : State} {xs : List Stint} {x : Stint} (h : bestStint s xs = some x) : x ∈ xs :=
  (mem_sortBy ..).mp (List.mem_of_head? h)

/-- R365: every step of the order takes a stint that waits. -/
theorem chooseStint_mem {s : State} {e : Nat} {x : Stint} (h : chooseStint s e = some x) : x ∈ s.coll.stints := by
  have hsub {p : Stint → Bool} {xs : List Stint} (hxs : ∀ y ∈ xs, y ∈ s.coll.stints) :
      ∀ y ∈ xs.filter p, y ∈ s.coll.stints := fun y hy => hxs y (List.mem_of_mem_filter hy)
  unfold chooseStint at h
  extract_lets xs own str rest at h
  have hxs : ∀ y ∈ xs, y ∈ s.coll.stints := hsub fun y hy => hy
  split at h
  · next y hy =>
    obtain rfl : y = x := Option.some.inj h
    rcases Option.or_eq_some_iff.mp hy with hfirst | ⟨-, hown⟩
    · exact hsub hxs _ (bestStint_mem hfirst)
    · exact hsub hxs _ (bestStint_mem hown)
  · split at h
    · next y hy =>
      obtain rfl : y = x := Option.some.inj h
      exact hsub hxs _ (bestStint_mem hy)
    · exact hsub hxs _ (bestStint_mem h)

/-- A claim of a sound stint counts and leaves the others. -/
theorem doStintClaim_sound {s : State} {e : Nat} {x : Stint} (hin : rd s (Reg.HENGINE_STATE e) = 0)
    (hidle : stintOf s e = none) (hx : chooseStint s e = some x) :
    { x with claimed := some e } ∈ (doStintClaim e 0 s).coll.stints := by
  unfold doStintClaim
  rw [if_neg (by simp [hin, hidle]), hx]
  dsimp only
  rw [if_neg (by decide), if_neg (by simp), if_neg (by simp)]
  refine mem_setStint (x := x) ?_ rfl
  have hmem : x ∈ (countString s e 0x4007 (now s - x.tick) x.team).coll.stints := by
    rw [countString_coll]
    exact chooseStint_mem hx
  split
  · exact hmem
  · rw [countString_coll, inc_coll]
    exact hmem

/-! ## Sections -/

theorem applyTrace_stints (s : State) (t j frame lo hi : Nat) (gs : List Nat) :
    (applyTrace s t j frame lo hi gs).coll.stints = s.coll.stints := by
  unfold applyTrace
  split <;> rfl

theorem applyTrace_regs (s : State) (t j frame lo hi : Nat) (gs : List Nat) :
    (applyTrace s t j frame lo hi gs).regs = s.regs := by
  unfold applyTrace
  split <;> rfl

/-- A trace's part leaves the chunk's length. -/
theorem stintElems_applyTrace (s : State) (t j frame lo hi : Nat) (gs : List Nat) (x : Stint) :
    stintElems (applyTrace s t j frame lo hi gs) x = stintElems s x := by
  unfold applyTrace
  split
  · rfl
  · extract_lets c ext data
    have hteam (f : ChunkSlot → ChunkSlot) : team (modSlot s t j f) x.team = team s x.team := rfl
    unfold stintElems
    rw [hteam, chunkSlot_modSlot]
    split
    · next h => rw [show chunkSlot s x.team x.slot = chunkSlot s t j by rw [chunkSlot, chunkSlot, h]]
    · rfl

theorem doSectionCommit_next {s : State} {e : Nat} {x : Stint} (hx : stintOf s e = some x) (hkind : x.kind ≠ 1)
    (hmore : 2048 * x.section_ + 2048 < stintElems s x) :
    doSectionCommit e s = setStint (applyTrace s x.team x.slot x.frame (2048 * x.section_) (2048 * x.section_ + 2048)
      x.groups) { x with section_ := x.section_ + 1 } := by
  unfold doSectionCommit
  rw [hx]
  dsimp only
  rw [if_neg hkind, if_pos (by rwa [stintElems_applyTrace])]

/-! ## The result sender -/

theorem teamEid_wr (s : State) {a : Addr} (ha : a.obj ≠ 0x0D06 ∧ a.obj ≠ 0x0D05 ∧ a.obj ≠ 0x0001) (v t : Nat) :
    teamEid (wr s a v) t = teamEid s t := by
  obtain ⟨hteam, htwin, hsolid⟩ := ha
  unfold teamEid ownEid
  rw [rd_wr_ne _ _ (fun h => hteam (by rw [← h])), rd_wr_ne _ _ (fun h => htwin (by rw [← h])),
    rd_wr_ne _ _ (fun h => hsolid (by rw [← h]))]

/-- The sender's state as its oldest frame leaves the list and shows its digest. -/
def emitted (w : Outgoing) (s : State) : State :=
  let u := modColl s (fun c => { c with outgoing := c.outgoing.erase w })
  if (team s w.team).digestEn = 1 then
    wr (wr u (Reg.TEAMARITH_LAST_DIGEST w.team) (field (w.blocks.getD (w.blocks.length - 1) 0).toNat 64 64))
      (Reg.TEAMARITH_LAST_DIGEST_CHUNK w.team) (extChunk (w.blocks.getD 0 0))
  else u

theorem teamEid_emitted (w : Outgoing) (s : State) (t : Nat) : teamEid (emitted w s) t = teamEid s t := by
  unfold emitted
  dsimp only
  split
  · rw [teamEid_wr _ (by simp), teamEid_wr _ (by simp)]
    rfl
  · rfl

theorem doResultSender_sound {s : State} {g : Nat} {w : Outgoing}
    (hw : s.coll.outgoing.find? (fun x => decide (x.facet = g)) = some w)
    (hroom : stagingRoom s g 2 w.blocks.length = true) :
    doResultSender g false s = originate (emitted w s) g (mkHdr {
      kind := w.kind, msg := 2, tc := (team s w.team).tc, ten := (team s w.team).ten, dst := w.dst,
      src := teamEid s w.team, seq := extChunk (w.blocks.getD 0 0), len := w.blocks.length, arith := 1 })
      w.blocks := by
  unfold doResultSender
  rw [hw, ← teamEid_emitted w s]
  dsimp only
  rw [if_neg (by simp [hroom]), if_neg (by simp)]
  rfl

/-! ## Failed checks -/

theorem rd_countIn (s : State) (bank sel : Nat) (e : Event) {a : Addr} (ha : a.obj ≠ 0x0F00) :
    rd (countIn s bank sel e) a = rd s a :=
  rd_of_besides (kept := [.obj a.obj]) (by simp [ha.symm]) (by simp)

theorem addCounter_raised (s : State) (bank i n : Nat) : (addCounter s bank i n).raised = s.raised := by
  unfold addCounter
  extract_lets v t
  split <;> rfl

@[simp] theorem countIn_raised (s : State) (bank sel : Nat) (e : Event) :
    (countIn s bank sel e).raised = s.raised := by
  unfold countIn
  refine proj_foldl_of_keep State.raised (fun s i => ?_) s
  dsimp only
  split
  · exact addCounter_raised ..
  · rfl

/-- A count of a unit's failures that stays below the limit. -/
def suspected (s : State) (u : Nat) (a : Addr) : State :=
  wr (if rd s a + 1 = 1 then startDecay s u else s) a (rd s a + 1)

theorem suspectEngine_below {s : State} {e : Nat}
    (hlimit : rd s (Reg.HENGINE_SUSPECT e) + 1 < rd s Reg.ARITHCFG_SUSPECT_LIMIT)
    (hmax : rd s (Reg.HENGINE_SUSPECT e) < 255) :
    suspectEngine s e = suspected s e (Reg.HENGINE_SUSPECT e) := by
  have hmin : min 255 (rd s (Reg.HENGINE_SUSPECT e) + 1) = rd s (Reg.HENGINE_SUSPECT e) + 1 := by omega
  unfold suspectEngine
  simp only [hmin]
  refine if_neg fun h => ?_
  have hlim : ∀ u : State, rd u Reg.ARITHCFG_SUSPECT_LIMIT = rd s Reg.ARITHCFG_SUSPECT_LIMIT →
      ¬ rd u Reg.ARITHCFG_SUSPECT_LIMIT ≤ rd s (Reg.HENGINE_SUSPECT e) + 1 := fun u hu => by rw [hu]; omega
  refine hlim _ ?_ h.1
  rw [rd_wr_ne _ _ (by simp)]
  split <;> rfl

theorem suspectYoke_below {s : State} {f : Nat}
    (hlimit : rd s (Reg.YOKE_SUSPECT f) + 1 < rd s Reg.ARITHCFG_SUSPECT_LIMIT)
    (hmax : rd s (Reg.YOKE_SUSPECT f) < 255) :
    suspectYoke s f = suspected s (320 + f) (Reg.YOKE_SUSPECT f) := by
  have hmin : min 255 (rd s (Reg.YOKE_SUSPECT f) + 1) = rd s (Reg.YOKE_SUSPECT f) + 1 := by omega
  unfold suspectYoke
  simp only [hmin]
  refine if_neg fun h => ?_
  have hlim : ∀ u : State, rd u Reg.ARITHCFG_SUSPECT_LIMIT = rd s Reg.ARITHCFG_SUSPECT_LIMIT →
      ¬ rd u Reg.ARITHCFG_SUSPECT_LIMIT ≤ rd s (Reg.YOKE_SUSPECT f) + 1 := fun u hu => by rw [hu]; omega
  refine hlim _ ?_ h.1
  rw [rd_wr_ne _ _ (by simp)]
  split <;> rfl

theorem suspected_spec (s : State) (u : Nat) (a : Addr) :
    (suspected s u a).coll.stints = s.coll.stints ∧ (suspected s u a).coll.bands = s.coll.bands ∧
      (suspected s u a).raised = s.raised ∧
      ∀ b, rd (suspected s u a) b = if b = a then rd s a + 1 else rd s b := by
  have hdecay (c : Prop) [Decidable c] (b : Addr) : rd (if c then startDecay s u else s) b = rd s b := by
    split <;> rfl
  refine ⟨?_, ?_, ?_, fun b => ?_⟩
  · unfold suspected
    split <;> rfl
  · unfold suspected
    split <;> rfl
  · unfold suspected
    split <;> rfl
  · rw [suspected, rd_wr, hdecay]

/-- A stint that failed its check for the first time, counted, recorded and released. -/
def checkFailed (e code : Nat) (x : Stint) (s : State) : State :=
  let chunk := (chunkSlot s x.team x.slot).chunk
  let s := countString (inc s (Reg.HENGINE_CHECK_FAILS e) 32) e 0x4004 1 x.team
  let s := raise s Code.STINT_CHECK (e / 40) [(16, e), (16, x.team), (16, chunk), (8, code + 1), (8, 1)]
  setStint s { x with claimed := none, failed := [e] }

theorem doCheckFail_first {s : State} {e : Nat} {x : Stint} (hx : stintOf s e = some x) (hfirst : x.failed = [])
    (code : Nat) : doCheckFail e code s = suspectEngine (checkFailed e code x s) e := by
  unfold doCheckFail checkFailed
  rw [hx]
  dsimp only
  rw [hfirst, if_pos (by decide)]
  rfl

theorem rd_checkFailed (e code : Nat) (x : Stint) (s : State) {a : Addr} (ha : a.obj ≠ 0x0F00) :
    rd (checkFailed e code x s) a =
      if a = Reg.HENGINE_CHECK_FAILS e then (rd s (Reg.HENGINE_CHECK_FAILS e) + 1) % 2 ^ 32 else rd s a := by
  unfold checkFailed setStint countString
  dsimp only
  rw [rd_modColl, rd_raise, rd_countIn _ _ _ _ ha, rd_inc]

theorem mem_checkFailed {e code : Nat} {x : Stint} {s : State} (hx : x ∈ s.coll.stints) :
    { x with claimed := none, failed := [e] } ∈ (checkFailed e code x s).coll.stints := by
  unfold checkFailed
  refine mem_setStint (x := x) ?_ rfl
  rw [raise_coll, countString_coll, inc_coll]
  exact hx

theorem checkFailed_record (e code : Nat) (x : Stint) (s : State) :
    ⟨Code.STINT_CHECK, e / 40, recordData [(16, e), (16, x.team), (16, (chunkSlot s x.team x.slot).chunk),
      (8, code + 1), (8, 1)]⟩ ∈ (checkFailed e code x s).raised := by
  unfold checkFailed setStint raise
  rw [modColl_raised]
  exact List.mem_append_right _ (List.mem_singleton.mpr rfl)

/-- Settles O31: each command by the stint, the frame or the count it moves. -/
theorem stints : Obligations.Stints := by
  unfold Obligations.Stints
  refine ⟨fun e x s hduty hin hidle hx => ?_, fun e x s hx hkind hmore => ?_, fun g w s hw hroom => ?_,
    fun e c x s hx hfirst hlimit hmax => ?_, fun u s => ?_⟩
  · exact ⟨_, finish_eq (if_pos hduty), doStintClaim_sound hin hidle hx⟩
  · refine ⟨_, finish_eq (doSectionCommit_next hx hkind hmore), mem_setStint (x := x) ?_ rfl, applyTrace_regs ..⟩
    rw [applyTrace_stints]
    exact stintOf_mem hx
  · exact finish_eq (doResultSender_sound hw hroom)
  · have hsuspect : rd (checkFailed e c x s) (Reg.HENGINE_SUSPECT e) = rd s (Reg.HENGINE_SUSPECT e) := by
      rw [rd_checkFailed _ _ _ _ (by simp), if_neg (by simp)]
    have hlim : rd (checkFailed e c x s) Reg.ARITHCFG_SUSPECT_LIMIT = rd s Reg.ARITHCFG_SUSPECT_LIMIT := by
      rw [rd_checkFailed _ _ _ _ (by simp), if_neg (by simp)]
    have heq := (doCheckFail_first hx hfirst c).trans
      (suspectEngine_below (by rwa [hsuspect, hlim]) (by rwa [hsuspect]))
    obtain ⟨hstints, -, hraised, hread⟩ := suspected_spec (checkFailed e c x s) e (Reg.HENGINE_SUSPECT e)
    refine ⟨_, finish_eq heq, ?_, ?_, ?_, ?_⟩
    · rw [hstints]
      exact mem_checkFailed (stintOf_mem hx)
    · rw [hread, if_neg (by simp), rd_checkFailed _ _ _ _ (by simp), if_pos rfl]
    · rw [hread, if_pos rfl, hsuspect]
    · rw [hraised]
      exact checkFailed_record ..
  · intro a due
    refine ⟨fun hon hdue => ?_, fun hearly => next_eq (if_pos (.inr hearly))⟩
    have heq : doSuspectDecay u s =
        modColl (wr s a (rd s a - 1)) (fun c => { c with decays := Tab.put 0 c.decays u due }) :=
      if_neg (fun h => h.elim hon (Nat.not_lt.mpr hdue))
    refine ⟨_, next_eq heq, ?_, fun b hb => ?_, Tab.get_put_self ..⟩
    · rw [rd_modColl, rd_wr_self]
    · rw [rd_modColl, rd_wr_ne _ _ hb]

end Sys2Proof.Machine

/-! # Bands of a yoke (O32) -/

namespace Sys2Proof.Machine

/-! ## A pass -/

/-- R372: a pass takes its bands, and numbers them. -/
theorem doYokePass_clean {s : State} {f bad : Nat} (hin : yokeIn s f = true)
    (hgood : ∀ x ∈ s.coll.yoke, x.frame ≠ bad) (htake : nextBands s f ≠ []) :
    doYokePass f bad false s = modColl s (fun c => { c with
      nextPass := s.coll.nextPass + 1, openPasses := c.openPasses ++ [s.coll.nextPass],
      bands := c.bands.filter (fun b => !(nextBands s f).contains b) ++
        (nextBands s f).map (fun b => { b with issued := true, pass := s.coll.nextPass }) }) := by
  have hnone : s.coll.yoke.find? (fun x => decide (x.frame = bad) &&
      (nextBands s f).any (fun b => b.rows.contains x.frame)) = none := by
    rw [List.find?_eq_none]
    intro x hx
    simp [hgood x hx]
  unfold doYokePass
  rw [if_neg (by simp [hin]), hnone]
  exact if_neg htake

/-! ## A committed band -/

/-- A yoke's count of passes, and the passes not counted yet. -/
def passCount (f : Nat) (s : State) : Nat × List Nat := (rd s (Reg.YOKE_PASSES f), s.coll.openPasses)

section
variable (f : Nat) (s : State)

/-- A change of the harness beside the open passes. -/
theorem passCount_modColl {g : Collective → Collective} (h : (g s.coll).openPasses = s.coll.openPasses) :
    passCount f (modColl s g) = passCount f s :=
  congrArg (Prod.mk _) h

theorem passCount_modSlot (t j : Nat) (g : ChunkSlot → ChunkSlot) :
    passCount f (modSlot s t j g) = passCount f s := (rfl)

theorem passCount_noteIdle (t j : Nat) : passCount f (noteIdle s t j) = passCount f s := by
  unfold noteIdle
  split
  · rfl
  split
  · rfl
  split <;> rfl

theorem passCount_addStint (t j kind frame entry : Nat) (gs : List Nat) :
    passCount f (addStint s t j kind frame entry gs) = passCount f s :=
  passCount_noteIdle f ..

theorem passCount_maybeEncode (t j : Nat) : passCount f (maybeEncode s t j) = passCount f s := by
  unfold maybeEncode
  extract_lets k x
  split
  · exact passCount_addStint f ..
  · rfl

/-- A step that leaves the yokes' elements and the harness. -/
theorem passCount_of_aside {t : State}
    (h : aside (besides [.obj 0x0C01, .coll]) t = aside (besides [.obj 0x0C01, .coll]) s) :
    passCount f t = passCount f s := by
  rw [passCount, rd_of_besides h (by simp), coll_of_aside h (by simp), passCount]

theorem passCount_removeFrame (id : Nat) : passCount f (removeFrame s id) = passCount f s :=
  passCount_of_aside f s (by simp)

theorem passCount_countIn (bank sel : Nat) (e : Event) : passCount f (countIn s bank sel e) = passCount f s :=
  passCount_of_aside f s (by simp)

/-- R374: a trace that is done counts for its fallback, never for a pass. -/
theorem passCount_finishTrace (t j frame : Nat) : passCount f (finishTrace s t j frame) = passCount f s := by
  unfold finishTrace
  split
  · rfl
  · extract_lets left s1 s2 s3
    have h2 : passCount f s2 = passCount f s1 := by
      simp only [s2]
      split
      · rw [passCount, rd_inc, if_neg (by simp)]
        rfl
      · rfl
    split
    · rfl
    · rw [passCount_maybeEncode, passCount_noteIdle, passCount_removeFrame, passCount_modColl f s2 rfl, h2]
      exact passCount_modSlot ..

theorem passCount_applyTrace (t j frame lo hi : Nat) (gs : List Nat) :
    passCount f (applyTrace s t j frame lo hi gs) = passCount f s := by
  unfold applyTrace
  split
  · rfl
  · exact passCount_modSlot ..

end

theorem passCount_foldl {α : Type} (f : Nat) {g : State → α → State} (l : List α) (s : State)
    (h : ∀ s x, passCount f (g s x) = passCount f s) : passCount f (l.foldl g s) = passCount f s :=
  proj_foldl_of_keep (passCount f) h s

theorem passCount_noteFill (f : Nat) (s : State) (g rows passes : Nat) :
    passCount f (noteFill s g rows passes) = passCount f s := (rfl)

/-- The first band of a pass that is over, counted, with the pass closed. -/
def passClosed (f pass : Nat) (s : State) : State :=
  let s' := modColl s (fun c => { c with openPasses := c.openPasses.filter (fun n => decide (n ≠ pass)) })
  if s.coll.openPasses.contains pass then countIn (inc s' (Reg.YOKE_PASSES f) 64) (yokeBank f) 0x5001 {} else s'

theorem passCount_passClosed {f pass : Nat} {s : State} (hopen : s.coll.openPasses.contains pass = true) :
    passCount f (passClosed f pass s) =
      ((rd s (Reg.YOKE_PASSES f) + 1) % 2 ^ 64, s.coll.openPasses.filter (fun n => decide (n ≠ pass))) := by
  unfold passClosed
  rw [if_pos hopen, passCount_countIn, passCount, rd_inc, if_pos rfl, rd_modColl, inc_coll, modColl_coll]

/-- The rows of a band brought to its group, and the band done with. -/
def bandApplied (b : Band) (s : State) : State :=
  let s := b.rows.foldl (fun s id => applyTrace s b.team b.slot id (64 * b.group) (64 * b.group + 64) []) s
  dropGroup (modColl s (fun c => { c with bands := c.bands.erase b })) b

theorem passCount_bandApplied (f : Nat) (b : Band) (s : State) :
    passCount f (bandApplied b s) = passCount f s := by
  have hrows := passCount_foldl f b.rows s fun s id =>
    passCount_applyTrace f s b.team b.slot id (64 * b.group) (64 * b.group + 64) []
  unfold bandApplied
  rw [← hrows]
  rfl

/-- The first commit of a pass counts it, and closes it. -/
theorem passCount_doBandCommit {s : State} {f : Nat} {b : Band} (hb : issuedBand s f = some b)
    (hopen : s.coll.openPasses.contains b.pass = true) :
    passCount f (doBandCommit f s) =
      ((rd s (Reg.YOKE_PASSES f) + 1) % 2 ^ 64, s.coll.openPasses.filter (fun n => decide (n ≠ b.pass))) := by
  have happlied := passCount_bandApplied f b s
  have hpasses := congrArg Prod.fst happlied
  have hlist := congrArg Prod.snd happlied
  simp only [passCount] at hpasses hlist
  have hclosed := passCount_passClosed (f := f) (s := bandApplied b s) (hlist ▸ hopen)
  rw [hpasses, hlist, passClosed] at hclosed
  unfold doBandCommit
  rw [hb]
  dsimp only
  rw [passCount_maybeEncode, passCount_noteIdle,
    passCount_foldl _ _ _ (fun s id => passCount_finishTrace f s b.team b.slot id), passCount_noteFill,
    passCount_countIn]
  exact hclosed

/-! ## A failed band -/

/-- A band's first failure, counted and recorded, with the band waiting again. -/
def bandFailed (f code : Nat) (b : Band) (s : State) : State :=
  let s' := countIn (inc s (Reg.YOKE_CHECK_FAILS f) 32) (yokeBank f) 0x5003 {}
  let s' := raise s' Code.STINT_CHECK f [(16, 320 + f), (16, b.team), (16, (chunkSlot s b.team b.slot).chunk),
    (8, 11 + code), (8, 1)]
  modColl (modColl s' (fun c => { c with bands := c.bands.erase b }))
    (fun c => { c with bands := c.bands ++ [{ b with issued := false, tries := 1 }] })

theorem rd_bandFailed (f code : Nat) (b : Band) (s : State) {a : Addr} (ha : a.obj ≠ 0x0F00) :
    rd (bandFailed f code b s) a =
      if a = Reg.YOKE_CHECK_FAILS f then (rd s (Reg.YOKE_CHECK_FAILS f) + 1) % 2 ^ 32 else rd s a := by
  unfold bandFailed
  dsimp only
  rw [rd_modColl, rd_modColl, rd_raise, rd_countIn _ _ _ _ ha, rd_inc]

theorem mem_bandFailed (f code : Nat) (b : Band) (s : State) :
    { b with issued := false, tries := 1 } ∈ (bandFailed f code b s).coll.bands := by
  unfold bandFailed
  exact List.mem_append_right _ (List.mem_singleton_self _)

theorem bandFailed_record (f code : Nat) (b : Band) (s : State) :
    ⟨Code.STINT_CHECK, f, recordData [(16, 320 + f), (16, b.team), (16, (chunkSlot s b.team b.slot).chunk),
      (8, 11 + code), (8, 1)]⟩ ∈ (bandFailed f code b s).raised := by
  unfold bandFailed raise
  rw [modColl_raised, modColl_raised]
  exact List.mem_append_right _ (List.mem_singleton_self _)

theorem doBandFail_first {s : State} {f : Nat} {b : Band} (hb : issuedBand s f = some b) (htries : b.tries = 0)
    (hin : yokeIn s f = true) (code : Nat) : doBandFail f code s = suspectYoke (bandFailed f code b s) f := by
  have hstill (u : State) (hu : rd u (Reg.YOKE_STATE f) = rd s (Reg.YOKE_STATE f)) : yokeIn u f = true := by
    rw [yokeIn, hu]
    exact hin
  unfold doBandFail bandFailed
  rw [hb]
  dsimp only
  rw [htries, if_pos ⟨rfl, hstill _ (by
    rw [rd_modColl, rd_raise, rd_countIn _ _ _ _ (by simp), rd_inc, if_neg (by simp)])⟩]

/-- Settles O32: by what a pass takes, what a commit counts and what a first failure puts back. -/
theorem yokeBands : Obligations.YokeBands := by
  unfold Obligations.YokeBands
  refine ⟨fun g bad s hduty hin hgood => ?_, fun g b s hb hopen => ?_, fun g c b s hb htries hin hlimit hmax => ?_⟩
  · intro take htake
    refine ⟨_, finish_eq ((if_pos hduty).trans (doYokePass_clean hin hgood htake)), rfl, fun b hb => ?_, rfl⟩
    exact List.mem_append_right _ (List.mem_map.mpr ⟨b, hb, rfl⟩)
  · have hcount := passCount_doBandCommit hb hopen
    refine ⟨_, finish_eq rfl, congrArg Prod.fst hcount, ?_⟩
    have hlist : (doBandCommit g s).coll.openPasses = s.coll.openPasses.filter (fun n => decide (n ≠ b.pass)) :=
      congrArg Prod.snd hcount
    rw [hlist]
    simp
  · have hsuspect : rd (bandFailed g c b s) (Reg.YOKE_SUSPECT g) = rd s (Reg.YOKE_SUSPECT g) := by
      rw [rd_bandFailed _ _ _ _ (by simp), if_neg (by simp)]
    have hlim : rd (bandFailed g c b s) Reg.ARITHCFG_SUSPECT_LIMIT = rd s Reg.ARITHCFG_SUSPECT_LIMIT := by
      rw [rd_bandFailed _ _ _ _ (by simp), if_neg (by simp)]
    have heq := (doBandFail_first hb htries hin c).trans
      (suspectYoke_below (by rwa [hsuspect, hlim]) (by rwa [hsuspect]))
    obtain ⟨-, hbands, hraised, hread⟩ := suspected_spec (bandFailed g c b s) (320 + g) (Reg.YOKE_SUSPECT g)
    refine ⟨_, finish_eq heq, ?_, ?_, ?_, ?_⟩
    · rw [hbands]
      exact mem_bandFailed ..
    · rw [hread, if_neg (by simp), rd_bandFailed _ _ _ _ (by simp), if_pos rfl]
    · rw [hread, if_pos rfl, hsuspect]
    · rw [hraised]
      exact bandFailed_record ..

end Sys2Proof.Machine

/-! # Ports that stop, and lanes and sleep (O16 to O18) -/

namespace Sys2Proof.Machine

/-! ## One port taken down -/

theorem portState_portDown (s : State) (p reason : Nat) : rd (portDown s p reason) (Reg.PORT_STATE p) = 0 := by
  rw [portDown, portState_portsDown, if_pos (List.mem_singleton_self p)]

/-- The elements of a port that is taken down, as `beginDown` leaves them. -/
theorem rd_portDown (s : State) (p reason : Nat) {a : Addr} (ha : a.obj = 0x0300) :
    rd (portDown s p reason) a = rd (beginDown reason s p) a := rd_portsDown s [p] reason ha

theorem downReason_portDown {s : State} {p : Nat} (h : rd s (Reg.PORT_STATE p) ≠ 0) (reason : Nat) :
    rd (portDown s p reason) (Reg.PORT_DOWN_REASON p) = reason := by
  rw [rd_portDown _ _ _ rfl, rd_beginDown _ _ _ rfl, if_neg h, if_neg (by simp), if_pos rfl]

/-- What a command answers whose change is one port taken down. -/
theorem portDown_answer {s t : State} {p reason : Nat} (ht : t = portDown s p reason)
    (h : rd s (Reg.PORT_STATE p) ≠ 0) : ∃ u, finish s t = .next (concluded s u) ∧
      rd u (Reg.PORT_STATE p) = 0 ∧ rd u (Reg.PORT_DOWN_REASON p) = reason :=
  ⟨_, finish_eq ht, portState_portDown .., downReason_portDown h reason⟩

/-! ## The link's timers (O16) -/

@[simp] theorem link_countPortN (s : State) (p sel n q : Nat) : link (countPortN s p sel n) q = link s q :=
  link_congr (links_of_aside (P := besides [.links]) (by simp) (by simp)) q

theorem exclusionPending_of_noSwitch {s : State} {p : Nat} (h : (link s p).rxSwitch = none) :
    exclusionPending s p = false := by
  rw [exclusionPending, h]

theorem doRetryWait_resend {s : State} {p : Nat} (hup : rd s (Reg.PORT_STATE p) = 5)
    (hwait : (link s p).retryWait = true) (hsw : (link s p).rxSwitch = none) (hn : (link s p).naks < 8) :
    doRetryWait p s = modLink s p (fun l => { l with nak := true }) := by
  unfold doRetryWait
  simp [hup, hwait, exclusionPending_of_noSwitch hsw, Nat.not_le.mpr hn]

theorem doRetryWait_down {s : State} {p : Nat} (hup : rd s (Reg.PORT_STATE p) = 5)
    (hwait : (link s p).retryWait = true) (hsw : (link s p).rxSwitch = none) (hn : 8 ≤ (link s p).naks) :
    doRetryWait p s = portDown s p 5 := by
  unfold doRetryWait
  simp [hup, hwait, exclusionPending_of_noSwitch hsw, hn]

/-- R117: more than 1,000 uncorrectable codewords at full lanes take the port down, whatever the codewords of the
last delivery are counted as. -/
theorem doUncorrectable_down {s : State} {p n : Nat} (hup : rd s (Reg.PORT_STATE p) = 5)
    (hn : 1000 < (link s p).badWords + n) (hfull : rd s (Reg.PORT_RXMASK p) = 15)
    (hsw : (link s p).rxSwitch = none) :
    ∃ u, doUncorrectable p n s = portDown u p 4 ∧ rd u (Reg.PORT_STATE p) = 5 := by
  set c := if n = 0 then s else countPortN s p 0x200A n with hc
  have hcount (a : Addr) (ha : a.obj ≠ 0x0F00) : rd c a = rd s a := by
    rw [hc]
    split
    · rfl
    · exact rd_of_besides (kept := [.obj a.obj]) (aside_countPortN _ _ _ _ _ (by simp [ha.symm])) (by simp)
  have hlink : link c p = link s p := by
    rw [hc]
    split
    · rfl
    · exact link_countPortN ..
  refine ⟨modLink c p (fun l => { l with badWords := 0 }), ?_, by rw [rd_modLink, hcount _ (by simp), hup]⟩
  unfold doUncorrectable
  dsimp only
  rw [← hc, if_pos]
  refine ⟨by rw [rd_modLink, hcount _ (by simp), hup], hn, by rw [rd_modLink, hcount _ (by simp), hfull], ?_⟩
  rw [link_modLink_self]
  simp [hlink, hsw]

/-- R112: an exclusion that was asked for more than by two bad windows is judged. -/
theorem doLaneExclude_judged {s : State} {p k c : Nat} (h : c ≠ 0 ∨ 2 ≤ (link s p).bad.getD k 0) :
    doLaneExclude p k c s = excludeLane p k c s := by
  unfold doLaneExclude
  rw [if_neg]
  omega

theorem excludeLane_third {s : State} {p k c : Nat} (hup : rd s (Reg.PORT_STATE p) = 5)
    (hsw : (link s p).rxSwitch = none) (hbit : (rd s (Reg.PORT_RXMASK p)).testBit k = true)
    (hthree : popcount 4 (rd s (Reg.PORT_RXMASK p)) = 3) : excludeLane p k c s = portDown s p 3 := by
  unfold excludeLane
  simp only [hup, hsw]
  rw [if_pos (.inl trivial), if_neg (by simp [hbit]), if_pos hthree.le]

theorem excludeLane_full {s : State} {p k c : Nat} (hk : k < 4) (hup : rd s (Reg.PORT_STATE p) = 5)
    (hsw : (link s p).rxSwitch = none) (hfull : rd s (Reg.PORT_RXMASK p) = 15) :
    excludeLane p k c s = modLink s p (fun l => { l with
      rxSwitch := some ⟨15 - 2 ^ k, 2 ^ 32, c⟩, rxReq := 15 - 2 ^ k, nakUsed := false }) := by
  have hbit : Nat.testBit 15 k = true := by
    rw [show 15 = 2 ^ 4 - 1 from rfl, Nat.testBit_two_pow_sub_one]
    simpa using hk
  unfold excludeLane
  simp only [hup, hsw, hfull]
  rw [if_pos (.inl trivial), if_neg (by simp [hbit]), if_neg (by decide)]

/-- Settles O16: by the branch of each timer, and what taking one port down leaves. -/
theorem linkTimersTakeThePortDown : Obligations.LinkTimersTakeThePortDown := by
  unfold Obligations.LinkTimersTakeThePortDown
  refine ⟨fun p s hup hwait hsw hn => ?_, fun p s hup hwait hsw hn => ?_, fun p s hup hretry => ?_, fun p s hup => ?_,
    fun p n s hup hn hfull hsw => ?_, fun p s hn => ?_, fun p k c s hup hsw hc hbit hthree => ?_⟩
  · exact finish_eq (doRetryWait_resend hup hwait hsw hn)
  · exact portDown_answer (doRetryWait_down hup hwait hsw hn) (by simp [hup])
  · exact portDown_answer (if_pos ⟨hup, hretry⟩) (by simp [hup])
  · exact portDown_answer (if_pos hup) (by simp [hup])
  · obtain ⟨u, hdown, hstate⟩ := doUncorrectable_down hup hn hfull hsw
    exact ⟨_, finish_eq hdown, portState_portDown .., downReason_portDown (by simp [hstate]) _⟩
  · refine finish_eq ((if_neg ?_).trans (by rw [if_pos rfl]))
    rintro ⟨-, hmany, -⟩
    omega
  · have hcause : c.val ≠ 0 ∨ 2 ≤ (link s p).bad.getD k 0 := hc.imp_left fun h h0 => h (Fin.ext h0)
    exact portDown_answer ((doLaneExclude_judged hcause).trans (excludeLane_third hup hsw hbit hthree))
      (by simp [hup])

end Sys2Proof.Machine

/-! # Sleep and waking, and ports by administration (O17, O18) -/

namespace Sys2Proof.Machine

/-! ## The command bits a port shows -/

theorem link_nextKeepalive (s : State) (p : Nat) : link (nextKeepalive s p) p =
    { link s p with kaSeq := ((link s p).kaSeq + 1) % 2 ^ 16, kaSample := keepaliveFields s p } :=
  link_modLink_self ..

/-- A field of the link besides its command bits and its keepalive. -/
theorem proj_setCmd {α : Type} (proj : Link → α)
    (h : ∀ l c k x, proj { l with cmd := c, kaSeq := k, kaSample := x } = proj l) (p cmd : Nat) (s : State) :
    proj (link (setCmd p cmd s) p) = proj (link s p) := by
  unfold setCmd
  split
  · rfl
  · rw [link_nextKeepalive, link_modLink_self]
    exact h (link s p) cmd _ _

theorem cmd_setCmd (p cmd : Nat) (s : State) : (link (setCmd p cmd s) p).cmd = cmd := by
  unfold setCmd
  split
  · assumption
  · rw [link_nextKeepalive, link_modLink_self]

theorem testBit_sub_self {c b : Nat} (h : c.testBit b = true) : (c - 2 ^ b).testBit b = false := by
  have hsum : 2 ^ b + (c - 2 ^ b) = c := Nat.add_sub_cancel' (Nat.ge_two_pow_of_testBit h)
  have hflip := Nat.testBit_two_pow_add_eq (c - 2 ^ b) b
  rw [hsum, h] at hflip
  simpa using hflip.symm

theorem testBit_setCmdBit (p b : Nat) (on : Bool) (s : State) :
    (link (setCmdBit p b on s) p).cmd.testBit b = on := by
  have hclear : (if (link s p).cmd.testBit b then (link s p).cmd - 2 ^ b else (link s p).cmd).testBit b = false := by
    split
    · exact testBit_sub_self (by assumption)
    · exact Bool.eq_false_iff.mpr (by assumption)
  unfold setCmdBit
  rw [cmd_setCmd]
  cases on
  · exact hclear
  · rw [if_pos rfl, Nat.add_comm, Nat.testBit_two_pow_add_eq, hclear, Bool.not_false]

@[simp] theorem rd_setCmd (p cmd : Nat) (s : State) (a : Addr) : rd (setCmd p cmd s) a = rd s a :=
  rd_of_besides (kept := [.obj a.obj]) (by simp) (by simp)

@[simp] theorem rd_setCmdBit (p b : Nat) (on : Bool) (s : State) (a : Addr) : rd (setCmdBit p b on s) a = rd s a :=
  rd_setCmd ..

/-! ## Falling asleep and waking -/

theorem doSettleClose_quiet {s : State} {p : Nat} (hup : rd s (Reg.PORT_STATE p) = 5)
    (hset : (link s p).sleep = .settling) (hseen : (link s p).wakeSeen = false) (hempty : portEmpty s p = true)
    (hsend : (link s p).sending = []) : doSettleClose p s = countPort (wr (modLink
      (setCmd p (cmdWith (link s p).cmd [] [26, 27]) s) p (fun l => { l with sleep := .quiet })) (Reg.PORT_STATE p) 6)
      p 0x2004 := by
  unfold doSettleClose
  simp [hup, hset, hseen, hempty, hsend]

theorem rd_beginWake (p : Nat) (s : State) (a : Addr) :
    rd (beginWake p s) a = if a = Reg.PORT_STATE p then 7 else rd s a := by
  unfold beginWake
  dsimp only
  rw [rd_modLink, rd_wr]
  split
  · rfl
  · split
    · rfl
    · exact rd_setCmd ..

/-- Settles O17: by the branch of each command, with the lane switch or the sleep state it leaves. -/
theorem favourModeAndSleep : Obligations.FavourModeAndSleep := by
  unfold Obligations.FavourModeAndSleep
  refine ⟨⟨fun p k c s hup hsw hfull hc => ?_, fun p k s hup hsw hbit => ?_⟩, fun p s hmay hawake => ?_,
    fun p s hup hset hseen hempty hsend => ?_, fun p s hquiet => ?_, fun p s hwake => ?_, fun p s hwake => ?_⟩
  · have hcause : c.val ≠ 0 ∨ 2 ≤ (link s p).bad.getD k 0 := hc.imp_left fun h h0 => h (Fin.ext h0)
    exact finish_eq ((doLaneExclude_judged hcause).trans (excludeLane_full k.isLt hup hsw hfull))
  · exact next_eq (if_pos ⟨hup, hbit, by simp [hsw]⟩)
  · refine ⟨_, next_eq (if_pos ⟨hmay, hawake⟩), ?_, ?_, fun a => ?_⟩
    · rw [link_modLink_self]
    · rw [link_modLink_self]
      exact testBit_setCmdBit ..
    · rw [rd_modLink, rd_setCmdBit]
  · refine ⟨_, next_eq (doSettleClose_quiet hup hset hseen hempty hsend), ?_, ?_⟩
    · rw [rd_countPort _ _ _ (by simp), rd_wr, if_pos rfl]
    · rw [link_countPort, link_wr, link_modLink_self]
  · refine ⟨_, next_eq (if_pos hquiet), next_eq (if_pos hquiet), ?_, ?_, fun a ha => ?_⟩
    · rw [rd_beginWake, if_pos rfl]
    · unfold beginWake
      rw [link_modLink_self]
    · rw [rd_beginWake, if_neg ha]
  · refine ⟨_, next_eq (if_pos hwake), ?_, ?_, ?_, fun a ha => ?_⟩
    · rw [nextKeepalive, rd_modLink, rd_modLink, rd_wr, if_pos rfl]
    · rw [link_nextKeepalive, link_modLink_self]
    · rw [link_nextKeepalive, link_modLink_self, link_wr]
    · rw [nextKeepalive, rd_modLink, rd_modLink, rd_wr, if_neg ha]
  · exact portDown_answer (if_pos hwake) (by simp [hwake])

/-! ## Ports by administration -/

theorem portDown_record {s : State} {p : Nat} (h : 4 < rd s (Reg.PORT_STATE p)) (reason : Nat) :
    ⟨Code.PORT_DOWN, p / 256, recordData [(8, reason)]⟩ ∈ (portDown s p reason).raised := by
  unfold portDown portsDown
  simp [h]

theorem rd_portDown_up {s : State} {p : Nat} (h : 4 < rd s (Reg.PORT_STATE p)) (reason : Nat) {a : Addr}
    (ha : a.obj = 0x0300) : rd (portDown s p reason) a =
      if a = Reg.PORT_STATE p then 0
      else if a = Reg.PORT_DOWN_REASON p then reason
      else if a = Reg.PORT_TXMASK p ∨ a = Reg.PORT_RXMASK p ∨ a = Reg.PORT_FLIT_RATE p then 0
      else if a = Reg.PORT_DOWNS p then (rd s (Reg.PORT_DOWNS p) + 1) % 2 ^ 32
      else rd s a := by
  rw [rd_portDown _ _ _ ha, rd_beginDown _ _ _ ha, if_neg (by omega)]
  simp only [if_neg (Nat.not_le.mpr h)]

theorem rd_tellDown (p : Nat) (s : State) (a : Addr) : rd (tellDown p s) a = rd s a :=
  rd_of_besides (kept := [.obj a.obj]) (by simp [tellDown]) (by simp)

/-- R120: ADMIN 1 on a port that no chord holds. -/
theorem doAdminDown_spec {s : State} {p : Nat} (hfree : chordHeld s p = false) :
    rd (doAdminDown p s) (Reg.PORT_ADMIN p) = 1 ∧ rd (doAdminDown p s) (Reg.PORT_STATE p) = 0 ∧
      rd (doAdminDown p s) (Reg.PORT_DOWN_REASON p) = 1 := by
  set u := tellDown p (wr s (Reg.PORT_ADMIN p) 1) with hu
  have hread (a : Addr) : rd u a = if a = Reg.PORT_ADMIN p then 1 else rd s a := by rw [hu, rd_tellDown, rd_wr]
  have hstate : rd u (Reg.PORT_STATE p) = rd (wr s (Reg.PORT_ADMIN p) 1) (Reg.PORT_STATE p) := rd_tellDown ..
  unfold doAdminDown
  dsimp only
  rw [if_neg (by rw [chordHeld_wr _ (by simp), hfree]; exact Bool.false_ne_true), ← hu, ← hstate]
  split
  · next hdown =>
    refine ⟨?_, ?_, ?_⟩
    · rw [rd_wr, if_neg (by simp), hread, if_pos rfl]
    · rw [rd_wr, if_neg (by simp), hdown]
    · rw [rd_wr, if_pos rfl]
  · next hup =>
    refine ⟨?_, portState_portDown .., downReason_portDown hup _⟩
    rw [rd_portDown _ _ _ rfl, rd_beginDown _ _ _ rfl]
    simp [hread]

/-- What ADMIN 0 does with a ring. -/
def reviveRing (s : State) (r : Nat) : State :=
  let st := rd s (Reg.RING_STATE r)
  if st = 6 ∨ (st = 0 ∧ s.light.stagger = 17) then parkRing s r else s

/-- The lock state that ADMIN 0 leaves in a ring. -/
def revived (stagger st : Nat) : Nat := if st = 6 ∨ (st = 0 ∧ stagger = 17) then 1 else st

theorem revived_revived (stagger st : Nat) : revived stagger (revived stagger st) = revived stagger st := by
  unfold revived
  split_ifs <;> omega

theorem ringState_reviveRing (s : State) (r q : Nat) : rd (reviveRing s r) (Reg.RING_STATE q) =
    if q = r then revived s.light.stagger (rd s (Reg.RING_STATE q)) else rd s (Reg.RING_STATE q) := by
  unfold reviveRing revived parkRing
  dsimp only
  by_cases hq : q = r
  · subst hq
    simp only [if_true]
    split
    · simp [rd_wr]
    · rfl
  · rw [if_neg hq]
    split
    · simp [rd_wr, hq]
    · rfl

theorem light_reviveRing (s : State) (r : Nat) : (reviveRing s r).light = s.light := by
  unfold reviveRing
  dsimp only
  split <;> rfl

theorem ringState_reviveRings (l : List Nat) (s : State) (q : Nat) :
    rd (l.foldl reviveRing s) (Reg.RING_STATE q) =
      if q ∈ l then revived s.light.stagger (rd s (Reg.RING_STATE q)) else rd s (Reg.RING_STATE q) := by
  induction l generalizing s with
  | nil => rfl
  | cons r l ih =>
    rw [List.foldl_cons, ih, light_reviveRing, ringState_reviveRing]
    by_cases hq : q = r <;> simp [hq, revived_revived]

/-- ADMIN 0 on a port that no chord holds: its failures and its DOWN level go, and its rings count again. -/
theorem doAdminUp_eq {s : State} {p : Nat} (hfree : chordHeld s p = false) :
    doAdminUp p s = (portRings p).foldl reviveRing
      (setCmdBit p 22 false (modLink (wr s (Reg.PORT_ADMIN p) 0) p (fun l => { l with fails := 0 }))) := by
  unfold doAdminUp
  dsimp only
  rw [if_neg (by rw [chordHeld_wr _ (by simp), hfree]; exact Bool.false_ne_true)]
  rfl

theorem link_reviveRings (l : List Nat) (s : State) (p : Nat) : link (l.foldl reviveRing s) p = link s p := by
  refine proj_foldl_of_keep (link · p) (fun s r => ?_) s
  unfold reviveRing
  dsimp only
  split <;> rfl

/-- Settles O18: by the elements one port taken down leaves, and the rings that ADMIN 0 revives. -/
theorem portsGoDown : Obligations.PortsGoDown := by
  unfold Obligations.PortsGoDown
  refine ⟨fun p why s hlow hhigh => ?_, fun p s hg hfree => ?_, fun p s hg hfree => ?_, fun p s hg hheld => ?_⟩
  · have hread (a : Addr) (ha : a.obj = 0x0300) := rd_portDown_up (p := p) hlow why ha
    refine ⟨_, finish_eq rfl, portState_portDown .., ?_, ?_, ?_, downReason_portDown (by omega) _, ?_,
      portDown_record hlow _⟩
    all_goals rw [hread _ rfl]; simp
  · obtain ⟨hadmin, hstate, hreason⟩ := doAdminDown_spec (p := p) hfree
    exact ⟨_, finish_eq (written_of_up hg _), hadmin, hstate, hreason⟩
  · refine ⟨_, finish_eq ((written_of_up hg _).trans (doAdminUp_eq hfree)), ?_, ?_, ?_, fun r hr => ?_⟩
    · rw [rd_foldl_of_keep, rd_setCmdBit, rd_modLink, rd_wr, if_pos rfl]
      intro s r _
      unfold reviveRing parkRing
      dsimp only
      split
      · simp [rd_wr]
      · rfl
    · rw [link_reviveRings, setCmdBit, proj_setCmd Link.fails fun _ _ _ _ => rfl, link_modLink_self]
    · rw [link_reviveRings, testBit_setCmdBit]
    · rw [ringState_reviveRings, if_pos hr, revived, rd_setCmdBit, rd_modLink, rd_wr,
        if_neg (c := Reg.RING_STATE r = Reg.PORT_ADMIN p) (by simp),
        light_of_aside (P := besides [.light]) (aside_setCmdBit _ _ _ _ _ (by simp)) (by simp)]
      rfl
  · have hheld' (v : Nat) : chordHeld (wr s (Reg.PORT_ADMIN p) v) p = true := by
      rw [chordHeld_wr _ (by simp), hheld]
    exact ⟨finish_eq ((written_of_up hg _).trans (if_pos (hheld' 1))),
      finish_eq ((written_of_up hg _).trans (if_pos (hheld' 0)))⟩

end Sys2Proof.Machine

/-! # Training (O12) -/

namespace Sys2Proof.Machine

/-! ## The end of SEEK and IDENT -/

/-- The credits held for a port's VLs, set to none. -/
def creditsFresh (p n : Nat) (s : State) : State :=
  (List.range n).foldl (fun s v =>
    wr (wr s (Reg.CREDIT_TX_HELD_DED (16 * p + v)) 0) (Reg.CREDIT_TX_HELD_SHARED (16 * p + v)) 0) s

/-- R94: a port's link as INIT begins, but for its keepalive. -/
def freshLink (s : State) (lanes : Nat) (l : Link) : Link :=
  { l with
    rxReq := lanes, seq := 0, expect := 0, acked := 0xFFFF, ackValid := false, retry := [],
    unacked := [], resend := [], retryWait := false, nak := false, naks := 0, nakUsed := false, rxBlocks := [],
    flitRemain := 0, freed := zeros9, peerFreed := zeros9, charged := zeros9, rxCharged := zeros9,
    cmd := l.cmd &&& 0x90000000, shareCap := rd s Reg.LINK_SHARE_CAP, lineTx := {}, lineRx := {}, badWords := 0 }

theorem creditHeld_creditsFresh {p n v : Nat} (hv : v < n) (s : State) :
    rd (creditsFresh p n s) (Reg.CREDIT_TX_HELD_DED (16 * p + v)) = 0 ∧
      rd (creditsFresh p n s) (Reg.CREDIT_TX_HELD_SHARED (16 * p + v)) = 0 := by
  constructor
  · refine rd_foldl_range hv (fun s => ?_) (fun s j hj => ?_) s
    · simp [rd_wr]
    · simp [rd_wr, hj.symm]
  · refine rd_foldl_range hv (fun s => ?_) (fun s j hj => ?_) s
    · simp
    · simp [rd_wr, hj.symm]

theorem link_creditsFresh (p n : Nat) (s : State) (q : Nat) : link (creditsFresh p n s) q = link s q := by
  refine proj_foldl_of_keep (link · q) (fun s v => ?_) s
  rw [link_wr, link_wr]

theorem doTrainAlignDone_eq {s : State} {p ok : Nat} (hident : rd s (Reg.PORT_STATE p) = 3)
    (hlanes : 3 ≤ popcount 4 ((link s p).rxReq &&& ok)) :
    doTrainAlignDone p ok s = nextKeepalive (wr (creditsFresh p 9
      (modLink s p (freshLink s ((link s p).rxReq &&& ok)))) (Reg.PORT_STATE p) 4) p :=
  if_pos ⟨hident, hlanes⟩

/-! ## An attempt that runs out -/

theorem rd_attemptFail {s : State} {p reason : Nat} (hquiet : (link s p).peerDownSeen = false) {a : Addr}
    (ha : a.obj = 0x0300) : rd (attemptFail p reason s) a =
      if a = Reg.PORT_DOWN_REASON p then reason else if a = Reg.PORT_STATE p then 0 else rd s a := by
  unfold attemptFail
  dsimp only
  simp only [hquiet, Bool.false_eq_true, false_and, if_false]
  split
  · rw [rd_raise, rd_countPort _ _ _ (by simp [ha])]
    simp only [rd_wr, rd_modLink]
  · rw [rd_countPort _ _ _ (by simp [ha])]
    simp only [rd_wr, rd_modLink]

theorem link_attemptFail (p reason : Nat) (s : State) : link (attemptFail p reason s) p =
    { link s p with attempt := false, fails := (link s p).fails + 1 } := by
  unfold attemptFail
  dsimp only
  split <;> split <;> simp

/-- Settles O12: by what an attempt, the end of IDENT and a timeout write. -/
theorem linkTraining : Obligations.LinkTraining := by
  unfold Obligations.LinkTraining
  refine ⟨fun p s h => ?_, fun p lanes s hident hlanes => ?_, fun p s hatt hlow hhigh hquiet => ?_⟩
  · refine ⟨_, next_eq (if_pos h), next_eq (if_pos h), ?_, ?_, ?_, fun a ha => ?_⟩
    · rw [rd_wr, if_pos rfl]
    · rw [link_wr, link_modLink_self]
    · rw [link_wr, link_modLink_self]
    · rw [rd_wr, if_neg ha, rd_modLink]
  · set u := creditsFresh p 9 (modLink s p (freshLink s ((link s p).rxReq &&& lanes.toNat))) with hu
    have hlink : link u p = freshLink s ((link s p).rxReq &&& lanes.toNat) (link s p) := by
      rw [hu, link_creditsFresh, link_modLink_self]
    have hread (a : Addr) (ha : a ≠ Reg.PORT_STATE p) :
        rd (nextKeepalive (wr u (Reg.PORT_STATE p) 4) p) a = rd u a := by
      rw [nextKeepalive, rd_modLink, rd_wr, if_neg ha]
    refine ⟨_, finish_eq (doTrainAlignDone_eq hident hlanes), ?_, ?_, ?_, ?_, ?_, ?_, fun v hv => ?_⟩
    · rw [nextKeepalive, rd_modLink, rd_wr, if_pos rfl]
    · rw [link_nextKeepalive, link_wr, hlink, freshLink]
    · rw [link_nextKeepalive, link_wr, hlink, freshLink]
    · rw [link_nextKeepalive, link_wr, hlink, freshLink]
    · rw [link_nextKeepalive, link_wr, hlink, freshLink]
    · rw [link_nextKeepalive, link_wr, hlink, freshLink]
    · rw [hread _ (by simp), hread _ (by simp)]
      exact creditHeld_creditsFresh hv _
  · have hlink := link_attemptFail p 13 s
    refine ⟨_, finish_eq (if_pos ⟨hatt, hlow, hhigh⟩), ?_, ?_, ?_, ?_⟩
    · rw [rd_attemptFail hquiet rfl, if_neg (by simp), if_pos rfl]
    · rw [rd_attemptFail hquiet rfl, if_pos rfl]
    · rw [hlink]
    · rw [hlink]

end Sys2Proof.Machine

/-! # Resets and the power-up steps (O52) -/

namespace Sys2Proof.Machine

/-! ## The elements a reset keeps -/

/-- A map restricted to the keys that satisfy a test. -/
theorem Store.get_filter {κ α : Type} [DecidableEq κ] (dflt : κ → α) (m : List (κ × α)) (p : κ → Bool) (k : κ) :
    Store.get dflt (m.filter (fun e => p e.1)) k = if p k then Store.get dflt m k else dflt k := by
  induction m with
  | nil => simp [Store.get]
  | cons e m ih =>
    obtain ⟨j, v⟩ := e
    by_cases hj : p j
    · rw [List.filter_cons_of_pos (p := fun e : κ × α => p e.1) hj, Store.get, Store.get, ih]
      by_cases hjk : j = k
      · subst hjk; simp [hj]
      · simp [hjk]
    · rw [List.filter_cons_of_neg (p := fun e : κ × α => p e.1) hj, Store.get, ih]
      by_cases hjk : j = k
      · subst hjk; simp [hj]
      · simp [hjk]

/-- No row of these elements is one of the configuration set: what a reset keeps of the registers besides the flash's
elements, its cause, and the temperature states. -/
def keptOutsideSet : Bool :=
  objects.all fun o => o.rows.all fun r => !decide (r.kind = .configSet) ||
    (List.range' r.lo (r.hi + 1 - r.lo)).all fun el =>
      (!solidElement ⟨o.index, 0, el⟩ || flashElement ⟨o.index, 0, el⟩) &&
        !decide (o.index = 0x1200 ∧ el = 9) && !decide (o.index = 0x1202 ∧ el = 2)

theorem keptOutsideSet_true : keptOutsideSet = true := by decide

theorem solidElement_inst (o i j el : Nat) : solidElement ⟨o, i, el⟩ = solidElement ⟨o, j, el⟩ := (rfl)

theorem flashElement_inst (o i j el : Nat) : flashElement ⟨o, i, el⟩ = flashElement ⟨o, j, el⟩ := (rfl)

/-- An element of the set is kept over a reset only where it is one of the flash's. -/
theorem not_solid_of_inSet {a : Addr} (hset : inSet a = true) (hflash : flashElement a = false) :
    solidElement a = false ∧ (a.obj = 0x1200 → a.el ≠ 9) ∧ (a.obj = 0x1202 → a.el ≠ 2) := by
  obtain ⟨obj, i, el⟩ := a
  unfold inSet rowOf at hset
  split at hset
  · exact absurd hset Bool.false_ne_true
  next r hr =>
  split at hr
  · simp at hr
  next o ho =>
  obtain ⟨-, hrow⟩ := Option.ite_none_right_eq_some.mp hr
  have hindex : o.index = obj := by simpa using List.find?_some ho
  have hbounds : r.lo ≤ el ∧ el ≤ r.hi := by simpa using List.find?_some hrow
  have hcheck := keptOutsideSet_true
  simp only [keptOutsideSet, List.all_eq_true] at hcheck
  have hrule := hcheck o (List.mem_of_find?_eq_some ho) r (List.mem_of_find?_eq_some hrow)
  rw [hset] at hrule
  simp only [Bool.not_true, Bool.false_or, List.all_eq_true, hindex] at hrule
  have hel := hrule el (List.mem_range'_1.mpr ⟨hbounds.1, by omega⟩)
  rw [solidElement_inst obj 0 i, flashElement_inst obj 0 i, hflash] at hel
  simp only [Bool.or_false, Bool.and_eq_true, Bool.not_eq_true', decide_eq_false_iff_not] at hel
  exact ⟨hel.1.1, fun h1 h2 => hel.1.2 ⟨h1, h2⟩, fun h1 h2 => hel.2 ⟨h1, h2⟩⟩

/-! ## A reset of the solid -/

/-- What a reset keeps, before the cause and the temperature states are written. -/
def keptOverReset (s : State) : State :=
  { State.reset with
    pending := s.pending, outputs := s.outputs, flash := s.flash, nextFrame := s.nextFrame,
    regs := s.regs.filter (fun e => solidElement e.1),
    book := bookAfterReset s.book,
    groom := { s.groom with up := false, verified := false, kept := [] },
    power := powerAfterReset s (anyWarm s),
    pins := s.pins,
    raised := s.raised.filter (fun r => decide (8 ≤ r.source)) }

theorem rd_keptOverReset (s : State) (a : Addr) :
    rd (keptOverReset s) a = if solidElement a then rd s a else regDefault a :=
  Store.get_filter regDefault s.regs solidElement a

/-- What a reset writes into RESET_CAUSE. -/
def resetCause (cause : Nat) (s : State) : Nat := if s.power.tripped.isSome then 5 else cause

/-- A reset changes registers only beside what it keeps. -/
theorem regsOnly_solidReset (cause : Nat) (s : State) : RegsOnly (keptOverReset s) (solidReset cause s) :=
  (RegsOnly.wr _ Reg.POWER_RESET_CAUSE (resetCause cause s)).trans
    (RegsOnly.foldl (fun _ _ => .wr ..) _ _)

theorem rd_solidReset (cause : Nat) (s : State) {a : Addr} (h : a.obj = 0x1202 → a.el ≠ 2) :
    rd (solidReset cause s) a = if a = Reg.POWER_RESET_CAUSE then resetCause cause s
      else if solidElement a then rd s a else regDefault a := by
  have hkeep : rd (solidReset cause s) a = rd (wr (keptOverReset s) Reg.POWER_RESET_CAUSE (resetCause cause s)) a := by
    refine rd_foldl_of_keep (fun s i _ => ?_) _
    rw [rd_wr, if_neg]
    rintro rfl
    exact h rfl rfl
  rw [hkeep, rd_wr, rd_keptOverReset]

theorem islandState_islandsOff {i : Nat} (hi : i < 64) (s : State) : rd (islandsOff s) (Reg.ISLAND_STATE i) = 3 :=
  rd_foldl_range hi (fun s => by rw [rd_wr, if_pos rfl])
    (fun s j hj => by rw [rd_wr, if_neg (by simpa using hj.symm)]) s

theorem rd_islandsOff (s : State) {a : Addr} (h : a.obj ≠ 0x0101) : rd (islandsOff s) a = rd s a :=
  rd_foldl_of_keep (fun s j _ => by
    rw [rd_wr, if_neg]
    rintro rfl
    exact h rfl) s

theorem regsOnly_islandsOff (s : State) : RegsOnly s (islandsOff s) :=
  RegsOnly.foldl (fun _ _ => .wr ..) _ s

/-- R583: what every reset of the solid leaves. -/
theorem solidReset_spec (cause : Nat) (s : State) :
    rd (solidReset cause s) Reg.POWER_READY = 0 ∧
      rd (solidReset cause s) Reg.POWER_RESET_CAUSE = resetCause cause s := by
  constructor
  · rw [rd_solidReset _ _ (by simp), if_neg (by simp), if_neg (by simp [solidElement, flashElement])]
    rfl
  · rw [rd_solidReset _ _ (by simp), if_pos rfl]

/-! ## The rails -/

/-- One island at its first voltage. -/
def powerIsland (s : State) (i : Nat) : State :=
  let v := if i % 8 < 2 then rd s Reg.POWER_SWITCH_VCORE else 700
  wr (wr s (Reg.ISLAND_VCORE i) (max v (rd s (Reg.ISLAND_VFLOOR i)))) (Reg.ISLAND_STATE i) 0

theorem rd_powerIsland (s : State) (i : Nat) (a : Addr) :
    rd (powerIsland s i) a = if a = Reg.ISLAND_STATE i then 0
      else if a = Reg.ISLAND_VCORE i then
        max (if i % 8 < 2 then rd s Reg.POWER_SWITCH_VCORE else 700) (rd s (Reg.ISLAND_VFLOOR i))
      else rd s a := by
  simp only [powerIsland, rd_wr]

theorem rd_powerIslands (n : Nat) (s : State) (a : Addr) (hs : ∀ i, a ≠ Reg.ISLAND_STATE i)
    (hv : ∀ i, a ≠ Reg.ISLAND_VCORE i) : rd ((List.range n).foldl powerIsland s) a = rd s a :=
  rd_foldl_of_keep (fun s i _ => by rw [rd_powerIsland, if_neg (hs i), if_neg (hv i)]) s

theorem powerIslands_spec {n i : Nat} (hi : i < n) (s : State) :
    rd ((List.range n).foldl powerIsland s) (Reg.ISLAND_STATE i) = 0 ∧
      rd ((List.range n).foldl powerIsland s) (Reg.ISLAND_VCORE i) =
        max (if i % 8 < 2 then rd s Reg.POWER_SWITCH_VCORE else 700) (rd s (Reg.ISLAND_VFLOOR i)) := by
  induction n with
  | zero => omega
  | succ n ih =>
    rw [List.range_succ, List.foldl_append, List.foldl_cons, List.foldl_nil, rd_powerIsland, rd_powerIsland]
    by_cases hin : i = n
    · subst hin
      rw [if_pos rfl, if_neg (by simp), if_pos rfl, rd_powerIslands _ _ _ (by simp) (by simp),
        rd_powerIslands _ _ _ (by simp) (by simp)]
      exact ⟨rfl, rfl⟩
    · simpa [hin] using ih (by omega)

/-! ## The obligation -/

theorem powerAfterReset_tripped {s : State} (h : tripHolds s = false) :
    (powerAfterReset s (anyWarm s)).tripped = none := by
  unfold tripHolds at h
  cases hwarm : anyWarm s
  · rfl
  · rw [hwarm, Bool.and_true] at h
    simpa [powerAfterReset] using h

theorem doBootReady_eq {s : State} (hphase : s.power.phase = 4) (htrip : s.power.tripped = none)
    (hsaved : s.groom.saved = none) : doBootReady s =
      raise (wr (wr (modPower s (fun p => { p with phase := 5 })) Reg.POWER_READY 1) Reg.EPOCH_STATE
        EpochState.STARTING) Code.SOLID_RESET 0xFF
        [(8, rd s Reg.POWER_RESET_CAUSE), (8, boolBit s.power.loaded)] := by
  have hload (p : Power → Power) : loadBootset (modPower s p) = modPower s p := by
    unfold loadBootset
    rw [modPower_groom, hsaved]
  unfold doBootReady
  rw [if_neg (by simp [hphase, htrip]), hload]
  simp [rd_wr]

/-- Settles O52: by what a reset keeps, and the branch of each step of the power-up. -/
theorem resetsAndPowerUp : Obligations.ResetsAndPowerUp := by
  unfold Obligations.ResetsAndPowerUp
  refine ⟨fun s hn hup => ?_, fun s hup htrip => ?_, fun s htrip => ?_, fun s hp hup => ?_, fun s => ?_,
    fun straps s => ?_, fun s hup hphase htrip => ?_, fun s hphase htrip => ?_, fun s hphase htrip => ?_,
    fun s hphase htrip => ?_, fun s hphase htrip hsaved => ?_⟩
  · set u := modPower s (fun p => { p with resetN := false }) with hu
    obtain ⟨hready, hcause⟩ := solidReset_spec 1 u
    obtain ⟨regs, heq⟩ := regsOnly_solidReset 1 u
    refine ⟨solidReset 1 u, next_eq ((if_neg (by simp [hn])).trans (if_pos hup)), ?_, ?_, ?_, hready, hcause, ?_, ?_,
      ?_, ?_, fun a hset hflash => ?_⟩
    · rw [heq]; rfl
    · rw [heq]; rfl
    · rw [heq]; rfl
    · rw [heq]; rfl
    · rw [heq]; rfl
    · rw [heq]; rfl
    · rw [heq]; rfl
    · obtain ⟨hsolid, hcauseEl, hstateEl⟩ := not_solid_of_inSet hset hflash
      rw [rd_solidReset _ _ hstateEl, if_neg (by rintro rfl; exact hcauseEl rfl rfl), hsolid]
      exact if_neg Bool.false_ne_true
  · obtain ⟨hready, hcause⟩ := solidReset_spec 2 s
    obtain ⟨regs, heq⟩ := regsOnly_solidReset 2 s
    refine ⟨solidReset 2 s, next_eq (if_neg (by simp [hup, htrip])), ?_, ?_, ?_, hready, hcause, ?_, ?_⟩
    · rw [heq]; rfl
    · rw [heq]; rfl
    · rw [heq]
      exact powerAfterReset_tripped htrip
    · rw [heq]; rfl
    · rw [heq]; rfl
  · exact next_eq (if_pos (.inr htrip))
  · set u := supplyFault (modPower s (fun p => { p with pwrgd := false })) with hu
    obtain ⟨hready, hcause⟩ := solidReset_spec 3 u
    obtain ⟨regs, heq⟩ := (regsOnly_solidReset 3 u).trans (regsOnly_islandsOff _)
    refine ⟨islandsOff (solidReset 3 u), next_eq ((if_neg (by simp [hp])).trans (if_pos hup)), ?_, ?_, ?_, ?_,
      fun i hi => islandState_islandsOff hi _, ?_, ?_⟩
    · rw [heq]; rfl
    · rw [heq]; rfl
    · rw [heq]; rfl
    · rw [rd_islandsOff _ (by simp), hready]
    · rw [heq]; rfl
    · rw [rd_islandsOff _ (by simp), hcause]
      rfl
  · set u := if s.power.vauxBad then s else supplyFault s with hu
    have hflash : u.flash = s.flash := by
      rw [hu]
      split <;> rfl
    obtain ⟨hready, -⟩ := solidReset_spec 4 u
    obtain ⟨regs, heq⟩ := (regsOnly_solidReset 4 u).trans (regsOnly_islandsOff _)
    refine ⟨islandsOff (solidReset 4 u), rfl, ?_, ?_, ?_, fun i hi => islandState_islandsOff hi _, ?_⟩
    · rw [heq]; rfl
    · rw [heq]; rfl
    · rw [rd_islandsOff _ (by simp), hready]
    · rw [heq]
      exact hflash
  · have hread (a : Addr) : rd (doVauxApplied straps.toNat s) a = if flashElement a then rd s a else regDefault a :=
      Store.get_filter regDefault s.regs flashElement a
    refine ⟨_, rfl, rfl, rfl, rfl, rfl, rfl, rfl, fun a ha => ?_, fun a ha => ?_⟩
    · rw [hread, ha]
      exact if_neg Bool.false_ne_true
    · rw [hread, if_pos ha]
  · exact next_eq (if_neg (by simp [hup, hphase, htrip]))
  · set u := modPower s (fun p => { p with phase := 2 }) with hu
    obtain ⟨regs, heq⟩ :=
      RegsOnly.foldl (f := powerIsland) (fun _ _ => (RegsOnly.wr ..).trans (.wr ..)) (List.range 64) u
    refine ⟨(List.range 64).foldl powerIsland u, next_eq (if_neg (by simp [hphase, htrip])), ?_,
      fun i hi => powerIslands_spec hi u⟩
    rw [heq]
    rfl
  · exact finish_eq (if_neg (by simp [hphase, htrip]))
  · exact finish_eq (if_neg (by simp [hphase, htrip]))
  · refine ⟨_, finish_eq (doBootReady_eq hphase htrip hsaved), rfl, ?_, ?_, fun a hr he => ?_, rfl⟩
    · rw [rd_raise, rd_wr, if_neg (by simp), rd_wr, if_pos rfl]
    · rw [rd_raise, rd_wr, if_pos rfl]
    · rw [rd_raise, rd_wr, if_neg he, rd_wr, if_neg hr]
      rfl

end Sys2Proof.Machine

/-! # Firmware images, keys and the boot set (O50) -/

namespace Sys2Proof.Machine

/-! ## The groom's own state through a start -/

theorem groom_runImage (slot : Nat) (s : State) : (runImage slot s).groom = s.groom :=
  groom_of_outside (P := fun p => !decide (p = .groom)) (by simp) rfl

theorem groom_revertTo (bad good : Nat) (s : State) : (revertTo bad good s).groom = s.groom :=
  groom_of_outside (P := fun p => decide (p ≠ .groom)) (by simp) rfl

theorem groom_bootRom (s : State) : (bootRom s).groom = { s.groom with activated := false } := by
  unfold bootRom
  dsimp only
  split
  · split <;> rw [groom_revertTo, modGroom_groom]
  · split
    · split <;> rfl
    · rw [groom_revertTo, modGroom_groom]

theorem groom_resumeErases (s : State) : (resumeErases s).groom = { s.groom with suspended := [] } := by
  unfold resumeErases
  refine (proj_foldl_of_keep State.groom (fun s k => ?_) _).trans rfl
  simp [eraseBookSector]

/-- The groom started, before the phase is looked at. -/
def groomBooted (s : State) : State :=
  let cold := s.groom.cold
  let s := modGroom s (fun g => { g with
    up := true, cold := false, verified := false, kept := [], startedAt := now s })
  let s := if cold then raiseKeyFloors s else s
  resumeErases (bootRom (trimRaised (startBook cold s)))

theorem groom_groomBooted (s : State) : (groomBooted s).groom = { s.groom with
    up := true, cold := false, verified := false, kept := [], startedAt := now s, activated := false,
    suspended := [] } := by
  unfold groomBooted
  extract_lets cold u v
  have hv : v.groom = u.groom :=
    groom_of_outside (P := fun p => decide (p ≠ .groom)) (by simp only [v]; split <;> simp) rfl
  have htrim : (trimRaised (startBook cold v)).groom = v.groom :=
    groom_of_outside (P := fun p => decide (p ≠ .groom)) (by simp) rfl
  rw [groom_resumeErases, groom_bootRom, htrim, hv]
  rfl

theorem power_groomBooted (s : State) : (groomBooted s).power = s.power := by
  refine power_of_outside (P := fun p => !decide (p = .power)) ?_ rfl
  unfold groomBooted
  extract_lets cold u v
  have hv : outside (fun p => !decide (p = .power)) v = outside (fun p => !decide (p = .power)) u := by
    simp only [v]
    split <;> simp
  simp [hv, u]

theorem doGroomStart_eq {s : State} (hdown : s.groom.up = false) (hgo : s.groom.halted = false)
    (hin : s.power.phase = 0 ∨ (s.power.resetN = true ∧ s.power.pwrgd = true)) :
    doGroomStart s = groomBooted s := by
  have hpower := power_groomBooted s
  unfold groomBooted at hpower ⊢
  unfold doGroomStart
  rw [if_neg (by simp [hdown, hgo])]
  dsimp only at hpower ⊢
  rw [hpower]
  rcases hin with hphase | ⟨hreset, hpwrgd⟩
  · rw [if_pos hphase]
  · rw [hreset, hpwrgd]
    simp

/-! ## Secrets and the boot set -/

theorem rd_storeSecret (slot value : Nat) (s : State) (a : Addr) : rd (storeSecret slot value s) a =
    if a = Reg.KEY_STATE slot then (if rd s (Reg.KEY_STATE slot) = 3 then 1 else rd s (Reg.KEY_STATE slot))
    else if a = Reg.KEY_CEILING slot then 0 else if a = Reg.KEY_FLOOR slot then 0 else rd s a := by
  unfold storeSecret
  dsimp only
  simp only [rd_wr, rd_modGroom]
  split_ifs <;> simp_all [rd_wr]

theorem storeSecret_groom (slot value : Nat) (s : State) :
    (storeSecret slot value s).groom = { s.groom with secrets := Tab.set s.groom.secrets slot value } := by
  unfold storeSecret
  dsimp only
  split <;> rfl

theorem storeSecret_raised (slot value : Nat) (s : State) : (storeSecret slot value s).raised = s.raised := by
  unfold storeSecret
  dsimp only
  split <;> rfl

/-- The boot set written as of a map of elements and its digest. -/
def saveBootset (m : Regs) (d : Nat) (s : State) : State :=
  let s := modGroom s (fun g => { g with saved := some m })
  let s := wr (wr s Reg.BOOTSET_SAVED_HI (d / 2 ^ 64)) Reg.BOOTSET_SAVED_LO (d % 2 ^ 64)
  wr (wr s Reg.BOOTSET_SAVED_EPOCH (rd s Reg.CONFSET_ACTIVE_EPOCH)) Reg.BOOTSET_STATE 1

theorem saveBootset_spec (m : Regs) (d : Nat) (s : State) :
    rd (saveBootset m d s) Reg.BOOTSET_STATE = 1 ∧
      rd (saveBootset m d s) Reg.BOOTSET_SAVED_EPOCH = rd s Reg.CONFSET_ACTIVE_EPOCH ∧
      rd (saveBootset m d s) Reg.BOOTSET_SAVED_HI = d / 2 ^ 64 ∧
      rd (saveBootset m d s) Reg.BOOTSET_SAVED_LO = d % 2 ^ 64 := by
  simp [saveBootset, rd_wr]

theorem doBootsetSave_eq {s : State} (hup : s.groom.up = true) : doBootsetSave s =
    saveBootset (s.regs.filter (fun e => inDigest e.1)) (setDigest (s.regs.filter (fun e => inDigest e.1))) s :=
  if_neg (by simp [hup])

/-- Settles O50: by the branch each command takes, and what a start and a stored secret leave of the groom. -/
theorem firmwareAndKeys : Obligations.FirmwareAndKeys := by
  unfold Obligations.FirmwareAndKeys
  refine ⟨fun s hup => ?_, fun s hup hver => ?_, fun s hver => ?_, fun s hup hact => ?_, fun s hup htrial => ?_,
    fun s hup => ?_, fun s hup htrial hdue => ?_, fun s hdown hgo hin => ?_, fun k key v n s hup hkey hrole => ?_,
    fun s hup => ?_, fun s hup => ?_⟩
  · refine ⟨_, next_eq (if_neg (by simp [hup])), ?_, ?_, fun a ha => ?_⟩
    · rw [rd_raise, rd_modGroom, rd_wr, if_pos rfl]
    · rw [raise_groom, modGroom_groom, wr_groom]
    · rw [rd_raise, rd_modGroom, rd_wr, if_neg ha]
  · refine ⟨_, next_eq (if_neg (by simp [hup, hver])), ?_, rfl, fun a ha => ?_⟩
    · rw [rd_modGroom, rd_wr, if_pos rfl]
    · rw [rd_modGroom, rd_wr, if_neg ha]
  · exact next_eq (if_pos (.inr hver))
  · refine ⟨_, next_eq (if_neg (by simp [hup, hact])), rfl, ?_⟩
    rw [rd_modGroom, rd_wr, if_pos rfl]
  · refine ⟨_, next_eq (if_neg (by simp [hup, htrial])), ?_, ?_, fun hact => ?_, ?_⟩
    · rw [rd_raise]
      split <;> simp [rd_wr]
    · rw [rd_raise]
      split <;> simp [rd_wr]
    · rw [rd_raise, if_neg (by simp [hact]), rd_wr, if_pos rfl]
      simp [rd_wr]
    · rw [raise_raised]
      split <;> rfl
  · exact next_eq (if_pos hup)
  · exact next_eq (if_neg (by simp [hup, htrial]; exact hdue))
  · refine ⟨_, next_eq (doGroomStart_eq hdown hgo hin), ?_, ?_, ?_, ?_, ?_, power_groomBooted s⟩
    all_goals rw [groom_groomBooted]
  · refine ⟨_, next_eq (if_neg (by simp [hup, hkey, hrole])), ?_, ?_, ?_, ?_, ?_⟩
    · rw [keyChanged, raise_groom, storeSecret_groom, Tab.find_set, if_pos rfl]
    · rw [keyChanged, rd_raise, rd_storeSecret]
      simp
    · rw [keyChanged, rd_raise, rd_storeSecret]
      simp
    · rw [keyChanged, rd_raise, rd_storeSecret, if_pos rfl]
    · rw [keyChanged, raise_raised, storeSecret_raised]
  · obtain ⟨hstate, hepoch, hhi, hlo⟩ := saveBootset_spec (s.regs.filter (fun e => inDigest e.1))
      (setDigest (s.regs.filter (fun e => inDigest e.1))) s
    refine ⟨_, next_eq (doBootsetSave_eq hup), hstate, hepoch, rfl, ?_⟩
    rw [hhi, hlo]
    exact Nat.div_add_mod' ..
  · refine ⟨_, next_eq (if_neg (by simp [hup])), ?_, ?_, rfl⟩
    · rw [rd_wr, if_pos rfl]
    · rw [rd_wr, if_neg (by simp), rd_wr, if_pos rfl]

end Sys2Proof.Machine

/-! # Records the groom accepts itself -/

namespace Sys2Proof.Machine

section
variable (P : Piece → Bool)

/-! ## The studbook -/

@[simp] theorem aside_setTokens (s : State) (code n : Nat) :
    aside P (setTokens s code n) = aside P s := by
  simp [setTokens]
@[simp] theorem aside_suppress (s : State) (code : Nat) (h1006 : P (.obj 0x1006) = true) :
    aside P (suppress s code) = aside P s := by
  simp [suppress, h1006]
@[simp] theorem aside_writeRecord (s : State) (code src data summary : Nat) (h1001 : P (.obj 0x1001) = true)
    (h1003 : P (.obj 0x1003) = true) (h1006 : P (.obj 0x1006) = true) :
    aside P (writeRecord s code src data summary) = aside P s := by
  simp [writeRecord, h1001, h1003, h1006]
@[simp] theorem aside_acceptRecord (s : State) (r : Raised) (h1001 : P (.obj 0x1001) = true)
    (h1003 : P (.obj 0x1003) = true) (h1006 : P (.obj 0x1006) = true) :
    aside P (acceptRecord s r) = aside P s := by
  simp [acceptRecord, h1001, h1003, h1006]

end

end Sys2Proof.Machine

/-! # Power grants and temperatures (O51) -/

namespace Sys2Proof.Machine

/-! ## A grant period -/

/-- The part of a grant period that measures: the readings, the demands and minima, and the limit judged. -/
def grantsMeasured (demands : List Nat) (inputW lossW : Nat) (s : State) : State :=
  let s := wr (wr s Reg.POWER_INPUT_W inputW) Reg.POWER_LOSS_W lossW
  let s := (List.range 48).foldl (fun s i =>
    let s := wr s (Reg.ARBCLASS_DEMAND_MW i) (demands.getD i 0)
    wr s (Reg.ARBCLASS_MIN_MW i) (minimumGrant s (fun k => demands.getD k 0) (i / 6) (i % 6))) s
  let above := overLimit s demands
  let was := rd s Reg.POWER_OVER_LIMIT
  let s := wr s Reg.POWER_OVER_LIMIT (boolBit above)
  if above = true ∧ was = 0 then
    raise s Code.POWER_OVER_LIMIT 8 [(16, inputW), (16, rd s Reg.POWER_LIMIT)] else s

/-- The part that closes a grant period. -/
def grantsClosed (s : State) : State :=
  let s := stepForward s
  modPower s (fun p => { p with period := now s })

theorem doGrantPeriod_two {s : State} (hon : powered s = true) {demands a b : List Nat} {more : List (List Nat)}
    {inputW lossW : Nat} (hpipe : (grantsMeasured demands inputW lossW s).power.pipe = a :: b :: more) :
    doGrantPeriod demands inputW lossW s = grantsClosed (takeGrants a
      (warnRings (grantsInForce (grantsMeasured demands inputW lossW s)) a
        (modPower (grantsMeasured demands inputW lossW s) (fun p => { p with
          pipe := [b, computeGrants (grantsMeasured demands inputW lossW s) demands lossW] })))) := by
  unfold doGrantPeriod
  rw [if_neg (by simp [hon])]
  unfold grantsMeasured at hpipe ⊢
  dsimp only at hpipe ⊢
  rw [hpipe]
  rfl

theorem doGrantPeriod_few {s : State} (hon : powered s = true) {demands : List Nat} {inputW lossW : Nat}
    (hpipe : (grantsMeasured demands inputW lossW s).power.pipe.length < 2) :
    doGrantPeriod demands inputW lossW s = grantsClosed
      (modPower (grantsMeasured demands inputW lossW s) (fun p => { p with
        pipe := (grantsMeasured demands inputW lossW s).power.pipe ++
          [computeGrants (grantsMeasured demands inputW lossW s) demands lossW] })) := by
  unfold doGrantPeriod
  rw [if_neg (by simp [hon])]
  unfold grantsMeasured at hpipe ⊢
  dsimp only at hpipe ⊢
  split
  · next a b more h =>
    rw [h] at hpipe
    simp only [List.length_cons] at hpipe
    omega
  · rfl

theorem outside_grantsMeasured (P : Part → Bool) (demands : List Nat) (inputW lossW : Nat) (s : State) :
    outside P (grantsMeasured demands inputW lossW s) = outside P s := by
  simp [grantsMeasured]

theorem rd_grantsMeasured (demands : List Nat) (inputW lossW : Nat) (s : State) :
    rd (grantsMeasured demands inputW lossW s) Reg.POWER_INPUT_W = inputW ∧
      rd (grantsMeasured demands inputW lossW s) Reg.POWER_LOSS_W = lossW ∧
      (∀ i, i < 48 → rd (grantsMeasured demands inputW lossW s) (Reg.ARBCLASS_DEMAND_MW i) = demands.getD i 0) ∧
      ∀ i, rd (grantsMeasured demands inputW lossW s) (Reg.ARBCLASS_GRANT_MW i) = rd s (Reg.ARBCLASS_GRANT_MW i) := by
  set u := (List.range 48).foldl (fun s i =>
    let s := wr s (Reg.ARBCLASS_DEMAND_MW i) (demands.getD i 0)
    wr s (Reg.ARBCLASS_MIN_MW i) (minimumGrant s (fun k => demands.getD k 0) (i / 6) (i % 6)))
    (wr (wr s Reg.POWER_INPUT_W inputW) Reg.POWER_LOSS_W lossW) with hu
  have hlimit (a : Addr) (ha : a ≠ Reg.POWER_OVER_LIMIT) : rd (grantsMeasured demands inputW lossW s) a = rd u a := by
    unfold grantsMeasured
    dsimp only
    rw [← hu]
    split <;> simp [rd_wr, ha]
  have hclass (a : Addr) (ha : ∀ i, a ≠ Reg.ARBCLASS_DEMAND_MW i) (hm : ∀ i, a ≠ Reg.ARBCLASS_MIN_MW i) :
      rd u a = rd (wr (wr s Reg.POWER_INPUT_W inputW) Reg.POWER_LOSS_W lossW) a :=
    rd_foldl_of_keep (fun s i _ => by rw [rd_wr, if_neg (hm i), rd_wr, if_neg (ha i)]) _
  refine ⟨?_, ?_, fun i hi => ?_, fun i => ?_⟩
  · rw [hlimit _ (by simp), hclass _ (by simp) (by simp), rd_wr, if_neg (by simp), rd_wr, if_pos rfl]
  · rw [hlimit _ (by simp), hclass _ (by simp) (by simp), rd_wr, if_pos rfl]
  · rw [hlimit _ (by simp)]
    exact rd_foldl_range hi (fun s => by rw [rd_wr, if_neg (by simp), rd_wr, if_pos rfl])
      (fun s j hj => by rw [rd_wr, if_neg (by simp), rd_wr, if_neg (by simpa using hj.symm)]) _
  · rw [hlimit _ (by simp), hclass _ (by simp) (by simp), rd_wr, if_neg (by simp), rd_wr, if_neg (by simp)]

theorem rd_warnRings (old new : List Nat) (s : State) (a : Addr) : rd (warnRings old new s) a = rd s a := by
  unfold warnRings
  split
  · rfl
  · refine rd_foldl_of_keep (fun s f _ => ?_) s
    dsimp only
    split
    · rfl
    · exact rd_foldl_of_keep (fun s k _ => rd_modLight ..) s

theorem rd_forwardHeaters (i : Nat) (x y : Int) (s : State) {a : Addr} (ha : a.obj ≠ 0x0203) :
    rd (forwardHeaters i x y s) a = rd s a := by
  unfold forwardHeaters
  dsimp only
  rw [rd_modLight]
  refine rd_foldl_of_keep (fun s r _ => ?_) s
  rw [rd_wr, if_neg]
  rintro rfl
  exact ha rfl

theorem rd_stepForward (s : State) {a : Addr} (ha : a.obj ≠ 0x0203) : rd (stepForward s) a = rd s a := by
  refine rd_foldl_of_keep (fun s e _ => ?_) s
  dsimp only
  split
  · rfl
  · rw [rd_forwardHeaters _ _ _ _ ha, rd_modLight]

theorem rd_grantsClosed (s : State) {a : Addr} (ha : a.obj ≠ 0x0203) : rd (grantsClosed s) a = rd s a := by
  unfold grantsClosed
  dsimp only
  rw [rd_modPower, rd_stepForward _ ha]

theorem power_grantsClosed (s : State) : (grantsClosed s).power = { s.power with period := now s } := by
  have hout : outside (fun _ => false) (stepForward s) = outside (fun _ => false) s := outside_stepForward ..
  unfold grantsClosed
  dsimp only
  rw [modPower_power, power_of_outside hout rfl, now_of_time (time_of_outside hout rfl)]

/-- A grant put into force writes the voltages of its islands and its class's duty. -/
theorem rd_applyGrant (f c grant : Nat) (s : State) {a : Addr} (hv : a.obj ≠ 0x0101)
    (hd : ∀ i, a ≠ Reg.ARBCLASS_DUTY i) : rd (applyGrant f c grant s) a = rd s a := by
  unfold applyGrant
  dsimp only
  rw [rd_wr, if_neg (hd _)]
  refine rd_foldl_of_keep (fun s i _ => ?_) s
  rw [rd_wr, if_neg]
  rintro rfl
  exact hv rfl

theorem rd_takeGrants (grants : List Nat) (s : State) {a : Addr} (hv : a.obj ≠ 0x0101) (hvet : a.obj ≠ 0x1001)
    (hd : ∀ i, a ≠ Reg.ARBCLASS_DUTY i) : rd (takeGrants grants s) a =
      rd ((List.range 48).foldl (fun s i => wr s (Reg.ARBCLASS_GRANT_MW i) (grants.getD i 0)) s) a := by
  refine rd_foldl_of_keep (fun s f _ => ?_) _
  dsimp only
  have happly : rd (applyGrant f 3 (grants.getD (6 * f + 3) 0) (applyGrant f 2 (grants.getD (6 * f + 2) 0) s)) a =
      rd s a := by
    rw [rd_applyGrant _ _ _ _ hv hd, rd_applyGrant _ _ _ _ hv hd]
  split
  · exact (rd_of_besides (kept := [.obj a.obj]) (aside_abortFacet _ _ _ _ (by simp [hvet.symm]) (by simp))
      (by simp)).trans happly
  · exact happly

theorem grant_takeGrants (grants : List Nat) (s : State) {i : Nat} (hi : i < 48) :
    rd (takeGrants grants s) (Reg.ARBCLASS_GRANT_MW i) = grants.getD i 0 := by
  rw [rd_takeGrants _ _ (by simp) (by simp) (by simp)]
  exact rd_foldl_range hi (fun s => by rw [rd_wr, if_pos rfl])
    (fun s j hj => by rw [rd_wr, if_neg (by simpa using hj.symm)]) s

theorem rd_takeGrants_other (grants : List Nat) (s : State) {a : Addr} (hv : a.obj ≠ 0x0101) (hvet : a.obj ≠ 0x1001)
    (hd : ∀ i, a ≠ Reg.ARBCLASS_DUTY i) (hg : ∀ i, a ≠ Reg.ARBCLASS_GRANT_MW i) :
    rd (takeGrants grants s) a = rd s a :=
  (rd_takeGrants _ _ hv hvet hd).trans (rd_foldl_of_keep (fun s i _ => by rw [rd_wr, if_neg (hg i)]) s)

end Sys2Proof.Machine

/-! # Temperatures, trips and supplies (O51) -/

namespace Sys2Proof.Machine

/-! ## A sample below its trip -/

theorem ofRaw_toRaw_16 {x : Int} (hlow : -2 ^ 15 ≤ x) (hhigh : x < 2 ^ 15) : ofRaw 16 (toRaw 16 x) = x := by
  unfold ofRaw toRaw
  norm_num at hlow hhigh ⊢
  split <;> omega

theorem ofRaw_16_bounds {n : Nat} (h : n < 2 ^ 16) : -2 ^ 15 ≤ ofRaw 16 n ∧ ofRaw 16 n < 2 ^ 15 := by
  unfold ofRaw
  norm_num at h ⊢
  split <;> omega

theorem foldl_max_bounds (g : Nat → Int) (lo hi : Int) (n : Nat) (x : Int) (hx : lo ≤ x ∧ x < hi)
    (hg : ∀ k, k < n → lo ≤ g k ∧ g k < hi) :
    lo ≤ (List.range n).foldl (fun m k => max m (g k)) x ∧ (List.range n).foldl (fun m k => max m (g k)) x < hi := by
  induction n with
  | zero => exact hx
  | succ n ih =>
    rw [List.range_succ, List.foldl_append, List.foldl_cons, List.foldl_nil]
    obtain ⟨hlow, hhigh⟩ := ih fun k hk => hg k (by omega)
    obtain ⟨hglow, hghigh⟩ := hg n (by omega)
    exact ⟨le_max_of_le_left hlow, max_lt hhigh hghigh⟩

/-- Temperatures within sixteen bits give a sensor's temperature within sixteen bits. -/
theorem instanceTemp_bounds {s : State} (hraw : ∀ i, i < 64 → rd s (Reg.ISLAND_TJ i) < 2 ^ 16) {n v : Nat}
    (hv : v < 2 ^ 16) : -2 ^ 15 ≤ instanceTemp s n v ∧ instanceTemp s n v < 2 ^ 15 := by
  unfold instanceTemp
  split
  · next hn =>
    exact foldl_max_bounds _ _ _ _ _ (ofRaw_16_bounds (hraw _ (by omega)))
      fun k hk => ofRaw_16_bounds (hraw _ (by omega))
  · exact ofRaw_16_bounds hv

theorem rd_storeSample (n v : Nat) (s : State) (i : Nat) : rd (storeSample n v s) (Reg.ISLAND_TJ i) =
    if n < 64 ∧ i = n then v else rd s (Reg.ISLAND_TJ i) := by
  unfold storeSample
  split
  · next hn => simp [rd_wr, hn]
  · next hn =>
    rw [if_neg (c := n < 64 ∧ i = n) (by tauto)]
    split
    · simp [rd_wr]
    · rfl

theorem power_storeSample (n v : Nat) (s : State) : (storeSample n v s).power = s.power := by
  unfold storeSample
  split
  · rfl
  · split <;> rfl

theorem thermRecords_power (inst old new : Nat) (t : Int) (s : State) :
    (thermRecords inst old new t s).power = s.power :=
  proj_foldl_of_keep State.power (fun s x => by split <;> rfl) s

theorem rd_thermRecords (inst old new : Nat) (t : Int) (s : State) (a : Addr) :
    rd (thermRecords inst old new t s) a = rd s a :=
  rd_foldl_of_keep (fun s x _ => by split <;> simp) s

theorem judgeTemp_spec (inst : Nat) (t : Int) (s : State) :
    thermFlags (judgeTemp inst t s) inst = flagsAfter inst (thermFlags s inst) t ∧
      (judgeTemp inst t s).power.tripped = s.power.tripped ∧
      rd (judgeTemp inst t s) (Reg.THERMAL_TEMP inst) = toRaw 16 t ∧
      ∀ a : Addr, a.obj ≠ 0x1202 → rd (judgeTemp inst t s) a = rd s a := by
  unfold judgeTemp
  extract_lets old new s1 s2 s3 s4 s5
  have hpower2 : s2.power = s.power := by
    simp only [s2, s1]
    split <;> rfl
  have hflags4 : thermFlags s4 inst = new ∧ s4.power.tripped = s.power.tripped := by
    simp only [s4, s3]
    split <;> simp [thermFlags, hpower2]
  have hpower5 : s5.power = s4.power := by
    simp only [s5]
    split <;> rfl
  have hread2 (a : Addr) (ha : a ≠ Reg.THERMAL_PEAK inst) : rd s2 a = rd s1 a := by
    simp only [s2]
    split
    · rw [rd_wrI, if_neg ha]
    · rfl
  have hread4 (a : Addr) : rd s4 a = rd s2 a := by
    simp only [s4, s3]
    split <;> simp
  have hread5 (a : Addr) (ha : a ≠ Reg.THERMAL_STATE inst) : rd s5 a = rd s4 a := by
    simp only [s5]
    split
    · rfl
    · rw [rd_wr, if_neg ha]
  refine ⟨?_, ?_, ?_, fun a ha => ?_⟩
  · rw [thermFlags, thermRecords_power, hpower5]
    exact hflags4.1
  · rw [thermRecords_power, hpower5, hflags4.2]
  · rw [rd_thermRecords, hread5 _ (by simp), hread4, hread2 _ (by simp), rd_wrI, if_pos rfl]
  · have hne (el : Nat) : a ≠ ⟨0x1202, inst, el⟩ := fun h => ha (by rw [h])
    rw [rd_thermRecords, hread5 _ (hne _), hread4, hread2 _ (hne _), rd_wrI, if_neg (hne _)]

/-! ## Trips -/

/-- The elements as a trip leaves them, before the tables are emptied. -/
def darkRegs (s : State) : State :=
  let s := wr s Reg.POWER_READY 0
  let s := (List.range 64).foldl (fun s i => wr (wr s (Reg.ISLAND_STATE i) 3) (Reg.ISLAND_VCORE i) 0) s
  let s := (List.range 320).foldl (fun s e => wr s (Reg.HENGINE_STATE e) 4) s
  let s := (List.range 8).foldl (fun s f => wr s (Reg.YOKE_STATE f) 4) s
  (List.range 16).foldl (fun s n => wr s (Reg.CLS_EN_STATE n) 0) s

theorem regsOnly_darkRegs (s : State) : RegsOnly s (darkRegs s) := by
  unfold darkRegs
  exact (RegsOnly.wr ..).trans ((RegsOnly.foldl (fun _ _ => (RegsOnly.wr ..).trans (.wr ..)) _ _).trans
    ((RegsOnly.foldl (fun _ _ => .wr ..) _ _).trans ((RegsOnly.foldl (fun _ _ => .wr ..) _ _).trans
      (RegsOnly.foldl (fun _ _ => .wr ..) _ _))))

theorem rd_darkRegs_sources (s : State) {a : Addr} (hengine : a.obj ≠ 0x0C00) (hyoke : a.obj ≠ 0x0C01)
    (hcls : a.obj ≠ 0x0204) : rd (darkRegs s) a =
      rd ((List.range 64).foldl (fun s i => wr (wr s (Reg.ISLAND_STATE i) 3) (Reg.ISLAND_VCORE i) 0)
        (wr s Reg.POWER_READY 0)) a := by
  have hne {o i el : Nat} (h : a.obj ≠ o) : a ≠ ⟨o, i, el⟩ := fun he => h (by rw [he])
  unfold darkRegs
  dsimp only
  rw [rd_foldl_of_keep fun s n _ => by rw [rd_wr, if_neg (hne hcls)],
    rd_foldl_of_keep fun s n _ => by rw [rd_wr, if_neg (hne hyoke)],
    rd_foldl_of_keep fun s n _ => by rw [rd_wr, if_neg (hne hengine)]]

theorem rd_darken (s : State) (a : Addr) :
    rd (darken s) a = if darkElement a then regDefault a else rd (darkRegs s) a := by
  have h := Store.get_filter regDefault (darkRegs s).regs (fun a => !darkElement a) a
  have hdark : (darken s).regs = (darkRegs s).regs.filter (fun e => !darkElement e.1) := by
    simp only [darken, darkRegs, clearElements]
  rw [rd, Regs.get, hdark, h]
  cases darkElement a <;> rfl

theorem darken_kept (s : State) : (darken s).power = s.power ∧ (darken s).groom = s.groom ∧ (darken s).frames = [] := by
  have hout : outside (fun _ => false) (darken s) = outside (fun _ => false) s := outside_darken ..
  refine ⟨power_of_outside hout rfl, groom_of_outside hout rfl, ?_⟩
  unfold darken
  rfl

theorem darken_spec (s : State) : rd (darken s) Reg.POWER_READY = 0 ∧
    (∀ i, i < 64 → rd (darken s) (Reg.ISLAND_STATE i) = 3 ∧ rd (darken s) (Reg.ISLAND_VCORE i) = 0) ∧
    (∀ p, rd (darken s) (Reg.PORT_STATE p) = 0) ∧
    ∀ i, rd (darken s) (Reg.THERMAL_STATE i) = rd s (Reg.THERMAL_STATE i) := by
  have hread (a : Addr) (hdark : darkElement a = false) : rd (darken s) a = rd (darkRegs s) a := by
    rw [rd_darken, hdark]
    exact if_neg Bool.false_ne_true
  refine ⟨?_, fun i hi => ⟨?_, ?_⟩, fun p => ?_, fun i => ?_⟩
  · rw [hread _ rfl, rd_darkRegs_sources _ (by simp) (by simp) (by simp), rd_foldl_of_keep fun s i _ => by simp [rd_wr],
      rd_wr, if_pos rfl]
  · rw [hread _ rfl, rd_darkRegs_sources _ (by simp) (by simp) (by simp)]
    refine rd_foldl_range hi (fun s => ?_) (fun s j hj => ?_) _
    · simp [rd_wr]
    · simp [rd_wr, hj.symm]
  · rw [hread _ rfl, rd_darkRegs_sources _ (by simp) (by simp) (by simp)]
    refine rd_foldl_range hi (fun s => ?_) (fun s j hj => ?_) _
    · simp
    · simp [rd_wr, hj.symm]
  · rw [rd_darken]
    exact if_pos rfl
  · rw [hread _ rfl, rd_darkRegs_sources _ (by simp) (by simp) (by simp), rd_foldl_of_keep fun s i _ => by simp [rd_wr],
      rd_wr, if_neg (by simp)]

/-! ## The groom's trip -/

/-- R573: a trip of the groom's own sensor. -/
theorem groomTrip_spec (s : State) : (groomTrip s).groom.up = false ∧ (groomTrip s).groom.halted = true ∧
    rd (groomTrip s) (Reg.THERMAL_STATE 32) = 4 ∧ (groomTrip s).requests = [] ∧ (groomTrip s).power = s.power ∧
    (groomTrip s).frames = s.frames := by
  unfold groomTrip
  extract_lets u v w
  have hv : v.power = s.power ∧ v.frames = s.frames := by
    simp only [v]
    split
    · refine ⟨(power_of_outside (s := u) (P := fun p => !decide (p = .power)) (by simp) rfl).trans rfl,
        (frames_of_aside (s := u) (P := besides [.frames]) (by simp) (by simp)).trans rfl⟩
    · exact ⟨rfl, rfl⟩
  have hpower : w.power = v.power := rfl
  have hframes : w.frames = v.frames := rfl
  have hdown : w.groom.up = false := rfl
  have hnone : w.requests = [] := rfl
  simp only [modGroom_groom, modGroom_power, modGroom_frames, modGroom_requests, wr_groom, wr_power, wr_frames,
    wr_requests, rd_modGroom, rd_wr, if_true, hpower, hframes, hdown, hnone, hv, and_self]

end Sys2Proof.Machine

/-! # The obligation of power and temperatures (O51) -/

namespace Sys2Proof.Machine

/-- A trip of the solid: what `darken` leaves, with the record. -/
theorem tripSolid_spec {s : State} (hfirst : s.power.tripped = none) (inst temp : Nat) :
    (tripSolid inst temp s).power.tripped = some inst ∧ rd (tripSolid inst temp s) Reg.POWER_READY = 0 ∧
      rd (tripSolid inst temp s) (Reg.THERMAL_STATE inst) = 4 ∧
      (∀ i, i < 64 → rd (tripSolid inst temp s) (Reg.ISLAND_STATE i) = 3 ∧
        rd (tripSolid inst temp s) (Reg.ISLAND_VCORE i) = 0) ∧
      (∀ p, rd (tripSolid inst temp s) (Reg.PORT_STATE p) = 0) ∧ (tripSolid inst temp s).frames = [] ∧
      (tripSolid inst temp s).groom = s.groom ∧
      ⟨Code.THERMTRIP, 8, recordData [(24, inst), (16, temp)]⟩ ∈ (tripSolid inst temp s).raised := by
  unfold tripSolid
  rw [if_neg (by simp [hfirst])]
  extract_lets u v
  set w := modPower u (fun p => { p with tripped := some inst, pipe := [] }) with hw
  obtain ⟨hready, hislands, hports, htherm⟩ := darken_spec w
  obtain ⟨hpower, hgroom, hframes⟩ := darken_kept w
  have hout : outside (fun _ => false) v = outside (fun _ => false) (darken w) := outside_unitRefresh ..
  have hread (a : Addr) : rd (raise v Code.THERMTRIP 8 [(24, inst), (16, temp)]) a = rd (darken w) a := by
    rw [rd_raise, rd_unitRefresh]
  refine ⟨?_, ?_, ?_, fun i hi => ?_, fun p => ?_, ?_, ?_, ?_⟩
  · rw [raise_power, power_of_outside hout rfl, hpower, hw, modPower_power]
  · rw [hread, hready]
  · rw [hread, htherm, hw, rd_modPower, rd_inc, if_neg (by simp), rd_wr, if_pos rfl]
  · rw [hread, hread]
    exact hislands i hi
  · rw [hread, hports]
  · rw [raise_frames, frames_of_aside (P := besides [.frames]) (aside_unitRefresh _ _ _ (by simp)) (by simp), hframes]
  · rw [raise_groom, groom_of_outside hout rfl, hgroom]
    rfl
  · rw [raise_raised]
    exact List.mem_append_right _ (List.mem_singleton_self _)

theorem abortFacet_kept (f cause : Nat) (s : State) : (abortFacet f cause s).power = s.power ∧
    ∀ a : Addr, a.obj ≠ 0x1001 → rd (abortFacet f cause s) a = rd s a := by
  have hout : outside (fun _ => false) (abortFacet f cause s) = outside (fun _ => false) s := outside_abortFacet ..
  exact ⟨power_of_outside hout rfl, fun a ha =>
    rd_of_besides (kept := [.obj a.obj]) (aside_abortFacet _ _ _ _ (by simp [ha.symm]) (by simp)) (by simp)⟩

/-- A sample below its trip is stored and judged; what it may abort besides writes vets alone. -/
theorem doTempSample_below {s : State} {n v : Nat} (h : ofRaw 16 v < (thermLevels (sensorInstance n)).trip) :
    (doTempSample n v s).power = (judgeTemp (sensorInstance n) (instanceTemp (storeSample n v s) n v)
        (storeSample n v s)).power ∧
      ∀ a : Addr, a.obj ≠ 0x1001 → rd (doTempSample n v s) a =
        rd (judgeTemp (sensorInstance n) (instanceTemp (storeSample n v s) n v) (storeSample n v s)) a := by
  unfold doTempSample
  extract_lets inst u w x
  have htrip (t : State) : tripSample n v t = t := if_pos h
  rw [htrip]
  simp only [x]
  split
  · exact abortFacet_kept ..
  · exact ⟨rfl, fun _ _ => rfl⟩

theorem doThermalTrip_past {n v : Nat} {s : State} (h : (thermLevels (sensorInstance n)).trip ≤ ofRaw 16 v) :
    doThermalTrip n v s = if sensorInstance n = 32 then (if s.groom.halted then s else groomTrip s)
      else tripSolid (sensorInstance n) v s :=
  if_neg (Int.not_lt.mpr h)

theorem doThrottleStep_cool {f : Nat} {s : State} (h : (thermFlags s f).testBit 3 = false) :
    doThrottleStep f s = modPower s (fun p => { p with cut := Tab.put 0 p.cut f (Tab.get 0 s.power.cut f - 10000) }) :=
  if_pos h

theorem doThrottleStep_hot {f : Nat} {s : State} (h : (thermFlags s f).testBit 3 = true)
    (hroom : ∃ c, c < 5 ∧ rd s (Reg.ARBCLASS_MIN_MW (6 * f + c)) < (grantsLast s).getD (6 * f + c) 0) :
    doThrottleStep f s =
      modPower s (fun p => { p with cut := Tab.put 0 p.cut f (Tab.get 0 s.power.cut f + 10000) }) := by
  have hleast : (List.range 5).all (fun c =>
      decide ((grantsLast s).getD (6 * f + c) 0 ≤ rd s (Reg.ARBCLASS_MIN_MW (6 * f + c)))) = false := by
    obtain ⟨c, hc, hlt⟩ := hroom
    rw [List.all_eq_false]
    exact ⟨c, List.mem_range.mpr hc, by simpa using hlt⟩
  unfold doThrottleStep
  dsimp only
  rw [if_neg (by simp [h]), if_pos hleast]

theorem doSupplyOut_vin {s : State} (h : s.power.vinBad = false) (mv : Nat) : doSupplyOut false mv s =
    supplyFault (modPower (wr s Reg.POWER_VIN_MV mv) (fun p => { p with vinBad := true })) :=
  if_neg (ne_true_of_eq_false h)

theorem doSupplyOut_vaux {s : State} (h : s.power.vauxBad = false) (mv : Nat) : doSupplyOut true mv s =
    supplyFault (modPower (wr s Reg.POWER_VAUX_MV mv) (fun p => { p with vauxBad := true })) :=
  if_neg (ne_true_of_eq_false h)

theorem doGroomCooled_cold {s : State} (hhalt : s.groom.halted = true) (hcool : rdI 16 s (Reg.THERMAL_TEMP 32) < 1000)
    (htime : s.time.running = false ∨ Tab.get 0 s.power.noted 32 + 1000000000 ≤ now s) :
    doGroomCooled s = modGroom (wr s (Reg.THERMAL_STATE 32) 0) (fun g => { g with halted := false }) := by
  refine if_neg ?_
  rintro (h | h | ⟨hrun, hlt⟩)
  · exact Bool.false_ne_true (h.symm.trans hhalt)
  · omega
  · rcases htime with h | h
    · exact Bool.false_ne_true (h.symm.trans hrun)
    · omega

/-- Settles O51: by what a grant period takes and puts into force, and the branch of each thermal command. -/
theorem powerAndTemperatures : Obligations.PowerAndTemperatures := by
  unfold Obligations.PowerAndTemperatures
  refine ⟨fun ds a b more inW lossW s hon hpipe => ?_, fun ds inW lossW s hon hpipe => ?_, fun n v s hraw hlow => ?_,
    fun f s h => ?_, fun f s h hroom => ?_, fun n v s hinst hfirst hpast => ?_, fun n v s hinst hrun hpast => ?_,
    fun s hhalt hcool htime => ?_, fun mv s hgood => ?_, fun mv s hgood => ?_, fun aux mv s => ?_⟩
  · have hout : outside (fun _ => false) (grantsMeasured ds inW.toNat lossW.toNat s) = outside (fun _ => false) s :=
      outside_grantsMeasured ..
    obtain ⟨hin, hloss, hdemand, -⟩ := rd_grantsMeasured ds inW.toNat lossW.toNat s
    have hpower := power_of_outside hout rfl
    have heq := doGrantPeriod_two (inputW := inW.toNat) (lossW := lossW.toNat) hon (hpower ▸ hpipe)
    set u := grantsMeasured ds inW.toNat lossW.toNat s with hu
    set w := modPower u (fun p => { p with pipe := [b, computeGrants u ds lossW.toNat] }) with hw
    have hforce : outside (fun _ => false) (takeGrants a (warnRings (grantsInForce u) a w)) =
        outside (fun _ => false) w := by
      rw [outside_takeGrants, outside_warnRings]
    have hkeep (x : Addr) (hx : x.obj = 0x1200 ∨ ∃ i, x = Reg.ARBCLASS_DEMAND_MW i) :
        rd (grantsClosed (takeGrants a (warnRings (grantsInForce u) a w))) x = rd u x := by
      have hx' : x.obj = 0x1200 ∨ x.obj = 0x1201 ∧ x.el = 0 := by
        rcases hx with h | ⟨i, rfl⟩
        · exact .inl h
        · exact .inr ⟨rfl, rfl⟩
      rw [rd_grantsClosed _ (by omega), rd_takeGrants_other _ _ (by omega) (by omega), rd_warnRings, hw, rd_modPower]
      · rintro i rfl
        simp at hx'
      · rintro i rfl
        simp at hx'
    refine ⟨_, next_eq heq, ?_, ?_, ?_, ?_, ?_, fun i hi => ⟨?_, ?_⟩⟩
    · rw [hkeep _ (.inl rfl), hin]
    · rw [hkeep _ (.inl rfl), hloss]
    · rw [power_grantsClosed, power_of_outside hforce rfl, hw]
      rfl
    · rw [power_grantsClosed, power_of_outside hforce rfl, hw]
      rfl
    · rw [power_grantsClosed, now_of_time (time_of_outside (P := fun _ => false) hforce rfl), hw]
      exact (now_of_time (s := u) rfl).trans (now_of_time (time_of_outside (P := fun _ => false) hout rfl))
    · rw [hkeep _ (.inr ⟨i, rfl⟩), hdemand i hi]
    · rw [rd_grantsClosed _ (by simp), grant_takeGrants _ _ hi]
  · have hout : outside (fun _ => false) (grantsMeasured ds inW.toNat lossW.toNat s) = outside (fun _ => false) s :=
      outside_grantsMeasured ..
    obtain ⟨hin, -, -, hgrant⟩ := rd_grantsMeasured ds inW.toNat lossW.toNat s
    have hpower := power_of_outside hout rfl
    refine ⟨_, next_eq (doGrantPeriod_few hon (hpower ▸ hpipe)), ?_, ?_, fun i hi => ?_⟩
    · rw [rd_grantsClosed _ (by simp), rd_modPower, hin]
    · rw [power_grantsClosed, modPower_power, hpower]
      exact List.length_append
    · rw [rd_grantsClosed _ (by simp), rd_modPower, hgrant]
  · have hv := v.isLt
    have hstored : ∀ i, i < 64 → rd (storeSample n v.toNat s) (Reg.ISLAND_TJ i) < 2 ^ 16 := fun i hi => by
      rw [rd_storeSample]
      split
      · exact hv
      · exact hraw i hi
    obtain ⟨hmin, hmax⟩ := instanceTemp_bounds (n := n) hstored hv
    obtain ⟨hpower, hread⟩ := doTempSample_below (s := s) hlow
    obtain ⟨hflags, htripped, htemp, hother⟩ := judgeTemp_spec (sensorInstance n)
      (instanceTemp (storeSample n v.toNat s) n v.toNat) (storeSample n v.toNat s)
    refine ⟨_, rfl, ?_, ?_, ?_, fun hn => ?_⟩
    · rw [rdI, hread _ (by simp), htemp, ofRaw_toRaw_16 hmin hmax]
    · rw [thermFlags, hpower, ← thermFlags, hflags, thermFlags, power_storeSample, ← thermFlags]
    · rw [hpower, htripped, power_storeSample]
    · rw [hread _ (by simp), hother _ (by simp), rd_storeSample, if_pos ⟨hn, rfl⟩]
  · refine ⟨_, next_eq (doThrottleStep_cool h), ?_, modPower_regs ..⟩
    simp only [modPower_power, Tab.get_put_self]
  · refine ⟨_, next_eq (doThrottleStep_hot h hroom), ?_, modPower_regs ..⟩
    simp only [modPower_power, Tab.get_put_self]
  · exact ⟨_, next_eq ((doThermalTrip_past hpast).trans (if_neg hinst)), tripSolid_spec hfirst ..⟩
  · rw [← hinst] at hpast
    exact ⟨_, next_eq ((doThermalTrip_past hpast).trans ((if_pos hinst).trans (if_neg (by simp [hrun])))),
      groomTrip_spec s⟩
  · refine ⟨_, next_eq (doGroomCooled_cold hhalt hcool htime), rfl, ?_, fun a ha => ?_⟩
    · rw [rd_modGroom, rd_wr, if_pos rfl]
    · rw [rd_modGroom, rd_wr, if_neg ha]
  · refine ⟨_, next_eq (doSupplyOut_vin hgood _), ?_, rfl, ?_⟩
    · rw [supplyFault, rd_raise, rd_modPower, rd_wr, if_pos rfl]
    · rw [supplyFault, raise_raised, rd_modPower, rd_modPower, rd_wr, if_pos rfl, rd_wr, if_neg (by simp)]
      rfl
  · refine ⟨_, next_eq (doSupplyOut_vaux hgood _), ?_, rfl⟩
    rw [supplyFault, rd_raise, rd_modPower, rd_wr, if_pos rfl]
  · cases aux
    · refine ⟨_, rfl, ?_, rfl⟩
      rw [if_neg Bool.false_ne_true]
      exact (rd_wr ..).trans (if_pos rfl)
    · refine ⟨_, rfl, ?_, rfl⟩
      rw [if_pos rfl]
      exact (rd_wr ..).trans (if_pos rfl)

end Sys2Proof.Machine

/-! # Chunk timers and the parent's frames (O30) -/

namespace Sys2Proof.Machine

/-! ## What notices leave of a chunk -/

/-- A projection of the chunk slots that one slot's write keeps. -/
theorem proj_modSlot {α : Type} (proj : ChunkSlot → α) {f : ChunkSlot → ChunkSlot} (h : ∀ k, proj (f k) = proj k)
    (s : State) (t j u k : Nat) : proj (chunkSlot (modSlot s t j f) u k) = proj (chunkSlot s u k) := by
  rw [chunkSlot_modSlot]
  split
  · next hkey =>
    rw [h]
    unfold chunkSlot
    rw [hkey]
  · rfl

theorem chunkSlot_raise (s : State) (code src : Nat) (items : List (Nat × Nat)) (u k : Nat) :
    chunkSlot (raise s code src items) u k = chunkSlot s u k := (rfl)

/-- A change of the harness beside the chunk slots. -/
theorem chunkSlot_modColl (s : State) {g : Collective → Collective} (h : (g s.coll).slots = s.coll.slots) (u k : Nat) :
    chunkSlot (modColl s g) u k = chunkSlot s u k := chunkSlot_congr h u k

theorem coll_sendTeamNotify (s : State) (facet t entry cause gen chunk missing tries : Nat) :
    (sendTeamNotify s facet t entry cause gen chunk missing tries).coll = s.coll :=
  coll_of_aside (P := besides [.coll]) (by simp) (by simp)

/-- A chunk but for the notices it is still to send. -/
def withoutNotices (k : ChunkSlot) : ChunkSlot := { k with missing := [], reopen := [] }

theorem withoutNotices_sendDue (facet : Nat) (s : State) (d : Due) (t j : Nat) :
    withoutNotices (chunkSlot (sendDue facet s d) t j) = withoutNotices (chunkSlot s t j) := by
  unfold sendDue
  split
  · rfl
  split
  · rw [chunkSlot_congr (congrArg Collective.slots (coll_sendTeamNotify ..))]
    rfl
  · dsimp only
    rw [chunkSlot_congr (congrArg Collective.slots (coll_sendTeamNotify ..))]
    refine proj_modSlot withoutNotices (fun k => ?_) ..
    split <;> rfl

theorem withoutNotices_flushAllNotices (s : State) (t j : Nat) :
    withoutNotices (chunkSlot (flushAllNotices s) t j) = withoutNotices (chunkSlot s t j) := by
  refine proj_foldl_of_keep (fun s => withoutNotices (chunkSlot s t j)) (fun s facet => ?_) s
  exact proj_foldl_of_keep (fun s => withoutNotices (chunkSlot s t j))
    (fun s d => withoutNotices_sendDue facet s d t j) s

/-! ## A try added -/

theorem addTry_spec (s : State) (t j : Nat) :
    (chunkSlot (addTry s t j) t j).tries = min 255 ((chunkSlot s t j).tries + 1) ∧
      (chunkSlot (addTry s t j) t j).since = now s ∧
      (chunkSlot (addTry s t j) t j).state = (chunkSlot s t j).state ∧
      (addTry s t j).coll.stints = s.coll.stints := by
  unfold addTry
  dsimp only
  split
  · simp only [chunkSlot_modSlot_self]
    rw [chunkSlot_raise, chunkSlot_modSlot_self]
    exact ⟨rfl, rfl, rfl, rfl⟩
  · rw [chunkSlot_modSlot_self]
    exact ⟨rfl, rfl, rfl, rfl⟩

/-- The chunk's missing children noted, and the notices that are due sent. -/
def missingNoted (t j : Nat) (s : State) : State :=
  let clear := (entriesOf (team s t)).filter
    (fun e => !(chunkSlot s t j).bits.any (fun b => decide (b.1 = rd s (Reg.MEMBER_CHILD e))))
  flushAllNotices (modSlot s t j (fun k => { k with missing := (k.missing ++ clear).eraseDups }))

theorem missingNoted_kept (t j : Nat) (s : State) :
    (chunkSlot (missingNoted t j s) t j).tries = (chunkSlot s t j).tries ∧
      (chunkSlot (missingNoted t j s) t j).state = (chunkSlot s t j).state := by
  unfold missingNoted
  extract_lets clear
  have h := withoutNotices_flushAllNotices
    (modSlot s t j (fun k => { k with missing := (k.missing ++ clear).eraseDups })) t j
  rw [chunkSlot_modSlot_self] at h
  have htries := congrArg ChunkSlot.tries h
  have hstate := congrArg ChunkSlot.state h
  simp only [withoutNotices] at htries hstate
  exact ⟨htries, hstate⟩

theorem now_missingNoted (t j : Nat) (s : State) : now (missingNoted t j s) = now s :=
  now_of_time (time_of_outside (P := fun _ => false) (outside_flushAllNotices ..) rfl)

theorem stints_noteIdle (s : State) (t j : Nat) : (noteIdle s t j).coll.stints = s.coll.stints := by
  unfold noteIdle
  split
  · rfl
  split
  · rfl
  split <;> rfl

theorem resendPartial_spec (s : State) (t j : Nat) :
    (chunkSlot (resendPartial s t j) t j).tries = (chunkSlot s t j).tries ∧ now (resendPartial s t j) = now s ∧
      ∃ y ∈ (resendPartial s t j).coll.stints, y.kind = 1 ∧ y.team = t ∧ y.slot = j := by
  have hout : outside (fun _ => false) (resendPartial s t j) = outside (fun _ => false) s := by
    simp [resendPartial]
  refine ⟨?_, now_of_time (time_of_outside hout rfl), ?_⟩
  · unfold resendPartial addStint addStintAt
    dsimp only
    rw [chunkSlot_noteIdle, chunkSlot_modColl _ rfl, chunkSlot_modSlot_self]
  · unfold resendPartial addStint addStintAt
    dsimp only
    rw [stints_noteIdle]
    exact ⟨_, List.mem_append_right _ (List.mem_singleton_self _), rfl, rfl, rfl⟩

/-! ## A chunk that is done -/

/-- R315: the team's own elements beside its base. -/
theorem rd_advanceBase (n : Nat) (s : State) (t : Nat) {a : Addr} (ha : a ≠ Reg.TEAM_BASE t) :
    rd (advanceBase n s t) a = rd s a := by
  induction n generalizing s with
  | zero => rfl
  | succ n ih =>
    unfold advanceBase
    dsimp only
    split
    · rw [ih, rd_wr, if_neg ha]
    · rfl

theorem coll_advanceBase (n : Nat) (s : State) (t : Nat) : (advanceBase n s t).coll = s.coll := by
  induction n generalizing s with
  | zero => rfl
  | succ n ih =>
    unfold advanceBase
    dsimp only
    split
    · rw [ih, wr_coll]
    · rfl

theorem sendResult_kept (s : State) (t j : Nat) (entries : List Nat) :
    (∀ a, rd (sendResult s t j entries) a = rd s a) ∧
      (sendResult s t j entries).coll.slots = s.coll.slots := by
  refine ⟨fun _ => rd_foldl_of_keep (fun _ _ _ => rd_modColl ..) s, ?_⟩
  refine proj_foldl_of_keep (fun s => s.coll.slots) (fun s e => ?_) s
  rfl

theorem pendNotice_kept (s : State) (n : Notice) :
    (∀ a, rd (pendNotice s n) a = rd s a) ∧ (pendNotice s n).coll.slots = s.coll.slots := by
  unfold pendNotice
  split
  · exact ⟨fun _ => rfl, rfl⟩
  · exact ⟨fun _ => rd_modColl .., rfl⟩

theorem keepReopens_kept (s : State) (t j : Nat) :
    (∀ a, rd (keepReopens s t j) a = rd s a) ∧ (keepReopens s t j).coll.slots = s.coll.slots :=
  ⟨fun _ => rd_foldl_of_keep (fun s _ _ => (pendNotice_kept s _).1 _) s,
    proj_foldl_of_keep (fun s => s.coll.slots) (fun s _ => (pendNotice_kept s _).2) s⟩

/-- The slot of a chunk whose result is here, and the team's count of it. -/
theorem chunkDone_spec (s : State) (t j : Nat) (blocks : List Block) :
    (chunkSlot (chunkDone s t j blocks) t j).outState = 3 ∧
      (chunkSlot (chunkDone s t j blocks) t j).outChunk = (chunkSlot s t j).chunk ∧
      (chunkSlot (chunkDone s t j blocks) t j).outBlocks = blocks ∧
      (chunkSlot (chunkDone s t j blocks) t j).state = 0 ∧
      rd (chunkDone s t j blocks) (Reg.TEAM_CHUNKS_DONE t) = (rd s (Reg.TEAM_CHUNKS_DONE t) + 1) % 2 ^ 64 := by
  obtain ⟨hread, hslots⟩ := keepReopens_kept s t j
  unfold chunkDone
  extract_lets k x u v w y z
  have hy : y.coll = w.coll := by
    simp only [y]
    split <;> rfl
  have hready : rd y (Reg.TEAM_CHUNKS_DONE t) = rd w (Reg.TEAM_CHUNKS_DONE t) := by
    simp only [y]
    split
    · rw [rd_inc, if_neg (by simp)]
    · rfl
  have hcoll : (advanceBase x.window z t).coll = v.coll := by
    rw [coll_advanceBase, countIn_coll, hy]
    rfl
  have hslot : chunkSlot (sendResult (advanceBase x.window z t) t j
      (resultEntries (advanceBase x.window z t) x)) t j = chunkSlot v t j :=
    chunkSlot_congr ((sendResult_kept ..).2.trans (congrArg Collective.slots hcoll)) t j
  have hv : chunkSlot v t j = { clearAcc (chunkSlot s t j) with
      outState := 3, outChunk := (chunkSlot s t j).chunk, outBlocks := blocks, entered := now u } := by
    simp only [v]
    rw [chunkSlot_modSlot_self, chunkSlot_congr hslots]
  rw [hslot, hv]
  refine ⟨rfl, rfl, rfl, rfl, ?_⟩
  rw [(sendResult_kept ..).1, rd_advanceBase _ _ _ (by simp), rd_countIn _ _ _ _ (by simp), hready, rd_inc,
    if_pos rfl]
  simp only [v]
  rw [modSlot, rd_modColl, hread]

theorem dropWork_kept (s : State) (t j : Nat) : (dropWork s t j).coll.slots = s.coll.slots ∧
    ∀ a : Addr, a.obj = 0x0A00 → rd (dropWork s t j) a = rd s a := by
  refine ⟨?_, fun a ha => rd_of_besides (kept := [.obj a.obj]) (by simp [ha]) (by simp)⟩
  unfold dropWork
  refine (proj_foldl_of_keep (fun s => s.coll.slots) (fun s id => ?_) _).trans rfl
  exact congrArg Collective.slots (coll_of_aside (P := besides [.coll]) (by simp) (by simp))

/-! ## A team that is retired or orphaned -/

theorem rd_sendTeamNotify (s : State) (facet t entry cause gen chunk missing tries : Nat) {a : Addr}
    (ha : a.obj = 0x0A00) (hn : ∀ t, a ≠ Reg.TEAM_NOTIFIES t) :
    rd (sendTeamNotify s facet t entry cause gen chunk missing tries) a = rd s a := by
  unfold sendTeamNotify
  dsimp only
  rw [rd_of_besides (kept := [.obj a.obj]) (aside_sendNotify _ _ _ _ _ (by simp [ha]) (by simp [ha])) (by simp), rd_inc,
    if_neg (hn t)]

/-- Notices count themselves, and write no other element of a team. -/
theorem rd_flushAllNotices (s : State) {a : Addr} (ha : a.obj = 0x0A00) (hn : ∀ t, a ≠ Reg.TEAM_NOTIFIES t) :
    rd (flushAllNotices s) a = rd s a := by
  refine rd_foldl_of_keep (fun s facet _ => rd_foldl_of_keep (fun s d _ => ?_) s) s
  unfold sendDue
  split
  · rfl
  split
  · rw [rd_sendTeamNotify _ _ _ _ _ _ _ _ _ ha hn, rd_modColl]
  · dsimp only
    rw [rd_sendTeamNotify _ _ _ _ _ _ _ _ _ ha hn, modSlot, rd_modColl]

theorem rd_modTeam (s : State) (t : Nat) (f : TeamCtx → TeamCtx) (a : Addr) : rd (modTeam s t f) a = rd s a :=
  rd_modColl ..

theorem teamState_killTeam (s : State) (t st : Nat) : rd (killTeam s t st) (Reg.TEAM_STATE t) = st := by
  unfold killTeam
  extract_lets x js u v w y z
  rw [rd_flushAllNotices _ rfl (by simp)]
  refine (rd_foldl_of_keep (fun s e _ => (pendNotice_kept s _).1 _) _).trans ?_
  simp only [y]
  rw [rd_modTeam, rd_wr, if_pos rfl]

/-! ## The parent's frames -/

theorem fromParent_bound {s : State} {f : Frame} (h : fromParent s f = true) :
    extTeam (f.blocks.getD 0 0) < 16384 := by
  simp only [fromParent, Bool.and_eq_true, decide_eq_true_eq] at h
  tauto

/-- A RESULT of the parent for the chunk that is sent. -/
theorem doResultFromParent_sent {s : State} {id : Nat} {f : Frame} (hf : findFrame s id = some f)
    (hplace : f.place = .localTo) (hwhole : f.whole = true) (hkind : hdrKind f.hdr = KindCode.RESULT)
    (hparent : fromParent s f = true) {t c j : Nat} (ht : extTeam (f.blocks.getD 0 0) = t)
    (hc : extChunk (f.blocks.getD 0 0) = c) (hj : c % (team s t).window = j)
    (hopc : extOpc (f.blocks.getD 0 0) = (team s t).opc) (hfmt : extFmt (f.blocks.getD 0 0) = (team s t).fmt)
    (hmode : extMode (f.blocks.getD 0 0) = (team s t).mode) (hstate : (chunkSlot s t j).state = 2)
    (hchunk : (chunkSlot s t j).chunk = c)
    (hlen : hdrLen f.hdr = 1 + shards (team s t).opc * (chunkSlot s t j).blocks.getD 0 + (team s t).digestEn) :
    doResultFromParent id s = chunkDone (dropWork (removeFrame s id) t j) t j f.blocks := by
  unfold doResultFromParent
  rw [hf]
  dsimp only
  rw [if_neg (by simp [hplace, hwhole, hkind]), ht, hc, hj]
  simp only [hparent, hopc, hfmt, hmode, hstate, hchunk, hlen, decide_true, Bool.true_and, Bool.true_or, if_true,
    Bool.true_eq_false, ne_eq, not_true_eq_false, or_self, if_false]

theorem doNotifyFromParent_retired {s : State} {id : Nat} {f : Frame} (hf : findFrame s id = some f)
    (hplace : f.place = .localTo) (hwhole : f.whole = true) (hkind : hdrKind f.hdr = KindCode.NOTIFY)
    (harith : hdrArith f.hdr = 1) (hparent : fromParent s f = true) (hcause : hdrChan f.hdr = Cause.TEAM_RETIRED) :
    doNotifyFromParent id s = killTeam (raise (removeFrame s id) Code.TEAM_ORPHANED 0xFF [])
      (extTeam (f.blocks.getD 0 0)) TeamState.ORPHANED := by
  have hbound := fromParent_bound hparent
  unfold doNotifyFromParent
  rw [hf]
  dsimp only
  rw [if_neg (by simp [hplace, hwhole, hkind]), if_neg (by omega), if_neg (by simp [harith, hparent]), if_pos hcause]

/-- Settles O30: by what a try, a chunk that is done and a team that is given up leave. -/
theorem chunkTimersAndParents : Obligations.ChunkTimersAndParents := by
  unfold Obligations.ChunkTimersAndParents
  refine ⟨fun t j s hopen hover => ?_, fun t j s hsent hover => ?_, fun id f s => ?_,
    fun id f s hf hplace hwhole hkind harith hparent hcause => ?_⟩
  · obtain ⟨htriesKept, hstateKept⟩ := missingNoted_kept t j s
    obtain ⟨htries, hsince, hstate, -⟩ := addTry_spec (missingNoted t j s) t j
    refine ⟨addTry (missingNoted t j s) t j, finish_eq (if_neg ?_), ?_, ?_, ?_⟩
    · rintro (h | h)
      · exact h hopen
      · omega
    · rw [htries, htriesKept]
    · rw [hsince, now_missingNoted]
    · rw [hstate, hstateKept, hopen]
  · obtain ⟨htriesKept, hnow, y, hy, hmine⟩ := resendPartial_spec s t j
    obtain ⟨htries, hsince, -, hstints⟩ := addTry_spec (resendPartial s t j) t j
    refine ⟨addTry (resendPartial s t j) t j, finish_eq (if_neg ?_), ?_, ?_, y, ?_, hmine⟩
    · rintro (h | h)
      · exact h hsent
      · omega
    · rw [htries, htriesKept]
    · rw [hsince, hnow]
    · rw [hstints]
      exact hy
  · intro ext t x j k hf hplace hwhole hkind hparent hopc hfmt hmode hstate hchunk hlen
    have hremove : (removeFrame s id).coll = s.coll := coll_of_aside (P := besides [.coll]) (by simp) (by simp)
    obtain ⟨hslots, hread⟩ := dropWork_kept (removeFrame s id) t j
    have hslot : chunkSlot (dropWork (removeFrame s id) t j) t j = k :=
      chunkSlot_congr (hslots.trans (congrArg Collective.slots hremove)) t j
    obtain ⟨hout, houtChunk, hblocks, hfree, hdone⟩ :=
      chunkDone_spec (dropWork (removeFrame s id) t j) t j f.blocks
    refine ⟨_, finish_eq (doResultFromParent_sent hf hplace hwhole hkind hparent rfl rfl rfl hopc hfmt hmode hstate
      hchunk hlen), hout, ?_, hblocks, hfree, ?_⟩
    · rw [houtChunk, hslot, hchunk]
    · rw [hdone, hread _ rfl, rd_of_besides (kept := [.obj 0x0A00]) (aside_removeFrame _ _ _ (by simp)) (by simp)]
  · exact ⟨_, finish_eq (doNotifyFromParent_retired hf hplace hwhole hkind harith hparent hcause),
      teamState_killTeam ..⟩

end Sys2Proof.Machine

/-! # Team commands (O28) -/

namespace Sys2Proof.Machine

/-! ## What the steps of a command write -/

theorem rd_teamOk (s : State) (t : Nat) (a : Addr) :
    rd (teamOk s t) a = if a = Reg.TEAM_COMMAND t then 0 else if a = Reg.TEAM_ERROR t then 0 else rd s a := by
  simp only [teamOk, rd_wr]

theorem rd_showDigest (s : State) (t : Nat) {a : Addr} (ha : a ≠ Reg.TEAM_CONFIG_DIGEST t) :
    rd (showDigest s t) a = rd s a := by
  unfold showDigest
  dsimp only
  rw [rd_wr, if_neg ha]

theorem showDigest_kept (s : State) (t : Nat) : (showDigest s t).coll = s.coll ∧ (showDigest s t).raised = s.raised :=
  ⟨wr_coll .., wr_raised ..⟩

theorem chunksDone_clearTeamCounts (s : State) (t : Nat) :
    rd (clearTeamCounts s t) (Reg.TEAM_CHUNKS_DONE t) = 0 := by
  simp [clearTeamCounts, rd_wr]

theorem raised_clearTeamCounts (s : State) (t : Nat) : (clearTeamCounts s t).raised = s.raised := by
  simp only [clearTeamCounts, List.foldl_cons, List.foldl_nil, wr_raised]

/-! ## SETUP -/

/-- R328: a team made ACTIVE as of its context. -/
def teamMade (t : Nat) (x : TeamCtx) (s : State) : State :=
  let s := clearTeamCounts (modTeam s t (fun _ => x)) t
  let s := wr (wr (wr s (Reg.TEAM_STATE t) TeamState.ACTIVE) (Reg.TEAM_LAST_GEN t) x.gen) (Reg.TEAM_BASE t) x.firstChunk
  let s := showDigest (wr s (Reg.TEAM_EXPECT t) x.expect) t
  wr (wr s (Reg.TWINTEAM_OWNER t) (rd s Reg.TWIN_POSITION)) (Reg.TWINTEAM_ADOPTED t) 0

theorem teamMade_spec (t : Nat) (x : TeamCtx) (s : State) :
    rd (teamMade t x s) (Reg.TEAM_STATE t) = TeamState.ACTIVE ∧ rd (teamMade t x s) (Reg.TEAM_LAST_GEN t) = x.gen ∧
      rd (teamMade t x s) (Reg.TEAM_BASE t) = x.firstChunk ∧ rd (teamMade t x s) (Reg.TEAM_CHUNKS_DONE t) = 0 ∧
      rd (teamMade t x s) (Reg.TEAM_EXPECT t) = x.expect ∧ (teamMade t x s).raised = s.raised := by
  unfold teamMade
  extract_lets u v w
  have hw (a : Addr) (ha : a ≠ Reg.TEAM_CONFIG_DIGEST t) :
      rd w a = if a = Reg.TEAM_EXPECT t then x.expect else rd v a := by
    simp only [w]
    rw [rd_showDigest _ _ ha, rd_wr]
  have hv (a : Addr) : rd v a = if a = Reg.TEAM_BASE t then x.firstChunk
      else if a = Reg.TEAM_LAST_GEN t then x.gen
      else if a = Reg.TEAM_STATE t then TeamState.ACTIVE else rd u a := by
    simp only [v, rd_wr]
  have hraised : w.raised = s.raised := by
    simp only [w]
    rw [(showDigest_kept _ _).2, wr_raised]
    simp only [v, wr_raised, u]
    rw [raised_clearTeamCounts]
    rfl
  refine ⟨?_, ?_, ?_, ?_, ?_, by rw [wr_raised, wr_raised, hraised]⟩
  · rw [rd_wr, if_neg (by simp), rd_wr, if_neg (by simp), hw _ (by simp), if_neg (by simp), hv]
    simp
  · rw [rd_wr, if_neg (by simp), rd_wr, if_neg (by simp), hw _ (by simp), if_neg (by simp), hv]
    simp
  · rw [rd_wr, if_neg (by simp), rd_wr, if_neg (by simp), hw _ (by simp), if_neg (by simp), hv]
    simp
  · rw [rd_wr, if_neg (by simp), rd_wr, if_neg (by simp), hw _ (by simp), if_neg (by simp), hv]
    simpa using chunksDone_clearTeamCounts ..
  · rw [rd_wr, if_neg (by simp), rd_wr, if_neg (by simp), hw _ (by simp), if_pos rfl]

/-- The context of a SETUP: its staged values, with what this solid finds for them. -/
def setupCtx (s : State) (t : Nat) : TeamCtx :=
  let x := staged s t
  let fs := homeFacets s
  let r := (reserve s t x fs).getD (0, 0)
  { x with expect := expectOf s (entriesOf x), homes := slotMap t x.window fs, resv := r.1, facets := fs, place := r.2 }

theorem doSetup_eq {s : State} {t : Nat} (h : setupError s t (staged s t) = 0) :
    doSetup t s = raise (teamOk (teamMade t (setupCtx s t) s) t) Code.TEAM_SETUP 0xFF
      [(16, t), (16, (setupCtx s t).gen), (16, (setupCtx s t).ten)] := by
  unfold doSetup
  dsimp only
  rw [if_neg (by simp [h])]
  unfold teamMade setupCtx
  rfl

/-! ## REVISE -/

theorem team_sendDue (facet : Nat) (s : State) (d : Due) (t : Nat) : team (sendDue facet s d) t = team s t := by
  unfold sendDue team
  split
  · rfl
  split
  · rw [coll_sendTeamNotify]
    rfl
  · dsimp only
    rw [coll_sendTeamNotify]
    rfl

theorem team_flushAllNotices (s : State) (t : Nat) : team (flushAllNotices s) t = team s t :=
  proj_foldl_of_keep (team · t) (fun s facet =>
    proj_foldl_of_keep (team · t) (fun s d => team_sendDue facet s d t) s) s

/-- R330: a context with the tree of its staged values. -/
def revisedCtx (s : State) (x c : TeamCtx) : TeamCtx :=
  { c with
    position := x.position, parent := x.parent, firstMember := x.firstMember, members := x.members,
    children := x.children, teamSize := x.teamSize, rev := x.rev, expect := expectOf s (entriesOf x) }

/-- A team revised, before the notices that are due are sent. -/
def teamRevised (t : Nat) (s : State) : State :=
  let u := modTeam s t (revisedCtx s (staged s t))
  teamOk (showDigest (wr u (Reg.TEAM_EXPECT t) (team u t).expect) t) t

theorem teamRevised_spec (t : Nat) (s : State) :
    rd (teamRevised t s) (Reg.TEAM_EXPECT t) = expectOf s (entriesOf (staged s t)) ∧
      rd (teamRevised t s) (Reg.TEAM_ERROR t) = 0 ∧
      team (teamRevised t s) t = revisedCtx s (staged s t) (team s t) := by
  have hteam : team (modTeam s t (revisedCtx s (staged s t))) t = revisedCtx s (staged s t) (team s t) := by
    rw [team_modTeam, if_pos rfl]
  unfold teamRevised
  dsimp only
  refine ⟨?_, ?_, ?_⟩
  · rw [rd_teamOk, if_neg (by simp), if_neg (by simp), rd_showDigest _ _ (by simp), rd_wr, if_pos rfl, hteam]
    rfl
  · rw [rd_teamOk, if_neg (by simp), if_pos rfl]
  · rw [← hteam]
    unfold team
    rw [teamOk, wr_coll, wr_coll, (showDigest_kept _ _).1, wr_coll]

/-- A REVISE with no chunk open. -/
theorem doRevise_eq {s : State} {t : Nat} (h : reviseError s t (staged s t) = 0) (hslots : s.coll.slots = []) :
    doRevise t s = flushAllNotices (teamRevised t s) := by
  unfold doRevise
  extract_lets x err u v js w
  rw [if_neg (by simp [err, x, h])]
  have hjs : js = [] := by
    have hcoll : v.coll.slots = s.coll.slots := by
      simp only [v]
      rw [(showDigest_kept _ _).1, wr_coll]
      rfl
    simp only [js]
    rw [hcoll, hslots]
    rfl
  simp only [w, hjs]
  rfl

/-! ## RETIRE -/

theorem doRetire_spec {s : State} {t : Nat} (h : teamState s t = TeamState.ACTIVE ∨
    teamState s t = TeamState.ORPHANED ∨ teamState s t = TeamState.FAILED) :
    ∃ u, doRetire t s = teamOk (raise u Code.TEAM_RETIRED 0xFF []) t ∧
      rd u (Reg.TEAM_STATE t) = TeamState.RETIRED := by
  by_cases hactive : teamState s t = TeamState.ACTIVE
  · exact ⟨_, if_pos hactive, teamState_killTeam ..⟩
  · refine ⟨wr s (Reg.TEAM_STATE t) TeamState.RETIRED, (if_neg hactive).trans (if_pos (h.resolve_left hactive)), ?_⟩
    rw [rd_wr, if_pos rfl]

/-- Settles O28: by what SETUP, RETIRE, REVISE and FREE write. -/
theorem teamCommands : Obligations.TeamCommands := by
  unfold Obligations.TeamCommands
  refine ⟨fun t s hup hok => ?_, fun t s hup herr => ?_, fun t s hup hst => ?_, fun t s hup hok hslots => ?_,
    fun t s hup hst => ?_⟩
  · obtain ⟨hstate, hgen, hbase, hdone, hexpect, hraised⟩ := teamMade_spec t (setupCtx s t) s
    refine ⟨_, finish_eq ((written_of_up hup _).trans (doSetup_eq hok)), ?_, ?_, ?_, ?_, ?_, ?_, ?_, ?_⟩
    · rw [rd_raise, rd_teamOk, if_neg (by simp), if_neg (by simp), hstate]
    · rw [rd_raise, rd_teamOk, if_neg (by simp), if_neg (by simp), hgen]
      rfl
    · rw [rd_raise, rd_teamOk, if_neg (by simp), if_neg (by simp), hbase]
      rfl
    · rw [rd_raise, rd_teamOk, if_neg (by simp), if_pos rfl]
    · rw [rd_raise, rd_teamOk, if_pos rfl]
    · rw [rd_raise, rd_teamOk, if_neg (by simp), if_neg (by simp), hdone]
    · rw [rd_raise, rd_teamOk, if_neg (by simp), if_neg (by simp), hexpect]
      rfl
    · rw [raise_raised, teamOk, wr_raised, wr_raised, hraised]
      rfl
  · exact finish_eq ((written_of_up hup _).trans (if_pos herr))
  · obtain ⟨u, heq, hretired⟩ := doRetire_spec hst
    refine ⟨_, finish_eq ((written_of_up hup _).trans heq), ?_, ?_, ?_, ?_⟩
    · rw [rd_teamOk, if_neg (by simp), if_neg (by simp), rd_raise, hretired]
    · rw [rd_teamOk, if_neg (by simp), if_pos rfl]
    · rw [rd_teamOk, if_pos rfl]
    · rw [teamOk, wr_raised, wr_raised, raise_raised]
      exact List.mem_append_right _ (List.mem_singleton_self _)
  · obtain ⟨hexpect, herror, hteam⟩ := teamRevised_spec t s
    refine ⟨_, finish_eq ((written_of_up hup _).trans (doRevise_eq hok hslots)), ?_, ?_, ?_, ?_, ?_⟩
    · rw [rd_flushAllNotices _ rfl (by simp), hexpect]
    · rw [rd_flushAllNotices _ rfl (by simp), herror]
    · rw [team_flushAllNotices, hteam, revisedCtx]
    · rw [team_flushAllNotices, hteam, revisedCtx]
    · rw [team_flushAllNotices, hteam, revisedCtx]
  · exact finish_eq ((written_of_up hup _).trans (if_pos hst))

end Sys2Proof.Machine

/-! # Drains of ports, and a yoke that leaves -/

namespace Sys2Proof.Machine

section
variable (P : Piece → Bool)

/-! ## The transmit side of a port -/

@[simp] theorem aside_sendMark (k : Nat) (s : State) (e : Nat × Nat) (hP : Traffic P) (h0D04 : P (.obj 0x0D04) = true)
    :
    aside P (sendMark k s e) = aside P s := by
  simp [sendMark, hP, hP.all, h0D04]
@[simp] theorem aside_sendMarks (s : State) (hP : Traffic P) (h0D04 : P (.obj 0x0D04) = true) :
    aside P (sendMarks s) = aside P s := by
  exact aside_foldl P s _ (fun s e => aside_foldl P s _ (fun s m => by simp [hP, h0D04]) _) _
@[simp] theorem aside_drainCheck (s : State) (g : Nat) (hforward : P .forward = true) (h0D04 : P (.obj 0x0D04) = true)
    :
    aside P (drainCheck s g) = aside P s := by
  simp [drainCheck, hforward, h0D04]
@[simp] theorem aside_drainTick (s : State) (hP : Traffic P) (h0D04 : P (.obj 0x0D04) = true) :
    aside P (drainTick s) = aside P s := by
  simp [drainTick, hP, hP.all, h0D04]
@[simp] theorem aside_startPortDrain (s : State) (p : Nat) (hforward : P .forward = true) :
    aside P (startPortDrain s p) = aside P s := by
  simp [startPortDrain, hforward]

/-! ## What happens to a port that stops -/

@[simp] theorem aside_retirePorts (s : State) (ports : List Nat) (hP : Traffic P) (h0D04 : P (.obj 0x0D04) = true) :
    aside P (retirePorts s ports) = aside P s := by
  simp [retirePorts, hP, hP.all, h0D04]

/-! ## Harness Engines and Yoke Arrays -/

@[simp] theorem aside_addStintAt (s : State) (t j kind frame entry : Nat) (groups : List Nat) (tick order : Nat)
    (hcoll : P .coll = true) :
    aside P (addStintAt s t j kind frame entry groups tick order) = aside P s := by
  simp [addStintAt, hcoll]
@[simp] theorem aside_fallBack (s : State) (xs : List YokeTrace) (groupsOf : YokeTrace → List Nat)
    (hcoll : P .coll = true) :
    aside P (fallBack s xs groupsOf) = aside P s := by
  simp [fallBack, hcoll]
@[simp] theorem aside_yokeLeft (s : State) (f : Nat) (hYokeFallback : P (.record Code.YOKE_FALLBACK) = true)
    (hcoll : P .coll = true) :
    aside P (yokeLeft s f) = aside P s := by
  simp [yokeLeft, hYokeFallback, hcoll]

end

end Sys2Proof.Machine

/-! # Vet requests (O44) -/

namespace Sys2Proof.Machine

/-! ## Requests -/

/-- The vets as a request leaves them. -/
theorem vets_vetRequest (s : State) (u prio trig : Nat) : ∃ q,
    (vetRequest s u prio trig).vets =
      { s.vets with requests := Tab.set s.vets.requests u q, order := s.vets.order + 1 } ∧
    q = match Tab.find s.vets.requests u with
      | some r => { r with
          prio := min r.prio prio, trig := if prio < r.prio then trig else r.trig,
          commanded := r.commanded || decide (trig = 1 ∨ trig = 2), periodic := r.periodic || decide (trig = 3),
          due := if trig = 3 ∧ r.periodic = false then now s else r.due }
      | none => {
          prio := prio, trig := trig, order := s.vets.order, commanded := decide (trig = 1 ∨ trig = 2),
          periodic := decide (trig = 3), due := now s, overdue := false } := by
  unfold vetRequest
  by_cases hidle : rd s (Reg.VET_STATE u) = 0
  · rw [if_pos hidle]
    exact ⟨_, rfl, rfl⟩
  · rw [if_neg hidle]
    exact ⟨_, rfl, rfl⟩

/-- R468: a unit with no request waiting gets one. -/
theorem find_vetRequest_new {s : State} {u : Nat} (h : Tab.find s.vets.requests u = none) (prio trig : Nat) :
    Tab.find (vetRequest s u prio trig).vets.requests u = some {
      prio := prio, trig := trig, order := s.vets.order, commanded := decide (trig = 1 ∨ trig = 2),
      periodic := decide (trig = 3), due := now s, overdue := false } := by
  obtain ⟨q, hvets, hq⟩ := vets_vetRequest s u prio trig
  rw [hvets, Tab.find_set, if_pos rfl, hq, h]

/-- R468: a request joins the one that waits. -/
theorem find_vetRequest_joined {s : State} {u : Nat} {r : VetRequest} (h : Tab.find s.vets.requests u = some r)
    (prio trig : Nat) : Tab.find (vetRequest s u prio trig).vets.requests u = some { r with
      prio := min r.prio prio, trig := if prio < r.prio then trig else r.trig,
      commanded := r.commanded || decide (trig = 1 ∨ trig = 2), periodic := r.periodic || decide (trig = 3),
      due := if trig = 3 ∧ r.periodic = false then now s else r.due } := by
  obtain ⟨q, hvets, hq⟩ := vets_vetRequest s u prio trig
  rw [hvets, Tab.find_set, if_pos rfl, hq, h]

/-! ## The end of a vet -/

/-- R486: what the end of a sequence leaves of the unit and of the vets. -/
theorem endVet_spec (s : State) (u result points cause pack map : Nat) :
    (endVet s u result points cause pack map).vets = { s.vets with runs := Tab.del s.vets.runs u } ∧
      rd (endVet s u result points cause pack map) (Reg.VET_LAST_RESULT u) = result ∧
      rd (endVet s u result points cause pack map) (Reg.VET_LAST_POINTS u) = points ∧
      rd (endVet s u result points cause pack map) (Reg.VET_STATE u) = restState s u ∧
      rd (endVet s u result points cause pack map) (Reg.VET_RUNS u) = (rd s (Reg.VET_RUNS u) + 1) % 2 ^ 32 := by
  unfold endVet
  extract_lets s1 s2 s3 s4 s5 s6
  have hvets4 : s4.vets = s1.vets := by
    simp only [s4]
    split <;> rfl
  have hread (a : Addr) : rd (if result ≤ 3 then
      raise s6 Code.VET_RESULT (vetFacet u) [(24, u), (8, result), (8, points), (8, map), (64, pack)]
      else raise s6 Code.VET_ABORTED (vetFacet u) [(24, u), (8, result), (8, cause)]) a = rd s6 a := by
    split <;> rw [rd_raise]
  have hread4 (a : Addr) (ha : a ≠ Reg.VET_FAILS u) : rd s4 a = rd s3 a := by
    simp only [s4]
    split
    · rw [rd_inc, if_neg ha]
    · rfl
  have hread6 (a : Addr) (hs : a ≠ Reg.VET_STATE u) (hm : a ≠ Reg.VET_MARGINAL_RUN u) : rd s6 a = rd s4 a := by
    simp only [s6, s5]
    rw [rd_wr, if_neg hs, rd_wr, if_neg hm]
  refine ⟨?_, ?_, ?_, ?_, ?_⟩
  · have hvets6 : s6.vets = s1.vets := hvets4
    split <;> rw [raise_vets, hvets6] <;> rfl
  · rw [hread, hread6 _ (by simp) (by simp), hread4 _ (by simp)]
    simp only [s3, s2]
    rw [rd_inc, if_neg (by simp), rd_wr, if_neg (by simp), rd_wr, if_pos rfl]
  · rw [hread, hread6 _ (by simp) (by simp), hread4 _ (by simp)]
    simp only [s3, s2]
    rw [rd_inc, if_neg (by simp), rd_wr, if_pos rfl]
  · rw [hread]
    simp only [s6]
    rw [rd_wr, if_pos rfl]
    have hvets5 : s5.vets = s1.vets := hvets4
    unfold restState
    rw [hvets5]
    rfl
  · rw [hread, hread6 _ (by simp) (by simp), hread4 _ (by simp)]
    simp only [s3, s2]
    rw [rd_inc, if_pos rfl, rd_wr, if_neg (by simp), rd_wr, if_neg (by simp)]
    rfl

/-! ## A point begun -/

theorem pointVcore_wr_vcore (s : State) (i j v p : Nat) :
    pointVcore (wr s (Reg.ISLAND_VCORE j) v) i p = pointVcore s i p := by
  rw [pointVcore, rd_wr, if_neg (by simp), pointVcore]

theorem vcore_pointVcores (p : Nat) (l : List Nat) (s : State) (i : Nat) :
    rd (l.foldl (fun s i => wr s (Reg.ISLAND_VCORE i) (pointVcore s i p)) s) (Reg.ISLAND_VCORE i) =
      if i ∈ l then pointVcore s i p else rd s (Reg.ISLAND_VCORE i) := by
  induction l generalizing s with
  | nil => rfl
  | cons j l ih =>
    rw [List.foldl_cons, ih, pointVcore_wr_vcore, rd_wr]
    by_cases hij : i = j
    · subst hij
      simp
    · simp [hij]

/-- R482: a point's voltages, and the run that stands at it. -/
theorem setPoint_spec (s : State) (u : Nat) (r : VetRun) (p : Nat) :
    vetRun (setPoint s u r p) u = some { r with point := p, trims := decide (4 ≤ p) } ∧
      (∀ i ∈ vetIslands u, rd (setPoint s u r p) (Reg.ISLAND_VCORE i) = pointVcore s i p) ∧
      (∀ a, (∀ i ∈ vetIslands u, a ≠ Reg.ISLAND_VCORE i) → rd (setPoint s u r p) a = rd s a) ∧
      (setPoint s u r p).vets.requests = s.vets.requests := by
  have hvets : ((vetIslands u).foldl (fun s i => wr s (Reg.ISLAND_VCORE i) (pointVcore s i p)) s).vets = s.vets :=
    vets_of_aside (P := besides [.vets]) (aside_foldl _ s _ (fun s i => by simp) _) (by simp)
  unfold setPoint
  refine ⟨?_, fun i hi => ?_, fun a ha => ?_, ?_⟩
  · rw [vetRun, setVet, modVets_vets, Tab.find_set, if_pos rfl]
  · rw [setVet, rd_modVets, vcore_pointVcores, if_pos hi]
  · rw [setVet, rd_modVets]
    exact rd_foldl_of_keep (fun s i hi => by rw [rd_wr, if_neg (ha i hi)]) s
  · rw [setVet, modVets_vets, hvets]

/-! ## A unit taken out for a vet -/

theorem aside_takeOut {P : Piece → Bool} (s : State) (u : Nat) (hP : Traffic P) (h0902 : P (.obj 0x0902) = true)
    (h0A00 : P (.obj 0x0A00) = true) (h0C00 : P (.obj 0x0C00) = true) (h0C01 : P (.obj 0x0C01) = true)
    (h0D04 : P (.obj 0x0D04) = true) (hHomeMoved : P (.record Code.HOME_MOVED) = true)
    (hTeamFailed : P (.record Code.TEAM_FAILED) = true) (hTeamReopened : P (.record Code.TEAM_REOPENED) = true)
    (hYokeFallback : P (.record Code.YOKE_FALLBACK) = true) (hcoll : P .coll = true) (htwin : P .twin = true) :
    aside P (takeOut s u) = aside P s := by
  unfold takeOut
  extract_lets i
  split
  · refine aside_foldl P s _ (fun s k => ?_) _
    dsimp only
    split
    · exact aside_wr s h0C00 _
    · rfl
  · have hout : aside P (wr s (Reg.YOKE_STATE (vetIndex u)) 2) = aside P s := aside_wr s h0C01 _
    split
    · exact (aside_yokeLeft P _ _ hYokeFallback hcoll).trans hout
    · exact hout
  · simp [hP, h0902, h0A00, h0D04, hHomeMoved, hTeamFailed, hTeamReopened, hcoll, htwin]
  · simp [hP, h0D04]

/-- The vets' and the islands' elements, and the vets themselves, through a unit's leaving. -/
theorem takeOut_kept (s : State) (u : Nat) : (takeOut s u).vets = s.vets ∧
    ∀ a : Addr, a.obj = 0x1001 ∨ a.obj = 0x0101 → rd (takeOut s u) a = rd s a := by
  refine ⟨vets_of_aside (P := besides [.vets]) (aside_takeOut _ _ (by simp) (by simp) (by simp) (by simp) (by simp)
    (by simp) (by simp) (by simp) (by simp) (by simp) (by simp) (by simp)) (by simp), fun a ha => ?_⟩
  refine rd_of_besides (kept := [.obj 0x1001, .obj 0x0101]) (aside_takeOut _ _ (by simp) (by simp) (by simp)
    (by simp) (by simp) (by simp) (by simp) (by simp) (by simp) (by simp) (by simp) (by simp)) ?_
  rcases ha with h | h <;> simp [h]

/-- The run that a start makes. -/
def newVetRun (s : State) (u : Nat) (q : VetRequest) : VetRun :=
  { prio := q.prio, trig := if q.commanded then 1 else q.trig, stage := if 2 ≤ vetKind u then 0 else 2,
    vcores := (vetIslands u).map (fun i => rd s (Reg.ISLAND_VCORE i)),
    quarantined := if vetKind u = 0 then quarantineMap s (vetIndex u)
      else if vetKind u = 1 then boolBit (decide (rd s (Reg.YOKE_STATE (vetIndex u)) = 3))
      else if vetKind u = 2 then boolBit (s.lattice.outVertices.contains (vetIndex u))
      else if vetKind u = 3 then boolBit (s.lattice.outFacets.contains (vetIndex u)) else 0,
    packSeq := rd s Reg.VETPACK_PACK_SEQ, packSlot := rd s Reg.VETPACK_ACTIVE_SLOT }

theorem startVet_engine {s : State} {u : Nat} (q : VetRequest) (h : vetKind u < 2) : startVet s u q =
    setPoint (takeOut (wr (setVet s u (newVetRun s u q)) (Reg.VET_STATE u) 3) u) u (newVetRun s u q) 1 := by
  have hkind : ¬2 ≤ vetKind u := by omega
  unfold startVet newVetRun
  simp only [hkind, decide_false, Bool.false_eq_true, if_false]

theorem startVet_ports {s : State} {u : Nat} (q : VetRequest) (h : 2 ≤ vetKind u) : startVet s u q =
    takeOut (wr (setVet s u (newVetRun s u q)) (Reg.VET_STATE u) 2) u := by
  unfold startVet newVetRun
  simp only [h, decide_true, if_true]

/-- The vets with a unit's request taken off the list. -/
def requestTaken (u : Nat) (s : State) : State :=
  modVets s (fun v => { v with requests := Tab.del v.requests u })

section
variable {s : State} {u : Nat} {q : VetRequest} (hq : Tab.find s.vets.requests u = some q) (hidle : vetRun s u = none)
  (hfirst : s.vets.requests.all
    (fun e => !vetBefore e (u, q) || e.2.denied || decide (vetMay s e.1 e.2 = .wait)) = true)
include hq hidle hfirst

/-- A request that comes first and need not wait is judged. -/
theorem doVetStart_judged (hmay : vetMay s u q ≠ .wait) (scan granted : Bool) : doVetStart u scan granted s =
    if vetMay s u q = .refuse then endVet (requestTaken u s) u 5 0 6 (rd s Reg.VETPACK_PACK_SEQ) 0
    else if granted = false then
      modVets s (fun v => { v with requests := Tab.set v.requests u { q with denied := true } })
    else if vetKind u ≠ 4 ∧ scan = false ∧ (rd s Reg.VETPACK_KINDS).testBit (vetKind u) = false then
      endVet (requestTaken u s) u 6 0 7 (rd s Reg.VETPACK_PACK_SEQ) 0
    else startVet (requestTaken u s) u q := by
  unfold doVetStart
  rw [hq]
  dsimp only
  rw [hfirst, if_neg (by simp [hidle, hmay])]
  rfl

theorem doVetStart_granted (hmay : vetMay s u q = .start) :
    doVetStart u true true s = startVet (requestTaken u s) u q := by
  rw [doVetStart_judged hq hidle hfirst (by rw [hmay]; exact nofun), hmay, if_neg nofun, if_neg nofun, if_neg (by simp)]

theorem doVetStart_denied (hmay : vetMay s u q = .start) (scan : Bool) : doVetStart u scan false s =
    modVets s (fun v => { v with requests := Tab.set v.requests u { q with denied := true } }) := by
  rw [doVetStart_judged hq hidle hfirst (by rw [hmay]; exact nofun), hmay, if_neg nofun, if_pos rfl]

theorem doVetStart_refused (hmay : vetMay s u q = .refuse) (scan granted : Bool) :
    doVetStart u scan granted s = endVet (requestTaken u s) u 5 0 6 (rd s Reg.VETPACK_PACK_SEQ) 0 := by
  rw [doVetStart_judged hq hidle hfirst (by rw [hmay]; exact nofun), if_pos hmay]

end

theorem requests_requestTaken (u : Nat) (s : State) : Tab.find (requestTaken u s).vets.requests u = none := by
  rw [requestTaken, modVets_vets, Tab.find_del, if_pos rfl]

/-- R466: an aborted run, and the state its unit shows. -/
theorem abortVet_eq {s : State} {u : Nat} {r : VetRun} (hrun : vetRun s u = some r) (hstage : r.stage ≠ 4)
    (cause : Nat) : abortVet u cause s =
      wr (setVet s u { r with stage := 4, result := 4, cause := cause }) (Reg.VET_STATE u) 4 := by
  unfold abortVet
  rw [hrun]
  exact if_neg hstage

theorem vetRun_setVet (s : State) (u : Nat) (r : VetRun) : vetRun (setVet s u r) u = some r := by
  rw [vetRun, setVet, modVets_vets, Tab.find_set, if_pos rfl]

/-- Settles O44: by what a request, an abort, a start and a refusal leave. -/
theorem vetRequests : Obligations.VetRequests := by
  unfold Obligations.VetRequests
  refine ⟨fun u s hup hex hnone hidle => ?_, fun u q s hup hex hq => ?_, fun u s hup hnone hst => ?_,
    fun u r s hup hrun hstage => ?_, fun u d s hex hper hlast hdue hnone hidle => ?_,
    fun u q s hex hper hq hperiodic hover hdue => ?_, fun u x s hx htime hnone => ?_, fun u x s hx htime hnone => ?_,
    fun u q s hq hidle hmay hkind hfirst => ?_, fun u q s hq hidle hmay hkind hfirst => ?_,
    fun u q scan s hq hidle hmay hfirst => ?_, fun u q scan granted s hq hidle hmay hfirst => ?_⟩
  · refine ⟨_, next_eq ((written_of_up hup _).trans (if_pos hex)), ?_, fun a ha => ?_, find_vetRequest_new hnone 2 1⟩
    · rw [rd_vetRequest, if_pos ⟨rfl, hidle⟩]
    · rw [rd_vetRequest, if_neg fun h => ha h.1]
  · refine ⟨_, next_eq ((written_of_up hup _).trans (if_pos hex)), (find_vetRequest_joined hq 2 1).trans ?_⟩
    simp
  · refine ⟨wr (requestTaken u s) (Reg.VET_STATE u) 0, finish_eq ((written_of_up hup _).trans ?_), ?_,
      requests_requestTaken u s, fun a ha => ?_⟩
    · unfold doVetWithdraw
      rw [hnone]
      exact if_pos hst
    · rw [rd_wr, if_pos rfl]
    · rw [rd_wr, if_neg ha, requestTaken, rd_modVets]
  · refine ⟨_, finish_eq ((written_of_up hup _).trans (?_ : _ = abortVet u 4 s)), ?_, ?_⟩
    · unfold doVetWithdraw
      rw [hrun]
    · rw [abortVet_eq hrun hstage, rd_wr, if_pos rfl]
    · rw [abortVet_eq hrun hstage, vetRun, wr_vets, ← vetRun, vetRun_setVet]
  · set t := modVets s (fun v => { v with dues := Tab.put 0 v.dues u (d + 1) }) with ht
    refine ⟨vetRequest t u 3 3, next_eq ?_, ?_, ?_, find_vetRequest_new (s := t) hnone 3 3⟩
    · unfold doPeriodicVet
      rw [if_neg (by simp [hex, hper]), if_pos rfl, hlast]
      exact if_neg (Nat.not_lt.mpr hdue)
    · rw [rd_vetRequest, if_pos ⟨rfl, hidle⟩]
    · obtain ⟨q, hvets, -⟩ := vets_vetRequest t u 3 3
      rw [hvets, ht]
      simp only [modVets_vets, Tab.get_put_self]
  · refine ⟨_, next_eq (?_ : _ = raise (modVets s (fun v => { v with
      requests := Tab.set v.requests u { q with overdue := true } })) Code.VET_OVERDUE (vetFacet u) [(24, u.val)]), ?_,
      rfl⟩
    · unfold doPeriodicVet
      rw [if_neg (by simp [hex, hper]), if_neg (by simp), hq]
      exact if_neg (by simp [hperiodic, hover, hdue])
    · rw [raise_vets, modVets_vets, Tab.find_set, if_pos rfl]
  · set t := modVets s (fun v => { v with retry := Tab.del v.retry u }) with ht
    obtain ⟨q, hvets, -⟩ := vets_vetRequest t u x.1 x.2.1
    refine ⟨vetRequest t u x.1 x.2.1, _, next_eq ?_, ?_, find_vetRequest_new (s := t) hnone _ _, rfl, rfl⟩
    · unfold doVetRetry
      rw [hx]
      exact if_neg (Nat.not_lt.mpr htime)
    · rw [hvets, ht]
      exact (Tab.find_del ..).trans (if_pos rfl)
  · set t := modVets s (fun v => { v with recheck := Tab.del v.recheck u }) with ht
    obtain ⟨q, hvets, -⟩ := vets_vetRequest t u x.1 x.2.1
    refine ⟨vetRequest t u x.1 x.2.1, _, next_eq ?_, ?_, find_vetRequest_new (s := t) hnone _ _, rfl, rfl⟩
    · unfold doVetRecheck
      rw [hx]
      exact if_neg (Nat.not_lt.mpr htime)
    · rw [hvets, ht]
      exact (Tab.find_del ..).trans (if_pos rfl)
  · set v := requestTaken u s with hv
    set w := wr (setVet v u (newVetRun v u q)) (Reg.VET_STATE u) 3 with hw
    obtain ⟨hvets, hread⟩ := takeOut_kept w u
    obtain ⟨hrun, hcores, hother, hrequests⟩ := setPoint_spec (takeOut w u) u (newVetRun v u q) 1
    refine ⟨_, _, finish_eq ((doVetStart_granted hq hidle hfirst hmay).trans (startVet_engine q hkind)), ?_, ?_, hrun,
      ?_, rfl, rfl, fun i hi => ?_⟩
    · rw [hother _ (by simp), hread _ (.inl rfl), hw, rd_wr, if_pos rfl]
    · rw [hrequests, hvets]
      exact requests_requestTaken u s
    · exact if_neg (Nat.not_le.mpr hkind)
    · rw [hcores i hi, pointVcore, hread _ (.inr rfl), hw, rd_wr, if_neg (by simp), setVet, rd_modVets, hv,
        requestTaken, rd_modVets, show pointPercent 1 = 100 from rfl]
      omega
  · refine ⟨_, finish_eq ((doVetStart_granted hq hidle hfirst hmay).trans (startVet_ports q hkind)), ?_⟩
    rw [(takeOut_kept ..).2 _ (.inl rfl), rd_wr, if_pos rfl]
  · exact finish_eq (doVetStart_denied hq hidle hfirst hmay scan)
  · obtain ⟨-, hresult, -, hstate, hruns⟩ :=
      endVet_spec (requestTaken u s) u 5 0 6 (rd s Reg.VETPACK_PACK_SEQ) 0
    refine ⟨_, finish_eq (doVetStart_refused hq hidle hfirst hmay scan granted), hresult, ?_, hruns⟩
    rw [hstate, restState, requests_requestTaken]
    rfl

end Sys2Proof.Machine

/-! # Vet runs (O45) -/

namespace Sys2Proof.Machine

/-! ## The end of a drain -/

/-- R481: a unit whose drain is over stands at its first test. -/
theorem drainOver_spec (s : State) (u : Nat) (r : VetRun) :
    rd (drainOver s u r) (Reg.VET_STATE u) = 3 ∧ ∃ x, vetRun (drainOver s u r) u = some x ∧ x.stage = 2 ∧
      x.point = if vetKind u = 4 then 0 else 1 := by
  unfold drainOver
  extract_lets ports names s1 s2 s3
  obtain ⟨hrun, -, hother, -⟩ := setPoint_spec s3 u { r with stage := 2 } (if vetKind u = 4 then 0 else 1)
  refine ⟨?_, _, hrun, rfl, rfl⟩
  rw [hother _ (by simp)]
  simp only [s3]
  rw [rd_wr, if_pos rfl]

section
variable {s : State} {u : Nat} {r : VetRun} (hrun : vetRun s u = some r)
include hrun

theorem doVetDrainDone_over (hstage : r.stage < 2) (hdrained : allDrained s (vetPorts s u) = true)
    (hacked : r.stage = 1 ∨ allAcked s (vetPorts s u) = true) : doVetDrainDone u s = drainOver s u r := by
  unfold doVetDrainDone
  rw [hrun]
  dsimp only
  rw [if_neg (by omega), if_neg (by simp [hdrained]), if_neg]
  rintro ⟨hzero, hnone⟩
  rcases hacked with h | h
  · omega
  · rw [hnone] at h
    exact Bool.false_ne_true h

theorem doVetDrainLimit_acks (hstage : r.stage = 0) : doVetDrainLimit u s = setVet s u { r with stage := 1 } := by
  unfold doVetDrainLimit
  rw [hrun]
  exact if_pos hstage

theorem doVetDrainLimit_over (hstage : r.stage = 1) : doVetDrainLimit u s =
    drainOver (repinPorts ((vetPorts s u).foldl (fun s p => flushPort s p) s) (vetPorts s u)) u r := by
  unfold doVetDrainLimit
  rw [hrun]
  dsimp only
  rw [if_neg (by omega), if_pos hstage]

/-! ## A point that is done -/

/-- The run with a failure of its point. -/
def pointFailed (r : VetRun) (localised : Nat) : VetRun :=
  { r with passed := false, failed := r.failed ||| 2 ^ (r.point - 1), localised := r.localised ||| localised }

theorem doVetPoint_next (hstage : r.stage = 2) (hkind : vetKind u ≠ 4) (hfirst : r.failed.testBit 0 = false)
    {p : Nat} {heat : Bool} (hnext : nextPoint (vetKind u) r.point = some (p, heat)) (localised : Nat) :
    doVetPoint u true localised s = setPoint s u (if heat then { r with stage := 3 } else r) p := by
  unfold doVetPoint
  rw [hrun]
  dsimp only
  rw [if_neg (by simp [hstage]), if_neg hkind, if_pos rfl, if_neg (by simp [hfirst]), hnext]

theorem doVetPoint_last (hstage : r.stage = 2) (hkind : vetKind u ≠ 4) (hfirst : r.failed.testBit 0 = false)
    (hnext : nextPoint (vetKind u) r.point = none) (localised : Nat) :
    doVetPoint u true localised s = holdResults s u r := by
  unfold doVetPoint
  rw [hrun]
  dsimp only
  rw [if_neg (by simp [hstage]), if_neg hkind, if_pos rfl, if_neg (by simp [hfirst]), hnext]

theorem doVetPoint_first (hstage : r.stage = 2) (hkind : vetKind u ≠ 4) (hpoint : r.point = 1) (localised : Nat) :
    doVetPoint u false localised s = holdResults s u (pointFailed r localised) := by
  unfold doVetPoint
  rw [hrun]
  dsimp only
  rw [if_neg (by simp [hstage]), if_neg hkind, if_neg Bool.false_ne_true, if_pos]
  · rfl
  · simp [hpoint]

theorem doVetPoint_row (hstage : r.stage = 2) (hkind : vetKind u = 4) (hside : vetIndex u % 32 < 16) (passed : Bool)
    (localised : Nat) : doVetPoint u passed localised s =
      holdResults s u { r with localised := localised, passed := passed && decide (localised = 0) } := by
  unfold doVetPoint
  rw [hrun]
  dsimp only
  rw [if_neg (by simp [hstage]), if_pos hkind, if_neg (by omega)]

end

/-- R485: the result that holds once a sequence is over. -/
def heldResult (s : State) (u : Nat) (r : VetRun) : Nat :=
  if r.failed.testBit 0 then 3 else if r.passed then 1 else if vetKind u = 4 then 3
  else if 1 ≤ rd s (Reg.VET_MARGINAL_RUN u) then 3 else 2

theorem holdResults_spec (s : State) (u : Nat) (r : VetRun) : rd (holdResults s u r) (Reg.VET_STATE u) = 4 ∧
    vetRun (holdResults s u r) u = some { r with stage := 4, result := heldResult s u r } := by
  unfold holdResults
  refine ⟨?_, ?_⟩
  · rw [rd_wr, if_pos rfl]
  · rw [vetRun, wr_vets, ← vetRun, vetRun_setVet]
    rfl

/-! ## The end of a sequence -/

theorem now_applyResult (s : State) (u : Nat) (r : VetRun) : now (applyResult s u r) = now s :=
  now_of_time (time_of_outside (P := fun _ => false) (outside_applyResult ..) rfl)

/-- R466: an aborted sequence over, with its retry noted. -/
def vetAborted (s : State) (u : Nat) (r : VetRun) : State :=
  let s := applyResult s u r
  if r.trig = 3 then s
  else modVets s (fun v => { v with retry := Tab.set v.retry u (r.prio, r.trig, now s) })

theorem doVetAbortStop_eq {s : State} {u : Nat} {r : VetRun} (hrun : vetRun s u = some r) (hstage : r.stage = 4)
    (hresult : r.result = 4) :
    doVetAbortStop u s = endVet (vetAborted s u r) u 4 r.failed r.cause r.packSeq 0 := by
  unfold doVetAbortStop
  rw [hrun]
  dsimp only
  rw [if_neg (by simp [hstage, hresult])]
  rfl

/-- R486: a sequence that ran over, with its recheck noted. -/
def vetEnding (s : State) (u : Nat) (r : VetRun) : State :=
  let s := applyResult (if r.result = 2 then raiseFloors s u r else s) u r
  if r.result = 2 then modVets s (fun v => { v with recheck := Tab.set v.recheck u (2, 2, now s) }) else s

theorem doVetEnd_eq {s : State} {u : Nat} {r : VetRun} (hrun : vetRun s u = some r) (hstage : r.stage = 4)
    (hresult : r.result ≠ 4) : doVetEnd u s = endVet (vetEnding s u r) u r.result r.failed 0 r.packSeq
      (if vetKind u = 0 then quarantineMap (vetEnding s u r) (vetIndex u) else 0) := by
  unfold doVetEnd
  rw [hrun]
  dsimp only
  rw [if_neg (by simp [hstage, hresult])]
  rfl

theorem restState_congr {s t : State} (h : t.vets.requests = s.vets.requests) (u : Nat) :
    restState t u = restState s u := by
  rw [restState, h, restState]

theorem endVet_aborted_record (s : State) (u points cause pack map : Nat) :
    ⟨Code.VET_ABORTED, vetFacet u, recordData [(24, u), (8, 4), (8, cause)]⟩ ∈
      (endVet s u 4 points cause pack map).raised := by
  unfold endVet
  dsimp only
  rw [if_neg (by decide), raise_raised]
  exact List.mem_append_right _ (List.mem_singleton_self _)

/-- Settles O45: by the branch of each report, and what a point, a drain and an end leave. -/
theorem vetRuns : Obligations.VetRuns := by
  unfold Obligations.VetRuns
  refine ⟨fun u r s hrun hstage hdrained hacked => ?_, fun u r s hrun hstage => ?_, fun u r s hrun hstage => ?_,
    fun u r p s hrun hstage hkind hfirst hnext => ?_, fun u r p s hrun hstage hkind hfirst hnext => ?_,
    fun u r n s hrun hstage hkind hpoint => ?_, fun u r s hrun hstage hkind hfailed hpassed hnext => ?_,
    fun u r passed n s hrun hstage hkind hside => ?_, fun u r s hrun hstage => ?_, fun u r s hrun hstage hany => ?_,
    fun u r s hrun hstage hresult => ?_, fun u r s hrun hstage hresult => ?_⟩
  · obtain ⟨hstate, x, hx, hxstage, hxpoint⟩ := drainOver_spec s u r
    exact ⟨_, x, finish_eq (doVetDrainDone_over hrun hstage hdrained hacked), hstate, hx, hxstage, hxpoint⟩
  · exact finish_eq (doVetDrainLimit_acks hrun hstage)
  · obtain ⟨hstate, x, hx, hxstage, -⟩ :=
      drainOver_spec (repinPorts ((vetPorts s u).foldl (fun s p => flushPort s p) s) (vetPorts s u)) u r
    exact ⟨_, x, finish_eq (doVetDrainLimit_over hrun hstage), hstate, hx, hxstage⟩
  · obtain ⟨hset, hcores, hother, -⟩ := setPoint_spec s u r p
    exact ⟨setPoint s u r p, finish_eq (doVetPoint_next hrun hstage hkind hfirst hnext _), hset, hcores, hother⟩
  · obtain ⟨hset, -, -, -⟩ := setPoint_spec s u { r with stage := 3 } p
    exact ⟨_, finish_eq (doVetPoint_next hrun hstage hkind hfirst hnext _), hset⟩
  · obtain ⟨hstate, hset⟩ := holdResults_spec s u (pointFailed r n.toNat)
    refine ⟨_, _, finish_eq (doVetPoint_first hrun hstage hkind hpoint _), hstate, hset, rfl, ?_⟩
    refine if_pos ?_
    simp [pointFailed, hpoint]
  · obtain ⟨hstate, hset⟩ := holdResults_spec s u r
    refine ⟨_, finish_eq (doVetPoint_last hrun hstage hkind (by simp [hfailed]) hnext _), hstate, hset.trans ?_⟩
    rw [heldResult, if_neg (by simp [hfailed]), if_pos hpassed]
  · obtain ⟨hstate, hset⟩ := holdResults_spec s u
      { r with localised := n.toNat, passed := passed && decide (n.toNat = 0) }
    exact ⟨_, _, finish_eq (doVetPoint_row hrun hstage hkind hside passed _), hstate, hset, rfl, rfl⟩
  · refine next_eq (?_ : _ = setVet s u { r with stage := 2, heated := true })
    unfold doVetHeat
    rw [hrun]
    exact if_pos hstage
  · refine ⟨_, next_eq ((if_pos hany).trans (abortVet_eq hrun hstage 2)), ?_, ?_, fun a ha => ?_⟩
    · rw [rd_wr, if_pos rfl]
    · rw [vetRun, wr_vets, ← vetRun, vetRun_setVet]
    · rw [rd_wr, if_neg ha, setVet, rd_modVets]
  · obtain ⟨hvets, hlast, -, hstate, -⟩ := endVet_spec (vetAborted s u r) u 4 r.failed r.cause r.packSeq 0
    refine ⟨_, finish_eq (doVetAbortStop_eq hrun hstage hresult), ?_, hlast, ?_, fun htrig => ?_,
      endVet_aborted_record ..⟩
    · rw [vetRun, hvets]
      exact (Tab.find_del ..).trans (if_pos rfl)
    · rw [hstate]
      exact (restState_congr (by rw [hvets]) u).symm
    · rw [hvets, vetAborted]
      dsimp only
      rw [if_neg htrig, modVets_vets, now_applyResult, Tab.find_set, if_pos rfl]
  · obtain ⟨hvets, hlast, hpoints, hstate, -⟩ := endVet_spec (vetEnding s u r) u r.result r.failed 0 r.packSeq
      (if vetKind u = 0 then quarantineMap (vetEnding s u r) (vetIndex u) else 0)
    refine ⟨_, finish_eq (doVetEnd_eq hrun hstage hresult), ?_, hlast, hpoints, ?_, fun hmarginal => ?_⟩
    · rw [vetRun, hvets]
      exact (Tab.find_del ..).trans (if_pos rfl)
    · rw [hstate]
      exact (restState_congr (by rw [hvets]) u).symm
    · have hnow : now (raiseFloors s u r) = now s :=
        now_of_time (time_of_outside (P := fun _ => false) (outside_raiseFloors ..) rfl)
      rw [hvets, vetEnding]
      dsimp only
      rw [if_pos hmarginal, if_pos hmarginal, modVets_vets, now_applyResult, hnow, Tab.find_set, if_pos rfl]

end Sys2Proof.Machine

/-! # The management transports (O47) -/

namespace Sys2Proof.Machine

theorem requests_raiseTo (s : State) (a : Addr) (v : Nat) : (raiseTo s a v).requests = s.requests := by
  unfold raiseTo
  split <;> rfl

section
variable {s : State} {m : Nat} (hup : s.groom.up = true)
include hup

theorem doMgmtPacket_disabled (hoff : rd s (Reg.MGMTPORT_ENABLE m) = 0) (p : MgmtPacket) :
    doMgmtPacket m p s = discardPacket m s :=
  (if_neg (by simp [hup])).trans (if_pos hoff)

variable (hon : rd s (Reg.MGMTPORT_ENABLE m) ≠ 0)
include hon

theorem doMgmtPacket_other : doMgmtPacket m .other s = discardPacket m s :=
  (if_neg (by simp [hup])).trans (if_neg hon)

theorem doMgmtPacket_echo (dst src : Nat) (bytes : List Byte) : doMgmtPacket m (.echoRequest dst src bytes) s =
    if (portAddresses s m).contains dst then emit s (.packet m src bytes) else discardPacket m s :=
  (if_neg (by simp [hup])).trans (if_neg hon)

theorem doMgmtPacket_solicitation (src target : Nat) : doMgmtPacket m (.neighborSolicitation src target) s =
    if (portAddresses s m).contains target then emit s (.advertisement m src target) else s :=
  (if_neg (by simp [hup])).trans (if_neg hon)

theorem doMgmtPacket_udp (dst src port to_ : Nat) (frag good : Bool) (bytes : List Byte) :
    doMgmtPacket m (.udp dst src port to_ frag good bytes) s =
      if frag = true ∨ good = false ∨ to_ ≠ 4731 ∨ (portAddresses s m).contains dst = false then discardPacket m s
      else if requestRoom s = true then enqueueRequest s ⟨m, src, port, 0, 0, bytes⟩
      else inc s Reg.SIRGO_DROP_QUEUE 64 :=
  (if_neg (by simp [hup])).trans (if_neg hon)

/-- R511: a good datagram to the port at one of its addresses. -/
theorem doMgmtPacket_request {dst : Nat} (hown : (portAddresses s m).contains dst = true) (src port : Nat)
    (bytes : List Byte) : doMgmtPacket m (.udp dst src port 4731 false true bytes) s =
      if s.requests.length < 128 then enqueueRequest s ⟨m, src, port, 0, 0, bytes⟩
      else inc s Reg.SIRGO_DROP_QUEUE 64 := by
  rw [doMgmtPacket_udp hup hon, if_neg (by simp only [hown]; simp), requestRoom, hup]
  simp only [Bool.true_and, decide_eq_true_eq]

end

/-- A discarded packet is counted, and nothing else happens. -/
theorem discardPacket_spec (m : Nat) (s : State) :
    rd (discardPacket m s) (Reg.MGMTPORT_DISCARDS m) = (rd s (Reg.MGMTPORT_DISCARDS m) + 1) % 2 ^ 64 ∧
      (discardPacket m s).requests = s.requests ∧ (discardPacket m s).outputs = s.outputs ∧
      ∀ a, a ≠ Reg.MGMTPORT_DISCARDS m → rd (discardPacket m s) a = rd s a := by
  refine ⟨?_, rfl, rfl, fun a ha => ?_⟩
  · rw [discardPacket, rd_inc, if_pos rfl]
  · rw [discardPacket, rd_inc, if_neg ha]

/-- Settles O47: by the branch each packet takes. -/
theorem sirgoTransports : Obligations.SirgoTransports := by
  unfold Obligations.SirgoTransports
  refine ⟨fun m dst src port bytes s hup hon hown hroom => ?_, fun m dst src port bytes s hup hon hown hfull => ?_,
    fun m p s hup hbad => ?_, fun m dst src bytes s hup hon hown => ?_, fun m src target s hup hon hown => ?_,
    fun m p s hdown => ?_, fun m up s hnew => ?_⟩
  · refine ⟨_, next_eq ((doMgmtPacket_request hup hon hown src port bytes).trans (if_pos hroom)), ?_, ?_,
      fun a ha => ?_⟩
    · rw [enqueueRequest, requests_raiseTo]
    · rw [enqueueRequest, rd_raiseTo, if_pos rfl]
      rfl
    · rw [enqueueRequest, rd_raiseTo, if_neg ha]
      rfl
  · refine ⟨_, next_eq ((doMgmtPacket_request hup hon hown src port bytes).trans (if_neg (Nat.not_lt.mpr hfull))), ?_,
      rfl, fun a ha => ?_⟩
    · rw [rd_inc, if_pos rfl]
    · rw [rd_inc, if_neg ha]
  · refine ⟨_, next_eq ?_, discardPacket_spec m s⟩
    by_cases hoff : rd s (Reg.MGMTPORT_ENABLE m.val) = 0
    · exact doMgmtPacket_disabled hup hoff p
    rcases hbad with h | rfl | ⟨dst, src, bytes, rfl, hforeign⟩ | ⟨dst, src, port, to_, frag, good, bytes, rfl, hudp⟩
    · exact absurd h hoff
    · exact doMgmtPacket_other hup hoff
    · rw [doMgmtPacket_echo hup hoff, hforeign, if_neg Bool.false_ne_true]
    · rw [doMgmtPacket_udp hup hoff, if_pos (by tauto)]
  · exact next_eq ((doMgmtPacket_echo hup hon dst src bytes).trans (if_pos hown))
  · exact next_eq ((doMgmtPacket_solicitation hup hon src target).trans (if_pos hown))
  · exact next_eq (if_pos hdown)
  · refine ⟨_, next_eq (if_neg hnew), ?_, rfl, fun a ha => ?_⟩
    · rw [rd_raise, rd_wr, if_pos rfl]
    · rw [rd_raise, rd_wr, if_neg ha]

end Sys2Proof.Machine

/-! # The studbook's records (O46) -/

namespace Sys2Proof.Machine

/-! ## Bytes written and read back -/

theorem Memory.read_writeBytes_outside (bs : List Byte) (m : Memory) (a x : Nat) (h : x < a ∨ a + bs.length ≤ x) :
    (m.writeBytes a bs).read x = m.read x := by
  induction bs generalizing m a with
  | nil => rfl
  | cons b bs ih =>
    rw [List.length_cons] at h
    rw [Memory.writeBytes, ih _ _ (by omega), Memory.read_write_ne _ _ (by omega)]

theorem Memory.readBytes_writeBytes (bs : List Byte) (m : Memory) (a : Nat) :
    (m.writeBytes a bs).readBytes a bs.length = bs := by
  induction bs generalizing m a with
  | nil => rfl
  | cons b bs ih =>
    rw [List.length_cons, Memory.readBytes, Memory.writeBytes, Memory.read_writeBytes_outside _ _ _ _ (by omega),
      Memory.read_write_self, ih]

/-! ## One record -/

/-- The studbook as a record leaves it. -/
def bookWritten (s : State) (code src data summary : Nat) : Book :=
  let seq := rd s Reg.STUDBOOK_NEXT_SEQ
  let alert := rd s (Reg.CODECFG_ALERT code)
  { s.book with
    ring := Tab.set s.book.ring (seq % 65536) (recordBits seq code summary alert src data),
    last := if summary = 0 then Tab.put 0 s.book.last code seq else s.book.last,
    alert := if alert = 1 then some seq else s.book.alert,
    wrote := Tab.set s.book.wrote seq (now s) }

theorem book_raiseTo (s : State) (a : Addr) (v : Nat) : (raiseTo s a v).book = s.book := by
  unfold raiseTo
  split <;> rfl

/-- The record in the ring, with the bounds and the code's count moved on. -/
def recordCounted (s : State) (code src data summary : Nat) : State :=
  inc (raiseTo (wr (modBook s (fun _ => bookWritten s code src data summary)) Reg.STUDBOOK_NEXT_SEQ
    (rd s Reg.STUDBOOK_NEXT_SEQ + 1)) Reg.STUDBOOK_OLDEST (rd s Reg.STUDBOOK_NEXT_SEQ + 1 - 65536))
    (Reg.CODECFG_WRITTEN code) 64

theorem writeRecord_eq (s : State) (code src data summary : Nat) : writeRecord s code src data summary =
    if summary = 0 ∧ (code = Code.VET_RESULT ∨ code = Code.VET_ABORTED) then
      wr (recordCounted s code src data summary) (Reg.VET_LAST_SEQ (data / 2 ^ 136)) (rd s Reg.STUDBOOK_NEXT_SEQ)
    else recordCounted s code src data summary := by
  unfold writeRecord recordCounted bookWritten modBook
  rfl

theorem book_recordCounted (s : State) (code src data summary : Nat) :
    (recordCounted s code src data summary).book = bookWritten s code src data summary := by
  rw [recordCounted, inc, wr_book, book_raiseTo, wr_book, modBook_book]

theorem raised_recordCounted (s : State) (code src data summary : Nat) :
    (recordCounted s code src data summary).raised = s.raised := by
  rw [recordCounted, inc, wr_raised, raiseTo_raised, wr_raised, modBook_raised]

theorem rd_recordCounted (s : State) (code src data summary : Nat) {a : Addr} (ha : a ≠ Reg.STUDBOOK_OLDEST) :
    rd (recordCounted s code src data summary) a =
      if a = Reg.CODECFG_WRITTEN code then (rd s (Reg.CODECFG_WRITTEN code) + 1) % 2 ^ 64
      else if a = Reg.STUDBOOK_NEXT_SEQ then rd s Reg.STUDBOOK_NEXT_SEQ + 1 else rd s a := by
  rw [recordCounted, rd_inc, rd_raiseTo, if_neg (c := _ = Reg.STUDBOOK_OLDEST) (by simp), rd_wr,
    if_neg (c := _ = Reg.STUDBOOK_NEXT_SEQ) (by simp), rd_modBook, rd_raiseTo, if_neg ha, rd_wr, rd_modBook]

theorem rd_writeRecord (s : State) (code src data summary : Nat) {a : Addr} (hvet : a.obj ≠ 0x1001)
    (ha : a ≠ Reg.STUDBOOK_OLDEST) : rd (writeRecord s code src data summary) a =
      if a = Reg.CODECFG_WRITTEN code then (rd s (Reg.CODECFG_WRITTEN code) + 1) % 2 ^ 64
      else if a = Reg.STUDBOOK_NEXT_SEQ then rd s Reg.STUDBOOK_NEXT_SEQ + 1 else rd s a := by
  rw [writeRecord_eq]
  split
  · rw [rd_wr, if_neg (by rintro rfl; exact hvet rfl), rd_recordCounted _ _ _ _ _ ha]
  · exact rd_recordCounted _ _ _ _ _ ha

theorem book_writeRecord (s : State) (code src data summary : Nat) :
    (writeRecord s code src data summary).book = bookWritten s code src data summary := by
  rw [writeRecord_eq]
  split
  · rw [wr_book, book_recordCounted]
  · exact book_recordCounted ..

theorem raised_writeRecord (s : State) (code src data summary : Nat) :
    (writeRecord s code src data summary).raised = s.raised := by
  rw [writeRecord_eq]
  split
  · rw [wr_raised, raised_recordCounted]
  · exact raised_recordCounted ..

/-! ## Tokens -/

theorem codeTokens_congr {s t : State} {code : Nat} (hbook : t.book.tokens = s.book.tokens)
    (hburst : rd t (Reg.CODECFG_BURST code) = rd s (Reg.CODECFG_BURST code)) :
    codeTokens t code = codeTokens s code := by
  rw [codeTokens, hbook, hburst, codeTokens]

theorem codeTokens_of_find {s : State} {code n : Nat} (h : Tab.find s.book.tokens code = some n) :
    codeTokens s code = n := by
  rw [codeTokens, h]

/-- With no summary due, only the solid's bucket is credited. -/
theorem writeSummaries_none {s : State} (h : s.book.due = []) : writeSummaries s = creditSolid s := by
  have hdue : (creditSolid s).book.due = [] := by rw [creditSolid, modBook_book, h]
  unfold writeSummaries
  dsimp only
  rw [hdue, List.foldl_nil, ite_self]

theorem acceptRecord_written {s : State} {r : Raised} (ht : codeTokens s r.code ≠ 0) (hs : s.book.solid ≠ 0) :
    acceptRecord s r = writeRecord (modBook (setTokens s r.code (codeTokens s r.code - 1))
      (fun b => { b with solid := b.solid - 1 })) r.code r.source r.data 0 :=
  if_neg (by simp [ht, hs])

theorem acceptRecord_suppressed {s : State} {r : Raised} (ht : codeTokens s r.code = 0)
    (hroom : rd s (Reg.CODECFG_SUPPRESSED r.code) < 0xFFFFFFFF) : acceptRecord s r =
      wr s (Reg.CODECFG_SUPPRESSED r.code) (rd s (Reg.CODECFG_SUPPRESSED r.code) + 1) := by
  unfold acceptRecord
  dsimp only
  rw [if_pos (.inl ht), suppress, if_pos hroom]

/-- R490: the periods passed added to a code's bucket, and its time moved on. -/
def tokensGained (code : Nat) (s : State) : State :=
  let n := periodsPassed s code
  let s := setTokens s code (min (rd s (Reg.CODECFG_BURST code)) (codeTokens s code + n))
  let at_ := Tab.get 0 s.book.gained code + n * (rd s (Reg.CODECFG_PERIOD_MS code) * 1000000)
  modBook s (fun b => { b with gained := Tab.put 0 b.gained code at_ })

theorem sub_mul_div_eq_zero {x g p : Nat} (h : (x - g) / p ≠ 0) : (x - (g + (x - g) / p * p)) / p = 0 := by
  have hp : 0 < p := Nat.pos_of_ne_zero fun h0 => h (by rw [h0, Nat.div_zero])
  rw [← Nat.sub_sub, Nat.mul_comm, ← Nat.mod_eq_sub]
  exact Nat.div_eq_of_lt (Nat.mod_lt _ hp)

theorem tokensGained_spec {s : State} {code : Nat} (h : periodsPassed s code ≠ 0) :
    codeTokens (tokensGained code s) code =
        min (rd s (Reg.CODECFG_BURST code)) (codeTokens s code + periodsPassed s code) ∧
      periodsPassed (tokensGained code s) code = 0 := by
  constructor
  · exact codeTokens_of_find (by rw [tokensGained, modBook_book, setTokens, modBook_book, Tab.find_set, if_pos rfl])
  · unfold periodsPassed at h
    unfold periodsPassed tokensGained
    dsimp only
    rw [rd_modBook, modBook_book, Tab.get_put_self, setTokens, rd_modBook, modBook_book]
    exact sub_mul_div_eq_zero h

theorem doBucketToken_gained {s : State} {code : Nat} (hcode : definedCodes.contains code = true)
    (hn : periodsPassed s code ≠ 0) : doBucketToken code s = writeSummaries
      (if rd s (Reg.CODECFG_SUPPRESSED code) = 0 ∨ s.book.due.contains code = true then tokensGained code s
      else modBook (tokensGained code s) (fun b => { b with due := b.due ++ [code] })) := by
  unfold doBucketToken
  dsimp only
  rw [if_neg (by simp only [hcode, hn]; simp)]
  rfl

theorem doBucketToken_idle {s : State} {code : Nat} (h : periodsPassed s code = 0) : doBucketToken code s = s :=
  if_pos (.inr h)

theorem book_creditSolid (s : State) : (creditSolid s).book.due = s.book.due ∧
    (creditSolid s).book.ring = s.book.ring ∧ (creditSolid s).book.tokens = s.book.tokens ∧
    (creditSolid s).book.gained = s.book.gained := by
  rw [creditSolid, modBook_book]
  exact ⟨rfl, rfl, rfl, rfl⟩

theorem solid_creditSolid_congr {s t : State} (hsolid : t.book.solid = s.book.solid)
    (hat : t.book.solidAt = s.book.solidAt) (htime : t.time = s.time) :
    (creditSolid t).book.solid = (creditSolid s).book.solid := by
  have hnow := now_of_time htime
  unfold creditSolid
  rw [modBook_book, modBook_book, hsolid, hat, hnow]

/-! ## Summaries -/

/-- R491: a code's summary, and the count it reports begun again. -/
theorem writeSummary_spec {s : State} {code : Nat} (h : s.book.solid ≠ 0) :
    rd (writeSummary s code) (Reg.CODECFG_SUPPRESSED code) = 0 ∧
      rd (writeSummary s code) Reg.STUDBOOK_NEXT_SEQ = rd s Reg.STUDBOOK_NEXT_SEQ + 1 ∧
      (writeSummary s code).book.due = s.book.due.filter (fun c => decide (c ≠ code)) := by
  unfold writeSummary
  rw [if_neg h]
  extract_lets n s1 s2
  refine ⟨?_, ?_, ?_⟩
  · rw [rd_writeRecord _ _ _ _ _ (by simp) (by simp), if_neg (by simp), if_neg (by simp)]
    simp only [s2]
    rw [rd_wr, if_pos rfl]
  · rw [rd_writeRecord _ _ _ _ _ (by simp) (by simp), if_neg (by simp), if_pos rfl]
    simp only [s2, s1]
    rw [rd_wr, if_neg (by simp), rd_modBook]
  · rw [book_writeRecord]
    simp only [bookWritten, s2, s1, wr_book, modBook_book]

/-! ## The program's copies -/

/-- R496: one record put into its slot of the flash, where the slot is not the last of its sector. -/
theorem programRecord_spec {s : State} {q : Nat} (h : q % 2048 ≠ 2047) :
    (programRecord s q).flash =
        s.flash.writeBytes (slotAddr (q % 524288)) (bytesBE 32 (Tab.get 0 s.book.ring (q % 65536))) ∧
      rd (programRecord s q) Reg.STUDBOOK_FLASH_NEXT = q + 1 ∧
      (programRecord s q).book.erasing = s.book.erasing := by
  have hsector : q % 524288 % 2048 ≠ 2047 := by omega
  unfold programRecord
  extract_lets slot r s1 s2 s3 s4
  rw [if_neg hsector]
  have hs3 : s3.flash = s1.flash ∧ rd s3 Reg.STUDBOOK_FLASH_NEXT = q + 1 ∧ s3.book = s.book := by
    simp only [s3]
    split
    · refine ⟨?_, ?_, ?_⟩
      · unfold raiseTo
        split <;> rfl
      · rw [rd_raiseTo, if_neg (by simp)]
        simp only [s2]
        rw [rd_wr, if_pos rfl]
      · rw [book_raiseTo]
        rfl
    · refine ⟨rfl, ?_, rfl⟩
      simp only [s2]
      rw [rd_wr, if_pos rfl]
  obtain ⟨hflash, hnext, hbook⟩ := hs3
  refine ⟨hflash, ?_, (congrArg Book.erasing hbook :)⟩
  simp only [s4]
  rw [rd_modBook, hnext]

/-- The program with exactly one record waiting. -/
theorem persistAll_one {s : State} (hold : rd s Reg.STUDBOOK_OLDEST ≤ rd s Reg.STUDBOOK_FLASH_NEXT)
    (hnext : rd s Reg.STUDBOOK_NEXT_SEQ = rd s Reg.STUDBOOK_FLASH_NEXT + 1) :
    persistAll s = programRecord s (rd s Reg.STUDBOOK_FLASH_NEXT) := by
  unfold persistAll
  dsimp only
  rw [if_pos hold, max_eq_left hold, hnext, Nat.add_sub_cancel_left]
  rfl

theorem doPersist_clean {s : State} (hup : s.groom.up = true) (h : (persistAll s).book.erasing = []) :
    doPersist s = persistAll s := by
  unfold doPersist
  rw [if_neg (by simp [hup])]
  dsimp only
  rw [h]

end Sys2Proof.Machine

/-! # The obligation of the studbook (O46) -/

namespace Sys2Proof.Machine

/-- A record taken from the list, before it is accepted. -/
def recordTaken (rest : List Raised) (s : State) : State := creditSolid { s with raised := rest }

theorem recordTaken_kept (rest : List Raised) (s : State) :
    (recordTaken rest s).raised = rest ∧ (recordTaken rest s).book.ring = s.book.ring ∧
      (recordTaken rest s).book.tokens = s.book.tokens ∧
      (recordTaken rest s).book.solid = (creditSolid s).book.solid ∧
      ∀ a, rd (recordTaken rest s) a = rd s a := by
  have hsolid : (recordTaken rest s).book.solid = (creditSolid s).book.solid :=
    solid_creditSolid_congr (s := s) (t := { s with raised := rest }) rfl rfl rfl
  unfold recordTaken at hsolid ⊢
  refine ⟨?_, ?_, ?_, hsolid, fun a => ?_⟩
  · rw [creditSolid, modBook_raised]
  · rw [creditSolid, modBook_book]
  · rw [creditSolid, modBook_book]
  · rw [creditSolid, rd_modBook]
    rfl

theorem doStudbookRecord_eq {s : State} {r : Raised} {rest : List Raised} (hup : s.groom.up = true)
    (hraised : s.raised = r :: rest) (hdue : s.book.due = []) :
    doStudbookRecord s = acceptRecord (recordTaken rest s) r := by
  unfold doStudbookRecord
  rw [if_neg (by simp [hup]), hraised]
  dsimp only
  rw [writeSummaries_none (s := { s with raised := rest }) hdue]
  rfl

theorem periodsPassed_creditSolid (s : State) (code : Nat) :
    periodsPassed (creditSolid s) code = periodsPassed s code := by
  have hnow : now (creditSolid s) = now s := now_of_time (by rw [creditSolid, modBook_time])
  rw [periodsPassed, hnow, (book_creditSolid s).2.2.2, creditSolid, rd_modBook, periodsPassed]

/-- One summary due, which the solid's bucket has room for. -/
theorem writeSummaries_one {s : State} {code : Nat} (hup : s.groom.up = true) (hdue : s.book.due = [code]) :
    writeSummaries s = writeSummary (creditSolid s) code := by
  have hcredit : (creditSolid s).book.due = [code] := by rw [creditSolid, modBook_book, hdue]
  have hcreditUp : (creditSolid s).groom.up = true := by rw [creditSolid, modBook_groom, hup]
  unfold writeSummaries
  dsimp only
  rw [hcreditUp, if_pos rfl, hcredit, List.foldl_cons, List.foldl_nil]

theorem flashNat_wr (s : State) (a : Addr) (v x n : Nat) : flashNat (wr s a v) x n = flashNat s x n := (rfl)

theorem signedKey_wr (s : State) (a : Addr) (v x : Nat) : signedKey (wr s a v) x = signedKey s x := (rfl)

/-- A good pack loaded: its slot, sequence number, kinds and key. -/
def packLoaded (slot seq kinds key : Nat) (s : State) : State :=
  raise (wr (wr (wr (wr (wr s Reg.VETPACK_RESULT 0) Reg.VETPACK_ACTIVE_SLOT slot) Reg.VETPACK_PACK_SEQ seq)
    Reg.VETPACK_MIN_SEQ seq) Reg.VETPACK_KINDS kinds) Code.VETPACK_LOADED 8 [(64, seq), (8, key), (8, slot)]

theorem packLoaded_spec (slot seq kinds key : Nat) (s : State) :
    rd (packLoaded slot seq kinds key s) Reg.VETPACK_RESULT = 0 ∧ (packLoaded slot seq kinds key s).flash = s.flash ∧
      rd (packLoaded slot seq kinds key s) Reg.VETPACK_ACTIVE_SLOT = slot ∧
      rd (packLoaded slot seq kinds key s) Reg.VETPACK_PACK_SEQ = seq ∧
      rd (packLoaded slot seq kinds key s) Reg.VETPACK_MIN_SEQ = seq ∧
      rd (packLoaded slot seq kinds key s) Reg.VETPACK_KINDS = kinds ∧
      (packLoaded slot seq kinds key s).raised =
        s.raised ++ [⟨Code.VETPACK_LOADED, 8, recordData [(64, seq), (8, key), (8, slot)]⟩] := by
  refine ⟨?_, rfl, ?_, ?_, ?_, ?_, rfl⟩
  all_goals simp [packLoaded, rd_wr]

/-- A pack rejected with its code. -/
def packRejected (code seq : Nat) (s : State) : State :=
  raise (wr s Reg.VETPACK_RESULT code) Code.VETPACK_REJECTED 8 [(8, code), (64, seq)]

theorem rd_packRejected (code seq : Nat) (s : State) (a : Addr) :
    rd (packRejected code seq s) a = if a = Reg.VETPACK_RESULT then code else rd s a := by
  rw [packRejected, rd_raise, rd_wr]

theorem packRejected_kept (code seq : Nat) (s : State) : (packRejected code seq s).flash = s.flash ∧
    (packRejected code seq s).raised =
      s.raised ++ [⟨Code.VETPACK_REJECTED, 8, recordData [(8, code), (64, seq)]⟩] := ⟨rfl, rfl⟩

/-- A pack's result where its slot is free and the flash works. -/
theorem doPackVerify_free {s : State} (hup : s.groom.up = true) (hfree : packInUse s (stagedPack s) = false) :
    doPackVerify false s =
      if packCheck s (packBase (stagedPack s)) = 0 then
        packLoaded (stagedPack s) (signedSeq s (packBase (stagedPack s)))
          (flashNat s (packBase (stagedPack s) + 24) 2) (signedKey s (packBase (stagedPack s))) s
      else packRejected (packCheck s (packBase (stagedPack s))) (signedSeq s (packBase (stagedPack s))) s := by
  unfold doPackVerify
  dsimp only
  rw [if_neg (by simp [hup]), hfree, if_neg Bool.false_ne_true, if_neg (c := _ ∧ false = true) (by simp)]
  by_cases hgood : packCheck s (packBase (stagedPack s)) = 0
  · rw [if_pos hgood, hgood, if_neg (by simp)]
    simp only [flashNat_wr, signedKey_wr, packLoaded]
  · rw [if_neg hgood, if_pos hgood, packRejected]

theorem doPackVerify_busy {s : State} (hup : s.groom.up = true) (hbusy : packInUse s (stagedPack s) = true)
    (fails : Bool) : doPackVerify fails s = packRejected 1 (signedSeq s (packBase (stagedPack s))) s := by
  unfold doPackVerify
  dsimp only
  rw [if_neg (by simp [hup]), hbusy, if_pos rfl, if_neg (c := 1 = 0 ∧ fails = true) (by simp), if_pos (by simp),
    packRejected]

theorem doAlertAck_spec (s : State) (n : Nat) : rd (doAlertAck n s) Reg.STUDBOOK_ALERT_ACK = n ∧
    (doAlertAck n s).book.alert = s.book.alert.filter (fun a => decide (n < a)) ∧
    ∀ a, a ≠ Reg.STUDBOOK_ALERT_ACK → rd (doAlertAck n s) a = rd s a := by
  have hread (a : Addr) : rd (doAlertAck n s) a = rd (wr s Reg.STUDBOOK_ALERT_ACK n) a := by
    unfold doAlertAck
    dsimp only
    split
    · split
      · rw [rd_modBook]
      · rfl
    · rfl
  refine ⟨?_, ?_, fun a ha => ?_⟩
  · rw [hread, rd_wr, if_pos rfl]
  · unfold doAlertAck
    dsimp only
    rw [wr_book]
    cases halert : s.book.alert with
    | none =>
      rw [wr_book, halert]
      rfl
    | some a =>
      dsimp only
      by_cases hle : a ≤ n
      · rw [if_pos hle, modBook_book]
        rw [Option.filter_some, if_neg (by simpa using hle)]
      · rw [if_neg hle, wr_book, halert, Option.filter_some, if_pos (by simpa using Nat.lt_of_not_le hle)]
  · rw [hread, rd_wr, if_neg ha]

/-- Settles O46: by what a record, a period, the program, CLEAR, an acknowledgement and a pack write. -/
theorem studbookRecords : Obligations.StudbookRecords := by
  unfold Obligations.StudbookRecords
  refine ⟨fun r rest s hup hraised hdue htok hsolid => ?_, fun r rest s hup hraised hdue htok hroom => ?_,
    fun code s h => ?_, fun code s hcode hdue hn hsup => ?_, fun code s hup hcode hdue hn hsup hsolid => ?_,
    fun s => ?_,
    fun key s hup => ?_, fun n s hup => ?_, fun s hup hfree => ?_, fun fails s hup hbusy => ?_⟩
  · obtain ⟨hrest, hring, htokens, hcredit, hread⟩ := recordTaken_kept rest s
    have hcode : codeTokens (recordTaken rest s) r.code = codeTokens s r.code := codeTokens_congr htokens (hread _)
    have heq := (doStudbookRecord_eq hup hraised hdue).trans
      (acceptRecord_written (by rwa [hcode]) (by rwa [hcredit]))
    set u := recordTaken rest s with hu
    set v := modBook (setTokens u r.code (codeTokens u r.code - 1)) (fun b => { b with solid := b.solid - 1 }) with hv
    have hreadv (a : Addr) : rd v a = rd s a := by rw [hv, rd_modBook, setTokens, rd_modBook, hread]
    refine ⟨_, next_eq heq, ?_, ?_, ?_, ?_, ?_, ?_⟩
    · rw [raised_writeRecord, hv, modBook_raised, setTokens, modBook_raised, hrest]
    · rw [rd_writeRecord _ _ _ _ _ (by simp) (by simp), if_neg (by simp), if_pos rfl, hreadv]
    · rw [book_writeRecord, bookWritten]
      dsimp only
      rw [hreadv, hreadv, Tab.find_set, if_pos rfl]
    · rw [rd_writeRecord _ _ _ _ _ (by simp) (by simp), if_pos rfl, hreadv]
    · refine codeTokens_of_find ?_
      rw [book_writeRecord, bookWritten, hv, modBook_book, setTokens, modBook_book, Tab.find_set, if_pos rfl, hcode]
    · rw [book_writeRecord, bookWritten, hv, modBook_book, setTokens, modBook_book, hcredit]
  · obtain ⟨hrest, hring, htokens, -, hread⟩ := recordTaken_kept rest s
    have hcode : codeTokens (recordTaken rest s) r.code = codeTokens s r.code := codeTokens_congr htokens (hread _)
    refine ⟨_, next_eq ((doStudbookRecord_eq hup hraised hdue).trans
      (acceptRecord_suppressed (by rwa [hcode]) (by rwa [hread]))), ?_, ?_, ?_, fun a ha => ?_⟩
    · rw [wr_raised, hrest]
    · rw [wr_book, hring]
    · rw [rd_wr, if_pos rfl, hread]
    · rw [rd_wr, if_neg ha, hread]
  · exact next_eq (doBucketToken_idle h)
  · obtain ⟨htokens, hperiods⟩ := tokensGained_spec hn
    have hnone : (tokensGained code.toNat s).book.due = [] := by
      rw [tokensGained, modBook_book, setTokens, modBook_book, hdue]
    have heq := (doBucketToken_gained hcode hn).trans (congrArg writeSummaries (if_pos (.inl hsup)))
    rw [writeSummaries_none hnone] at heq
    obtain ⟨-, hring, htok, hgained⟩ := book_creditSolid (tokensGained code.toNat s)
    refine ⟨_, next_eq heq, ?_, ?_, ?_, ?_⟩
    · rw [creditSolid, modBook_regs, tokensGained, modBook_regs, setTokens, modBook_regs]
    · rw [hring, tokensGained, modBook_book, setTokens, modBook_book]
    · rw [codeTokens_congr htok (by rw [creditSolid, rd_modBook]), htokens]
    · rw [periodsPassed_creditSolid, hperiods]
  · set u := modBook (tokensGained code.toNat s) (fun b => { b with due := b.due ++ [code.toNat] }) with hu
    have hone : u.book.due = [code.toNat] := by
      rw [hu, modBook_book, tokensGained, modBook_book, setTokens, modBook_book, hdue, List.nil_append]
    have hupu : u.groom.up = true := by
      rw [hu, modBook_groom, tokensGained, modBook_groom, setTokens, modBook_groom, hup]
    have hsolidu : (creditSolid u).book.solid ≠ 0 := by
      rwa [solid_creditSolid_congr (s := s) (t := u)
        (by rw [hu, modBook_book, tokensGained, modBook_book, setTokens, modBook_book])
        (by rw [hu, modBook_book, tokensGained, modBook_book, setTokens, modBook_book])
        (by rw [hu, modBook_time, tokensGained, modBook_time, setTokens, modBook_time])]
    have heq := (doBucketToken_gained hcode hn).trans
      (congrArg writeSummaries (if_neg (by simp [hsup, hdue])))
    rw [← hu, writeSummaries_one hupu hone] at heq
    obtain ⟨hzero, hnext, hnone⟩ := writeSummary_spec (code := code.toNat) hsolidu
    refine ⟨_, next_eq heq, hzero, ?_, ?_⟩
    · rw [hnext, creditSolid, rd_modBook, hu, rd_modBook, tokensGained, rd_modBook, setTokens, rd_modBook]
    · rw [hnone, (book_creditSolid u).1, hone]
      simp
  · intro q hup herasing hold hnext hsector hwf
    obtain ⟨hflash, hreg, hbook⟩ := programRecord_spec (s := s) hsector
    have hone := persistAll_one hold hnext
    have hdone := doPersist_clean hup (by rw [hone, hbook, herasing])
    have hlength : (bytesBE 32 (Tab.get 0 s.book.ring (q % 65536))).length = 32 :=
      Sys2Proof.Tests.bytesBE_length ..
    refine ⟨programRecord s q, next_eq (hdone.trans hone), hreg, ?_, fun a ha => ?_⟩
    · have hread := Memory.readBytes_writeBytes (bytesBE 32 (Tab.get 0 s.book.ring (q % 65536))) s.flash
        (slotAddr (q % 524288))
      rw [hlength] at hread
      rw [hflash, hread]
    · rw [hflash]
      exact Memory.read_writeBytes_outside _ _ _ _ (by rwa [hlength])
  · refine ⟨_, next_eq ((written_of_up hup _).trans (if_neg (by simp [hup]))), ?_, ?_, ?_⟩
    · rw [rd_modBook, rd_wr, if_neg (by simp), rd_wr, if_neg (by simp), rd_wr, if_pos rfl]
    · rw [rd_modBook, rd_wr, if_neg (by simp), rd_wr, if_pos rfl]
    · rw [rd_modBook, rd_wr, if_pos rfl]
  · exact ⟨_, next_eq (written_of_up hup _), doAlertAck_spec s n.toNat⟩
  · intro base good
    have heq := doPackVerify_free hup hfree
    by_cases hgood : packCheck s base = 0
    · obtain ⟨hresult, hflash, hslot, hseq, hmin, hkinds, hraised⟩ := packLoaded_spec (stagedPack s)
        (signedSeq s base) (flashNat s (base + 24) 2) (signedKey s base) s
      rw [if_pos hgood] at heq
      refine ⟨_, next_eq heq, hresult.trans hgood.symm, hflash, ?_, ?_, ?_, ?_, ?_⟩
      · rw [if_pos hgood, hslot]
      · rw [if_pos hgood, hseq]
      · rw [if_pos hgood, hmin]
      · rw [if_pos hgood, hkinds]
      · rw [if_pos hgood, hraised]
    · have hread := rd_packRejected (packCheck s base) (signedSeq s base) s
      obtain ⟨hflash, hraised⟩ := packRejected_kept (packCheck s base) (signedSeq s base) s
      rw [if_neg hgood] at heq
      refine ⟨_, next_eq heq, (hread _).trans (if_pos rfl), hflash, ?_, ?_, ?_, ?_, ?_⟩
      · rw [if_neg hgood, hread, if_neg (by simp)]
      · rw [if_neg hgood, hread, if_neg (by simp)]
      · rw [if_neg hgood, hread, if_neg (by simp)]
      · rw [if_neg hgood, hread, if_neg (by simp)]
      · rw [if_neg hgood, hraised]
  · refine ⟨_, next_eq (doPackVerify_busy hup hbusy fails), ?_, fun a ha => ?_⟩
    · rw [rd_packRejected, if_pos rfl]
    · rw [rd_packRejected, if_neg ha]

end Sys2Proof.Machine

/-! # What the shapers and the charge of a sent frame leave aside -/

namespace Sys2Proof.Machine

section
variable (P : Piece → Bool)

/-! ## Scheduling, Shaping and Policing -/

@[simp] theorem aside_refill (s : State) (k : Nat) (hegress : P .egress = true) :
    aside P (refill s k) = aside P s := by
  simp [refill, hegress]
@[simp] theorem aside_spend (s : State) (k charge : Nat) (hegress : P .egress = true) :
    aside P (spend s k charge) = aside P s := by
  simp [spend, hegress]
@[simp] theorem aside_chargeLink (s : State) (p v c : Nat) (hlinks : P .links = true)
    (h0302 : P (.obj 0x0302) = true) :
    aside P (chargeLink s p v c) = aside P s := by
  simp [chargeLink, hlinks, h0302]
@[simp] theorem aside_noteCtrlHeld (s : State) (p : Nat) (hegress : P .egress = true) :
    aside P (noteCtrlHeld s p) = aside P s := by
  simp [noteCtrlHeld, hegress]

end

end Sys2Proof.Machine

/-! # A frame that begins on its port, and one whose last block has left -/

namespace Sys2Proof.Machine

theorem resolvePick_begins {p n q id : Nat} {f : Frame} {u s : State} (hpick : choosePick s p = (u, some q))
    (hhead : headOf u q = some (id, f)) (hexp : expired u f = false) :
    resolvePick p false (n + 1) s = beginFrame q id f u := by
  simp [resolvePick, hpick, hhead, hexp]

theorem equeue_of_egress {s t : State} (h : t.egress = s.egress) (q : Nat) : equeue t q = equeue s q := by
  unfold equeue; rw [h]

/-- Settling a queue writes nothing of it but the mark that it spills. -/
theorem order_queueSettled (s : State) (q r : Nat) : (equeue (queueSettled s q) r).order = (equeue s r).order := by
  unfold queueSettled
  extract_lets e s1
  have h1 : equeue s1 r = equeue s r := by
    apply equeue_of_egress
    unfold s1
    split <;> rfl
  split
  · rw [equeue_modQueue]
    split
    · next hr => rw [← h1, hr]
    · rw [h1]
  · rw [h1]

theorem order_noteCtrlHeld (s : State) (p r : Nat) : (equeue (noteCtrlHeld s p) r).order = (equeue s r).order := by
  unfold noteCtrlHeld
  extract_lets waits
  split
  · split <;> rfl
  · rfl

/-- A queue without the given frame, and with no stall, as a started frame leaves it. -/
def EQueue.without (e : EQueue) (id : Nat) : EQueue :=
  { e with stallSince := none, order := e.order.filter (fun x => decide (x ≠ id)) }

/-- A frame's start once its length, its credits and its queue's wait are settled: it leaves its queue for the
frames that its port sends. -/
def begun (q id : Nat) (f : Frame) (s : State) : State :=
  modLink (putFrame (modQueue s q (fun e => e.without id)) id { f with place := .sending }) (queuePort q)
    (fun l => { l with sending := l.sending ++ [⟨id, 0⟩] })

theorem beginFrame_eq (q id : Nat) (f : Frame) (s : State) :
    ∃ v, beginFrame q id f s = queueSettled (begun q id f v) q := ⟨_, rfl⟩

theorem not_mem_order_begun (q id : Nat) (f : Frame) (s : State) : id ∉ (equeue (begun q id f s) q).order := by
  have h : equeue (begun q id f s) q = (equeue s q).without id :=
    (equeue_modQueue s q q (fun e => e.without id)).trans (if_pos rfl)
  rw [h]
  simp [EQueue.without]

theorem findFrame_begun (q id : Nat) (f : Frame) (s : State) :
    findFrame (begun q id f s) id = some { f with place := .sending } :=
  findFrame_putFrame_self (modQueue s q (fun e => e.without id)) id { f with place := .sending }

theorem mem_sending_begun (q id : Nat) (f : Frame) (s : State) :
    ⟨id, 0⟩ ∈ (link (begun q id f s) (queuePort q)).sending := by
  unfold begun
  rw [link_modLink_self]
  exact List.mem_append_right _ List.mem_cons_self

/-! ## The end of a frame -/

theorem sending_freeCredits (s : State) (f : Frame) (p : Nat) :
    (link (freeCredits s f) p).sending = (link s p).sending := by
  unfold freeCredits
  extract_lets v
  split
  · rfl
  · refine proj_modLink (fun l => l.sending) ?_ s f.ingress p
    exact fun _ => rfl

/-- A frame that its port sends alone leaves the port with none to send. -/
theorem sending_removeFrame {s : State} {id p : Nat} {f : Frame} (hf : findFrame s id = some f)
    (hplace : f.place = .sending) (hnone : (link s p).sending = []) : (link (removeFrame s id) p).sending = [] := by
  unfold removeFrame
  rw [hf]
  have hbefore : beforeAdmission f = false := by simp [beforeAdmission, hplace]
  simp only [hplace, hbefore, reduceCtorEq, if_false, if_true, decide_false, Bool.false_and, Bool.false_eq_true,
    false_and, or_true]
  have hsettled (u : State) (q : Nat) : link (queueSettled (unqueue u q id) q) p = link u p :=
    link_congr (links_of_aside (P := besides [.links]) (by simp) (by simp)) p
  have hdel (u : State) : link (delFrame u id) p = link u p := rfl
  rw [hsettled, hdel, link_modLink]
  split
  · next hp => simp [← hp, sending_freeCredits, hnone]
  · rw [sending_freeCredits, hnone]

/-! ## The statement -/

/-- Settles O26: the chosen head goes from its queue to the frames its port sends, and a sent frame is freed. -/
theorem schedulerSends : Obligations.SchedulerSends := by
  unfold Obligations.SchedulerSends
  refine ⟨fun p q id f u s hstate hsleep hend hpick hhead hexp => ?_, fun p e f s hsend hf hsent hplace hegress => ?_⟩
  · have hdo : doSchedPick p false s = noteCtrlHeld (beginFrame q id f u) p := by
      simp [doSchedPick, hstate, hsleep, hend, resolvePick_begins hpick hhead hexp]
    obtain ⟨v, hv⟩ := beginFrame_eq q id f u
    have hframes : (noteCtrlHeld (beginFrame q id f u) p).frames = (begun q id f v).frames := by
      rw [hv]
      exact frames_of_aside (P := besides [.frames]) (by simp) (by simp)
    have hlinks : (noteCtrlHeld (beginFrame q id f u) p).links = (begun q id f v).links := by
      rw [hv]
      exact links_of_aside (P := besides [.links]) (by simp) (by simp)
    refine ⟨_, finish_eq hdo, rfl, ?_, ?_, ?_⟩
    · rw [findFrame_congr hframes, findFrame_begun]
    · rw [link_congr hlinks]
      exact mem_sending_begun q id f v
    · rw [order_noteCtrlHeld, hv, order_queueSettled]
      exact not_mem_order_begun q id f v
  · have hdone : doFrameTxDone p s = removeFrame (modLink s p (fun l => { l with
        sending := l.sending.filter (fun x => decide (x.frame ≠ e.frame)) })) e.frame := by
      simp [doFrameTxDone, hsend, hf, hsent]
    refine ⟨_, finish_eq hdone, findFrame_removeFrame_self .., ?_⟩
    · refine sending_removeFrame (f := f) hf hplace ?_
      rw [link_modLink_self]
      simp [hsend]

end Sys2Proof.Machine

/-! # What a frame's life leaves of the links

The credits to return and the frames in the course of being sent are all that the life of frames writes of a port's
link; `beside` is the rest of every link. -/

namespace Sys2Proof.Machine

/-- Each port's link but for the credits to return and the frames it sends. -/
def beside (s : State) (p : Nat) : Link := { link s p with freed := [], sending := [] }

theorem beside_of_links {s t : State} (h : t.links = s.links) : beside t = beside s := by
  unfold beside link; rw [h]

theorem beside_foldl {α : Type} (s : State) (f : State → α → State) (h : ∀ s x, beside (f s x) = beside s)
    (xs : List α) : beside (xs.foldl f s) = beside s := by
  refine proj_foldl_of_keep beside (fun s x => ?_) s
  exact h s x

theorem beside_modLink (s : State) (p : Nat) (f : Link → Link)
    (h : ∀ l, { f l with freed := [], sending := [] } = { l with freed := [], sending := [] }) :
    beside (modLink s p f) = beside s := by
  funext q
  exact proj_modLink (fun l => { l with freed := [], sending := [] }) h s p q

@[simp] theorem beside_wr (s : State) (a : Addr) (v : Nat) : beside (wr s a v) = beside s := (rfl)
@[simp] theorem beside_raise (s : State) (c src : Nat) (items : List (Nat × Nat)) :
    beside (raise s c src items) = beside s := (rfl)
@[simp] theorem beside_putFrame (s : State) (id : Nat) (f : Frame) : beside (putFrame s id f) = beside s := (rfl)
@[simp] theorem beside_delFrame (s : State) (id : Nat) : beside (delFrame s id) = beside s := (rfl)
@[simp] theorem beside_newFrame (s : State) (f : Frame) : beside (newFrame s f).1 = beside s := (rfl)
@[simp] theorem beside_modForward (s : State) (f : Forwarding → Forwarding) : beside (modForward s f) = beside s :=
  (rfl)

@[simp] theorem beside_inc (s : State) (a : Addr) (w : Nat) :
    beside (inc s a w) = beside s :=
  beside_of_links (links_of_aside (P := besides [.links]) (by simp) (by simp))
@[simp] theorem beside_modFrame (s : State) (id : Nat) (g : Frame → Frame) :
    beside (modFrame s id g) = beside s :=
  beside_of_links (links_of_aside (P := besides [.links]) (by simp) (by simp))
@[simp] theorem beside_countFrame (s : State) (p sel : Nat) (h : Block) :
    beside (countFrame s p sel h) = beside s :=
  beside_of_links (links_of_aside (P := besides [.links]) (by simp) (by simp))
@[simp] theorem beside_countFrameIn (s : State) (bank sel : Nat) (h : Block) :
    beside (countFrameIn s bank sel h) = beside s :=
  beside_of_links (links_of_aside (P := besides [.links]) (by simp) (by simp))
@[simp] theorem beside_discardIn (s : State) (f : Frame) (why : Nat) (h : Block) :
    beside (discardIn s f why h) = beside s :=
  beside_of_links (links_of_aside (P := besides [.links]) (by simp) (by simp))
@[simp] theorem beside_freeCredits (s : State) (f : Frame) :
    beside (freeCredits s f) = beside s := by
  unfold freeCredits
  extract_lets v
  split
  · rfl
  · exact beside_modLink s f.ingress _ (fun _ => rfl)
@[simp] theorem beside_settle (s : State) (id : Nat) :
    beside (settle s id) = beside s := by
  simp only [settle]
  (repeat' split) <;> simp
@[simp] theorem beside_unqueue (s : State) (q id : Nat) :
    beside (unqueue s q id) = beside s :=
  beside_of_links (links_of_aside (P := besides [.links]) (by simp) (by simp))
@[simp] theorem beside_queueSettled (s : State) (q : Nat) :
    beside (queueSettled s q) = beside s :=
  beside_of_links (links_of_aside (P := besides [.links]) (by simp) (by simp))
@[simp] theorem beside_releaseWaiting (s : State) (q : Nat) :
    beside (releaseWaiting s q) = beside s :=
  beside_of_links (links_of_aside (P := besides [.links]) (by simp) (by simp))
@[simp] theorem beside_unhold (s : State) (f : Frame) (id : Nat) :
    beside (unhold s f id) = beside s :=
  beside_of_links (links_of_aside (P := besides [.links]) (by simp) (by simp))
@[simp] theorem beside_copyDone (s : State) (parent : Nat) :
    beside (copyDone s parent) = beside s := by
  unfold copyDone
  split <;> simp
@[simp] theorem beside_removeFrame (s : State) (id : Nat) :
    beside (removeFrame s id) = beside s := by
  unfold removeFrame
  split
  · rfl
  extract_lets s1 s2 s3 s4 q head s5 s6
  have h3 : beside s3 = beside s2 := by
    unfold s3
    split
    · exact beside_modLink s2 _ _ (fun _ => rfl)
    · rfl
  have h2 : beside s2 = beside s := by
    unfold s2
    split <;> simp [s1]
  have h6 : beside s6 = beside s3 := by
    unfold s6 s5 s4
    (repeat' split) <;> simp
  split <;> simp [h6, h3, h2]
@[simp] theorem beside_dropIn (s : State) (id why : Nat) :
    beside (dropIn s id why) = beside s := by
  unfold dropIn
  split <;> simp
@[simp] theorem beside_countAtIngress (s : State) (f : Frame) (sel : Nat) :
    beside (countAtIngress s f sel) = beside s :=
  beside_of_links (links_of_aside (P := besides [.links]) (by simp) (by simp))
@[simp] theorem beside_trackChannel (s : State) (f : Frame) (g slot : Nat) :
    beside (trackChannel s f g slot) = beside s :=
  beside_of_links (links_of_aside (P := besides [.links]) (by simp) (by simp))
@[simp] theorem beside_sendToward (s : State) (id q : Nat) (repin : Bool) :
    beside (sendToward s id q repin) = beside s := by
  simp only [sendToward]
  (repeat' split) <;> simp
@[simp] theorem beside_spray (s : State) (f : Frame) (g : Nat) :
    beside (spray s f g).1 = beside s :=
  beside_of_links (links_of_aside (P := besides [.links]) (by simp) (by simp))
@[simp] theorem beside_holdFrame (s : State) (id g slot : Nat) :
    beside (holdFrame s id g slot) = beside s := by
  unfold holdFrame
  (repeat' split) <;> simp
@[simp] theorem beside_choose (s : State) (id g : Nat) :
    beside (choose s id g) = beside s := by
  simp only [choose]
  (repeat' split) <;> simp
@[simp] theorem beside_sendCopies (s : State) (id : Nat) (f : Frame) (ports : List Nat) :
    beside (sendCopies s id f ports) = beside s := by
  unfold sendCopies
  extract_lets s1 s2
  have h2 : beside s2 = beside s := (beside_foldl s1 _ (fun s q => by simp) _).trans (by simp [s1])
  rw [beside_settle, h2]
@[simp] theorem beside_replicate (s : State) (id t : Nat) :
    beside (replicate s id t) = beside s := by
  simp only [replicate]
  (repeat' split) <;> simp
@[simp] theorem beside_floodFrame (s : State) (id : Nat) (f : Frame) :
    beside (floodFrame s id f) = beside s := by
  simp [floodFrame]
@[simp] theorem beside_bridgeForward (s : State) (id : Nat) (failed : Bool) :
    beside (bridgeForward s id failed) = beside s := by
  simp only [bridgeForward]
  (repeat' split) <;> simp
@[simp] theorem beside_learnHit (s : State) (f : Frame) (way : Nat × Nat × Bool) (ten mac src : Nat) :
    beside (learnHit s f way ten mac src) = beside s := by
  unfold learnHit
  extract_lets s1
  have h1 : beside s1 = beside s := by
    unfold s1
    split <;> simp
  split <;> simp [h1]
@[simp] theorem beside_bridge (s : State) (id : Nat) :
    beside (bridge s id) = beside s := by
  simp only [bridge]
  (repeat' split) <;> simp
@[simp] theorem beside_enqueueRequest (s : State) (r : Request) :
    beside (enqueueRequest s r) = beside s :=
  beside_of_links (links_of_aside (P := besides [.links]) (by simp) (by simp))
@[simp] theorem beside_localWhole (s : State) (id : Nat) :
    beside (localWhole s id) = beside s := by
  simp only [localWhole]
  (repeat' split) <;> simp
@[simp] theorem beside_deliverLocal (s : State) (id : Nat) :
    beside (deliverLocal s id) = beside s := by
  unfold deliverLocal
  (repeat' split) <;> simp
@[simp] theorem beside_lookup (s : State) (id : Nat) :
    beside (lookup s id) = beside s := by
  simp only [lookup]
  (repeat' split) <;> simp
@[simp] theorem beside_originate (s : State) (facet : Nat) (h : Block) (blocks : List Block)
    (owner : Nat := 0xFFFFFFFF) :
    beside (originate s facet h blocks owner) = beside s := by
  simp [originate]
@[simp] theorem beside_setDrain (s : State) (k : Nat) (d : DrainRun) :
    beside (setDrain s k d) = beside s :=
  beside_of_links (links_of_aside (P := besides [.links]) (by simp) (by simp))
@[simp] theorem beside_sendMark (k : Nat) (s : State) (e : Nat × Nat) :
    beside (sendMark k s e) = beside s := by
  simp only [sendMark]
  (repeat' split) <;> simp
@[simp] theorem beside_sendMarks (s : State) :
    beside (sendMarks s) = beside s := by
  exact beside_foldl s _ (fun s e => beside_foldl s _ (fun s m => by simp) _) _
@[simp] theorem beside_drainCheck (s : State) (g : Nat) :
    beside (drainCheck s g) = beside s :=
  beside_of_links (links_of_aside (P := besides [.links]) (by simp) (by simp))
@[simp] theorem beside_drainTick (s : State) :
    beside (drainTick s) = beside s := by
  unfold drainTick
  extract_lets s1
  rw [beside_foldl s1 _ (fun s g => by simp) _]
  simp only [s1]
  split <;> simp

end Sys2Proof.Machine

/-! # The steps of a feed migration (O10) -/

namespace Sys2Proof.Machine

/-! ## The migration record -/

@[simp] theorem migration_setMigration (s : State) (f : Nat) (m : Migration) : migration (setMigration s f m) f = m :=
  (Tab.get_put ..).trans (if_pos rfl)

theorem migration_congr {s t : State} (h : t.light.migrations = s.light.migrations) (f : Nat) :
    migration t f = migration s f := by
  unfold migration; rw [h]

theorem migrations_noteLit (g : Nat) (s : State) : (noteLit g s).light.migrations = s.light.migrations := by
  unfold noteLit
  extract_lets lit
  split <;> rfl

theorem migrations_setFeedState (f v : Nat) (s : State) :
    (setFeedState f v s).light.migrations = s.light.migrations := by
  have hafter : (setFeedState f v s).light = (noteLit (f / 8) (wr s (Reg.FEED_STATE f) v)).light :=
    light_of_aside (P := besides [.light]) (by simp [setFeedState]) (by simp)
  rw [hafter, migrations_noteLit]
  rfl

theorem migrations_openPairs (f : Nat) (s : State) : (openPairs f s).light.migrations = s.light.migrations := by
  refine proj_foldl_of_keep (fun s => s.light.migrations) (fun s t => ?_) s
  dsimp only
  split <;> rfl

/-! ## The selector's switch -/

theorem migration_switchFeed (f : Nat) (drained flushed : Bool) (s : State) :
    (migration (switchFeed f drained flushed s) f).step = 8 ∧
      (migration (switchFeed f drained flushed s) f).flushed = flushed := by
  unfold switchFeed
  extract_lets sel next before ports s1 s2 s3 s4 s5 m s6
  have hkeep : migration (unitRefresh before (setFeedState f 3 (openPairs f s6))) f = migration s6 f := by
    refine migration_congr ?_ f
    rw [light_of_aside (s := setFeedState f 3 (openPairs f s6)) (P := besides [.light]) (by simp) (by simp),
      migrations_setFeedState, migrations_openPairs]
  simp [hkeep, s6]

theorem selected_openPairs (f : Nat) (s : State) :
    rd (openPairs f s) (Reg.FEED_SELECTED f) = rd s (Reg.FEED_SELECTED f) :=
  rd_of_besides (kept := [.obj 0x0201]) (by simp) (by simp)

theorem selected_setFeedState (f v : Nat) (s : State) :
    rd (setFeedState f v s) (Reg.FEED_SELECTED f) = rd s (Reg.FEED_SELECTED f) := by
  rw [setFeedState, rd_updateFau _ _ (by simp), rd_updateStandby _ _ (by simp), rd_noteLit, rd_wr_ne _ _ (by simp)]

theorem selected_switchFeed {f : Nat} {s : State} (hsel : rd s (Reg.FEED_SELECTED f) ≤ 1) (flushed : Bool) :
    rd (switchFeed f true flushed s) (Reg.FEED_SELECTED f) = 1 - rd s (Reg.FEED_SELECTED f) := by
  unfold switchFeed
  extract_lets sel next before ports s1 s2 s3 s4 s5 m s6
  have hnext : next = 1 - rd s (Reg.FEED_SELECTED f) := if_neg (by unfold sel; omega)
  have h2 : rd s2 (Reg.FEED_SELECTED f) = next := by simp [s2, rd_clearFail]
  have h3 : rd s3 (Reg.FEED_SELECTED f) = next := by
    rw [← h2]
    exact rd_foldl_of_keep (fun s i _ => by simp [rd_wr]) s2
  have h4 : rd s4 (Reg.FEED_SELECTED f) = next := by
    rw [← h3]
    exact rd_of_besides (kept := [.obj 0x0201]) (by simp [s4]) (by simp)
  have h5 : rd s5 (Reg.FEED_SELECTED f) = next := by
    rw [← h4]
    exact rd_of_besides (kept := [.obj 0x0201]) (by simp [s5]) (by simp)
  rw [rd_unitRefresh, selected_setFeedState, selected_openPairs, ← hnext, ← h5]
  rfl

/-! ## Retiring the feed's ports -/

theorem retiring_setCmd (q c : Nat) (s : State) (p : Nat) :
    (link (setCmd q c s) p).retiring = (link s p).retiring := by
  unfold setCmd nextKeepalive
  split
  · rfl
  · refine (proj_modLink (fun l => l.retiring) ?_ _ q p).trans (proj_modLink (fun l => l.retiring) ?_ s q p)
    · exact fun _ => rfl
    · exact fun _ => rfl

theorem retiring_setCmdBit (q b : Nat) (on : Bool) (s : State) (p : Nat) :
    (link (setCmdBit q b on s) p).retiring = (link s p).retiring := retiring_setCmd ..

theorem beside_startPortDrain (s : State) (p : Nat) : beside (startPortDrain s p) = beside s := by
  simp [startPortDrain]

theorem retiring_retirePorts {ports : List Nat} {p : Nat} (hp : p ∈ ports) (s : State) :
    (link (retirePorts s ports) p).retiring = true := by
  unfold retirePorts
  extract_lets s1 s2
  have h1 : (link s1 p).retiring = true :=
    foldl_establishes (Q := fun s => (link s p).retiring = true) (fun s q h => by
      rw [link_modLink]
      split <;> simp [h]) hp (fun s => by simp) s
  have h2 : (link s2 p).retiring = (link s1 p).retiring :=
    proj_foldl_of_keep (fun s => (link s p).retiring) (fun s q => retiring_setCmdBit q 31 true s p) s1
  have h3 : beside (drainTick (ports.foldl startPortDrain s2)) = beside s2 := by
    rw [beside_drainTick, beside_foldl s2 _ beside_startPortDrain]
  exact (congrArg Link.retiring (congrFun h3 p)).trans (h2.trans h1)

/-! ## The end of a migration -/

/-- A migration's end once its ports are back in their groups. -/
def endedMigration (f : Nat) (s : State) (m : Migration) : State :=
  let result := if m.flushed then 4 else 0
  let s := wr (wr (wr s (Reg.FEED_STATE f) 0) (Reg.FEED_RESULT f) result) (Reg.FEED_COMMAND f) 0
  let s := raise (inc s (Reg.FEED_MIGRATIONS f) 32) Code.FEED_MIGRATED 9
    [(8, result), (64, now (inc s (Reg.FEED_MIGRATIONS f) 32) - m.t0)]
  updateFau (f / 4) (updateStandby f (setMigration s f {}))

theorem endedMigration_spec (f : Nat) (s : State) (m : Migration) :
    rd (endedMigration f s m) (Reg.FEED_STATE f) = 0 ∧ rd (endedMigration f s m) (Reg.FEED_COMMAND f) = 0 ∧
      rd (endedMigration f s m) (Reg.FEED_RESULT f) = (if m.flushed then 4 else 0) ∧
      rd (endedMigration f s m) (Reg.FEED_MIGRATIONS f) = (rd s (Reg.FEED_MIGRATIONS f) + 1) % 2 ^ 32 ∧
      migration (endedMigration f s m) f = {} := by
  unfold endedMigration
  extract_lets result s1 s2
  have hread (a : Addr) (ha : a.obj ≠ 0x0200) (hstby : a ≠ Reg.FEED_STANDBY f) :
      rd (updateFau (f / 4) (updateStandby f (setMigration s2 f {}))) a = rd (inc s1 (Reg.FEED_MIGRATIONS f) 32) a := by
    rw [rd_updateFau _ _ ha, rd_updateStandby _ _ hstby]
    rfl
  refine ⟨?_, ?_, ?_, ?_, ?_⟩
  · rw [hread _ (by simp) (by simp)]; simp [rd_inc, rd_wr, s1]
  · rw [hread _ (by simp) (by simp)]; simp [rd_inc, s1]
  · rw [hread _ (by simp) (by simp)]; simp [rd_inc, rd_wr, s1, result]
  · rw [hread _ (by simp) (by simp)]; simp [rd_inc, rd_wr, s1]
  · rw [migration_congr (s := setMigration s2 f {}), migration_setMigration]
    rw [light_of_aside (s := setMigration s2 f {}) (P := besides [.light]) (by simp) (by simp)]

/-! ## The statement -/

/-- Settles O10: each step of a migration, from its start to the ports' return. -/
theorem feedMigration : Obligations.FeedMigration := by
  unfold Obligations.FeedMigration
  refine ⟨fun f s hup hst => ?_, fun f s hstep hsel hgood => ?_, fun f s hstep hacked => ?_, fun f s hstep => ?_,
    fun f s hstep hdrained hidle hsel => ?_, fun f s hstep hsel => ?_, fun f s hstep hlocked => ?_,
    fun f s hstep hports => ?_⟩
  · have hdo : doMigrate f s = startMigration f (wr s (Reg.FEED_COMMAND f) 1) := by
      unfold doMigrate
      extract_lets st
      rw [if_neg (by omega), if_neg (by omega)]
    refine ⟨_, finish_eq ((written_of_up hup _).trans hdo), ?_, ?_, ?_⟩
    · exact rd_wr_self (wr s (Reg.FEED_COMMAND f) 1) (Reg.FEED_STATE f) 3
    · simp [startMigration]
    · simp only [startMigration, migration_setMigration]
      rfl
  · have hdo : doStandbyChecked f s =
        setMigration (retirePorts s (feedPorts s f)) f { migration s f with step := 4 } := by
      simp [doStandbyChecked, hstep, hsel, hgood]
    refine ⟨_, finish_eq hdo, by simp, fun p hp => ?_⟩
    exact retiring_retirePorts hp s
  · exact finish_eq (if_pos ⟨hstep, hacked⟩)
  · exact finish_eq (if_pos hstep)
  · have hdo : doMigrationDrained f s = switchFeed f true false s := if_pos ⟨hstep, hdrained, hidle⟩
    exact ⟨_, finish_eq hdo, selected_switchFeed hsel false, feedState_switchFeed .., migration_switchFeed ..⟩
  · obtain ⟨u, hu, hkept⟩ : ∃ u, doDrainLimit f s = switchFeed f true true u ∧
        rd u (Reg.FEED_SELECTED f) = rd s (Reg.FEED_SELECTED f) :=
      ⟨_, if_pos hstep, rd_of_besides (kept := [.obj 0x0201]) (by simp [repinPorts]) (by simp)⟩
    refine ⟨_, finish_eq hu, ?_, feedState_switchFeed .., migration_switchFeed ..⟩
    rw [selected_switchFeed (hkept ▸ hsel), hkept]
  · have hall : (feedPorts s f).all (fun p => (List.range 4).all (fun k =>
        decide (rd s (Reg.RING_STATE ((p * 4 + k) * 2)) = 3 ∨ rd s (Reg.RING_STATE ((p * 4 + k) * 2)) = 6))) = true :=
      List.all_eq_true.mpr fun p hp => List.all_eq_true.mpr fun k hk =>
        decide_eq_true (.inl (hlocked p hp k (List.mem_range.mp hk)))
    refine ⟨_, finish_eq (if_pos ⟨hstep, hall⟩), ?_⟩
    rw [migration_setMigration]
  · have hall : (feedPorts s f).all (fun p => decide (rd s (Reg.PORT_STATE p) = 5) ||
        decide (rd s (Reg.PORT_ADMIN p) = 1) || portUnitOut s p ||
        decide (rd s (Reg.EYE_STATE (pairOf p)) ≠ 0)) = true :=
      List.all_eq_true.mpr fun p hp => by simp [hports p hp]
    have hdo : doPortsUp f s = endedMigration f (reinstatePorts (feedPorts s f) s) (migration s f) :=
      if_pos ⟨hstep, hall⟩
    obtain ⟨hst, hcmd, hres, hcount, hmig⟩ :=
      endedMigration_spec f (reinstatePorts (feedPorts s f) s) (migration s f)
    have hkept : rd (reinstatePorts (feedPorts s f) s) (Reg.FEED_MIGRATIONS f) = rd s (Reg.FEED_MIGRATIONS f) :=
      rd_of_besides (kept := [.obj 0x0201]) (by simp) (by simp)
    exact ⟨_, finish_eq hdo, hst, hcmd, hres, by rw [hcount, hkept], by rw [hmig]⟩

end Sys2Proof.Machine

/-! # Frames that arrive (O21) -/

namespace Sys2Proof.Machine

/-! ## Counting writes elements alone -/

theorem RegsOnly.inc (s : State) (a : Addr) (w : Nat) : RegsOnly s (inc s a w) := .wr ..
theorem RegsOnly.incBy (s : State) (a : Addr) (w n : Nat) : RegsOnly s (incBy s a w n) := .wr ..
theorem regsOnly_countFrame (s : State) (p sel : Nat) (h : Block) : RegsOnly s (countFrame s p sel h) :=
  regsOnly_countIn ..

theorem regsOnly_discardAt (s : State) (p why : Nat) (h : Block) : RegsOnly s (discardAt s p why h) :=
  ((regsOnly_countFrame ..).trans (regsOnly_countFrame ..)).trans (.inc ..)

theorem RegsOnly.now {s t : State} (h : RegsOnly s t) : now t = now s := by
  obtain ⟨r, rfl⟩ := h; rfl
theorem RegsOnly.link {s t : State} (h : RegsOnly s t) (p : Nat) : link t p = link s p := by
  obtain ⟨r, rfl⟩ := h; rfl
theorem RegsOnly.frames {s t : State} (h : RegsOnly s t) : t.frames = s.frames := by
  obtain ⟨r, rfl⟩ := h; rfl
theorem RegsOnly.nextFrame {s t : State} (h : RegsOnly s t) : t.nextFrame = s.nextFrame := by
  obtain ⟨r, rfl⟩ := h; rfl

/-! ## Blocks that follow a header -/

theorem pump_of_empty {s : State} {p : Nat} (h : (link s p).rxBlocks = []) :
    pump s p = resumeBridge s (link s p).rxFrame := by
  have hpump : pumpBlocks s p = s := by rw [pumpBlocks, h]; rfl
  rw [pump, hpump]

theorem resumeBridge_of_find {s : State} {id : Nat} {f : Frame} (h : findFrame s id = some f)
    (hwait : f.macWait = false) : resumeBridge s id = s := by
  simp [resumeBridge, h, hwait]

theorem resumeBridge_of_none {s : State} {id : Nat} (h : findFrame s id = none) : resumeBridge s id = s := by
  simp [resumeBridge, h]

theorem truncateIfCut_up {s : State} {p : Nat} (h : rd s (Reg.PORT_STATE p) = 5) : truncateIfCut s p = s := by
  simp [truncateIfCut, portUp, h]

/-! ## A header -/

/-- A port that took its one waiting header, and counted it. -/
def headerTaken (s : State) (p : Nat) (h : Block) : State :=
  let s := modLink s p (fun l => { l with
    rxBlocks := [], rxRemain := hdrLen h, rxFrame := 0, rxHdr := h, block1 := false })
  let s := countFrame (countFrame s p (0x0100 + hdrKind h) h) p 0x0110 h
  incBy (inc s (Reg.PORTSTAT_RX_FRAMES p) 64) (Reg.PORTSTAT_RX_BYTES p) 64 (hdrBytes h)

theorem regsOnly_headerTaken (s : State) (p : Nat) (h : Block) :
    RegsOnly (modLink s p (fun l => { l with
      rxBlocks := [], rxRemain := hdrLen h, rxFrame := 0, rxHdr := h, block1 := false })) (headerTaken s p h) :=
  (((regsOnly_countFrame ..).trans (regsOnly_countFrame ..)).trans (.inc ..)).trans (.incBy ..)

theorem rd_headerTaken (s : State) (p : Nat) (h : Block) {a : Addr} (ha : a.obj ≠ 0x0F00)
    (hne : a ≠ Reg.PORTSTAT_RX_FRAMES p) (hne' : a ≠ Reg.PORTSTAT_RX_BYTES p) :
    rd (headerTaken s p h) a = rd s a := by
  rw [headerTaken, rd_incBy, if_neg hne', rd_inc, if_neg hne]
  exact rd_of_besides (kept := [.obj a.obj]) (by simp [ha.symm]) (by simp)

/-- The frame that a header begins. -/
def headerFrame (s : State) (p : Nat) (h : Block) : Frame :=
  { hdr := h, rxHdr := h, ingress := p, facet := p / 256, arrival := now s, stamp := s.sets.stamp,
    whole := decide (hdrLen h = 0), credits := hdrCredits h }

theorem headerChecked_headerTaken (s : State) (p : Nat) (h : Block) :
    headerCheck h (endpointPort (headerTaken s p h) p) (rd (headerTaken s p h) Reg.FRAME_HOP_LIMIT) =
      headerCheck h (endpointPort s p) (rd s Reg.FRAME_HOP_LIMIT) := by
  unfold endpointPort
  rw [rd_headerTaken s p h (by simp) (by simp) (by simp), rd_headerTaken s p h (by simp) (by simp) (by simp)]

theorem doFrameHeader_begins {s : State} {p : Nat} {h : Block} (hrx : (link s p).rxBlocks = [h])
    (hrem : (link s p).rxRemain = 0)
    (hcheck : headerCheck h (endpointPort s p) (rd s Reg.FRAME_HOP_LIMIT) = none) (hneeds : needsBlock1 h = true) :
    doFrameHeader p s = truncateIfCut (pump (modLink (newFrame (headerTaken s p h)
      (headerFrame (headerTaken s p h) p h)).1 p
      (fun l => { l with rxFrame := (headerTaken s p h).nextFrame })) p) p := by
  rw [← headerChecked_headerTaken] at hcheck
  unfold doFrameHeader
  extract_lets l
  have hl : l.rxBlocks = [h] := hrx
  split
  · simp_all
  · next b rest heq =>
    obtain ⟨rfl, rfl⟩ : h = b ∧ [] = rest := by simpa [hl] using heq
    rw [if_neg (not_not.mpr hrem)]
    extract_lets s1 s2 s3 r s4 s5
    have htaken : s3 = headerTaken s p h := rfl
    clear_value s3
    subst htaken
    have hbegin : s5 = s4 := by simp only [s5, hcheck, hneeds, if_true]
    rw [hbegin]
    simp only [s4, r, newFrame, headerFrame]

theorem doFrameHeader_refused {s : State} {p why : Nat} {h : Block} (hrx : (link s p).rxBlocks = [h])
    (hrem : (link s p).rxRemain = 0)
    (hcheck : headerCheck h (endpointPort s p) (rd s Reg.FRAME_HOP_LIMIT) = some why) :
    doFrameHeader p s = truncateIfCut (pump (refuseFrame (headerTaken s p h) p why h) p) p := by
  rw [← headerChecked_headerTaken] at hcheck
  unfold doFrameHeader
  extract_lets l
  have hl : l.rxBlocks = [h] := hrx
  split
  · simp_all
  · next b rest heq =>
    obtain ⟨rfl, rfl⟩ : h = b ∧ [] = rest := by simpa [hl] using heq
    rw [if_neg (not_not.mpr hrem)]
    extract_lets s1 s2 s3 r s4 s5
    have htaken : s3 = headerTaken s p h := rfl
    clear_value s3
    subst htaken
    have hrefuse : s5 = refuseFrame (headerTaken s p h) p why h := by simp only [s5, hcheck]
    rw [hrefuse]

/-! ## A header that begins its frame -/

theorem link_headerTaken (s : State) (p : Nat) (h : Block) : link (headerTaken s p h) p =
    { link s p with rxBlocks := [], rxRemain := hdrLen h, rxFrame := 0, rxHdr := h, block1 := false } :=
  ((regsOnly_headerTaken s p h).link p).trans (link_modLink_self ..)

theorem nextFrame_headerTaken (s : State) (p : Nat) (h : Block) : (headerTaken s p h).nextFrame = s.nextFrame :=
  (regsOnly_headerTaken s p h).nextFrame

theorem frames_headerTaken (s : State) (p : Nat) (h : Block) : (headerTaken s p h).frames = s.frames :=
  (regsOnly_headerTaken s p h).frames

theorem now_headerTaken (s : State) (p : Nat) (h : Block) : now (headerTaken s p h) = now s :=
  (regsOnly_headerTaken s p h).now

theorem rxFrames_headerTaken (s : State) (p : Nat) (h : Block) : rd (headerTaken s p h) (Reg.PORTSTAT_RX_FRAMES p) =
    (rd s (Reg.PORTSTAT_RX_FRAMES p) + 1) % 2 ^ 64 := by
  rw [headerTaken, rd_incBy, if_neg (by simp), rd_inc, if_pos rfl, rd_of_besides (s := s) (kept := [.obj 0x0F04])]
  · simp
  · simp

theorem rxBytes_headerTaken (s : State) (p : Nat) (h : Block) : rd (headerTaken s p h) (Reg.PORTSTAT_RX_BYTES p) =
    (rd s (Reg.PORTSTAT_RX_BYTES p) + hdrBytes h) % 2 ^ 64 := by
  rw [headerTaken, rd_incBy, if_pos rfl, rd_inc, if_neg (by simp), rd_of_besides (s := s) (kept := [.obj 0x0F04])]
  · simp
  · simp

theorem arrival_headerFrame (s : State) (p : Nat) (h : Block) : (headerFrame s p h).arrival = now s := rfl

/-- A port whose taken header's frame stands in staging and waits for its block 1. -/
def headerBegun (s : State) (p : Nat) (h : Block) : State :=
  modLink (newFrame s (headerFrame s p h)).1 p (fun l => { l with rxFrame := s.nextFrame })

theorem link_headerBegun (s : State) (p : Nat) (h : Block) :
    link (headerBegun s p h) p = { link s p with rxFrame := s.nextFrame } := link_modLink_self ..

theorem findFrame_headerBegun (s : State) (p : Nat) (h : Block) :
    findFrame (headerBegun s p h) s.nextFrame = some (headerFrame s p h) := findFrame_newFrame ..

theorem rd_headerBegun (s : State) (p : Nat) (h : Block) (a : Addr) : rd (headerBegun s p h) a = rd s a := rfl

theorem pump_headerBegun {s : State} {p : Nat} (hempty : (link s p).rxBlocks = []) (h : Block) :
    pump (headerBegun s p h) p = headerBegun s p h := by
  have hbegun : (link (headerBegun s p h) p).rxBlocks = [] := by rw [link_headerBegun, hempty]
  rw [pump_of_empty hbegun, link_headerBegun]
  exact resumeBridge_of_find (findFrame_headerBegun s p h) rfl

theorem doFrameHeader_begun {s : State} {p : Nat} {h : Block} (hup : rd s (Reg.PORT_STATE p) = 5)
    (hrx : (link s p).rxBlocks = [h]) (hrem : (link s p).rxRemain = 0)
    (hcheck : headerCheck h (endpointPort s p) (rd s Reg.FRAME_HOP_LIMIT) = none) (hneeds : needsBlock1 h = true) :
    doFrameHeader p s = headerBegun (headerTaken s p h) p h := by
  have hstate : rd (headerBegun (headerTaken s p h) p h) (Reg.PORT_STATE p) = 5 := by
    rw [rd_headerBegun, rd_headerTaken s p h (by simp) (by simp) (by simp), hup]
  rw [doFrameHeader_begins hrx hrem hcheck hneeds, ← headerBegun, pump_headerBegun (by rw [link_headerTaken]),
    truncateIfCut_up hstate]

/-! ## A header that is refused -/

theorem hdrCredits_ne_zero (h : Block) : hdrCredits h ≠ 0 := by
  unfold hdrCredits hdrBlocks
  omega

theorem hdrVl_lt (h : Block) : hdrVl h < 9 := by
  have hdl : hdrDl h < 2 := Nat.mod_lt _ (by decide)
  unfold hdrVl vlOf
  split <;> omega

/-- The record of a header refused for its length or its checksum. -/
def refusalNoted (s : State) (p why : Nat) (h : Block) : State :=
  if why = 0x07 then raise s Code.FRAME_OVERSIZE (p / 256) [(16, twinPort s p), (16, hdrLen h), (24, hdrSrc h)]
  else if why = 0x01 then raise s Code.HCRC_BAD (p / 256) [(16, twinPort s p), (128, h.toNat)] else s

theorem refusalNoted_kept (s : State) (p why : Nat) (h : Block) : (refusalNoted s p why h).frames = s.frames ∧
    (refusalNoted s p why h).nextFrame = s.nextFrame ∧ (refusalNoted s p why h).links = s.links ∧
      (refusalNoted s p why h).regs = s.regs := by
  unfold refusalNoted
  split
  · exact ⟨rfl, rfl, rfl, rfl⟩
  · split <;> exact ⟨rfl, rfl, rfl, rfl⟩

theorem discards_discardAt (s : State) (p why : Nat) (h : Block) :
    rd (discardAt s p why h) (Reg.PORTSTAT_DISCARDS p) = (rd s (Reg.PORTSTAT_DISCARDS p) + 1) % 2 ^ 64 := by
  have hcounts : rd (countFrame (countFrame s p (0x1000 + why) h) p 0x1FFF h) (Reg.PORTSTAT_DISCARDS p) =
      rd s (Reg.PORTSTAT_DISCARDS p) := by
    rw [rd_of_besides (kept := [.obj 0x0F04]) (aside_countFrame _ _ _ _ _ (by simp)) (by simp),
      rd_of_besides (kept := [.obj 0x0F04]) (aside_countFrame _ _ _ _ _ (by simp)) (by simp)]
  rw [discardAt, rd_inc, if_pos rfl, hcounts]

theorem portState_discardAt (s : State) (p why : Nat) (h : Block) :
    rd (discardAt s p why h) (Reg.PORT_STATE p) = rd s (Reg.PORT_STATE p) :=
  rd_of_besides (kept := [.obj 0x0300]) (by simp) (by simp)

/-- A port whose taken header was refused, before its credits are given back. -/
def headerRefused (s : State) (p why : Nat) (h : Block) : State :=
  refusalNoted (discardAt (headerTaken s p h) p why h) p why h

theorem headerRefused_spec (s : State) (p why : Nat) (h : Block) :
    (headerRefused s p why h).frames = s.frames ∧ (headerRefused s p why h).nextFrame = s.nextFrame ∧
      link (headerRefused s p why h) p =
        { link s p with rxBlocks := [], rxRemain := hdrLen h, rxFrame := 0, rxHdr := h, block1 := false } ∧
      rd (headerRefused s p why h) (Reg.PORTSTAT_DISCARDS p) = (rd s (Reg.PORTSTAT_DISCARDS p) + 1) % 2 ^ 64 ∧
      rd (headerRefused s p why h) (Reg.PORT_STATE p) = rd s (Reg.PORT_STATE p) := by
  obtain ⟨hframes, hnext, hlinks, hregs⟩ := refusalNoted_kept (discardAt (headerTaken s p h) p why h) p why h
  have hcounted := regsOnly_discardAt (headerTaken s p h) p why h
  unfold headerRefused
  refine ⟨?_, ?_, ?_, ?_, ?_⟩
  · rw [hframes, hcounted.frames, frames_headerTaken]
  · rw [hnext, hcounted.nextFrame, nextFrame_headerTaken]
  · rw [link_congr hlinks, hcounted.link, link_headerTaken]
  · rw [rd_congr hregs, discards_discardAt, rd_headerTaken s p h (by simp) (by simp) (by simp)]
  · rw [rd_congr hregs, portState_discardAt, rd_headerTaken s p h (by simp) (by simp) (by simp)]

theorem freeCredits_of_port {s : State} {f : Frame} (hc : f.credits ≠ 0) (hp : f.ingress < 2048) :
    freeCredits s f = modLink s f.ingress (fun l => { l with
      freed := l.freed.set (hdrVl f.rxHdr) ((l.freed.getD (hdrVl f.rxHdr) 0 + f.credits) % 2 ^ 32) }) := by
  unfold freeCredits
  rw [if_neg (by omega)]

/-- A refused header's port once the credits of its one block are given back. -/
def headerGivenBack (s : State) (p : Nat) (h : Block) : State :=
  modLink s p (fun l => { l with freed := l.freed.set (hdrVl h) ((l.freed.getD (hdrVl h) 0 + hdrCredits h) % 2 ^ 32) })

theorem link_headerGivenBack (s : State) (p : Nat) (h : Block) : link (headerGivenBack s p h) p = { link s p with
    freed := (link s p).freed.set (hdrVl h) (((link s p).freed.getD (hdrVl h) 0 + hdrCredits h) % 2 ^ 32) } :=
  link_modLink_self ..

theorem rd_headerGivenBack (s : State) (p : Nat) (h : Block) (a : Addr) : rd (headerGivenBack s p h) a = rd s a := rfl

theorem refuseFrame_eq {s : State} {p why : Nat} {h : Block} (hp : p < 2048) (hmsg : hdrMsg h ≤ 4) :
    refuseFrame (headerTaken s p h) p why h = headerGivenBack (headerRefused s p why h) p h := by
  have hfree : refuseFrame (headerTaken s p h) p why h = freeCredits (headerRefused s p why h)
      { rxHdr := h, ingress := p, credits := if 4 < hdrMsg h then 0 else hdrCredits h } := by
    unfold refuseFrame headerRefused refusalNoted
    rfl
  rw [hfree, if_neg (by omega), freeCredits_of_port (hdrCredits_ne_zero h) hp, headerGivenBack]

theorem doFrameHeader_givenBack {s : State} {p why : Nat} {h : Block} (hp : p < 2048)
    (hup : rd s (Reg.PORT_STATE p) = 5) (hrx : (link s p).rxBlocks = [h])
    (hrem : (link s p).rxRemain = 0) (hmsg : hdrMsg h ≤ 4) (hzero : findFrame s 0 = none)
    (hcheck : headerCheck h (endpointPort s p) (rd s Reg.FRAME_HOP_LIMIT) = some why) :
    doFrameHeader p s = headerGivenBack (headerRefused s p why h) p h := by
  obtain ⟨hframes, -, hlink, -, hstate⟩ := headerRefused_spec s p why h
  have hempty : (link (headerGivenBack (headerRefused s p why h) p h) p).rxBlocks = [] := by
    rw [link_headerGivenBack, hlink]
  have hid : (link (headerGivenBack (headerRefused s p why h) p h) p).rxFrame = 0 := by rw [link_headerGivenBack, hlink]
  rw [doFrameHeader_refused hrx hrem hcheck, refuseFrame_eq hp hmsg, pump_of_empty hempty, hid, resumeBridge_of_none,
    truncateIfCut_up ((rd_headerGivenBack ..).trans (hstate.trans hup))]
  exact (findFrame_congr hframes 0).trans hzero

/-! ## A block of a frame that stands alone -/

theorem link_putFrame (s : State) (id : Nat) (f : Frame) (p : Nat) : link (putFrame s id f) p = link s p := rfl

theorem family_of_single {s : State} {id : Nat} {f : Frame} (h : s.frames = [(id, f)]) (hne : id ≠ 0) :
    family s id = [id] := by
  simp [family, h, hne]

theorem addBlock_of_single {s : State} {id : Nat} {f : Frame} (h : s.frames = [(id, f)]) (hne : id ≠ 0) (b : Block) :
    addBlock s id b = putFrame s id (takeBlock b f) := by
  rw [addBlock, family_of_single h hne, List.foldl_cons, List.foldl_nil, modFrame_of_find (findFrame_of_single h)]

theorem takeBlock_of_room {f : Frame} (hpoison : f.poison = false) (hmirror : f.mirror = 0xFF)
    (hroom : f.blocks.length < hdrLen f.hdr) (b : Block) : takeBlock b f = { f with blocks := f.blocks ++ [b] } := by
  simp [takeBlock, hpoison, hmirror, Nat.not_le.mpr hroom]

/-- A frame in staging that awaits admission keeps its place and its credits when it settles. -/
theorem settle_of_asked {s : State} {id : Nat} {f : Frame} (h : findFrame s id = some f) (hplace : f.place = .asked)
    (hvl : hdrVl f.rxHdr ≠ 8) : settle s id = s := by
  simp [settle, h, hplace, hvl, outOfStaging]

theorem localWhole_of_asked {s : State} {id : Nat} {f : Frame} (h : findFrame s id = some f) (hplace : f.place = .asked)
    (hvl : hdrVl f.rxHdr ≠ 8) : localWhole s id = s := by
  simp [localWhole, h, settle_of_asked h hplace hvl, hplace]

/-- A port that took its one waiting block as its frame's block 1. -/
def block1Taken (s : State) (p : Nat) : State :=
  modLink (modLink s p (fun l => { l with block1 := true })) p
    (fun l => { l with rxBlocks := [], rxRemain := l.rxRemain - 1 })

theorem link_block1Taken (s : State) (p : Nat) : link (block1Taken s p) p =
    { link s p with block1 := true, rxBlocks := [], rxRemain := (link s p).rxRemain - 1 } := by
  rw [block1Taken, link_modLink_self, link_modLink_self]

theorem rd_block1Taken (s : State) (p : Nat) (a : Addr) : rd (block1Taken s p) a = rd s a := rfl

/-- Block 1 that passes its check leaves the port's blocks for the frame. -/
theorem doFrameBlock1_joins {s : State} {p id : Nat} {f : Frame} {b : Block} (hrx : (link s p).rxBlocks = [b])
    (hid : (link s p).rxFrame = id) (hf : findFrame s id = some f) (hblocks : f.blocks = [])
    (hrem : 2 ≤ (link s p).rxRemain) (hb1 : (link s p).block1 = false) (hneeds : needsBlock1 (link s p).rxHdr = true)
    (hcheck : block1Check (link s p).rxHdr b (endpointPort s p) = none) :
    doFrameBlock1 p s = pump (passFrame (addBlock (block1Taken s p) id b) p id (link s p).rxHdr) p := by
  have hone : (link s p).rxRemain ≠ 1 := by omega
  have hzero : (link s p).rxRemain ≠ 0 := by omega
  have hend : endpointPort (modLink s p (fun l => { l with block1 := true })) p = endpointPort s p := rfl
  subst hid
  simp [doFrameBlock1, hrx, hf, hb1, hneeds, hblocks, hzero, hone, hend, hcheck, block1Taken]

/-- A port that took the last block of its frame. -/
def tailTaken (s : State) (p : Nat) : State :=
  modLink s p (fun l => { l with rxBlocks := [], rxRemain := 0, rxFrame := 0 })

theorem link_tailTaken (s : State) (p : Nat) : link (tailTaken s p) p =
    { link s p with rxBlocks := [], rxRemain := 0, rxFrame := 0 } := link_modLink_self ..

theorem rd_tailTaken (s : State) (p : Nat) (a : Addr) : rd (tailTaken s p) a = rd s a := rfl

/-- A frame's last block makes it whole, where nothing of it waits for the rest. -/
theorem doFrameTail_whole {s : State} {p id : Nat} {f : Frame} {b : Block} (hrx : (link s p).rxBlocks = [b])
    (hid : (link s p).rxFrame = id) (hframes : s.frames = [(id, f)]) (hne : id ≠ 0) (hpoison : f.poison = false)
    (hplace : f.place = .asked) (hwait : f.macWait = false) (hroom : f.blocks.length < hdrLen f.hdr)
    (hrem : (link s p).rxRemain = 1) (hb1 : (link s p).block1 = true) (hmirror : f.mirror = 0xFF)
    (hvl : hdrVl f.rxHdr ≠ 8) (hb : b ≠ poisonTail (link s p).rxHdr) :
    doFrameTail p s = putFrame (putFrame (tailTaken s p) id { f with blocks := f.blocks ++ [b] }) id
      { f with blocks := f.blocks ++ [b], whole := true } := by
  subst hid
  have hfam : family s (link s p).rxFrame = [(link s p).rxFrame] := family_of_single hframes hne
  unfold doFrameTail
  extract_lets l id
  split
  · next heq => exact absurd (hrx.symm.trans heq) (List.cons_ne_nil _ _)
  next b' rest heq =>
  obtain ⟨rfl, rfl⟩ : b = b' ∧ [] = rest := by simpa [l, hrx] using heq
  extract_lets s1 fam a1 a2 a3 qs a4 s2
  have hnoexit : ¬(l.rxRemain ≠ 1 ∨ (family s id).isEmpty = true ∨
      (l.block1 = false ∧ needsBlock1 l.rxHdr = true)) := by
    simp [l, id, hfam, hrem, hb1]
  rw [if_neg hnoexit]
  have hfam1 : fam = [id] := family_of_single (s := s1) hframes hne
  have hs1 : s1 = tailTaken s p := rfl
  have h2 : s2 = putFrame (putFrame s1 id { f with blocks := f.blocks ++ [b] }) id
      { f with blocks := f.blocks ++ [b], whole := true } := by
    unfold s2
    rw [if_neg hb]
    have ha1 : a1 = putFrame s1 id { f with blocks := f.blocks ++ [b] } :=
      (addBlock_of_single (s := s1) hframes hne b).trans (by rw [takeBlock_of_room hpoison hmirror hroom])
    have ha2 : a2 = putFrame a1 id { f with blocks := f.blocks ++ [b], whole := true } := by
      unfold a2
      rw [hfam1, ha1, List.foldl_cons, List.foldl_nil, modFrame_of_find (findFrame_putFrame_self ..)]
      simp [hpoison]
    have hfind : findFrame a2 id = some { f with blocks := f.blocks ++ [b], whole := true } := by
      rw [ha2, findFrame_putFrame_self]
    have ha3 : a3 = a2 := resumeBridge_of_find hfind hwait
    have hqs : qs = [] := by simp [qs, hfam1, ha3, hfind, hplace]
    have ha4 : a4 = a2 := by rw [show a4 = qs.foldl _ a3 from rfl, hqs, ha3]; rfl
    rw [hfam1, List.foldl_cons, List.foldl_nil, ha4, localWhole_of_asked hfind hplace hvl, ha2, ha1]
  have hfind : findFrame s2 id = some { f with blocks := f.blocks ++ [b], whole := true } := by
    rw [h2, findFrame_putFrame_self]
  rw [hfam1, List.foldl_cons, List.foldl_nil, settle_of_asked hfind hplace hvl, h2, hs1]

/-- Settles O21: a header begins its frame or is refused, block 1 joins it, and its last block makes it whole. -/
theorem framesArrive : Obligations.FramesArrive := by
  unfold Obligations.FramesArrive
  refine ⟨⟨fun p h s hup hrx hrem hcheck hneeds => ?_, fun p id f b s hrx hid hframes hne hpoison hmirror hblocks hlen
    hrem hb1 hneeds hcheck => ?_, fun p id f b s hrx hid hframes hne hpoison hplace hwait hlen hrem hb1 hmirror hvl
    hb => ?_⟩,
    fun p h why s hup hrx hrem hlen hmsg hzero hfreed hcheck => ?_⟩
  · have hbegun := doFrameHeader_begun hup hrx hrem hcheck hneeds
    have hfind := findFrame_headerBegun (headerTaken s p h) p h
    rw [nextFrame_headerTaken] at hfind
    refine ⟨_, _, finish_eq hbegun, hfind, rfl, rfl, rfl, rfl,
      (arrival_headerFrame ..).trans (now_headerTaken s p h), ?_, ?_, ?_, ?_⟩
    · rw [link_headerBegun, link_headerTaken]
    · rw [link_headerBegun, nextFrame_headerTaken]
    · rw [rd_headerBegun, rxFrames_headerTaken]
    · rw [rd_headerBegun, rxBytes_headerTaken]
  · have hfind := findFrame_of_single hframes
    have hroom : f.blocks.length < hdrLen f.hdr := by rw [hblocks]; exact Nat.zero_lt_of_lt hlen
    have hadd : addBlock (block1Taken s p) id b = putFrame (block1Taken s p) id { f with blocks := [b] } := by
      rw [addBlock_of_single (s := block1Taken s p) hframes hne, takeBlock_of_room hpoison hmirror hroom, hblocks,
        List.nil_append]
    have hlink : link (addBlock (block1Taken s p) id b) p = link (block1Taken s p) p := by rw [hadd, link_putFrame]
    refine ⟨_, finish_eq (doFrameBlock1_joins hrx hid hfind hblocks hrem hb1 hneeds hcheck), ?_, ?_, ?_, fun a => ?_⟩
    · rw [hadd, findFrame_putFrame_self]
    · rw [hlink, link_block1Taken]
    · rw [hlink, link_block1Taken]
    · rw [hadd, rd_putFrame, rd_block1Taken]
  · refine ⟨_, finish_eq (doFrameTail_whole hrx hid hframes hne hpoison hplace hwait hlen hrem hb1 hmirror hvl hb),
      findFrame_putFrame_self .., ?_, ?_, fun a => ?_⟩
    · rw [link_putFrame, link_putFrame, link_tailTaken]
    · rw [link_putFrame, link_putFrame, link_tailTaken]
    · rw [rd_putFrame, rd_putFrame, rd_tailTaken]
  · have hback := doFrameHeader_givenBack p.isLt hup hrx hrem hmsg hzero hcheck
    obtain ⟨hframes, hnext, hlink, hdiscards, -⟩ := headerRefused_spec s p why h
    refine ⟨_, finish_eq hback, hframes, hnext, ?_, hdiscards, ?_⟩
    · rw [link_headerGivenBack, hlink]
    · have hvl : hdrVl h < (link s p).freed.length := hfreed ▸ hdrVl_lt h
      rw [link_headerGivenBack, hlink]
      simp [hvl]

end Sys2Proof.Machine

/-! # A quota notice where two frames have one number (O24)

The statement reads a tenant's shared cells before the request is marked as notified, the command after it. Marking
the request writes its number's one entry of the frame table, so the two agree wherever a number has one entry; no
premise of the statement asks that of the table. -/

namespace Sys2Proof.Machine

/-- A request that waits for quota at port 0. -/
def quotaWaiter : Frame := { place := .waiting, cause := .quota, egress := 0 }

/-- A frame with five shared cells of the same tenant at the same facet. -/
def sharedHolder : Frame := { region := .shared, cells := 5, egress := 0 }

/-- The set that sends a notice for EID 0 to port 0, the one member of route group 0, without delay. -/
def noticeRegs : Regs :=
  (wr (wr (wr (wr State.reset (Reg.PORT_STATE 0) 5) (Reg.DEST_ACTION 0) 1) (Reg.RGROUP_MEMBERS 0 0) 1)
    Reg.BUFCFG_QUOTA_NOTIFY 0).regs

/-- Both frames stand under the number 1. -/
def sharedNumber : State :=
  { State.reset with
    regs := noticeRegs, links := [(0, { liveKa := true })], frames := [(1, quotaWaiter), (1, sharedHolder)],
    nextFrame := 2, forward := { gens := [(originationGen 0, 1)] } }

/-- The blocks of every frame that stands after a command. -/
def frameBlocks : Answer → List (List Block)
  | .next t => t.frames.map (fun e => e.2.blocks)
  | _ => []

/-- Refutes O24: with a second frame under the request's number, whose five shared cells the mark removes from the
table, the notice reports no cells and not the five that stood before it. -/
theorem not_admission : ¬ Obligations.Admission := by
  unfold Obligations.Admission
  rintro ⟨-, -, hquota⟩
  have hnotice := (hquota 1 quotaWaiter sharedNumber rfl rfl rfl rfl (by decide +kernel)).1 (by decide +kernel)
    (by decide +kernel) (by decide +kernel)
  exact absurd (congrArg frameBlocks hnotice) (by decide +kernel)

end Sys2Proof.Machine

/-! # Spill, prefetch and the residence limit (O25) -/

namespace Sys2Proof.Machine

/-! ## A change made to each frame of a list -/

theorem findFrame_modFrame (s : State) (x id : Nat) (g : Frame → Frame) :
    findFrame (modFrame s x g) id = if id = x then (findFrame s id).map g else findFrame s id := by
  unfold modFrame
  split
  · next h =>
    split
    · next hid => rw [hid, h]; rfl
    · rfl
  · next f h =>
    rw [findFrame_putFrame]
    split
    · next hid => rw [hid, h]; rfl
    · rfl

/-- Once made, a change that changes nothing more stays. -/
theorem findFrame_modFrames_kept {g : Frame → Frame} {s : State} {id : Nat} {f : Frame} (hf : findFrame s id = some f)
    (hg : g f = f) (ids : List Nat) : findFrame (ids.foldl (fun s x => modFrame s x g) s) id = some f :=
  List.foldlRecOn (motive := fun s => findFrame s id = some f) ids _ hf fun s hs x _ => by
    rw [findFrame_modFrame, hs]
    split
    · rw [Option.map_some, hg]
    · rfl

theorem findFrame_modFrames {g : Frame → Frame} {s : State} {id : Nat} {f : Frame} {ids : List Nat} (hid : id ∈ ids)
    (hf : findFrame s id = some f) (hg : g (g f) = g f) :
    findFrame (ids.foldl (fun s x => modFrame s x g) s) id = some (g f) := by
  induction ids generalizing s with
  | nil => exact absurd hid List.not_mem_nil
  | cons x xs ih =>
    rw [List.foldl_cons]
    by_cases hx : id = x
    · refine findFrame_modFrames_kept ?_ hg xs
      rw [findFrame_modFrame, if_pos hx, hf, Option.map_some]
    · refine ih ((List.mem_cons.mp hid).resolve_left hx) ?_
      rw [findFrame_modFrame, if_neg hx, hf]

theorem modFrame_regs (s : State) (x : Nat) (g : Frame → Frame) : (modFrame s x g).regs = s.regs := by
  unfold modFrame
  split <;> rfl

theorem modFrames_regs (g : Frame → Frame) (s : State) (ids : List Nat) :
    (ids.foldl (fun s x => modFrame s x g) s).regs = s.regs := by
  refine proj_foldl_of_keep State.regs (fun s x => ?_) s
  exact modFrame_regs s x g

/-! ## Segments -/

/-- A frame whose segment is written holds no cells while it is queued. -/
def spilled (f : Frame) : Frame := if f.place = .queued then { f with region := .none, cells := 0 } else f

theorem doSegmentWriteDone_frees {g sid q : Nat} {x : Segment} {id : Nat} {f : Frame} {s : State}
    (hx : (facetSegments s g).find? (fun x => decide (x.2.id = sid) && decide (x.2.place = .writing)) = some (q, x))
    (hid : id ∈ x.frames) (hf : findFrame s id = some f) (hplace : f.place = .queued) :
    findFrame (doSegmentWriteDone g sid s) id = some { f with region := .none, cells := 0 } := by
  have hspilled : spilled f = { f with region := .none, cells := 0 } := if_pos hplace
  have hfold : findFrame (x.frames.foldl (fun s x => modFrame s x spilled) s) id = some (spilled f) :=
    findFrame_modFrames hid hf (by rw [hspilled]; exact if_pos hplace)
  unfold doSegmentWriteDone
  simp only [hx]
  rw [← hspilled, ← hfold]
  change findFrame (setSegment (countIn (x.frames.foldl (fun s x => modFrame s x spilled) s) _ _ _) q sid .held) id = _
  exact findFrame_congr (frames_of_aside (P := besides [.frames]) (by simp [setSegment]) (by simp)) id

/-- A frame whose segment was read back stands in the prefetch pool. -/
def prefetched (f : Frame) : Frame := { f with region := .prefetch, cells := hdrCells f.hdr }

theorem doPrefetchDone_holds {q sid corrected : Nat} {x : Segment} {id : Nat} {f : Frame} {s : State}
    (hx : findSegment s q sid = some x) (hplace : x.place = .reading) (hid : id ∈ x.frames)
    (hf : findFrame s id = some f) :
    findFrame (doPrefetchDone q sid [] corrected s) id =
      some { f with region := .prefetch, cells := hdrCells f.hdr } := by
  have hfold (u : State) (hu : findFrame u id = some f) : findFrame (x.frames.foldl (fun s x => modFrame s x prefetched)
      u) id = some (prefetched f) := findFrame_modFrames hid hu rfl
  unfold doPrefetchDone
  simp only [hx, hplace, ne_eq, not_true_eq_false, if_false, List.contains_nil, List.filter_false, if_true,
    List.foldl_nil]
  set u := setSegment (countIn (countIn s (hbmBank (queueFacet q) x.group) 0x6002 { bytes := x.bytes })
    (hbmBank (queueFacet q) x.group) 0x6005 { events := corrected }) q sid .read with hu
  have hframes : u.frames = s.frames := frames_of_aside (P := besides [.frames]) (by simp [hu, setSegment]) (by simp)
  rw [← prefetched, ← hfold u ((findFrame_congr hframes id).trans hf)]
  change findFrame (queueSettled (raiseTo (x.frames.foldl (fun s x => modFrame s x prefetched) u) _ _) q) id = _
  exact findFrame_congr (frames_of_aside (P := besides [.frames]) (by simp) (by simp)) id

/-- A frame whose queue stalls gives its prefetch cells back. -/
def stalled (f : Frame) : Frame :=
  if f.region = .prefetch ∧ f.place = .queued then { f with region := .none, cells := 0 } else f

/-- A queue that stalled: it gave its prefetch pool back, and its segments are to be read again. -/
def EQueue.stalled (e : EQueue) : EQueue :=
  { e with
    gaveBack := true,
    segments := e.segments.map (fun x => if x.place = .read then { x with place := .held } else x) }

theorem doPfStall_eq {q since : Nat} {s : State} (hsince : (equeue s q).stallSince = some since)
    (hspill : (equeue s q).spill = true) (hstall : rd s Reg.FLOWCFG_PF_STALL ≤ now s - since)
    (hcredit : headCredit s q = false) : doPfStall q s =
      modQueue ((equeue s q).order.foldl (fun s x => modFrame s x stalled) s) q EQueue.stalled := by
  unfold doPfStall
  simp only [hsince, hspill, hcredit, Nat.not_lt.mpr hstall, Bool.true_eq_false, Bool.false_eq_true, or_self, if_false]
  rfl

/-! ## A lost channel group -/

theorem hbmQueuesOut_none {g c : Nat} {s : State} (hqueues : s.egress.queues = []) : hbmQueuesOut g c s = s := by
  have hsegs : facetSegments s g = [] := by rw [facetSegments, hqueues]; rfl
  unfold hbmQueuesOut
  rw [hsegs]
  rfl

/-! ## The residence limit -/

/-- The one waiting frame of a facet, past the limit, is the one to go. -/
theorem expiredWaiting_alone {g id : Nat} {f : Frame} {s : State} (hframes : s.frames = [(id, f)])
    (hplace : f.place = .waiting) (hegress : f.egress / 256 = g) (hexp : expired s f = true) :
    expiredWaiting s g = [id] := by
  simp [expiredWaiting, hframes, hplace, hegress, hexp]

theorem expiredQueued_none {g : Nat} {s : State} (hqueues : s.egress.queues = []) : expiredQueued s g = [] := by
  have hsegs : facetSegments s g = [] := by rw [facetSegments, hqueues]; rfl
  rw [expiredQueued, hsegs, hqueues]
  rfl

theorem doResidenceSweep_alone {g id : Nat} {f : Frame} {s : State} (hframes : s.frames = [(id, f)])
    (hplace : f.place = .waiting) (hegress : f.egress / 256 = g) (hexp : expired s f = true)
    (hqueues : s.egress.queues = []) (hholds : s.forward.holds = []) :
    doResidenceSweep g s = raise (dropIn s id 0x25) Code.RESIDENCE_EXPIRED g [] := by
  have hpool : poolQueue s g = [] := by simp [poolQueue, hframes, hplace, sortBy]
  simp [doResidenceSweep, expiredQueued_none hqueues, expiredWaiting_alone hframes hplace hegress hexp, hholds, hpool,
    expiredRun]

/-- A frame's removal writes no element but its queue's deficit and its port's scheduler. -/
theorem rd_removeFrame (s : State) (id : Nat) {a : Addr} (ha : a.obj ≠ 0x0800) (ha' : a.obj ≠ 0x0802) :
    rd (removeFrame s id) a = rd s a := by
  refine rd_of_besides (kept := [.obj a.obj]) ?_ (by simp)
  unfold removeFrame
  split <;> simp [ha.symm, ha'.symm]

theorem discards_dropIn {s : State} {id why : Nat} {f : Frame} (hf : findFrame s id = some f) (hin : f.ingress < 2048) :
    rd (dropIn s id why) (Reg.PORTSTAT_DISCARDS f.ingress) =
      (rd s (Reg.PORTSTAT_DISCARDS f.ingress) + 1) % 2 ^ 64 := by
  unfold dropIn
  simp only [hf]
  rw [rd_removeFrame _ _ (by simp) (by simp), discardIn, if_pos hin, discards_discardAt]

/-- Settles O25: segments are written and read back, and expired frames go, as each command's rules say. -/
theorem spillPrefetchAndResidence : Obligations.SpillPrefetchAndResidence := by
  unfold Obligations.SpillPrefetchAndResidence
  refine ⟨⟨fun g sid q x id f s hx hid hf hplace => ?_, fun q x s hspill hplace hfind hreading hlow hpool hback => ?_,
    fun q sid corrected x id f s hx hplace hid hf => ?_,
    fun q since id f s hsince hspill hstall hcredit hid hf hregion hplace => ?_,
    fun g c s hnot hqueues hslots => ?_⟩,
    fun g id f s hframes hplace hegress hingress hparent hexp hqueues hholds => ?_⟩
  · exact ⟨_, finish_eq rfl, doSegmentWriteDone_frees hx hid hf hplace⟩
  · refine next_eq ?_
    simp only [doPrefetchIssue, hfind]
    rw [if_pos ⟨hspill, hplace, hreading, hlow, hpool, hback⟩]
  · exact ⟨_, finish_eq rfl, doPrefetchDone_holds hx hplace hid hf⟩
  · have hstalled : stalled f = { f with region := .none, cells := 0 } := if_pos ⟨hregion, hplace⟩
    have hagain : stalled (stalled f) = stalled f := by rw [hstalled]; exact if_neg (by simp)
    have hfold := findFrame_modFrames hid hf hagain
    rw [hstalled] at hfold
    refine ⟨_, next_eq (doPfStall_eq hsince hspill hstall hcredit), hfold, ?_, modFrames_regs ..⟩
    rw [equeue_modQueue, if_pos rfl]
    rfl
  · refine finish_eq ?_
    have hout := hbmQueuesOut_none (g := g) (c := c)
      (s := modEgress s (fun e => { e with hbmOut := e.hbmOut ++ [g.val * 2 + c.val] })) hqueues
    simp [doHbmCgOut, hnot, hout, hslots]
  · have hexpired : expired s f = true := decide_eq_true hexp
    have hfind := findFrame_of_single hframes
    refine ⟨_, finish_eq (doResidenceSweep_alone hframes hplace hegress hexpired hqueues hholds), ?_, ?_, ?_⟩
    · exact findFrame_dropIn_self ..
    · exact discards_dropIn hfind hingress
    · rw [raise_raised]
      exact List.mem_append_right _ List.mem_cons_self

end Sys2Proof.Machine

/-! # Traces reach their chunk (O29) -/

namespace Sys2Proof.Machine

/-! ## A granted trace -/

/-- A frame that no copies hang on keeps its header and its place when it settles. -/
theorem settle_keeps {s : State} {id : Nat} {f : Frame} (h : findFrame s id = some f) (hplace : f.place ≠ .parent) :
    ∃ g, findFrame (settle s id) id = some g ∧ g.hdr = f.hdr ∧ g.place = f.place := by
  rcases settle_of_find h hplace with heq | heq
  · exact ⟨f, by rw [heq, h], rfl, rfl⟩
  · exact ⟨{ f with credits := 0 }, by rw [heq, findFrame_putFrame_self], rfl, rfl⟩

theorem doPoolGrant_grants {g id : Nat} {f : Frame} {rest : List (Nat × Frame)} {s : State}
    (hqueue : poolQueue s g = (id, f) :: rest) (hexp : expired s f = false)
    (hpair : f.facet = g ∨ pairIsDown s f.facet g = false)
    (hroom : poolUsed s g + hdrCells f.hdr ≤ rd s Reg.ARITHCFG_TRACE_POOL * 4096) (hplaces : placesTaken s g < 10240) :
    doPoolGrant g s = if f.facet = g
      then settle (putFrame (countFrameIn s (facetBank g) 0x8112 f.hdr) id { f with place := .pool }) id
      else putFrame (countFrameIn s (facetBank g) 0x8112 f.hdr) id { f with place := .granted } := by
  have hopen : ¬(pairIsDown s f.facet g = true ∧ f.facet ≠ g) := by
    rcases hpair with heq | hup
    · exact fun h => h.2 heq
    · simp [hup]
  have hfits : ¬(rd s Reg.ARITHCFG_TRACE_POOL * 4096 < poolUsed s g + hdrCells f.hdr ∨
      (needsPlace s f = true ∧ 10240 ≤ placesTaken s g)) := by omega
  unfold doPoolGrant
  rw [hqueue, List.filter_cons_of_pos (by simp [hexp])]
  dsimp only
  rw [if_neg hopen, if_neg hfits]

/-! ## The first trace of a chunk -/

theorem regs_noteIdle (s : State) (t j : Nat) : (noteIdle s t j).regs = s.regs := by
  unfold noteIdle
  split
  · rfl
  split
  · rfl
  split <;> rfl

/-- A stint for a trace leaves its chunk and the elements as they were. -/
theorem addStint_spec (s : State) (t j kind frame entry : Nat) (gs : List Nat) :
    chunkSlot (addStint s t j kind frame entry gs) t j = chunkSlot s t j ∧
      (addStint s t j kind frame entry gs).regs = s.regs ∧
      ∃ y ∈ (addStint s t j kind frame entry gs).coll.stints, y.frame = frame ∧ y.kind = kind ∧ y.team = t ∧
        y.slot = j := by
  unfold addStint addStintAt
  dsimp only
  refine ⟨?_, regs_noteIdle .., ?_⟩
  · rw [chunkSlot_noteIdle, chunkSlot_modColl _ rfl]
  · rw [stints_noteIdle]
    exact ⟨_, List.mem_append_right _ (List.mem_singleton_self _), rfl, rfl, rfl, rfl⟩

/-- A trace in the window of a team of its own, whose chunk has not opened, is admitted. -/
theorem windowTrace_admits {s : State} {id t e j : Nat} {f : Frame}
    (hj : extChunk (f.blocks.getD 0 0) % (team s t).window = j)
    (hwindow : (extChunk (f.blocks.getD 0 0) + 65536 - rd s (Reg.TEAM_BASE t)) % 65536 < (team s t).window)
    (hret : retains (chunkSlot s t j) (extChunk (f.blocks.getD 0 0)) = false) (hstate : (chunkSlot s t j).state = 0) :
    windowTrace s id t e f = admitTrace s id t j e f := by
  subst hj
  unfold windowTrace chunkTrace
  extract_lets x ext c j d k
  rw [if_neg (show ¬(x.window ≤ d ∧ d < 64512) from fun h => absurd hwindow (Nat.not_lt.mpr h.1)),
    if_neg (show ¬(retains k c = true) from ne_true_of_eq_false hret), if_neg (Nat.not_le.mpr hwindow), if_pos hstate]

theorem admitTrace_opens {s : State} {id t j e : Nat} {f : Frame} (hyoke : isYoke (team s t).opc = false) :
    (chunkSlot (admitTrace s id t j e f) t j).state = 1 ∧
      (chunkSlot (admitTrace s id t j e f) t j).chunk = extChunk (f.blocks.getD 0 0) ∧
      (chunkSlot (admitTrace s id t j e f) t j).bits = (chunkSlot s t j).bits ++ [(rd s (Reg.MEMBER_CHILD e), e)] ∧
      (admitTrace s id t j e f).regs = s.regs ∧
      ∃ y ∈ (admitTrace s id t j e f).coll.stints, y.frame = id ∧ y.kind = 0 ∧ y.team = t ∧ y.slot = j := by
  unfold admitTrace
  extract_lets x ext child s1
  rw [if_pos hyoke]
  obtain ⟨hslot, hregs, hstint⟩ := addStint_spec s1 t j 0 id e []
  refine ⟨?_, ?_, ?_, hregs, hstint⟩
  · rw [hslot, chunkSlot_modSlot_self]
  · rw [hslot, chunkSlot_modSlot_self]
  · rw [hslot, chunkSlot_modSlot_self]

theorem doTraceHome_admits {s : State} {id e : Nat} {f : Frame} (hf : findFrame s id = some f)
    (hplace : f.place = .pool) (hwhole : f.whole = true)
    (hstints : s.coll.stints.any (fun x => decide (x.frame = id)) = false)
    (hyokes : s.coll.yoke.any (fun x => decide (x.frame = id)) = false) (hlive : liveCheck s f = none)
    (hentry : entryOf s (team s (extTeam (f.blocks.getD 0 0))) (hdrSrc f.hdr) = some e) :
    doTraceHome id 0 s = windowTrace s id (extTeam (f.blocks.getD 0 0)) e f := by
  unfold doTraceHome
  simp only [hf, hlive, hentry]
  rw [if_neg (by simp only [hplace, hwhole, hstints, hyokes]; decide), if_neg (by decide), if_neg (by decide)]

/-- Settles O29: a granted trace goes to its home's pool, and the first of a chunk opens it and makes its stint. -/
theorem tracesReachTheirChunk : Obligations.TracesReachTheirChunk := by
  unfold Obligations.TracesReachTheirChunk
  refine ⟨fun g id f rest s hqueue hexp hf hplace hpair hroom hplaces => ?_, fun id e f s => ?_⟩
  · have hdo := doPoolGrant_grants hqueue hexp hpair hroom hplaces
    by_cases hhome : f.facet = g
    · rw [if_pos hhome] at hdo
      obtain ⟨h, hh, hhdr, hpool⟩ := settle_keeps (s := putFrame (countFrameIn s (facetBank g) 0x8112 f.hdr) id
        { f with place := .pool }) (findFrame_putFrame_self ..) (by simp)
      exact ⟨_, h, finish_eq hdo, hh, hhdr, by rw [hpool, if_pos hhome]⟩
    · rw [if_neg hhome] at hdo
      exact ⟨_, _, finish_eq hdo, findFrame_putFrame_self .., rfl, (if_neg hhome).symm⟩
  · intro ext t j hf hplace hwhole hstints hyokes hlive hentry hwindow hret hstate hyoke
    have hdo : doTraceHome id 0 s = admitTrace s id t j e f :=
      (doTraceHome_admits hf hplace hwhole hstints hyokes hlive hentry).trans
        (windowTrace_admits rfl hwindow hret hstate)
    exact ⟨_, finish_eq hdo, admitTrace_opens hyoke⟩

end Sys2Proof.Machine

/-! # What the eye-safety and start-up steps of the light leave aside -/

namespace Sys2Proof.Machine

section
variable (P : Piece → Bool)

/-! ## The named operations over the state -/

@[simp] theorem aside_setChord (s : State) (c : Nat) (x : ChordState) (hlight : P .light = true) :
    aside P (setChord s c x) = aside P s := by
  simp [setChord, hlight]

/-! ## Chords -/

@[simp] theorem aside_countChords (s : State) (h0401 : P (.obj 0x0401) = true) :
    aside P (countChords s) = aside P s := by
  simp [countChords, h0401]
@[simp] theorem aside_seedRing (s : State) (p side k : Nat) (hlight : P .light = true) :
    aside P (seedRing s p side k) = aside P s := by
  simp only [seedRing]
  (repeat' split) <;> simp [hlight]
@[simp] theorem aside_seedRings (s : State) (p side : Nat) (hlight : P .light = true) :
    aside P (seedRings s p side) = aside P s := by
  simp [seedRings, hlight]
@[simp] theorem aside_chordsBreak (t : Nat) (s : State) (hlight : P .light = true) (h0400 : P (.obj 0x0400) = true)
    (h0401 : P (.obj 0x0401) = true) (hChordBroken : P (.record Code.CHORD_BROKEN) = true) :
    aside P (chordsBreak t s) = aside P s := by
  simp [chordsBreak, hlight, h0400, h0401, hChordBroken]
@[simp] theorem aside_chordsReopen (t : Nat) (s : State) (hlight : P .light = true) :
    aside P (chordsReopen t s) = aside P s := by
  simp [chordsReopen, hlight]

/-! ## Light, Lanes and Feeds -/

@[simp] theorem aside_startFeed (s : State) (feed : Nat) (hO : Optics P) :
    aside P (startFeed s feed) = aside P s := by
  unfold startFeed
  (repeat' split) <;> simp [hO, hO.all]
@[simp] theorem aside_assertCls (n : Nat) (s : State) (hlight : P .light = true) (h0204 : P (.obj 0x0204) = true) :
    aside P (assertCls n s) = aside P s := by
  simp [assertCls, hlight, h0204]
@[simp] theorem aside_setPair (s : State) (t : Nat) (x : PairState) (hlight : P .light = true) :
    aside P (setPair s t x) = aside P s := by
  simp [setPair, hlight]
@[simp] theorem aside_endDark (t : Nat) (s : State) (hlinks : P .links = true) :
    aside P (endDark t s) = aside P s := by
  simp [endDark, hlinks]

end

end Sys2Proof.Machine

/-! # Eye safety and the optical start (O11) -/

namespace Sys2Proof.Machine

/-! ## The pairs' own state -/

@[simp] theorem pairState_setPair (s : State) (t : Nat) (x : PairState) : pairState (setPair s t x) t = x :=
  (Tab.get_put ..).trans (if_pos rfl)

theorem rd_setPair (s : State) (t : Nat) (x : PairState) (a : Addr) : rd (setPair s t x) a = rd s a := rfl

theorem pairState_congr {s u : State} (h : u.light.pairs = s.light.pairs) (t : Nat) :
    pairState u t = pairState s t := by
  unfold pairState; rw [h]

theorem pairs_chordsBreak (t : Nat) (s : State) : (chordsBreak t s).light.pairs = s.light.pairs := by
  unfold chordsBreak
  refine proj_foldl_of_keep (fun s => s.light.pairs) (fun s c => ?_) s
  extract_lets x st d s1 f f1 f2 s2 s3
  have h1 : s1.light.pairs = s.light.pairs := rfl
  have h3 : s3.light = s1.light := by
    unfold s3
    split
    · exact (wr_light ..).trans ((wr_light ..).trans (wr_light ..))
    · exact wr_light ..
  split
  · rw [countChords, wr_light, wr_light, raise_light, h3, h1]
  · rfl

theorem pairs_seedRings (s : State) (p side : Nat) : (seedRings s p side).light.pairs = s.light.pairs := by
  refine proj_foldl_of_keep (fun s => s.light.pairs) (fun s k => ?_) s
  unfold seedRing
  extract_lets key
  split <;> rfl

theorem pairs_chordsReopen (t : Nat) (s : State) : (chordsReopen t s).light.pairs = s.light.pairs := by
  unfold chordsReopen
  refine proj_foldl_of_keep (fun s => s.light.pairs) (fun s c => ?_) s
  dsimp only
  split
  · have hseeds (u : State) (is : List Nat) : (is.foldl (fun u i => if (chordOf s c).dumped.getD i false
        then seedRings u (strandTarget (chordOf s c) i) 0 else u) u).light.pairs = u.light.pairs := by
      refine proj_foldl_of_keep (fun s => s.light.pairs) (fun u i => ?_) u
      split
      · exact pairs_seedRings ..
      · rfl
    exact hseeds s [0, 1]
  · rfl

theorem light_updateFau (a : Nat) (s : State) : (updateFau a s).light = s.light :=
  light_of_aside (P := besides [.light]) (by simp) (by simp)

/-! ## A pair that is shut -/

/-- A pair whose transmitters are off. -/
def pairClosed (t : Nat) (s : State) : State :=
  setPair s t { pairState s t with closed := true, probe := false }

theorem closed_pairClosed (t : Nat) (s : State) : (pairState (pairClosed t s) t).closed = true := by
  rw [pairClosed, pairState_setPair]

/-- What a loss of light writes of its pair before the ports go down. -/
def pairShut (t : Nat) (s : State) : State :=
  raise (countPort (pairClosed t (inc (wr s (Reg.EYE_STATE t) 1) (Reg.EYE_SHUTS t) 32)) (t * 8) 0x200E)
    Code.EYE_SHUT 9 []

theorem shutPair_eq (t : Nat) (s : State) : shutPair t s = updateFau (t / 16) (chordsBreak t
    (portsDown (pairShut t s) ((pairPorts t).filter (fun p => !chordHeld (pairShut t s) p)) 2)) := rfl

/-- The ports that go down and the chords that break with a pair leave the pair itself. -/
theorem aside_shutPair (t : Nat) (s : State) :
    aside (besides [.obj 0x0205, .record Code.EYE_SHUT, .record Code.DARK_EXPIRED]) (shutPair t s) =
      aside (besides [.obj 0x0205, .record Code.EYE_SHUT, .record Code.DARK_EXPIRED]) (pairShut t s) := by
  rw [shutPair_eq]
  simp

theorem rd_pairShut (t : Nat) (s : State) {a : Addr} (ha : a.obj = 0x0205) :
    rd (pairShut t s) a = rd (inc (wr s (Reg.EYE_STATE t) 1) (Reg.EYE_SHUTS t) 32) a := by
  exact rd_of_besides (kept := [.obj 0x0205]) (by simp [pairShut, pairClosed]) (by simp [ha])

theorem rd_shutPair (t : Nat) (s : State) {a : Addr} (ha : a.obj = 0x0205) :
    rd (shutPair t s) a = rd (inc (wr s (Reg.EYE_STATE t) 1) (Reg.EYE_SHUTS t) 32) a :=
  (rd_of_besides (aside_shutPair t s) (by simp [ha])).trans (rd_pairShut t s ha)

theorem eyeState_shutPair (t : Nat) (s : State) : rd (shutPair t s) (Reg.EYE_STATE t) = 1 := by
  rw [rd_shutPair t s rfl]
  simp [rd_inc]

theorem eyeShuts_shutPair (t : Nat) (s : State) :
    rd (shutPair t s) (Reg.EYE_SHUTS t) = (rd s (Reg.EYE_SHUTS t) + 1) % 2 ^ 32 := by
  rw [rd_shutPair t s rfl]
  simp [rd_inc, rd_wr]

theorem eyeDbm_shutPair (t : Nat) (s : State) : rd (shutPair t s) (Reg.EYE_RX_DBM t) = rd s (Reg.EYE_RX_DBM t) := by
  rw [rd_shutPair t s rfl]
  simp [rd_inc, rd_wr]

theorem closed_shutPair (t : Nat) (s : State) : (pairState (shutPair t s) t).closed = true := by
  have hpairs : (shutPair t s).light.pairs = (pairShut t s).light.pairs := by
    rw [shutPair_eq, light_updateFau, pairs_chordsBreak]
    exact congrArg Light.pairs (light_of_aside (P := besides [.light]) (by simp) (by simp))
  have hcount (u : State) : (countPort u (t * 8) 0x200E).light = u.light :=
    light_of_aside (P := besides [.light]) (by simp) (by simp)
  rw [pairState_congr hpairs, pairShut, pairState_congr (congrArg Light.pairs ((raise_light ..).trans (hcount _))),
    closed_pairClosed]

theorem raised_pairShut (t : Nat) (s : State) :
    (pairShut t s).raised = s.raised ++ [⟨Code.EYE_SHUT, 9, recordData []⟩] := by
  rw [pairShut, raise_raised, countPort, countPortN, countIn_raised]
  rfl

theorem recorded_shutPair (t : Nat) (s : State) : ⟨Code.EYE_SHUT, 9, recordData []⟩ ∈ (shutPair t s).raised := by
  rw [mem_raised_of_aside (aside_shutPair t s) (by simp), raised_pairShut]
  exact List.mem_append_right _ List.mem_cons_self

theorem darkRecorded_shutPair {t : Nat} {s : State} {r : Raised} (hcode : r.code = Code.DARK_EXPIRED)
    (hr : r ∈ s.raised) : r ∈ (shutPair t s).raised := by
  rw [mem_raised_of_aside (aside_shutPair t s) (by simp [hcode]), raised_pairShut]
  exact List.mem_append_left _ hr

/-! ## Probe, dark and reopening -/

theorem eyeState_updateFau (a : Nat) (s : State) (t : Nat) :
    rd (updateFau a s) (Reg.EYE_STATE t) = rd s (Reg.EYE_STATE t) := rd_updateFau _ _ (by simp)

theorem pairState_updateFau (a : Nat) (s : State) (t : Nat) : pairState (updateFau a s) t = pairState s t :=
  pairState_congr (congrArg Light.pairs (light_updateFau a s)) t

/-- What the end of a dark or of a shut pair raises, and the chords it restores, leave the pair itself. -/
theorem aside_pairReopened (t : Nat) (s : State) :
    aside (besides [.obj 0x0205, .record Code.EYE_OPEN]) (updateFau (t / 16) (chordsReopen t s)) =
      aside (besides [.obj 0x0205, .record Code.EYE_OPEN]) s := by simp

theorem pairs_pairReopened (t : Nat) (s : State) :
    (updateFau (t / 16) (chordsReopen t s)).light.pairs = s.light.pairs := by
  rw [light_updateFau, pairs_chordsReopen]

/-- A pair that the partner's light opens again. -/
def pairOpened (t : Nat) (dbm : Int) (s : State) : State :=
  let s := wrI 16 s (Reg.EYE_RX_DBM t) dbm
  raise (setPair (wr s (Reg.EYE_STATE t) 0) t { pairState s t with closed := false, probe := false }) Code.EYE_OPEN 9 []

theorem eyeState_pairOpened (t : Nat) (dbm : Int) (s : State) : rd (pairOpened t dbm s) (Reg.EYE_STATE t) = 0 := by
  rw [pairOpened, rd_raise, rd_setPair, rd_wr_self]

theorem eyeDbm_pairOpened (t : Nat) (dbm : Int) (s : State) : rd (pairOpened t dbm s) (Reg.EYE_RX_DBM t) =
    rd (wrI 16 s (Reg.EYE_RX_DBM t) dbm) (Reg.EYE_RX_DBM t) := by
  rw [pairOpened, rd_raise, rd_setPair, rd_wr_ne _ _ (by simp)]

theorem closed_pairOpened (t : Nat) (dbm : Int) (s : State) : (pairState (pairOpened t dbm s) t).closed = false := by
  rw [pairOpened, pairState_congr (congrArg Light.pairs (raise_light ..)), pairState_setPair]

theorem raised_pairOpened (t : Nat) (dbm : Int) (s : State) :
    ⟨Code.EYE_OPEN, 9, recordData []⟩ ∈ (pairOpened t dbm s).raised := by
  rw [pairOpened, raise_raised]
  exact List.mem_append_right _ List.mem_cons_self

theorem raised_endDark (t : Nat) (s : State) : (endDark t s).raised = s.raised := by
  refine proj_foldl_of_keep State.raised (fun s p => ?_) s
  rfl

theorem doPartnerLight_opens {t : Nat} {dbm : Int} {s : State} (hlight : -1700 < dbm)
    (hst : rd s (Reg.EYE_STATE t) = 1 ∨ rd s (Reg.EYE_STATE t) = 2) :
    doPartnerLight t dbm s = updateFau (t / 16) (chordsReopen t (pairOpened t dbm s)) := by
  unfold doPartnerLight
  extract_lets s1 st
  have hst1 : st = rd s (Reg.EYE_STATE t) := (rd_wrI ..).trans (if_neg (by simp))
  rw [if_neg (by omega), hst1, if_pos hst]
  rfl

theorem doLossOfLight_shuts {t : Nat} {dbm : Int} {s : State} (hdbm : dbm < -2000)
    (hst : rd s (Reg.EYE_STATE t) = 0 ∨ rd s (Reg.EYE_STATE t) = 4)
    (hdark : ∀ p ∈ pairPorts t, (link s p).darkUntil = false) :
    doLossOfLight t dbm s = shutPair t (wrI 16 s (Reg.EYE_RX_DBM t) dbm) := by
  unfold doLossOfLight
  extract_lets s1 st
  have hst1 : st = rd s (Reg.EYE_STATE t) := (rd_wrI ..).trans (if_neg (by simp))
  have hany : (pairPorts t).any (fun p => (link s1 p).darkUntil) = false :=
    List.any_eq_false.mpr fun p hp => ne_true_of_eq_false (hdark p hp)
  rw [if_neg (by omega), if_neg (ne_true_of_eq_false hany)]

theorem doLossOfLight_dark {t : Nat} {dbm : Int} {s : State} (hdbm : dbm < -2000)
    (hst : rd s (Reg.EYE_STATE t) = 0 ∨ rd s (Reg.EYE_STATE t) = 4)
    (hdark : ∃ p ∈ pairPorts t, (link s p).darkUntil = true) : doLossOfLight t dbm s =
      setPair (wr (wrI 16 s (Reg.EYE_RX_DBM t) dbm) (Reg.EYE_STATE t) 3) t { pairState s t with probe := true } := by
  unfold doLossOfLight
  extract_lets s1 st
  have hst1 : st = rd s (Reg.EYE_STATE t) := (rd_wrI ..).trans (if_neg (by simp))
  have hany : (pairPorts t).any (fun p => (link s1 p).darkUntil) = true := List.any_eq_true.mpr hdark
  rw [if_neg (by omega), if_pos hany]
  rfl

theorem rdI_wrI_self {a : Addr} {x : Int} (hlow : -32768 ≤ x) (hhigh : x < 32768) (s : State) :
    rdI 16 (wrI 16 s a x) a = x := by
  rw [rdI, rd_wrI, if_pos rfl, ofRaw_toRaw_16 (by omega) (by omega)]

/-! ## Modules and feeds at the start -/

theorem assertCls_enabled {n : Nat} {s : State} (hen : rd s (Reg.CLS_ENABLE n) = 1)
    (hlatch : rd s (Reg.CLS_LATCH n) = 0) (hflt : rd s (Reg.CLS_FLT n) = 0) :
    (∀ a, rd (assertCls n s) a = if a = Reg.CLS_EN_STATE n then 1 else rd s a) ∧
      (assertCls n s).light.stagger = s.light.stagger := by
  rw [assertCls, if_pos ⟨hen, hlatch, hflt⟩]
  exact ⟨fun a => rd_wr s (Reg.CLS_EN_STATE n) a 1, rfl⟩

theorem inputs_setFeedState (f v : Nat) (s : State) : (setFeedState f v s).light.inputs = s.light.inputs := by
  have hafter : (setFeedState f v s).light = (noteLit (f / 8) (wr s (Reg.FEED_STATE f) v)).light :=
    light_of_aside (P := besides [.light]) (by simp [setFeedState]) (by simp)
  rw [hafter]
  unfold noteLit
  extract_lets lit
  split <;> rfl

theorem inputs_openPairs (f : Nat) (s : State) : (openPairs f s).light.inputs = s.light.inputs := by
  unfold openPairs
  refine proj_foldl_of_keep (fun s => s.light.inputs) (fun s t => ?_) s
  extract_lets x
  split <;> rfl

theorem rd_setFeedState (f v : Nat) (s : State) {a : Addr} (ha : a.obj ≠ 0x0200) (hst : a ≠ Reg.FEED_STATE f)
    (hstby : a ≠ Reg.FEED_STANDBY f) : rd (setFeedState f v s) a = rd s a := by
  rw [setFeedState, rd_updateFau _ _ ha, rd_updateStandby _ _ hstby, rd_noteLit, rd_wr_ne _ _ hst]

theorem rd_openPairs (f : Nat) (s : State) {a : Addr} (ha : a.obj ≠ 0x0205) : rd (openPairs f s) a = rd s a :=
  rd_of_besides (kept := [.obj a.obj]) (by simp [ha.symm]) (by simp)

/-- What R70 judges an input by is the same in `u` as in `s`. -/
structure SameInputs (s u : State) : Prop where
  inputs : u.light.inputs = s.light.inputs
  commissioned (f : Nat) : rd u (Reg.FEED_COMMISSIONED f) = rd s (Reg.FEED_COMMISSIONED f)
  modules (n : Nat) : rd u (Reg.CLS_EN_STATE n) = rd s (Reg.CLS_EN_STATE n)

theorem SameInputs.passesR70 {s u : State} (h : SameInputs s u) (f i : Nat) : passesR70 u f i = passesR70 s f i := by
  have hinput : feedInput u f i = feedInput s f i := by unfold feedInput; rw [h.inputs]
  unfold Machine.passesR70 Machine.commissioned inputLevel
  rw [hinput, h.commissioned, h.modules]

/-- A feed with no good input is dark, and another serves from the input chosen. -/
theorem startFeed_cases (s : State) (f : Nat) : startFeed s f = setFeedState f 5 s ∨
    ∃ i, startFeed s f = openPairs f (setFeedState f 0 (wr s (Reg.FEED_SELECTED f) i)) := by
  unfold startFeed
  by_cases h0 : passesR70 s f 0 = true
  · exact .inr ⟨0, by simp only [h0, if_true]⟩
  by_cases h1 : passesR70 s f 1 = true
  · exact .inr ⟨1, by simp only [h0, h1, if_true, Bool.false_eq_true, if_false]⟩
  · exact .inl (by simp only [h0, h1, Bool.false_eq_true, if_false])

theorem SameInputs.startFeed {s u : State} (h : SameInputs s u) (f : Nat) : SameInputs s (startFeed u f) := by
  rcases startFeed_cases u f with heq | ⟨i, heq⟩
  · rw [heq]
    exact ⟨(inputs_setFeedState ..).trans h.inputs,
      fun g => (rd_setFeedState _ _ _ (by simp) (by simp) (by simp)).trans (h.commissioned g),
      fun n => (rd_setFeedState _ _ _ (by simp) (by simp) (by simp)).trans (h.modules n)⟩
  · rw [heq]
    refine ⟨?_, fun g => ?_, fun n => ?_⟩
    · rw [inputs_openPairs, inputs_setFeedState, wr_light, h.inputs]
    · rw [rd_openPairs _ _ (by simp), rd_setFeedState _ _ _ (by simp) (by simp) (by simp), rd_wr_ne _ _ (by simp),
        h.commissioned]
    · rw [rd_openPairs _ _ (by simp), rd_setFeedState _ _ _ (by simp) (by simp) (by simp), rd_wr_ne _ _ (by simp),
        h.modules]

/-- The start of another feed leaves a feed's selector and state. -/
theorem rd_startFeed_other {f g : Nat} (hne : f ≠ g) (s : State) :
    rd (startFeed s g) (Reg.FEED_SELECTED f) = rd s (Reg.FEED_SELECTED f) ∧
      rd (startFeed s g) (Reg.FEED_STATE f) = rd s (Reg.FEED_STATE f) := by
  rcases startFeed_cases s g with heq | ⟨i, heq⟩
  · rw [heq]
    exact ⟨rd_setFeedState _ _ _ (by simp) (by simp) (by simp),
      rd_setFeedState _ _ _ (by simp) (by simp [hne]) (by simp)⟩
  · rw [heq]
    constructor
    · rw [rd_openPairs _ _ (by simp), rd_setFeedState _ _ _ (by simp) (by simp) (by simp), rd_wr_ne _ _ (by simp [hne])]
    · rw [rd_openPairs _ _ (by simp), rd_setFeedState _ _ _ (by simp) (by simp [hne]) (by simp),
        rd_wr_ne _ _ (by simp)]

/-- R81: the feed as its start leaves it, by what its inputs showed in `s`. -/
def FeedStarted (s u : State) (f : Nat) : Prop :=
  rd u (Reg.FEED_SELECTED f) = (if passesR70 s f 0 = true then 0 else if passesR70 s f 1 = true then 1
      else rd s (Reg.FEED_SELECTED f)) ∧
    rd u (Reg.FEED_STATE f) = (if passesR70 s f 0 = true ∨ passesR70 s f 1 = true then 0 else 5)

theorem feedStarted_chosen {f i : Nat} (s : State) :
    rd (openPairs f (setFeedState f 0 (wr s (Reg.FEED_SELECTED f) i))) (Reg.FEED_SELECTED f) = i ∧
      rd (openPairs f (setFeedState f 0 (wr s (Reg.FEED_SELECTED f) i))) (Reg.FEED_STATE f) = 0 := by
  constructor
  · rw [rd_openPairs _ _ (by simp), rd_setFeedState _ _ _ (by simp) (by simp) (by simp), rd_wr_self]
  · rw [rd_openPairs _ _ (by simp), feedState_setFeedState]

theorem feedStarted_startFeed {s u : State} {f : Nat} (h : SameInputs s u)
    (hsel : rd u (Reg.FEED_SELECTED f) = rd s (Reg.FEED_SELECTED f)) : FeedStarted s (startFeed u f) f := by
  unfold FeedStarted startFeed
  rw [h.passesR70, h.passesR70]
  by_cases h0 : passesR70 s f 0 = true
  · simp only [h0, if_true, true_or]
    exact feedStarted_chosen u
  by_cases h1 : passesR70 s f 1 = true
  · simp only [h0, h1, if_true, or_true, Bool.false_eq_true, if_false]
    exact feedStarted_chosen u
  · simp only [h0, h1, Bool.false_eq_true, if_false, or_self]
    exact ⟨(rd_setFeedState _ _ _ (by simp) (by simp) (by simp)).trans hsel, feedState_setFeedState ..⟩

/-- The feeds start one after another, each by its own inputs. -/
theorem startFeeds_spec (s : State) (n : Nat) : SameInputs s ((List.range n).foldl startFeed s) ∧
    (∀ f, f < n → FeedStarted s ((List.range n).foldl startFeed s) f) ∧
    ∀ f, n ≤ f → rd ((List.range n).foldl startFeed s) (Reg.FEED_SELECTED f) = rd s (Reg.FEED_SELECTED f) := by
  induction n with
  | zero => exact ⟨⟨rfl, fun _ => rfl, fun _ => rfl⟩, fun f hf => absurd hf (Nat.not_lt_zero f), fun _ _ => rfl⟩
  | succ n ih =>
    obtain ⟨hsame, hdone, hrest⟩ := ih
    rw [List.range_succ, List.foldl_append, List.foldl_cons, List.foldl_nil]
    refine ⟨hsame.startFeed n, fun f hf => ?_, fun f hf => ?_⟩
    · rcases Nat.lt_succ_iff_lt_or_eq.mp hf with hlt | rfl
      · obtain ⟨hsel, hst⟩ := rd_startFeed_other (Nat.ne_of_lt hlt) ((List.range n).foldl startFeed s)
        obtain ⟨hsel', hst'⟩ := hdone f hlt
        exact ⟨hsel.trans hsel', hst.trans hst'⟩
      · exact feedStarted_startFeed hsame (hrest f (Nat.le_refl f))
    · rw [(rd_startFeed_other (by omega) _).1, hrest f (by omega)]

/-! ## The statement -/

/-- Settles O11: a pair shuts on a loss of light and opens by the partner's, and the start enables the modules and
then chooses each feed's input. -/
theorem eyeSafetyAndStart : Obligations.EyeSafetyAndStart := by
  unfold Obligations.EyeSafetyAndStart
  refine ⟨⟨fun t dbm s hdbm hmin hst hdark => ?_, fun t dbm s hdbm hmin hst hdark => ?_, fun t s hst => ?_,
    fun t s hst => ?_, fun t dbm s hlight hmax hst => ?_, fun t s hst => ?_⟩,
    fun s hup hready hstart hen hlatch hflt => ?_, fun n s hup hstart hn hen hlatch hflt => ?_,
    fun s hup hstart hn => ?_⟩
  · refine ⟨_, finish_eq (doLossOfLight_shuts hdbm hst hdark), eyeState_shutPair .., ?_, ?_, closed_shutPair ..,
      recorded_shutPair ..⟩
    · rw [eyeShuts_shutPair, rd_wrI, if_neg (by simp)]
    · rw [rdI, eyeDbm_shutPair]
      exact rdI_wrI_self hmin (by omega) s
  · refine ⟨_, finish_eq (doLossOfLight_dark hdbm hst hdark), ?_, ?_⟩
    · rw [rd_setPair, rd_wr_self]
    · rw [pairState_setPair]
  · refine ⟨_, finish_eq (if_pos hst), ?_, ?_, ?_⟩
    · rw [eyeState_updateFau, rd_setPair, rd_wr_self]
    · rw [pairState_updateFau, pairState_setPair]
    · rw [pairState_updateFau, pairState_setPair]
  · refine ⟨_, finish_eq (if_pos hst), ?_, ?_, ?_⟩
    · rw [eyeState_updateFau, rd_setPair, rd_wr_self]
    · rw [pairState_updateFau, pairState_setPair]
    · rw [pairState_updateFau, pairState_setPair]
  · refine ⟨_, finish_eq (doPartnerLight_opens hlight hst), ?_, ?_, ?_, ?_⟩
    · rw [rd_of_besides (aside_pairReopened ..) (by simp), eyeState_pairOpened]
    · rw [rdI, rd_of_besides (aside_pairReopened ..) (by simp), eyeDbm_pairOpened]
      exact rdI_wrI_self (by omega) hmax s
    · rw [pairState_congr (pairs_pairReopened ..), closed_pairOpened]
    · rw [mem_raised_of_aside (aside_pairReopened ..) (by simp)]
      exact raised_pairOpened ..
  · refine ⟨_, finish_eq (if_pos hst), eyeState_shutPair .., closed_shutPair .., darkRecorded_shutPair rfl ?_⟩
    rw [raised_endDark, raise_raised]
    exact List.mem_append_right _ List.mem_cons_self
  · obtain ⟨hread, -⟩ := assertCls_enabled hen hlatch hflt
    have hdo : written s doLightUp = modLight (assertCls 0 s) (fun x => { x with started := true, stagger := 1 }) := by
      rw [written_of_up hup, doLightUp, if_pos hready, doOpticalStart, if_neg (ne_true_of_eq_false hstart)]
    refine ⟨_, next_eq hdo, rfl, rfl, (hread _).trans (if_pos rfl), fun a ha => (hread a).trans (if_neg ha)⟩
  · obtain ⟨hread, -⟩ := assertCls_enabled hen hlatch hflt
    have hdo : written s doClsStagger = modLight (assertCls n s) (fun x => { x with stagger := n.val + 1 }) := by
      rw [written_of_up hup, doClsStagger, hn, if_neg (by simp [hstart]), if_pos n.isLt]
    exact ⟨_, finish_eq hdo, rfl, (hread _).trans (if_pos rfl), fun a ha => (hread a).trans (if_neg ha)⟩
  · have hdo : written s doClsStagger = unitRefresh s (modLight ((List.range 64).foldl parkFeedRings
        ((List.range 64).foldl startFeed s)) (fun x => { x with stagger := 17 })) := by
      rw [written_of_up hup, doClsStagger, hn, if_neg (by simp [hstart]), if_neg (by omega), if_pos rfl]
    refine ⟨_, finish_eq hdo, ?_, fun f => ?_⟩
    · rw [light_of_aside (aside_unitRefresh (besides [.light]) _ _ (by simp)) (by simp)]
      rfl
    · obtain ⟨-, hstarted, -⟩ := startFeeds_spec s 64
      have hpark (u : State) (a : Addr) (ha : a.obj = 0x0201) :
          rd ((List.range 64).foldl parkFeedRings u) a = rd u a :=
        rd_of_besides (kept := [.obj 0x0201]) (by simp) (by simp [ha])
      rw [rd_unitRefresh, rd_unitRefresh, rd_modLight, rd_modLight, hpark _ _ rfl, hpark _ _ rfl]
      exact hstarted f f.isLt

end Sys2Proof.Machine

/-! # The life of a chord (O19) -/

namespace Sys2Proof.Machine

/-! ## The rings that a chord takes -/

/-- Taking a port's rings turns rings OFF and turns none on. -/
theorem ringOff_takeSeeds_keep {s : State} {r : Nat} (h : rd s (Reg.RING_STATE r) = 0) (p : Nat) :
    rd (takeSeeds s p) (Reg.RING_STATE r) = 0 := by
  unfold takeSeeds
  extract_lets temp
  refine List.foldlRecOn (motive := fun s => rd s (Reg.RING_STATE r) = 0) [0, 1, 2, 3] _ h fun s hs k _ => ?_
  refine List.foldlRecOn (motive := fun s => rd s (Reg.RING_STATE r) = 0) [0, 1] _ hs fun s hs side _ => ?_
  extract_lets x key s'
  have hs' : rd s' (Reg.RING_STATE r) = 0 := by
    unfold s'
    split <;> exact hs
  rw [rd_wr_ne _ _ (by simp), rd_wr, hs', ite_self]

theorem ringOff_takeSeeds {k side : Nat} (hk : k < 4) (hside : side < 2) (s : State) (p : Nat) :
    rd (takeSeeds s p) (Reg.RING_STATE ((p * 4 + k) * 2 + side)) = 0 := by
  have hk' : k ∈ [0, 1, 2, 3] := by simp; omega
  have hside' : side ∈ [0, 1] := by simp; omega
  set a := Reg.RING_STATE ((p * 4 + k) * 2 + side) with ha
  unfold takeSeeds
  extract_lets temp
  refine foldl_establishes (Q := fun s => rd s a = 0) (fun s j hs => ?_) hk' (fun s => ?_) s
  · refine List.foldlRecOn (motive := fun s => rd s a = 0) [0, 1] _ hs fun s hs i _ => ?_
    extract_lets x key s'
    have hs' : rd s' a = 0 := by
      unfold s'
      split <;> exact hs
    rw [rd_wr_ne _ _ (by simp [ha]), rd_wr, hs', ite_self]
  · refine foldl_establishes (Q := fun s => rd s a = 0) (fun s i hs => ?_) hside' (fun s => ?_) s
    · extract_lets x key s'
      have hs' : rd s' a = 0 := by
        unfold s'
        split <;> exact hs
      rw [rd_wr_ne _ _ (by simp [ha]), rd_wr, hs', ite_self]
    · extract_lets x key s'
      rw [rd_wr_ne _ _ (by simp [ha]), rd_wr_self]

theorem chordOf_congr {s t : State} (h : t.light.chords = s.light.chords) (c : Nat) : chordOf t c = chordOf s c := by
  unfold chordOf; rw [h]

theorem chordOf_raise (s : State) (code src : Nat) (items : List (Nat × Nat)) (c : Nat) :
    chordOf (raise s code src items) c = chordOf s c := rfl

theorem raised_setChord (s : State) (c : Nat) (x : ChordState) : (setChord s c x).raised = s.raised := rfl

theorem rd_seedStrand (x : ChordState) (strand : Nat) (s : State) (a : Addr) :
    rd (seedStrand x strand s) a = rd s a :=
  rd_of_besides (kept := [.obj a.obj]) (by simp [seedStrand]) (by simp)

theorem rd_countChords (s : State) {a : Addr} (ha : a.obj ≠ 0x0401) : rd (countChords s) a = rd s a :=
  rd_of_besides (kept := [.obj a.obj]) (by simp [ha.symm]) (by simp)

theorem chordOf_countChords (s : State) (c : Nat) : chordOf (countChords s) c = chordOf s c :=
  chordOf_congr (by rw [countChords, wr_light, wr_light]) c

theorem raised_countChords (s : State) : (countChords s).raised = s.raised := by
  rw [countChords, wr_raised, wr_raised]

/-! ## Seeding -/

theorem chordSeed_spec (c : Nat) (s : State) : rd (chordSeed c s) (Reg.CHORD_STATE c) = 2 ∧ ∀ k side, k < 4 → side < 2 →
    rd (chordSeed c s) (Reg.RING_STATE (((chordOf s c).portA * 4 + k) * 2 + side)) = 0 ∧
      rd (chordSeed c s) (Reg.RING_STATE (((chordOf s c).portB * 4 + k) * 2 + side)) = 0 := by
  unfold chordSeed
  extract_lets x s1 s2
  have h2 (r : Nat) : rd (setChord (wr s2 (Reg.CHORD_STATE c) 2) c { x with
      locked := false, retried := [false, false], dumped := [false, false] }) (Reg.RING_STATE r) =
        rd s1 (Reg.RING_STATE r) := by
    rw [rd_setChord, rd_wr_ne _ _ (by simp), rd_seedStrand, rd_seedStrand]
  refine ⟨(rd_setChord ..).trans (rd_wr_self ..), fun k side hk hside => ⟨?_, ?_⟩⟩
  · rw [h2]
    exact ringOff_takeSeeds_keep (ringOff_takeSeeds hk hside s x.portA) x.portB
  · rw [h2]
    exact ringOff_takeSeeds hk hside _ x.portB

/-! ## Rings given back -/

theorem rd_dropSeeds (s : State) (p : Nat) (a : Addr) : rd (dropSeeds s p) a = rd s a := by
  unfold dropSeeds
  refine rd_foldl_of_keep (fun s k _ => ?_) s
  refine rd_foldl_of_keep (fun s side _ => ?_) s
  rfl

/-- A ring as R143 leaves it: counting where it was OFF, and as it was otherwise. -/
def recounted (v : Nat) : Nat := if v = 0 then 1 else v

theorem recounted_recounted (v : Nat) : recounted (recounted v) = recounted v := by
  unfold recounted
  split <;> simp_all

/-- A ring that was OFF counts again, and any other stays as it is. -/
def ringGivenBack (s : State) (r : Nat) : State := if rd s (Reg.RING_STATE r) = 0 then parkRing s r else s

theorem rd_ringGivenBack (s : State) (q r : Nat) : rd (ringGivenBack s q) (Reg.RING_STATE r) =
    if r = q then recounted (rd s (Reg.RING_STATE r)) else rd s (Reg.RING_STATE r) := by
  unfold ringGivenBack recounted
  by_cases hq : r = q
  · subst hq
    by_cases hoff : rd s (Reg.RING_STATE r) = 0 <;> simp [hoff, parkRing, rd_wr]
  · by_cases hoff : rd s (Reg.RING_STATE q) = 0 <;> simp [hoff, hq, parkRing, rd_wr]

/-- Giving a port's rings back, whose seeds are dropped. -/
def portGivenBack (s : State) (p : Nat) : State := (portRings p).foldl ringGivenBack (dropSeeds s p)

theorem rd_ringsGivenBack (rs : List Nat) (s : State) (r : Nat) : rd (rs.foldl ringGivenBack s) (Reg.RING_STATE r) =
    if r ∈ rs then recounted (rd s (Reg.RING_STATE r)) else rd s (Reg.RING_STATE r) := by
  induction rs generalizing s with
  | nil => simp
  | cons q qs ih =>
    rw [List.foldl_cons, ih, rd_ringGivenBack]
    by_cases hq : r = q <;> by_cases hqs : r ∈ qs <;> simp [hq, hqs, recounted_recounted]

theorem rd_portGivenBack (s : State) (p r : Nat) : rd (portGivenBack s p) (Reg.RING_STATE r) =
    if r ∈ portRings p then recounted (rd s (Reg.RING_STATE r)) else rd s (Reg.RING_STATE r) := by
  rw [portGivenBack, rd_ringsGivenBack, rd_dropSeeds]

theorem rd_portsGivenBack (ps : List Nat) (s : State) (r : Nat) : rd (ps.foldl portGivenBack s) (Reg.RING_STATE r) =
    if ∃ p ∈ ps, r ∈ portRings p then recounted (rd s (Reg.RING_STATE r)) else rd s (Reg.RING_STATE r) := by
  induction ps generalizing s with
  | nil => simp
  | cons q qs ih =>
    rw [List.foldl_cons, ih, rd_portGivenBack]
    by_cases hq : r ∈ portRings q <;> by_cases hqs : ∃ p ∈ qs, r ∈ portRings p <;>
      simp [hq, hqs, recounted_recounted]

theorem doChordAddClear_eq {c : Nat} {s : State} (hleave : (chordOf s c).leaving ≠ [])
    (hlocal : (chordOf s c).localStep = false) : doChordAddClear c s =
      setChord ((freedPorts s c).foldl portGivenBack s) c { chordOf s c with
        localStep := true, locked := (chordOf s c).locked && !(chordOf s c).removing } := by
  unfold doChordAddClear
  extract_lets x s1
  rw [if_neg (by simp [x, hleave, hlocal])]
  rfl

/-! ## Lit and in fault -/

/-- A chord whose rings locked carries light from now on. -/
def chordLit (c pab pba : Nat) (s : State) : State :=
  let s1 := setChord s c { chordOf s c with locked := true, dumped := [false, false], retried := [false, false] }
  countChords (raise (wr (wr (wr s1 (Reg.CHORD_PWR_AB c) pab) (Reg.CHORD_PWR_BA c) pba) (Reg.CHORD_STATE c) 3)
    Code.CHORD_LIT 9 [(24, c), (16, twinPort s (chordOf s c).portA), (16, twinPort s (chordOf s c).portB)])

theorem doChordRingsLocked_lights {c pab pba : Nat} {s : State} (hst : rd s (Reg.CHORD_STATE c) = 2)
    (hrem : (chordOf s c).removing = false) : doChordRingsLocked c pab pba s = chordLit c pab pba s := by
  unfold doChordRingsLocked
  extract_lets x st s1 s2
  rw [if_neg (by simp [x, hrem]), if_pos hst]
  rfl

theorem chordLit_spec (c pab pba : Nat) (s : State) : rd (chordLit c pab pba s) (Reg.CHORD_STATE c) = 3 ∧
    rd (chordLit c pab pba s) (Reg.CHORD_PWR_AB c) = pab ∧ rd (chordLit c pab pba s) (Reg.CHORD_PWR_BA c) = pba ∧
      (chordOf (chordLit c pab pba s) c).locked = true ∧
      (chordLit c pab pba s).raised = s.raised ++ [⟨Code.CHORD_LIT, 9, recordData [(24, c),
        (16, twinPort s (chordOf s c).portA), (16, twinPort s (chordOf s c).portB)]⟩] := by
  unfold chordLit
  extract_lets x s1
  refine ⟨?_, ?_, ?_, ?_, ?_⟩
  · rw [rd_countChords _ (by simp), rd_raise, rd_wr_self]
  · rw [rd_countChords _ (by simp), rd_raise, rd_wr_ne _ _ (by simp), rd_wr_ne _ _ (by simp), rd_wr_self]
  · rw [rd_countChords _ (by simp), rd_raise, rd_wr_ne _ _ (by simp), rd_wr_self]
  · rw [chordOf_countChords, chordOf_raise, chordOf_wr, chordOf_wr, chordOf_wr, chordOf_setChord, if_pos rfl]
  · rw [raised_countChords, raise_raised]
    rfl

/-- A chord in fault: both strands dumped, and the row where the light was lost asked for a vet. -/
def chordFaulted (c row : Nat) (s : State) : State :=
  let s := setChord s c { chordOf s c with dumped := [true, true], locked := false, restoring := false }
  countChords (vetRequest (raise (wr s (Reg.CHORD_STATE c) 5) Code.CHORD_FAULT 9 []) row 1 0)

theorem doChordSettleTimeout_faults {c strand : Nat} (drop : Bool) {s : State} (hst : rd s (Reg.CHORD_STATE c) = 2)
    (hret : (chordOf s c).retried.getD strand false = true) :
    ∃ row, doChordSettleTimeout c strand drop s = chordFaulted c row s := by
  unfold doChordSettleTimeout
  extract_lets x st s1 s2 row
  refine ⟨row, ?_⟩
  rw [if_neg (by simp [st, hst]), if_pos hret]
  rfl

theorem chordFaulted_spec (c row : Nat) (s : State) : rd (chordFaulted c row s) (Reg.CHORD_STATE c) = 5 ∧
    (chordOf (chordFaulted c row s) c).dumped = [true, true] ∧
      ⟨Code.CHORD_FAULT, 9, recordData []⟩ ∈ (chordFaulted c row s).raised := by
  unfold chordFaulted
  extract_lets x s1
  have hlight (u : State) : (vetRequest u row 1 0).light = u.light := by
    change (if rd u (Reg.VET_STATE row) = 0 then wr u (Reg.VET_STATE row) 1 else u).light = u.light
    split <;> rfl
  refine ⟨?_, ?_, ?_⟩
  · rw [rd_countChords _ (by simp), rd_vetRequest, if_neg (by simp), rd_raise, rd_wr_self]
  · rw [chordOf_countChords, chordOf_congr (congrArg Light.chords (hlight _)), chordOf_raise, chordOf_wr,
      chordOf_setChord, if_pos rfl]
  · rw [raised_countChords, vetRequest_raised, raise_raised]
    exact List.mem_append_right _ List.mem_cons_self

/-! ## The local step's end -/

/-- The freed ports may train again. -/
def portsFreed (s : State) (ports : List Nat) : State :=
  ports.foldl (fun s p => modLink (setCmdBit p 22 (decide (rd s (Reg.PORT_ADMIN p) = 1)) s) p
    (fun l => { l with fails := 0 })) s

theorem aside_portsFreed (s : State) (ports : List Nat) :
    aside (besides [.obj 0x0400, .record Code.CHORD_DOWN, .light]) (portsFreed s ports) =
      aside (besides [.obj 0x0400, .record Code.CHORD_DOWN, .light]) s := by
  simp [portsFreed]

theorem doChordLocalLocked_eq {c : Nat} {s : State} (hleave : (chordOf s c).leaving ≠ [])
    (hlocal : (chordOf s c).localStep = true) (hdone : ∀ p ∈ freedPorts s c, portRingsDone s p = true) :
    doChordLocalLocked c s = unitRefresh s (countChords (if (chordOf s c).removing
      then chordUnused c (portsFreed (raise s Code.CHORD_DOWN 9 []) (freedPorts s c))
      else setChord (portsFreed (raise s Code.CHORD_DOWN 9 []) (freedPorts s c)) c
        { chordOf (portsFreed (raise s Code.CHORD_DOWN 9 []) (freedPorts s c)) c with
          leaving := [], localStep := false })) := by
  unfold doChordLocalLocked
  extract_lets x ports before s1 s2 s3
  have hall : ports.all (portRingsDone s) = true := List.all_eq_true.mpr hdone
  rw [if_pos (by simp [x, hlocal, hall, hleave])]
  rfl

theorem chordOf_portsFreed (s : State) (ports : List Nat) (c : Nat) :
    chordOf (portsFreed (raise s Code.CHORD_DOWN 9 []) ports) c = chordOf s c :=
  chordOf_congr (congrArg Light.chords (light_of_aside (aside_portsFreed ..) (by simp))) c

theorem chordDown_portsFreed (s : State) (ports : List Nat) :
    ⟨Code.CHORD_DOWN, 9, recordData []⟩ ∈ (portsFreed (raise s Code.CHORD_DOWN 9 []) ports).raised := by
  rw [mem_raised_of_aside (aside_portsFreed ..) (by simp), raise_raised]
  exact List.mem_append_right _ List.mem_cons_self

theorem chordUnused_spec (c : Nat) (s : State) : rd (chordUnused c s) (Reg.CHORD_STATE c) = 0 ∧
    rd (chordUnused c s) (Reg.CHORD_TENANT c) = 0xFFFF ∧ chordOf (chordUnused c s) c = {} ∧
      (chordUnused c s).raised = s.raised := by
  unfold chordUnused
  extract_lets s1 s2
  refine ⟨?_, ?_, ?_, ?_⟩
  · rw [rd_setChord, rd_wr_ne _ _ (by simp), rd_wr_ne _ _ (by simp), rd_wr_ne _ _ (by simp), rd_wr_ne _ _ (by simp),
      rd_wr_self]
  · rw [rd_setChord, rd_wr_self]
  · rw [chordOf_setChord, if_pos rfl]
  · rw [raised_setChord, wr_raised, wr_raised, wr_raised, wr_raised, wr_raised]

/-- The notes of units and the count of chords leave the chords and the records there are. -/
theorem chordsCounted_kept (before s : State) (c : Nat) :
    chordOf (unitRefresh before (countChords s)) c = chordOf s c ∧
      (∀ a, a.obj = 0x0400 → rd (unitRefresh before (countChords s)) a = rd s a) ∧
      (⟨Code.CHORD_DOWN, 9, recordData []⟩ ∈ s.raised →
        ⟨Code.CHORD_DOWN, 9, recordData []⟩ ∈ (unitRefresh before (countChords s)).raised) := by
  have hkept : aside (besides [.obj 0x0400, .record Code.CHORD_DOWN, .light]) (unitRefresh before (countChords s)) =
      aside (besides [.obj 0x0400, .record Code.CHORD_DOWN, .light]) s := by simp
  exact ⟨chordOf_congr (congrArg Light.chords (light_of_aside hkept (by simp))) c,
    fun a ha => rd_of_besides hkept (by simp [ha]), (mem_raised_of_aside hkept (by simp)).mpr⟩

/-- Settles O19: each step of a chord's setup, settling, fault and teardown. -/
theorem chordLife : Obligations.ChordLife := by
  unfold Obligations.ChordLife
  refine ⟨fun c k side s hst ha hb hsa hsb hk hside => ?_, fun c a b s hst hrem => ?_,
    fun c d drop s hst hlen hret => ?_, fun c d drop s hst hret => ?_, fun c s hleave hlocal => ?_,
    fun c s hlocal hleave hdone hrem => ?_, fun c s hlocal hleave hdone hrem => ?_⟩
  · obtain ⟨hstate, hrings⟩ := chordSeed_spec c s
    obtain ⟨hA, hB⟩ := hrings k side hk hside
    exact ⟨_, finish_eq (if_pos ⟨hst, ha, hb, hsa, hsb⟩), hstate, hA, hB⟩
  · obtain ⟨hstate, hab, hba, hlocked, hraised⟩ := chordLit_spec c a.toNat b.toNat s
    exact ⟨_, finish_eq (doChordRingsLocked_lights hst hrem), hstate, hab, hba, hlocked, hraised⟩
  · have hdo : doChordSettleTimeout c d drop s = setChord (seedStrand (chordOf s c) d s) c
        { chordOf s c with retried := (chordOf s c).retried.set d true } := by
      unfold doChordSettleTimeout
      extract_lets x st
      rw [if_neg (by simp [st, hst]), if_neg (ne_true_of_eq_false hret)]
    refine ⟨_, finish_eq hdo, ?_, fun a => ?_⟩
    · have hd : d.val < (chordOf s c).retried.length := by
        rw [hlen]
        exact d.isLt
      rw [chordOf_setChord, if_pos rfl, List.getD_eq_getElem?_getD, List.getElem?_set_self hd]
      rfl
    · rw [rd_setChord, rd_seedStrand]
  · obtain ⟨row, hdo⟩ := doChordSettleTimeout_faults drop hst hret
    obtain ⟨hstate, hdumped, hraised⟩ := chordFaulted_spec c row s
    exact ⟨_, finish_eq hdo, hstate, hdumped, hraised⟩
  · refine ⟨_, finish_eq (doChordAddClear_eq hleave hlocal), ?_, ?_, fun p hp r hr => ?_⟩
    · rw [chordOf_setChord, if_pos rfl]
    · rw [chordOf_setChord, if_pos rfl]
    · rw [rd_setChord, rd_portsGivenBack, if_pos ⟨p, hp, hr⟩]
      rfl
  · have hdo := doChordLocalLocked_eq hleave hlocal hdone
    rw [if_pos hrem] at hdo
    obtain ⟨hstate, htenant, hunused, hraised⟩ :=
      chordUnused_spec c (portsFreed (raise s Code.CHORD_DOWN 9 []) (freedPorts s c))
    obtain ⟨hchord, hread, hrecord⟩ := chordsCounted_kept s
      (chordUnused c (portsFreed (raise s Code.CHORD_DOWN 9 []) (freedPorts s c))) c
    refine ⟨_, finish_eq hdo, (hread _ rfl).trans hstate, (hread _ rfl).trans htenant, hchord.trans hunused,
      hrecord ?_⟩
    rw [hraised]
    exact chordDown_portsFreed ..
  · have hdo := doChordLocalLocked_eq hleave hlocal hdone
    rw [if_neg (ne_true_of_eq_false hrem), chordOf_portsFreed] at hdo
    obtain ⟨hchord, -, hrecord⟩ := chordsCounted_kept s
      (setChord (portsFreed (raise s Code.CHORD_DOWN 9 []) (freedPorts s c)) c
        { chordOf s c with leaving := [], localStep := false }) c
    refine ⟨_, finish_eq hdo, hchord.trans ?_, hrecord (chordDown_portsFreed ..)⟩
    rw [chordOf_setChord, if_pos rfl]

end Sys2Proof.Machine

/-! # What received flits leave aside -/

namespace Sys2Proof.Machine

section
variable (P : Piece → Bool)

/-! ## Links -/

@[simp] theorem aside_takeSymbols (p : Nat) (lanes : LaneSymbols) (s : State) (h0F00 : P (.obj 0x0F00) = true)
    (hlinks : P .links = true) :
    aside P (takeSymbols p lanes s).1 = aside P s := by
  simp [takeSymbols, h0F00, hlinks]
@[simp] theorem aside_takeAck (p : Nat) (h : Nat) (s : State) (h0F00 : P (.obj 0x0F00) = true)
    (hlinks : P .links = true) :
    aside P (takeAck p h s) = aside P s := by
  simp [takeAck, h0F00, hlinks]
@[simp] theorem aside_failFlit (p : Nat) (s : State) (hlinks : P .links = true) :
    aside P (failFlit p s) = aside P s := by
  simp [failFlit, hlinks]
@[simp] theorem aside_takeCredits (p v tot : Nat) (s : State) (hlinks : P .links = true)
    (h0302 : P (.obj 0x0302) = true) :
    aside P (takeCredits p v tot s) = aside P s := by
  simp [takeCredits, hlinks, h0302]
@[simp] theorem aside_takeTimestamps (p : Nat) (pl : Nat) (s : State) (hlinks : P .links = true) :
    aside P (takeTimestamps p pl s) = aside P s := by
  simp [takeTimestamps, hlinks]

end

end Sys2Proof.Machine

/-! # Flits that the received symbols complete (O15) -/

namespace Sys2Proof.Machine

/-! ## Symbols -/

theorem doSymbols_takes {p : Nat} {lanes : LaneSymbols} {s : State} (control : Bool)
    (hst : rd s (Reg.PORT_STATE p) = 4 ∨ rd s (Reg.PORT_STATE p) = 5 ∨ rd s (Reg.PORT_STATE p) = 7) :
    doSymbols p control lanes s = (takeSymbols p lanes s).2.foldl (fun u f => takeFlit p control f u)
      (takeSymbols p lanes s).1 := by
  unfold doSymbols
  extract_lets st r
  rw [if_pos (show st = 4 ∨ st = 5 ∨ st = 7 ∨ rd s (Reg.EYE_STATE (pairOf p)) = 4 by
    rcases hst with h | h | h <;> simp [st, h])]

theorem doSymbols_one {p : Nat} {lanes : LaneSymbols} {f : Flit} {u s : State} (control : Bool)
    (hst : rd s (Reg.PORT_STATE p) = 5) (htake : takeSymbols p lanes s = (u, [f])) :
    doSymbols p control lanes s = takeFlit p control f u := by
  rw [doSymbols_takes control (.inr (.inl hst)), htake]
  rfl

theorem rd_takeSymbols (p : Nat) (lanes : LaneSymbols) (s : State) {a : Addr} (ha : a.obj ≠ 0x0F00) :
    rd (takeSymbols p lanes s).1 a = rd s a :=
  rd_of_besides (kept := [.obj a.obj]) (by simp [ha.symm]) (by simp)

theorem portState_taken {p : Nat} {lanes : LaneSymbols} {f : Flit} {u s : State}
    (hst : rd s (Reg.PORT_STATE p) = 5) (htake : takeSymbols p lanes s = (u, [f])) : rd u (Reg.PORT_STATE p) = 5 := by
  have hkept := rd_takeSymbols p lanes s (a := Reg.PORT_STATE p) (by simp)
  rw [htake] at hkept
  exact hkept.trans hst

/-! ## Acknowledgement -/

/-- A link as an acknowledgement leaves it. -/
def Link.acknowledged (h : Nat) (l : Link) : Link :=
  { l with
    retry := l.retry.filter (fun f =>
      decide ((field f.hdr.toNat 76 16 + 2 ^ 16 - field h 60 16 - 1) % 2 ^ 16 < 2 ^ 15)),
    acked := field h 60 16,
    unacked := l.unacked.filter (fun e => decide ((e.1 + 2 ^ 16 - field h 60 16 - 1) % 2 ^ 16 < 2 ^ 15)) }

theorem takeAck_none {h : Nat} (hnak : field h 58 1 = 0) (hack : field h 59 1 = 0) (p : Nat) (s : State) :
    takeAck p h s = s := by
  unfold takeAck
  extract_lets ack later s1
  rw [if_neg (by omega)]
  exact if_pos hack

theorem takeAck_acks {h : Nat} (hnak : field h 58 1 = 0) (hack : field h 59 1 ≠ 0) (p : Nat) (s : State) :
    takeAck p h s = modLink s p (Link.acknowledged h) := by
  unfold takeAck
  extract_lets ack later s1
  rw [if_neg (by omega)]
  exact if_neg hack

/-- An acknowledgement or a NAK writes no field of the link but those of the retry buffer. -/
theorem proj_takeAck {α : Type} (proj : Link → α)
    (hproj : ∀ l a b c d, proj { l with retry := a, acked := b, unacked := c, resend := d } = proj l) (h p : Nat)
    (s : State) : proj (link (takeAck p h s) p) = proj (link s p) := by
  unfold takeAck
  extract_lets ack later s1
  have h1 : proj (link s1 p) = proj (link s p) := by
    unfold s1
    split
    · rfl
    · rw [link_modLink_self]
      exact hproj ..
  split
  · rw [link_countPort, link_modLink_self]
    exact (hproj ..).trans h1
  · exact h1

/-! ## Data flits -/

/-- A port that noted the data flit it has received now. -/
def dataSeen (s : State) (p : Nat) : State := modLink s p (fun l => { l with lastData := now s })

/-- A port that accepted the expected data flit. -/
def flitAccepted (s : State) (p : Nat) (f : Flit) : State :=
  let h := f.hdr.toNat
  let bs := f.payload.take (field h 44 6)
  let w := walkFlit bs.length 0 (link s p).flitRemain bs
  modLink s p (fun l => { l with
    expect := (l.expect + 1) % 2 ^ 16, ackValid := true, retryWait := false, naks := 0,
    rxBlocks := l.rxBlocks ++ bs, flitRemain := w.2, rxCharged := chargeRx w.1 l.rxCharged })

theorem takeFlit_data {p : Nat} {f : Flit} {s : State}
    (hcontrol : (f.decoded && crcGood f) = true → field f.hdr.toNat 92 4 ≠ 2) :
    takeFlit p false f s = doDataFlit p f s := by
  unfold takeFlit
  extract_lets isControl
  have hdata : isControl = false := by
    unfold isControl
    split
    · next hgood => exact decide_eq_false (hcontrol hgood)
    · rfl
  rw [hdata]
  rfl

/-- What a port noted of a data flit's acknowledgement leaves the link's other fields. -/
theorem proj_dataSeen {α : Type} (proj : Link → α) (hproj : ∀ l a b c d e,
    proj { l with retry := a, acked := b, unacked := c, resend := d, lastData := e } = proj l) (h p : Nat)
    (s : State) : proj (link (dataSeen (takeAck p h s) p) p) = proj (link s p) := by
  rw [dataSeen, link_modLink_self]
  refine (?_ : _ = proj (link (takeAck p h s) p)).trans
    (proj_takeAck proj (fun l a b c d => hproj l a b c d l.lastData) h p s)
  exact hproj (link (takeAck p h s) p) _ _ _ _ _

theorem doDataFlit_accepts {p : Nat} {f : Flit} {s : State} (hst : rd s (Reg.PORT_STATE p) = 5)
    (hdec : f.decoded = true) (hcrc : crcGood f = true) (htype : field f.hdr.toNat 92 4 = 0)
    (hseq : field f.hdr.toNat 76 16 = (link s p).expect)
    (hbounds : boundariesAgree (link s p).flitRemain (field f.hdr.toNat 50 6) (field f.hdr.toNat 44 6) = true)
    (hreplay : (link s p).retryWait = true → field f.hdr.toNat 57 1 = 1) (hsleep : (link s p).sleep ≠ .settling) :
    doDataFlit p f s = pump (flitAccepted (dataSeen (takeAck p f.hdr.toNat s) p) p f) p := by
  have hlsleep := proj_dataSeen Link.sleep (fun _ _ _ _ _ _ => rfl) f.hdr.toNat p s
  have hlexpect := proj_dataSeen Link.expect (fun _ _ _ _ _ _ => rfl) f.hdr.toNat p s
  have hlremain := proj_dataSeen Link.flitRemain (fun _ _ _ _ _ _ => rfl) f.hdr.toNat p s
  have hlwait := proj_dataSeen Link.retryWait (fun _ _ _ _ _ _ => rfl) f.hdr.toNat p s
  unfold doDataFlit
  rw [if_neg (not_not.mpr hst)]
  extract_lets h good ftype s1 s2 s3 l fits bs w s4
  have hgood : good = true := by simp [good, hdec, hcrc]
  have hs2 : s2 = dataSeen (takeAck p h s) p := by
    unfold s2 s1
    rw [if_pos hgood]
    rfl
  have hs3 : s3 = dataSeen (takeAck p h s) p := (if_neg (by rw [hs2, hlsleep]; exact hsleep)).trans hs2
  have hl : l = link (dataSeen (takeAck p h s) p) p := by rw [← hs3]
  have hfits : fits = true := by
    simp only [fits, hgood, hl, hlexpect, hlremain, ftype, htype, hseq, hbounds, decide_true, Bool.and_true, h]
  have hwait : ¬(l.retryWait = true ∧ ¬(fits = true ∧ field h 57 1 = 1)) := by
    rw [hl, hlwait]
    exact fun hw => hw.2 ⟨hfits, hreplay hw.1⟩
  rw [if_neg (by simp [ftype, h, htype]), if_neg hwait, if_pos hfits]
  have hs4 : s4 = flitAccepted s3 p f := rfl
  rw [hs4, hs3]

theorem doDataFlit_fails {p : Nat} {f : Flit} {s : State} (hst : rd s (Reg.PORT_STATE p) = 5)
    (hbad : (f.decoded && crcGood f) = false) (htype : field f.hdr.toNat 92 4 ≠ 1)
    (hwait : (link s p).retryWait = false) (hsleep : (link s p).sleep ≠ .settling) :
    doDataFlit p f s = failFlit p (dataSeen s p) := by
  have hlink : link (dataSeen s p) p = { link s p with lastData := now s } := link_modLink_self ..
  unfold doDataFlit
  rw [if_neg (not_not.mpr hst)]
  extract_lets h good ftype s1 s2 s3 l fits bs w s4
  have hgood : ¬good = true := by simp [good, hbad]
  have hs2 : s2 = dataSeen s p := by
    unfold s2 s1
    rw [if_neg hgood]
    rfl
  have hs3 : s3 = dataSeen s p := (if_neg (by rw [hs2, hlink]; exact hsleep)).trans hs2
  have hl : l.retryWait = false := by
    unfold l
    rw [hs3, hlink]
    exact hwait
  have hfits : ¬fits = true := by simp [fits, hgood]
  rw [if_neg htype, if_neg (by simp [hl]), if_neg hfits, hs3]

theorem link_flitAccepted (s : State) (p : Nat) (f : Flit) :
    (link (flitAccepted s p f) p).expect = ((link s p).expect + 1) % 2 ^ 16 ∧
      (link (flitAccepted s p f) p).ackValid = true ∧ (link (flitAccepted s p f) p).retryWait = false ∧
      (link (flitAccepted s p f) p).naks = 0 ∧ (link (flitAccepted s p f) p).nak = (link s p).nak ∧
      (link (flitAccepted s p f) p).rxBlocks = (link s p).rxBlocks ++ f.payload.take (field f.hdr.toNat 44 6) ∧
      (link (flitAccepted s p f) p).lastData = (link s p).lastData ∧
      (link (flitAccepted s p f) p).acked = (link s p).acked ∧
      (link (flitAccepted s p f) p).retry = (link s p).retry := by
  unfold flitAccepted
  rw [link_modLink_self]
  exact ⟨rfl, rfl, rfl, rfl, rfl, rfl, rfl, rfl, rfl⟩

/-- What an acknowledgement without a NAK leaves of the state, and what it shows on the link. -/
theorem takeAck_spec {h : Nat} (hnak : field h 58 1 = 0) (p : Nat) (s : State) :
    (takeAck p h s).frames = s.frames ∧ (takeAck p h s).egress = s.egress ∧ (∀ a, rd (takeAck p h s) a = rd s a) ∧
      now (takeAck p h s) = now s ∧ (field h 59 1 = 1 → (link (takeAck p h s) p).acked = field h 60 16) ∧
      (field h 59 1 = 0 → (link (takeAck p h s) p).retry = (link s p).retry) := by
  by_cases hack : field h 59 1 = 0
  · rw [takeAck_none hnak hack]
    exact ⟨rfl, rfl, fun _ => rfl, rfl, fun hone => by omega, fun _ => rfl⟩
  · rw [takeAck_acks hnak hack]
    exact ⟨rfl, rfl, fun _ => rfl, rfl, fun _ => by rw [link_modLink_self]; rfl, fun hzero => absurd hzero hack⟩

/-! ## Commands that the partner repeats -/

/-- A command that the partner already showed writes the bits it stands for, and this port's echo of them. -/
def cmdRepeated (p : Nat) (s : State) : State :=
  setCmdBit p 30 ((link s p).peerCmd.testBit 31) (wr (modLink s p (fun l => { l with
    peerCmd := (link s p).peerCmd, retired := (link s p).peerCmd.testBit 31,
    darkUntil := (link s p).peerCmd.testBit 29 }))
    (Reg.LINKSET_PEER_EMPTY p) (boolBit ((link s p).peerCmd.testBit 28)))

theorem takeCmd_repeated {p cmd : Nat} {s : State} (hcmd : cmd = (link s p).peerCmd) :
    takeCmd p cmd s = cmdRepeated p s ∨ takeCmd p cmd s = setCmdBit p 24 false (cmdRepeated p s) := by
  subst hcmd
  unfold takeCmd
  extract_lets old s1 s2 newly st yields s3 s4 s5 s6 s7 s8
  have hnewly (b : Nat) : newly b = false := by simp [newly, old]
  have h4 : s4 = s3 := if_neg (by simp [old])
  have h5 : s5 = s4 := (if_neg (by simp [hnewly])).trans (if_neg (by simp [old]))
  have h6 : s6 = s5 := if_neg (by simp [hnewly])
  have h7 : s7 = s6 := if_neg (by simp [hnewly])
  have h8 : s8 = s7 := if_neg (by simp [hnewly])
  have hend : s8 = cmdRepeated p s := by
    rw [h8, h7, h6, h5, h4]
    rfl
  rw [if_neg (by simp [hnewly]), hend]
  split
  · exact .inr rfl
  · exact .inl rfl

/-- A repeated command writes no field of the link but those of the two partners' commands. -/
theorem proj_takeCmd {α : Type} (proj : Link → α) (hproj : ∀ l a b c d e f, proj { l with
    peerCmd := a, retired := b, darkUntil := c, cmd := d, kaSeq := e, kaSample := f } = proj l) {p cmd : Nat}
    {s : State} (hcmd : cmd = (link s p).peerCmd) : proj (link (takeCmd p cmd s) p) = proj (link s p) := by
  have hset (q : Nat) (u : State) : proj (link (setCmd p q u) p) = proj (link u p) :=
    proj_setCmd proj (fun l c k x => hproj l l.peerCmd l.retired l.darkUntil c k x) p q u
  have hrepeat : proj (link (cmdRepeated p s) p) = proj (link s p) := by
    unfold cmdRepeated setCmdBit
    rw [hset, link_wr, link_modLink_self]
    exact hproj (link s p) _ _ _ (link s p).cmd (link s p).kaSeq (link s p).kaSample
  rcases takeCmd_repeated hcmd with heq | heq
  · rw [heq, hrepeat]
  · rw [heq, setCmdBit, hset, hrepeat]

theorem rd_takeCmd {p cmd : Nat} {s : State} (hcmd : cmd = (link s p).peerCmd) {a : Addr}
    (ha : a ≠ Reg.LINKSET_PEER_EMPTY p) : rd (takeCmd p cmd s) a = rd s a := by
  have hrepeat : rd (cmdRepeated p s) a = rd s a := by
    rw [cmdRepeated, rd_setCmdBit, rd_wr_ne _ _ ha]
    rfl
  rcases takeCmd_repeated hcmd with heq | heq
  · rw [heq, hrepeat]
  · rw [heq, rd_setCmdBit, hrepeat]

/-! ## Credits returned -/

/-- The credits of a lane that came back, `d` of them: to the dedicated ones first, then to the shared. -/
def creditsBack (p v tot d : Nat) (s : State) : State :=
  let ded := rd s (Reg.CREDIT_TX_HELD_DED (16 * p + v))
  let sh := rd s (Reg.CREDIT_TX_HELD_SHARED (16 * p + v))
  let s := wr s (Reg.CREDIT_TX_HELD_DED (16 * p + v)) (ded - min d ded)
  let s := wr s (Reg.CREDIT_TX_HELD_SHARED (16 * p + v)) (sh - min (d - min d ded) sh)
  modLink s p (fun l => { l with
    peerFreed := l.peerFreed.set v tot, txSharedFree := l.txSharedFree + min (d - min d ded) sh })

/-- What the partner freed of a lane since its last count. -/
def freedSince (p v tot : Nat) (s : State) : Nat := (tot + 2 ^ 32 - (link s p).peerFreed.getD v 0) % 2 ^ 32

theorem takeCredits_eq (p v tot : Nat) (s : State) :
    takeCredits p v tot s = creditsBack p v tot (freedSince p v tot s) s := rfl

theorem rd_creditsBack_other (p v tot d : Nat) (s : State) {a : Addr}
    (hded : a ≠ Reg.CREDIT_TX_HELD_DED (16 * p + v)) (hsh : a ≠ Reg.CREDIT_TX_HELD_SHARED (16 * p + v)) :
    rd (creditsBack p v tot d s) a = rd s a := by
  rw [creditsBack, rd_modLink, rd_wr_ne _ _ hsh, rd_wr_ne _ _ hded]

theorem creditsBack_spec (p v tot d : Nat) (s : State) :
    rd (creditsBack p v tot d s) (Reg.CREDIT_TX_HELD_DED (16 * p + v)) =
        rd s (Reg.CREDIT_TX_HELD_DED (16 * p + v)) - d ∧
      rd (creditsBack p v tot d s) (Reg.CREDIT_TX_HELD_SHARED (16 * p + v)) =
        rd s (Reg.CREDIT_TX_HELD_SHARED (16 * p + v)) - (d - rd s (Reg.CREDIT_TX_HELD_DED (16 * p + v))) ∧
      (link (creditsBack p v tot d s) p).peerFreed = (link s p).peerFreed.set v tot := by
  refine ⟨?_, ?_, ?_⟩
  · rw [creditsBack, rd_modLink, rd_wr_ne _ _ (by simp), rd_wr_self]
    omega
  · rw [creditsBack, rd_modLink, rd_wr_self]
    omega
  · rw [creditsBack, link_modLink_self]
    rfl

/-- The lanes whose counts a CONTROL flit brings, one after another. -/
def lanesBack (p pl n : Nat) (s : State) : State :=
  (List.range n).foldl (fun s v => takeCredits p v (ctl pl (4 * v) 4) s) s

/-- A lane whose count has come is as R106 says, by what it was before. -/
def LaneBack (p pl v : Nat) (s u : State) : Prop :=
  (link u p).peerFreed.getD v 0 = ctl pl (4 * v) 4 ∧
    rd u (Reg.CREDIT_TX_HELD_DED (16 * p + v)) =
      rd s (Reg.CREDIT_TX_HELD_DED (16 * p + v)) - freedSince p v (ctl pl (4 * v) 4) s ∧
    rd u (Reg.CREDIT_TX_HELD_SHARED (16 * p + v)) = rd s (Reg.CREDIT_TX_HELD_SHARED (16 * p + v)) -
      (freedSince p v (ctl pl (4 * v) 4) s - rd s (Reg.CREDIT_TX_HELD_DED (16 * p + v)))

theorem lanesBack_spec (p pl : Nat) (s : State) (hlen : (link s p).peerFreed.length = 9) (n : Nat) (hn : n ≤ 9) :
    (link (lanesBack p pl n s) p).peerFreed.length = 9 ∧ (∀ v, v < n → LaneBack p pl v s (lanesBack p pl n s)) ∧
      ∀ v, n ≤ v → (link (lanesBack p pl n s) p).peerFreed.getD v 0 = (link s p).peerFreed.getD v 0 ∧
        rd (lanesBack p pl n s) (Reg.CREDIT_TX_HELD_DED (16 * p + v)) =
          rd s (Reg.CREDIT_TX_HELD_DED (16 * p + v)) ∧
        rd (lanesBack p pl n s) (Reg.CREDIT_TX_HELD_SHARED (16 * p + v)) =
          rd s (Reg.CREDIT_TX_HELD_SHARED (16 * p + v)) := by
  induction n with
  | zero => exact ⟨hlen, fun v hv => absurd hv (Nat.not_lt_zero v), fun v _ => ⟨rfl, rfl, rfl⟩⟩
  | succ n ih =>
    obtain ⟨hlen', hdone, hrest⟩ := ih (by omega)
    have hstep : lanesBack p pl (n + 1) s = takeCredits p n (ctl pl (4 * n) 4) (lanesBack p pl n s) := by
      rw [lanesBack, List.range_succ, List.foldl_append]
      rfl
    obtain ⟨hfreedn, hdedn, hshn⟩ := hrest n (Nat.le_refl n)
    have hsince : freedSince p n (ctl pl (4 * n) 4) (lanesBack p pl n s) = freedSince p n (ctl pl (4 * n) 4) s := by
      rw [freedSince, freedSince, hfreedn]
    obtain ⟨hded, hsh, hfreed⟩ :=
      creditsBack_spec p n (ctl pl (4 * n) 4) (freedSince p n (ctl pl (4 * n) 4) s) (lanesBack p pl n s)
    rw [hstep, takeCredits_eq, hsince]
    refine ⟨?_, fun v hv => ?_, fun v hv => ?_⟩
    · rw [hfreed, List.length_set, hlen']
    · rcases Nat.lt_succ_iff_lt_or_eq.mp hv with hlt | rfl
      · obtain ⟨h1, h2, h3⟩ := hdone v hlt
        refine ⟨?_, ?_, ?_⟩
        · rw [hfreed, List.getD_eq_getElem?_getD, List.getElem?_set_ne (by omega), ← List.getD_eq_getElem?_getD, h1]
        · rw [rd_creditsBack_other _ _ _ _ _ (by simp; omega) (by simp), h2]
        · rw [rd_creditsBack_other _ _ _ _ _ (by simp) (by simp; omega), h3]
      · refine ⟨?_, ?_, ?_⟩
        · rw [hfreed, List.getD_eq_getElem?_getD, List.getElem?_set_self (by omega)]
          rfl
        · rw [hded, hdedn]
        · rw [hsh, hshn, hdedn]
    · obtain ⟨h1, h2, h3⟩ := hrest v (by omega)
      refine ⟨?_, ?_, ?_⟩
      · rw [hfreed, List.getD_eq_getElem?_getD, List.getElem?_set_ne (by omega), ← List.getD_eq_getElem?_getD, h1]
      · rw [rd_creditsBack_other _ _ _ _ _ (by simp; omega) (by simp), h2]
      · rw [rd_creditsBack_other _ _ _ _ _ (by simp) (by simp; omega), h3]

theorem proj_creditsBack {α : Type} (proj : Link → α)
    (hproj : ∀ l a b, proj { l with peerFreed := a, txSharedFree := b } = proj l) (p v tot d : Nat) (s : State) :
    proj (link (creditsBack p v tot d s) p) = proj (link s p) := by
  unfold creditsBack
  extract_lets ded sh s1 s2
  rw [link_modLink_self]
  exact hproj (link s2 p) _ _

theorem proj_lanesBack {α : Type} (proj : Link → α)
    (hproj : ∀ l a b, proj { l with peerFreed := a, txSharedFree := b } = proj l) (p pl n : Nat) (s : State) :
    proj (link (lanesBack p pl n s) p) = proj (link s p) := by
  unfold lanesBack
  refine proj_foldl_of_keep (fun s => proj (link s p)) (fun s v => ?_) s
  rw [takeCredits_eq, proj_creditsBack proj hproj]

theorem rd_lanesBack (p pl n : Nat) (s : State) {a : Addr} (ha : a.obj ≠ 0x0302) : rd (lanesBack p pl n s) a = rd s a :=
  rd_of_besides (kept := [.obj a.obj]) (by simp [lanesBack, ha.symm]) (by simp)

/-! ## CONTROL flits -/

/-- A CONTROL flit's acknowledgement, credits and timestamps, taken. -/
def controlTaken (p : Nat) (f : Flit) (s : State) : State :=
  takeTimestamps p (payloadNat f.payload) (lanesBack p (payloadNat f.payload) 9 (takeAck p f.hdr.toNat s))

theorem link_takeTimestamps (p pl : Nat) (s : State) : (link (takeTimestamps p pl s) p).peerTs = ctl pl 44 4 ∧
    (link (takeTimestamps p pl s) p).peerTsAt = now s := by
  unfold takeTimestamps
  extract_lets echo rtt
  rw [link_modLink_self]
  exact ⟨rfl, rfl⟩

theorem proj_takeTimestamps {α : Type} (proj : Link → α)
    (hproj : ∀ l a b c, proj { l with peerTs := a, peerTsAt := b, rtts := c } = proj l) (p pl : Nat) (s : State) :
    proj (link (takeTimestamps p pl s) p) = proj (link s p) := by
  unfold takeTimestamps
  extract_lets echo rtt
  rw [link_modLink_self]
  exact hproj ..

theorem rd_takeTimestamps (p pl : Nat) (s : State) (a : Addr) : rd (takeTimestamps p pl s) a = rd s a :=
  rd_of_besides (kept := [.obj a.obj]) (by simp) (by simp)

theorem rd_takeAck (p h : Nat) (s : State) {a : Addr} (ha : a.obj ≠ 0x0F00) : rd (takeAck p h s) a = rd s a :=
  rd_of_besides (kept := [.obj a.obj]) (by simp [ha.symm]) (by simp)

/-- The fields of the link that neither the retry buffer, the credits nor the timestamps hold. -/
theorem proj_controlTaken {α : Type} (proj : Link → α) (hproj : ∀ l a b c d e f g h i, proj { l with
    retry := a, acked := b, unacked := c, resend := d, peerFreed := e, txSharedFree := f, peerTs := g, peerTsAt := h,
    rtts := i } = proj l) (p : Nat) (f : Flit) (s : State) :
    proj (link (controlTaken p f s) p) = proj (link s p) := by
  rw [controlTaken, proj_takeTimestamps proj (fun l a b c => hproj l l.retry l.acked l.unacked l.resend l.peerFreed
      l.txSharedFree a b c),
    proj_lanesBack proj (fun l a b => hproj l l.retry l.acked l.unacked l.resend a b l.peerTs l.peerTsAt l.rtts),
    proj_takeAck proj (fun l a b c d => hproj l a b c d l.peerFreed l.txSharedFree l.peerTs l.peerTsAt l.rtts)]

theorem rd_controlTaken (p : Nat) (f : Flit) (s : State) {a : Addr} (ha : a.obj ≠ 0x0302) (ha' : a.obj ≠ 0x0F00) :
    rd (controlTaken p f s) a = rd s a := by
  rw [controlTaken, rd_takeTimestamps, rd_lanesBack _ _ _ _ ha, rd_takeAck _ _ _ ha']

/-- A CONTROL flit with the partner's known command and keepalive, at a port that carries data. -/
theorem doControlFlit_repeated {p : Nat} {f : Flit} {s : State} (hst : rd s (Reg.PORT_STATE p) = 5)
    (hdec : f.decoded = true) (hcrc : crcGood f = true) (htype : field f.hdr.toNat 92 4 = 2)
    (hcmd : ctl (payloadNat f.payload) 36 4 = (link s p).peerCmd)
    (hka : ctl (payloadNat f.payload) 40 2 = (link s p).peerKa) :
    doControlFlit p f s = takeCmd p (ctl (payloadNat f.payload) 36 4) (controlTaken p f s) := by
  have hcmd' : ctl (payloadNat f.payload) 36 4 = (link (controlTaken p f s) p).peerCmd :=
    hcmd.trans (proj_controlTaken Link.peerCmd (fun _ _ _ _ _ _ _ _ _ _ => rfl) p f s).symm
  have hka' : (link (takeCmd p (ctl (payloadNat f.payload) 36 4) (controlTaken p f s)) p).peerKa = (link s p).peerKa :=
    (proj_takeCmd Link.peerKa (fun _ _ _ _ _ _ _ => rfl) hcmd').trans
      (proj_controlTaken Link.peerKa (fun _ _ _ _ _ _ _ _ _ _ => rfl) p f s)
  have hup : rd (takeCmd p (ctl (payloadNat f.payload) 36 4) (controlTaken p f s)) (Reg.PORT_STATE p) = 5 := by
    rw [rd_takeCmd hcmd' (by simp), rd_controlTaken _ _ _ (by simp) (by simp), hst]
  have htaken : takeControl p (payloadNat f.payload) 5 (takeAck p f.hdr.toNat s) =
      takeCmd p (ctl (payloadNat f.payload) 36 4) (controlTaken p f s) := by
    unfold takeControl
    extract_lets s1 s2 s3 s4 fresh s5 l
    have h4 : s4 = takeCmd p (ctl (payloadNat f.payload) 36 4) (controlTaken p f s) := rfl
    have hstale : ¬fresh = true := by
      simp only [fresh, h4, hka', hka]
      simp
    have h5 : s5 = s4 := if_neg hstale
    rw [if_neg (by rw [h4, hup]; omega), h5, h4, hup, if_neg (by omega), if_neg hstale]
  have hlink : linkControl p f s = takeCmd p (ctl (payloadNat f.payload) 36 4) (controlTaken p f s) := by
    unfold linkControl
    extract_lets st
    have hst5 : st = 5 := hst
    rw [hst5, if_neg (by omega), if_neg (by simp [hdec, hcrc, htype]), htaken]
  unfold doControlFlit
  extract_lets t
  have ht : t = takeCmd p (ctl (payloadNat f.payload) 36 4) (controlTaken p f s) := hlink
  rw [ht, if_pos (.inl hka')]

/-! ## The statement -/

/-- Settles O15: the flits a port completes are taken in order, each by its kind and its checks. -/
theorem flitsReceived : Obligations.FlitsReceived := by
  unfold Obligations.FlitsReceived
  refine ⟨fun p lanes s hst => ⟨finish_eq (doSymbols_takes false hst), finish_eq (doSymbols_takes true hst)⟩,
    fun p lanes f u s hst htake hdec hcrc htype hnak hseq hbounds hreplay hsleep => ?_,
    fun p lanes f u s hst htake hbad htype hwait hsleep hpending => ?_, fun p h s hnak hack => ?_,
    fun p lanes f u s hst htake hdec hcrc htype hlen hcmd hka => ?_, fun p s hst => ?_⟩
  · have hu := portState_taken hst htake
    have hdo : doSymbols p false lanes s = pump (flitAccepted (dataSeen (takeAck p f.hdr.toNat u) p) p f) p := by
      rw [doSymbols_one false hst htake, takeFlit_data (fun _ => by omega),
        doDataFlit_accepts hu hdec hcrc htype hseq hbounds hreplay hsleep]
    obtain ⟨hframes, hegress, hregs, hnow, hacked, hretry⟩ := takeAck_spec hnak p u
    obtain ⟨h1, h2, h3, h4, h5, h6, h7, h8, h9⟩ := link_flitAccepted (dataSeen (takeAck p f.hdr.toNat u) p) p f
    have hseen : link (dataSeen (takeAck p f.hdr.toNat u) p) p =
        { link (takeAck p f.hdr.toNat u) p with lastData := now (takeAck p f.hdr.toNat u) } := link_modLink_self ..
    refine ⟨_, finish_eq hdo, ?_, h2, h3, h4, ?_, ?_, ?_, fun hb => ?_, fun hb => ?_, hframes, hegress, hregs⟩
    · rw [h1, proj_dataSeen Link.expect (fun _ _ _ _ _ _ => rfl)]
    · rw [h5, proj_dataSeen Link.nak (fun _ _ _ _ _ _ => rfl)]
    · rw [h6, proj_dataSeen Link.rxBlocks (fun _ _ _ _ _ _ => rfl)]
    · rw [h7, hseen, hnow]
    · rw [h8, hseen, hacked hb]
    · rw [h9, hseen, hretry hb]
  · have hu := portState_taken hst htake
    have hdo : doSymbols p false lanes s = failFlit p (dataSeen u p) := by
      rw [doSymbols_one false hst htake, takeFlit_data (fun hgood => absurd hgood (ne_true_of_eq_false hbad)),
        doDataFlit_fails hu hbad htype hwait hsleep]
    have hseen : link (dataSeen u p) p = { link u p with lastData := now u } := link_modLink_self ..
    have hpending' : exclusionPending (dataSeen u p) p = false := by
      unfold exclusionPending
      rw [hseen]
      exact hpending
    have hlink : link (failFlit p (dataSeen u p)) p = { link (dataSeen u p) p with
        retryWait := true, nak := (link (dataSeen u p) p).nak || true, naks := 0,
        nakUsed := (link (dataSeen u p) p).nakUsed || false } := by
      unfold failFlit
      extract_lets pending
      rw [link_modLink_self, show pending = false from hpending']
      rfl
    refine ⟨_, finish_eq hdo, ?_, ?_, ?_, ?_, ?_, rfl, fun a => rfl⟩
    · rw [hlink]
    · rw [hlink, Bool.or_true]
    · rw [hlink]
    · rw [hlink, hseen]
    · rw [hlink, hseen]
  · unfold takeAck
    extract_lets ack later s1
    rw [if_pos hnak, show s1 = s from if_pos hack]
  · have hu := portState_taken hst htake
    have hdo : doSymbols p true lanes s = takeCmd p (ctl (payloadNat f.payload) 36 4) (controlTaken p f u) := by
      rw [doSymbols_one true hst htake, ← doControlFlit_repeated hu hdec hcrc htype hcmd hka]
      simp [takeFlit, hdec, hcrc, htype]
    have hcmd' : ctl (payloadNat f.payload) 36 4 = (link (controlTaken p f u) p).peerCmd :=
      hcmd.trans (proj_controlTaken Link.peerCmd (fun _ _ _ _ _ _ _ _ _ _ => rfl) p f u).symm
    have hfreed {α : Type} (proj : List Nat → α) : proj (link (takeAck p f.hdr.toNat u) p).peerFreed =
        proj (link u p).peerFreed :=
      proj_takeAck (fun l => proj l.peerFreed) (fun _ _ _ _ _ => rfl) f.hdr.toNat p u
    obtain ⟨-, hlanes, -⟩ := lanesBack_spec p (payloadNat f.payload) (takeAck p f.hdr.toNat u)
      ((hfreed List.length).trans hlen) 9 (Nat.le_refl 9)
    refine ⟨_, finish_eq hdo, ?_, fun v hv => ?_, ?_, ?_⟩
    · rw [rd_takeCmd hcmd' (by simp), rd_controlTaken _ _ _ (by simp) (by simp), hu]
    · obtain ⟨hback, hded, hsh⟩ := hlanes v hv
      have hsince : freedSince p v (ctl (payloadNat f.payload) (4 * v) 4) (takeAck p f.hdr.toNat u) =
          (ctl (payloadNat f.payload) (4 * v) 4 + 2 ^ 32 - (link u p).peerFreed.getD v 0) % 2 ^ 32 := by
        rw [freedSince, hfreed (fun l => l.getD v 0)]
      rw [hsince, rd_takeAck _ _ _ (by simp)] at hded
      rw [hsince, rd_takeAck _ _ _ (by simp), rd_takeAck _ _ _ (by simp)] at hsh
      refine ⟨?_, ?_, ?_⟩
      · rw [proj_takeCmd (fun l => l.peerFreed.getD v 0) (fun _ _ _ _ _ _ _ => rfl) hcmd', controlTaken,
          proj_takeTimestamps (fun l => l.peerFreed.getD v 0) (fun _ _ _ _ => rfl), hback]
      · rw [rd_takeCmd hcmd' (by simp), controlTaken, rd_takeTimestamps, hded]
      · rw [rd_takeCmd hcmd' (by simp), controlTaken, rd_takeTimestamps, hsh]
    · rw [proj_takeCmd Link.peerTs (fun _ _ _ _ _ _ _ => rfl) hcmd', controlTaken, (link_takeTimestamps ..).1]
    · have hnow : now (lanesBack p (payloadNat f.payload) 9 (takeAck p f.hdr.toNat u)) = now u :=
        now_of_time (time_of_outside (P := fun _ => false) (by simp [lanesBack]) rfl)
      rw [proj_takeCmd Link.peerTsAt (fun _ _ _ _ _ _ _ => rfl) hcmd', controlTaken, (link_takeTimestamps ..).2, hnow]
  · exact next_eq (if_pos hst)

end Sys2Proof.Machine

/-! # A message that passes every check (R527, R528): what runs, and on which state -/

namespace Sys2Proof.Machine

/-! ## The state that a message is executed on -/

/-- A key's ceiling, where a counter has passed it, is set well above the counter (R528). -/
def ceilingRaised (k c : Nat) (s : State) : State :=
  if rd s (Reg.KEY_CEILING k) < c then wr s (Reg.KEY_CEILING k) (c + 1048576) else s

theorem ceilingRaised_cases (k c : Nat) (s : State) :
    ceilingRaised k c s = s ∨ ∃ v, ceilingRaised k c s = wr s (Reg.KEY_CEILING k) v := by
  unfold ceilingRaised
  generalize c + 1048576 = top
  split
  · exact .inr ⟨top, rfl⟩
  · exact .inl rfl

/-- The request taken from the queue, its counter made the key's floor, and the key's ceiling kept above it. -/
def accepted (s : State) (rest : List Request) (bs : List Byte) : State :=
  ceilingRaised (msgKey bs) (msgCounter bs)
    (wr { s with requests := rest } (Reg.KEY_FLOOR (msgKey bs)) (msgCounter bs))

section
variable (s : State) (rest : List Request) (bs : List Byte)

theorem accepted_eq : accepted s rest bs =
    let s1 := wr { s with requests := rest } (Reg.KEY_FLOOR (msgKey bs)) (msgCounter bs)
    if rd s (Reg.KEY_CEILING (msgKey bs)) < msgCounter bs
      then wr s1 (Reg.KEY_CEILING (msgKey bs)) (msgCounter bs + 1048576) else s1 := by
  unfold accepted ceilingRaised
  rw [rd_wr_ne _ _ (by simp)]
  rfl

/-- Whatever a write of registers and the queue's rest leave alone, the accepted message left alone. -/
theorem accepted_keeps {α : Type} (proj : State → α)
    (hwr : ∀ (t : State) (a : Addr) (v : Nat), proj (wr t a v) = proj t)
    (hrest : proj { s with requests := rest } = proj s) : proj (accepted s rest bs) = proj s := by
  unfold accepted
  obtain h | ⟨v, h⟩ := ceilingRaised_cases (msgKey bs) (msgCounter bs)
    (wr { s with requests := rest } (Reg.KEY_FLOOR (msgKey bs)) (msgCounter bs)) <;> rw [h]
  · rw [hwr, hrest]
  · rw [hwr, hwr, hrest]

theorem rd_accepted {a : Addr} (hfloor : a ≠ Reg.KEY_FLOOR (msgKey bs)) (hceil : a ≠ Reg.KEY_CEILING (msgKey bs)) :
    rd (accepted s rest bs) a = rd s a := by
  have hrd : rd (wr { s with requests := rest } (Reg.KEY_FLOOR (msgKey bs)) (msgCounter bs)) a = rd s a :=
    rd_wr_ne _ _ hfloor
  unfold accepted
  obtain h | ⟨v, h⟩ := ceilingRaised_cases (msgKey bs) (msgCounter bs)
    (wr { s with requests := rest } (Reg.KEY_FLOOR (msgKey bs)) (msgCounter bs)) <;> rw [h]
  · exact hrd
  · rw [rd_wr_ne _ _ hceil, hrd]

@[simp] theorem rd_accepted_obj {a : Addr} (h : a.obj ≠ 0x1102) : rd (accepted s rest bs) a = rd s a :=
  rd_accepted s rest bs (fun he => h (by rw [he])) (fun he => h (by rw [he]))

@[simp] theorem rd_accepted_state (k : Nat) : rd (accepted s rest bs) (Reg.KEY_STATE k) = rd s (Reg.KEY_STATE k) :=
  rd_accepted s rest bs (by simp) (by simp)

@[simp] theorem rd_accepted_role (k : Nat) : rd (accepted s rest bs) (Reg.KEY_ROLE k) = rd s (Reg.KEY_ROLE k) :=
  rd_accepted s rest bs (by simp) (by simp)

@[simp] theorem rd_accepted_ten (k : Nat) : rd (accepted s rest bs) (Reg.KEY_TEN k) = rd s (Reg.KEY_TEN k) :=
  rd_accepted s rest bs (by simp) (by simp)

/-- The message's counter is the new floor of its key. -/
theorem rd_accepted_floor : rd (accepted s rest bs) (Reg.KEY_FLOOR (msgKey bs)) = msgCounter bs := by
  have hrd : rd (wr { s with requests := rest } (Reg.KEY_FLOOR (msgKey bs)) (msgCounter bs))
      (Reg.KEY_FLOOR (msgKey bs)) = msgCounter bs := rd_wr_self ..
  unfold accepted
  obtain h | ⟨v, h⟩ := ceilingRaised_cases (msgKey bs) (msgCounter bs)
    (wr { s with requests := rest } (Reg.KEY_FLOOR (msgKey bs)) (msgCounter bs)) <;> rw [h]
  · exact hrd
  · rw [rd_wr_ne _ _ (by simp), hrd]

@[simp] theorem accepted_groom : (accepted s rest bs).groom = s.groom :=
  accepted_keeps s rest bs (·.groom) (fun t => wr_groom (s := t)) rfl

@[simp] theorem accepted_flash : (accepted s rest bs).flash = s.flash :=
  accepted_keeps s rest bs (·.flash) (fun t => wr_flash (s := t)) rfl

@[simp] theorem accepted_vets : (accepted s rest bs).vets = s.vets :=
  accepted_keeps s rest bs (·.vets) (fun t => wr_vets (s := t)) rfl

theorem replyLimit_accepted (transport : Nat) :
    replyLimit (accepted s rest bs) transport = replyLimit s transport := by
  unfold replyLimit
  rw [rd_accepted_obj s rest bs (by simp)]

theorem secretOf_accepted (k : Nat) : secretOf (accepted s rest bs) k = secretOf s k := by
  simp only [secretOf, accepted_groom]

theorem itemWrite_accepted (k counter : Nat) :
    itemWrite (accepted s rest bs) k counter = itemWrite s k counter := by
  funext x; simp only [itemWrite, secretMask, secretOf_accepted]

theorem flashBytes_accepted (a n : Nat) : flashBytes (accepted s rest bs) a n = flashBytes s a n := by
  simp only [flashBytes, flashByte, accepted_flash, accepted_groom]

theorem regionBusy_accepted (region : Nat) :
    regionBusy (accepted s rest bs) region = regionBusy s region := by
  simp [regionBusy, packInUse]

theorem pagesBlank_accepted (a n : Nat) : pagesBlank (accepted s rest bs) a n = pagesBlank s a n := by
  simp only [pagesBlank, pageBlank, accepted_groom]

end

theorem inbandStatus_congr {s t : State} {r : Request} {k : Nat} (hrole : rd t (Reg.KEY_ROLE k) = rd s (Reg.KEY_ROLE k))
    (hten : rd t (Reg.KEY_TEN k) = rd s (Reg.KEY_TEN k))
    (hmax : rd t Reg.SIRGO_INBAND_MAX_ROLE = rd s Reg.SIRGO_INBAND_MAX_ROLE) :
    inbandStatus t r k = inbandStatus s r k := by
  unfold inbandStatus
  rw [hrole, hten, hmax]

/-! ## The front request, through its checks -/

/-- The front request, whose message is `bs`, passes the checks of R527, and its message has operation `op` and
is executed (R528). -/
structure Executes (s : State) (r : Request) (rest : List Request) (bs : List Byte) (op : Nat) : Prop where
  bytes : requestBytes r = bs
  up : s.groom.up = true
  front : s.requests = r :: rest
  format : formatGood bs = true
  auth : authGood s bs = true
  floor : rd s (Reg.KEY_FLOOR (msgKey bs)) < msgCounter bs
  kept : keptReply s bs = none
  slot : rd s Reg.FIRMWARE_RUNNING_SLOT ≠ 0xFF
  inband : inbandStatus s r (msgKey bs) = Status.OK
  head : headStatus bs = Status.OK
  op : msgOp bs = op

/-- The end of an executed message: the epoch noted for its key, the response, and what follows it. -/
def responded (s : State) (r : Request) (bs : List Byte) (x : State × Reply × List Write) : State :=
  afterResponse x.2.2 (answer true (secretOf s (msgKey bs)) bs r x.2.1
    (wr x.1 (Reg.KEY_LAST_EPOCH (msgKey bs)) (rd s Reg.EPOCH_NUMBER)))

theorem executeNew_eq (flashFails : Bool) (secret bs : List Byte) (r : Request) (s : State) {t : State}
    (ht : ceilingRaised (msgKey bs) (msgCounter bs) s = t) (hslot : rd t Reg.FIRMWARE_RUNNING_SLOT ≠ 0xFF)
    (hin : inbandStatus t r (msgKey bs) = Status.OK) (hhead : headStatus bs = Status.OK) :
    executeNew flashFails secret bs r s =
      afterResponse (runMessage flashFails r bs t).2.2 (answer true secret bs r (runMessage flashFails r bs t).2.1
        (wr (runMessage flashFails r bs t).1 (Reg.KEY_LAST_EPOCH (msgKey bs)) (rd t Reg.EPOCH_NUMBER))) := by
  subst ht
  unfold executeNew
  extract_lets k c u inb head x v
  rw [if_neg (show ¬ (rd u _ = 0xFF ∧ _) from fun h => hslot h.1), if_neg (show ¬ inb ≠ _ from not_not.mpr hin),
    if_neg (show ¬ head ≠ _ from not_not.mpr hhead)]
  rfl

theorem executeFront_eq {s : State} {r : Request} {rest : List Request} {bs : List Byte} {op : Nat}
    (h : Executes s r rest bs op) (flashFails : Bool) :
    executeFront op flashFails s = responded s r bs (runMessage flashFails r bs (accepted s rest bs)) := by
  obtain ⟨rfl, hup, hfront, hformat, hauth, hfloor, hkept, hslot, hin, hhead, hop⟩ := h
  have hnew := executeNew_eq flashFails (secretOf s (msgKey (requestBytes r))) (requestBytes r) r
    (wr { s with requests := rest } (Reg.KEY_FLOOR (msgKey (requestBytes r))) (msgCounter (requestBytes r)))
    (t := accepted s rest (requestBytes r)) rfl (by rwa [rd_accepted_obj _ _ _ (by simp)])
    ((inbandStatus_congr (rd_accepted_role ..) (rd_accepted_ten ..) (rd_accepted_obj _ _ _ (by simp))).trans hin) hhead
  rw [rd_accepted_obj _ _ _ (by simp)] at hnew
  unfold executeFront
  rw [hfront]
  dsimp only
  rw [if_neg (by simp [hup, hop])]
  unfold executeMessage
  dsimp only
  rw [if_neg (by simp [hformat]),
    if_neg (by rw [show authGood { s with requests := rest } _ = true from hauth]; simp),
    if_neg (show ¬ msgCounter (requestBytes r) ≤ rd { s with requests := rest } _ from not_le.mpr hfloor),
    show keptReply (wr { s with requests := rest } (Reg.KEY_FLOOR (msgKey (requestBytes r))) _) (requestBytes r) = none
      from hkept]
  exact hnew

end Sys2Proof.Machine

/-! # The operations of a message (R524, R525, R530 to R534) -/

namespace Sys2Proof.Machine

/-! ## What runs of each operation -/

section
variable (flashFails : Bool) (r : Request) {bs : List Byte} {items : List Item} (s : State)

theorem runMessage_get (hop : msgOp bs = Op.GET) (hparse : parseItems (msgBody bs).length (msgBody bs) = some items)
    (hlen : items.length = msgItems bs) : runMessage flashFails r bs s =
      ((getItems (rd s (Reg.KEY_ROLE (msgKey bs))) (rd s (Reg.KEY_TEN (msgKey bs))) 0 items s []).1,
       (getItems (rd s (Reg.KEY_ROLE (msgKey bs))) (rd s (Reg.KEY_TEN (msgKey bs))) 0 items s []).2, []) := by
  unfold runMessage
  dsimp only
  rw [hop, if_neg (by decide), if_neg (by decide), hparse]
  dsimp only
  rw [if_neg (not_not.mpr hlen), if_pos rfl]

theorem runMessage_getRange (hop : msgOp bs = Op.GET_RANGE)
    (hparse : parseItems (msgBody bs).length (msgBody bs) = some items) (hlen : items.length = msgItems bs) :
    runMessage flashFails r bs s =
      ((getRange (replyLimit s r.transport) (rd s (Reg.KEY_ROLE (msgKey bs))) (rd s (Reg.KEY_TEN (msgKey bs)))
        items s).1,
       (getRange (replyLimit s r.transport) (rd s (Reg.KEY_ROLE (msgKey bs))) (rd s (Reg.KEY_TEN (msgKey bs)))
        items s).2, []) := by
  unfold runMessage
  dsimp only
  rw [hop, if_neg (by decide), if_neg (by decide), hparse]
  dsimp only
  rw [if_neg (not_not.mpr hlen), if_neg (by decide), if_pos rfl]

theorem runMessage_set (hop : msgOp bs = Op.SET) (hparse : parseItems (msgBody bs).length (msgBody bs) = some items)
    (hlen : items.length = msgItems bs)
    (hgood : (setStatus s (rd s (Reg.KEY_ROLE (msgKey bs))) (decide (rd s (Reg.KEY_STATE (msgKey bs)) = 3))
      (items.map (itemWrite s (msgKey bs) (msgCounter bs)))).1 = Status.OK) :
    runMessage flashFails r bs s =
      (applyWrites (msgKey bs) (items.map (itemWrite s (msgKey bs) (msgCounter bs))) s,
       { status := Status.OK, items := items.length, body := items.flatMap (fun x => itemBytes x.addr x.shadow []) },
       items.map (itemWrite s (msgKey bs) (msgCounter bs))) := by
  unfold runMessage
  dsimp only
  rw [hop, if_neg (by decide), if_neg (by decide), hparse]
  dsimp only
  rw [if_neg (not_not.mpr hlen), if_neg (by decide), if_neg (by decide), if_neg (not_not.mpr hgood)]

theorem runMessage_bulkRead {g : FlashRegion} (hop : msgOp bs = Op.BULK_READ)
    (hgood : bulkStatus (rd s (Reg.KEY_ROLE (msgKey bs))) (decide (rd s (Reg.KEY_STATE (msgKey bs)) = 3))
      (msgItems bs) 8 16 (msgBody bs) (fun x => x.readRole) = Status.OK)
    (hg : flashRegions[bulkRegion (msgBody bs)]? = some g) :
    runMessage flashFails r bs s =
      (s, { status := Status.OK, items := 1,
            body := (msgBody bs).take 8 ++
              flashBytes s (g.base + bulkOffset (msgBody bs)) (bulkLen (msgBody bs)) }, []) := by
  unfold runMessage bulkReadBody
  dsimp only
  rw [hop, if_neg (by decide), if_pos rfl, if_neg (not_not.mpr hgood), hg]

end

/-! ## A bulk write -/

/-- A body that passes the checks of a bulk transfer has the length that they ask for. -/
theorem length_of_bulkStatus {role items size unit : Nat} {initial : Bool} {body : List Byte} {need : FlashRegion → Nat}
    (h : bulkStatus role initial items size unit body need = Status.OK) : body.length = size := by
  by_contra hne
  unfold bulkStatus at h
  rw [if_pos (.inr (.inl hne))] at h
  exact absurd h (by decide)

/-- The sector of a write that begins it, erased; then the write's bytes programmed (R532). -/
def bulkWritten (s : State) (a : Nat) (data : List Byte) : State :=
  programPages (if a % 65536 = 0 then eraseSector s (a / 65536) else s) a data

theorem Memory.read_eraseRange_outside (m : Memory) (a n x : Nat) (h : x < a ∨ a + n ≤ x) :
    (m.eraseRange a n).read x = m.read x := by
  unfold Memory.read Memory.eraseRange
  induction m with
  | nil => rfl
  | cons e rest ih =>
    obtain ⟨k, v⟩ := e
    by_cases hk : k < a ∨ a + n ≤ k
    · rw [List.filter_cons_of_pos (by simpa using hk), Store.get, ih, Store.get]
    · rw [List.filter_cons_of_neg (by simpa using hk), ih, Store.get, if_neg (by omega)]

theorem bulkWritten_readBytes (s : State) (a : Nat) (data : List Byte) :
    (bulkWritten s a data).flash.readBytes a data.length = data := Memory.readBytes_writeBytes ..

theorem bulkWritten_read_outside (s : State) {a x : Nat} {data : List Byte} (hx : x < a ∨ a + data.length ≤ x)
    (hsector : a % 65536 ≠ 0 ∨ x / 65536 ≠ a / 65536) :
    (bulkWritten s a data).flash.read x = s.flash.read x := by
  refine (Memory.read_writeBytes_outside data _ a x hx).trans ?_
  split
  case isTrue h0 => exact Memory.read_eraseRange_outside _ _ _ _ (by omega)
  case isFalse => rfl

theorem rd_bulkWritten (s : State) (a : Nat) (data : List Byte) (b : Addr) :
    rd (bulkWritten s a data) b = rd s b := by
  unfold bulkWritten
  split <;> rfl

/-- A write that runs from a stub, in the bank that the groom executes from, is recorded (R532). -/
def stubRecorded (g : FlashRegion) (s : State) : State :=
  if decide (g.bank = rd s Reg.FIRMWARE_EXEC_BANK) then raise s Code.BANK_XIP_STUB 8 [] else s

theorem stubRecorded_keeps {α : Type} (proj : State → α)
    (hraise : ∀ (t : State) (c src : Nat) (l : List (Nat × Nat)), proj (raise t c src l) = proj t)
    (g : FlashRegion) (s : State) : proj (stubRecorded g s) = proj s := by
  unfold stubRecorded
  split
  · exact hraise ..
  · rfl

theorem bulkWriteBody_eq {role items : Nat} {initial stub : Bool} {body : List Byte} {g : FlashRegion} (s : State)
    (hgood : bulkStatus role initial items (8 + bulkLen body) 256 body (fun x => x.writeRole) = Status.OK)
    (hg : flashRegions[bulkRegion body]? = some g) (hidle : regionBusy s (bulkRegion body) = false)
    (hstub : g.bank ≠ rd s Reg.FIRMWARE_EXEC_BANK ∨ stub = true)
    (hblank : pagesBlank s (g.base + bulkOffset body) (bulkLen body) = true) :
    bulkWriteBody role initial stub false items body s =
      (bulkWritten (stubRecorded g s) (g.base + bulkOffset body) (body.drop 8),
       { status := Status.OK, items := 1, body := body.take 8 }) := by
  have hblank' : pagesBlank (stubRecorded g s) (g.base + bulkOffset body) (bulkLen body) = true :=
    (stubRecorded_keeps (fun t => pagesBlank t (g.base + bulkOffset body) (bulkLen body))
      (fun _ _ _ _ => rfl) g s).trans hblank
  unfold bulkWriteBody
  dsimp only
  rw [if_neg (not_not.mpr hgood), hg]
  dsimp only
  rw [if_neg (by simp [hidle]),
    if_neg (show ¬ (decide (g.bank = rd s Reg.FIRMWARE_EXEC_BANK) = true ∧ stub = false) by
      rintro ⟨hsame, hno⟩
      exact hstub.elim (· (of_decide_eq_true hsame)) (fun h => by simp [h] at hno))]
  change (if false = true ∨ pagesBlank (stubRecorded g s) _ _ = false then _ else _) = _
  rw [if_neg (by simp [hblank'])]
  rfl

theorem runMessage_bulkWrite {r : Request} {bs : List Byte} {g : FlashRegion} (s : State)
    (hop : msgOp bs = Op.BULK_WRITE)
    (hgood : bulkStatus (rd s (Reg.KEY_ROLE (msgKey bs))) (decide (rd s (Reg.KEY_STATE (msgKey bs)) = 3))
      (msgItems bs) (8 + bulkLen (msgBody bs)) 256 (msgBody bs) (fun x => x.writeRole) = Status.OK)
    (hg : flashRegions[bulkRegion (msgBody bs)]? = some g) (hidle : regionBusy s (bulkRegion (msgBody bs)) = false)
    (hstub : g.bank ≠ rd s Reg.FIRMWARE_EXEC_BANK ∨ (msgFlags bs).testBit 2 = true)
    (hblank : pagesBlank s (g.base + bulkOffset (msgBody bs)) (bulkLen (msgBody bs)) = true) :
    runMessage false r bs s =
      (bulkWritten (stubRecorded g s) (g.base + bulkOffset (msgBody bs)) ((msgBody bs).drop 8),
       { status := Status.OK, items := 1, body := (msgBody bs).take 8 }, []) := by
  unfold runMessage
  dsimp only
  rw [hop, if_pos rfl, bulkWriteBody_eq s hgood hg hidle hstub hblank]

/-! ## What a response leaves as it was -/

@[simp] theorem aside_sendReplies {P : Piece → Bool} (s : State) (hP : Traffic P) :
    aside P (sendReplies s) = aside P s := by
  refine aside_foldl P s _ (fun s _ => ?_) _
  split <;> simp [hP, hP.all]

@[simp] theorem aside_answer {P : Piece → Bool} (keep : Bool) (secret bs : List Byte) (r : Request) (x : Reply)
    (s : State) (hP : Traffic P) :
    aside P (answer keep secret bs r x s) = aside P s := by
  simp only [answer, sendReply]
  (repeat' split) <;> simp [hP, hP.all]

theorem rd_answer_key (keep : Bool) (secret bs : List Byte) (r : Request) (x : Reply) (s : State) {a : Addr}
    (ha : a.obj = 0x1102) : rd (answer keep secret bs r x s) a = rd s a :=
  rd_of_besides (kept := [.obj 0x1102]) (aside_answer keep secret bs r x s (by simp))
    (by simp [ha])

@[simp] theorem answer_flash (keep : Bool) (secret bs : List Byte) (r : Request) (x : Reply) (s : State) :
    (answer keep secret bs r x s).flash = s.flash :=
  flash_of_outside (P := fun p => !decide (p = .flash)) (by simp) rfl

/-! ## Writes of one element -/

/-- A write without an effect of its own stores its value, and does nothing else. -/
theorem applyWrites_plain {key : Nat} {w : Write} (s : State) (heff : writeEffect key w.addr w.value = none)
    (hcounter : w.addr.obj ≠ 0x0F01) (hentry : w.addr.obj ≠ 0x0600) :
    applyWrites key [w] s = storeOne s (w.addr, w.value) := by
  have hexpand : expandWrite w = [(w.addr, w.value)] := if_neg fun h => hentry h.1
  simp [applyWrites, countersWritten, storeWrite, heff, hcounter, hexpand]

theorem storeOne_of_inSet (s : State) {e : Addr × Nat} (h : inSet e.1 = true) :
    storeOne s e = { s with shadow := s.shadow.put e.1 e.2 } := if_pos h

theorem storeOne_of_not_inSet (s : State) {e : Addr × Nat} (h : inSet e.1 = false) :
    storeOne s e = wr s e.1 e.2 := if_neg (by simp [h])

end Sys2Proof.Machine

/-! # SirgoMessages: messages, bulk transfers and writes -/

namespace Sys2Proof.Machine

section
variable {s : State} {r : Request} {rest : List Request} {bs : List Byte} {items : List Item}

theorem exec_getMsg_executed (h : Executes s r rest bs Op.GET)
    (hparse : parseItems (msgBody bs).length (msgBody bs) = some items) (hlen : items.length = msgItems bs) :
    exec .getMsg s = .next (answer true (secretOf s (msgKey bs)) bs r
      (getItems (rd s (Reg.KEY_ROLE (msgKey bs))) (rd s (Reg.KEY_TEN (msgKey bs))) 0 items (accepted s rest bs) []).2
      (wr (getItems (rd s (Reg.KEY_ROLE (msgKey bs))) (rd s (Reg.KEY_TEN (msgKey bs))) 0 items
        (accepted s rest bs) []).1 (Reg.KEY_LAST_EPOCH (msgKey bs)) (rd s Reg.EPOCH_NUMBER))) := by
  refine next_eq ((executeFront_eq h false).trans ?_)
  rw [runMessage_get false r _ h.op hparse hlen, rd_accepted_role, rd_accepted_ten]
  rfl

theorem exec_getRange_executed (h : Executes s r rest bs Op.GET_RANGE)
    (hparse : parseItems (msgBody bs).length (msgBody bs) = some items) (hlen : items.length = msgItems bs) :
    exec .getRange s = .next (answer true (secretOf s (msgKey bs)) bs r
      (getRange (replyLimit s r.transport) (rd s (Reg.KEY_ROLE (msgKey bs))) (rd s (Reg.KEY_TEN (msgKey bs))) items
        (accepted s rest bs)).2
      (wr (getRange (replyLimit s r.transport) (rd s (Reg.KEY_ROLE (msgKey bs))) (rd s (Reg.KEY_TEN (msgKey bs))) items
        (accepted s rest bs)).1 (Reg.KEY_LAST_EPOCH (msgKey bs)) (rd s Reg.EPOCH_NUMBER))) := by
  refine next_eq ((executeFront_eq h false).trans ?_)
  rw [runMessage_getRange false r _ h.op hparse hlen, rd_accepted_role, rd_accepted_ten, replyLimit_accepted]
  rfl

theorem exec_setMsg_executed (h : Executes s r rest bs Op.SET)
    (hparse : parseItems (msgBody bs).length (msgBody bs) = some items) (hlen : items.length = msgItems bs)
    (hgood : setStatus (accepted s rest bs) (rd s (Reg.KEY_ROLE (msgKey bs)))
      (decide (rd s (Reg.KEY_STATE (msgKey bs)) = 3)) (items.map (itemWrite s (msgKey bs) (msgCounter bs))) =
        (Status.OK, 0)) :
    exec .setMsg s = .next (concluded s (responded s r bs
      (applyWrites (msgKey bs) (items.map (itemWrite s (msgKey bs) (msgCounter bs))) (accepted s rest bs),
       { status := Status.OK, items := items.length, body := items.flatMap (fun x => itemBytes x.addr x.shadow []) },
       items.map (itemWrite s (msgKey bs) (msgCounter bs))))) := by
  have hrun := runMessage_set false r (accepted s rest bs) h.op hparse hlen
    (by rw [itemWrite_accepted, rd_accepted_role, rd_accepted_state, hgood])
  rw [itemWrite_accepted] at hrun
  exact finish_eq ((executeFront_eq h false).trans (congrArg _ hrun))

theorem exec_bulkRead_executed (h : Executes s r rest bs Op.BULK_READ) {g : FlashRegion}
    (hgood : bulkStatus (rd s (Reg.KEY_ROLE (msgKey bs))) (decide (rd s (Reg.KEY_STATE (msgKey bs)) = 3))
      (msgItems bs) 8 16 (msgBody bs) (fun x => x.readRole) = Status.OK)
    (hg : flashRegions[bulkRegion (msgBody bs)]? = some g) :
    exec .bulkRead s = .next (answer true (secretOf s (msgKey bs)) bs r
      { status := Status.OK, items := 1,
        body := (msgBody bs).take 8 ++ flashBytes s (g.base + bulkOffset (msgBody bs)) (bulkLen (msgBody bs)) }
      (wr (accepted s rest bs) (Reg.KEY_LAST_EPOCH (msgKey bs)) (rd s Reg.EPOCH_NUMBER))) := by
  refine next_eq ((executeFront_eq h false).trans ?_)
  rw [runMessage_bulkRead false r _ h.op (by rw [rd_accepted_role, rd_accepted_state, hgood]) hg, flashBytes_accepted]
  rfl

/-- The state that a bulk write of a good message leaves, before its response. -/
def bulkDone (s : State) (rest : List Request) (bs : List Byte) (g : FlashRegion) : State :=
  bulkWritten (stubRecorded g (accepted s rest bs)) (g.base + bulkOffset (msgBody bs)) ((msgBody bs).drop 8)

theorem rd_bulkDone (s : State) (rest : List Request) (bs : List Byte) (g : FlashRegion) (a : Addr) :
    rd (bulkDone s rest bs g) a = rd (accepted s rest bs) a :=
  (rd_bulkWritten ..).trans (stubRecorded_keeps (rd · a) (fun t c src l => rd_raise t c src l a) ..)

theorem exec_bulkWrite_executed (h : Executes s r rest bs Op.BULK_WRITE) {g : FlashRegion}
    (hgood : bulkStatus (rd s (Reg.KEY_ROLE (msgKey bs))) (decide (rd s (Reg.KEY_STATE (msgKey bs)) = 3))
      (msgItems bs) (8 + bulkLen (msgBody bs)) 256 (msgBody bs) (fun x => x.writeRole) = Status.OK)
    (hg : flashRegions[bulkRegion (msgBody bs)]? = some g) (hidle : regionBusy s (bulkRegion (msgBody bs)) = false)
    (hstub : g.bank ≠ rd s Reg.FIRMWARE_EXEC_BANK ∨ (msgFlags bs).testBit 2 = true)
    (hblank : pagesBlank s (g.base + bulkOffset (msgBody bs)) (bulkLen (msgBody bs)) = true) :
    exec (.bulkWrite false) s = .next (responded s r bs
      (bulkDone s rest bs g, { status := Status.OK, items := 1, body := (msgBody bs).take 8 }, [])) := by
  refine next_eq ((executeFront_eq h false).trans (congrArg _ (runMessage_bulkWrite _ h.op ?_ hg ?_ ?_ ?_)))
  · rw [rd_accepted_role, rd_accepted_state, hgood]
  · rw [regionBusy_accepted, hidle]
  · rwa [rd_accepted_obj _ _ _ (by simp)]
  · rw [pagesBlank_accepted, hblank]

/-- A response after which nothing follows leaves the flash as the operation left it. -/
theorem responded_flash (x : State) (y : Reply) : (responded s r bs (x, y, [])).flash = x.flash := by
  unfold responded
  exact (answer_flash ..).trans (wr_flash ..)

theorem rd_responded_floor (x : State) (y : Reply) :
    rd (responded s r bs (x, y, [])) (Reg.KEY_FLOOR (msgKey bs)) = rd x (Reg.KEY_FLOOR (msgKey bs)) := by
  unfold responded
  exact (rd_answer_key _ _ _ _ _ _ rfl).trans (rd_wr_ne _ _ (by simp))

theorem bulkDone_written {g : FlashRegion} (hlen : (msgBody bs).length = 8 + bulkLen (msgBody bs)) :
    (bulkDone s rest bs g).flash.readBytes (g.base + bulkOffset (msgBody bs)) (bulkLen (msgBody bs)) =
      (msgBody bs).drop 8 := by
  have hdrop : ((msgBody bs).drop 8).length = bulkLen (msgBody bs) := by rw [List.length_drop]; omega
  conv_lhs => rw [← hdrop]
  exact bulkWritten_readBytes ..

theorem bulkDone_outside {g : FlashRegion} (hlen : (msgBody bs).length = 8 + bulkLen (msgBody bs)) {x : Nat}
    (hx : x < g.base + bulkOffset (msgBody bs) ∨ g.base + bulkOffset (msgBody bs) + bulkLen (msgBody bs) ≤ x)
    (hsector : (g.base + bulkOffset (msgBody bs)) % 65536 ≠ 0 ∨
      x / 65536 ≠ (g.base + bulkOffset (msgBody bs)) / 65536) :
    (bulkDone s rest bs g).flash.read x = s.flash.read x := by
  have hdrop : ((msgBody bs).drop 8).length = bulkLen (msgBody bs) := by rw [List.length_drop]; omega
  have hkept : (stubRecorded g (accepted s rest bs)).flash = s.flash :=
    (stubRecorded_keeps (·.flash) (fun t => raise_flash (s := t)) ..).trans (accepted_flash ..)
  exact (bulkWritten_read_outside _ (by rwa [hdrop]) hsector).trans (by rw [hkept])

end

/-! ## Writes that reach the registers -/

theorem applyWrites_stored {key : Nat} {w : Write} (s : State) (heff : writeEffect key w.addr w.value = none)
    (hcounter : w.addr.obj ≠ 0x0F01) (hentry : w.addr.obj ≠ 0x0600) (hset : inSet w.addr = false) :
    rd (applyWrites key [w] s) w.addr = w.value ∧
      ∀ b, b ≠ w.addr → rd (applyWrites key [w] s) b = rd s b := by
  rw [applyWrites_plain s heff hcounter hentry, storeOne_of_not_inSet s hset]
  exact ⟨rd_wr_self .., fun b hb => rd_wr_ne _ _ hb⟩

theorem applyWrites_shadowed {key : Nat} {w : Write} (s : State) (heff : writeEffect key w.addr w.value = none)
    (hcounter : w.addr.obj ≠ 0x0F01) (hentry : w.addr.obj ≠ 0x0600) (hset : inSet w.addr = true) :
    shadowRd (applyWrites key [w] s) w.addr = w.value ∧ (applyWrites key [w] s).regs = s.regs := by
  rw [applyWrites_plain s heff hcounter hentry, storeOne_of_inSet s hset]
  exact ⟨Regs.get_put_self .., rfl⟩

/-- A register write that the checks of a SET pass is made, and what follows a response follows it (R509). -/
theorem doRegisterWrite_good {a : Addr} {v : Nat} {s : State} (hup : s.groom.up = true)
    (hsecret : ¬ (a.obj = 0x1102 ∧ a.el = 3)) (hv : v < 2 ^ bitsOf a)
    (hgood : setStatus s 3 false [⟨a, bitsOf a / 8, v⟩] = (Status.OK, 0)) :
    doRegisterWrite a v s = afterResponse [⟨a, bitsOf a / 8, v⟩]
      (applyWrites (Config.writerKey (now s)).val [⟨a, bitsOf a / 8, v⟩] s) := by
  unfold doRegisterWrite
  dsimp only
  rw [if_neg (by simp only [hup, not_or]; exact ⟨by simp, hsecret, not_le.mpr hv⟩), if_neg (not_not.mpr hgood)]

/-- Settles O48: a message that passes the checks of R527 is executed on the state with its floor raised, by the
operation that it names; a bulk write programs its own bytes; a plain write stores its value alone. -/
theorem sirgoMessages : Obligations.SirgoMessages := by
  unfold Obligations.SirgoMessages
  refine ⟨?get, ?range, ?set, ?read, ?write, ?stored, ?register⟩
  case get =>
    intro r rest items s bs k s1 s2 done role out hup hq hf ha hfl hk hs hin hh hop hparse hlen
    have hs2 : accepted s rest bs = s2 := accepted_eq s rest bs
    have h := exec_getMsg_executed ⟨rfl, hup, hq, hf, ha, hfl, hk, hs, hin, hh, hop⟩ hparse hlen
    rwa [show requestBytes r = bs from rfl, hs2] at h
  case range =>
    intro r rest items s bs k s1 s2 done role out hup hq hf ha hfl hk hs hin hh hop hparse hlen
    have hs2 : accepted s rest bs = s2 := accepted_eq s rest bs
    have h := exec_getRange_executed ⟨rfl, hup, hq, hf, ha, hfl, hk, hs, hin, hh, hop⟩ hparse hlen
    rwa [show requestBytes r = bs from rfl, hs2] at h
  case set =>
    intro r rest items s bs k s1 s2 done role initial ws hup hq hf ha hfl hk hs hin hh hop hparse hlen hgood
    have hs2 : accepted s rest bs = s2 := accepted_eq s rest bs
    have h := exec_setMsg_executed ⟨rfl, hup, hq, hf, ha, hfl, hk, hs, hin, hh, hop⟩ hparse hlen
      (show setStatus (accepted s rest bs) role initial ws = _ by rw [hs2, hgood])
    rwa [show requestBytes r = bs from rfl, hs2] at h
  case read =>
    intro r rest g s bs k s1 s2 done role initial hup hq hf ha hfl hk hs hin hh hop hgood hg
    have hs2 : accepted s rest bs = s2 := accepted_eq s rest bs
    have h := exec_bulkRead_executed ⟨rfl, hup, hq, hf, ha, hfl, hk, hs, hin, hh, hop⟩ hgood hg
    rwa [show requestBytes r = bs from rfl, hs2] at h
  case write =>
    intro r rest g s bs k role initial a n hup hq hf ha hfl hk hs hin hh hop _ hgood hg hidle hstub hblank
    have hlen := length_of_bulkStatus hgood
    refine ⟨_, exec_bulkWrite_executed ⟨rfl, hup, hq, hf, ha, hfl, hk, hs, hin, hh, hop⟩ hgood hg hidle hstub hblank,
      ?_, ?_, ?_⟩
    · rw [rd_responded_floor, rd_bulkDone, rd_accepted_floor]
    · rw [responded_flash]
      exact bulkDone_written hlen
    · intro x hx hsector
      rw [responded_flash]
      exact bulkDone_outside hlen hx hsector
  case stored =>
    intro key w s heff hcounter hentry
    exact ⟨applyWrites_stored s heff hcounter hentry, applyWrites_shadowed s heff hcounter hentry⟩
  case register =>
    intro o i obj inst el v s a w ho _ hup hsecret hv hgood
    exact finish_eq (doRegisterWrite_good hup (by rwa [ho] at hsecret) hv hgood)

end Sys2Proof.Machine

/-! # The slots of a port (O14) -/

namespace Sys2Proof.Machine

/-! ## The line and the slots -/

/-- The line's coder keeps its own state, and nothing else of the port's link. -/
theorem link_sendStream (p w x : Nat) (s : State) :
    ∃ y, link (sendStream p w x s) p = { link s p with lineTx := y } := by
  unfold sendStream
  extract_lets t y n v left words mask u
  have hu : ∃ y, link u p = { link s p with lineTx := y } := ⟨_, link_modLink_self ..⟩
  split
  · exact hu
  · exact hu

theorem mem_outputs_sendStream {p w x : Nat} {s : State} {o : Output} (h : o ∈ s.outputs) :
    o ∈ (sendStream p w x s).outputs := by
  unfold sendStream
  extract_lets t y n v left words mask u
  split
  · exact h
  · exact List.mem_append_left _ h

theorem link_putFlit (p : Nat) (f : Flit) (s : State) : ∃ y, link (putFlit p f s) p = { link s p with lineTx := y } :=
  link_sendStream p 8192 (flitNat f) (emit s (.flit p f))

theorem mem_outputs_putFlit (p : Nat) (f : Flit) (s : State) : .flit p f ∈ (putFlit p f s).outputs :=
  mem_outputs_sendStream (s := emit s (.flit p f)) (List.mem_append_right _ (List.mem_singleton.mpr rfl))

theorem nakSent_of_none {p : Nat} {s : State} (h : (link s p).nak = false) : nakSent p s = s :=
  if_neg (by simp [h])

theorem nakSent_putFlit {p : Nat} {f : Flit} {s : State} (h : (link s p).nak = false) :
    nakSent p (putFlit p f s) = putFlit p f s := by
  obtain ⟨y, hy⟩ := link_putFlit p f s
  exact nakSent_of_none (by rw [hy]; exact h)

theorem paceFill_room {p : Nat} {s : State} (h : (link s p).fillDue + 223 * 8192 < 1184033 * 64) :
    paceFill p s = modLink s p (fun l => { l with fillDue := (link s p).fillDue + 223 * 8192 }) := by
  unfold paceFill
  extract_lets due u
  exact if_neg (not_le.mpr h)

/-! ## Two writes of one link -/

theorem Store.erase_of_absent {κ α : Type} [DecidableEq κ] {m : List (κ × α)} {k : κ} (h : Store.absent m k) :
    Store.erase m k = m := by
  induction m with
  | nil => rfl
  | cons e rest ih =>
    obtain ⟨k', v⟩ := e
    rw [Store.erase, if_neg (h (k', v) (by simp)), ih fun e he => h e (List.mem_cons_of_mem _ he)]

theorem Store.erase_insert_of_absent {κ α : Type} [DecidableEq κ] (lt : κ → κ → Bool) {m : List (κ × α)} {k : κ}
    (v : α) (h : Store.absent m k) : Store.erase (Store.insert lt k v m) k = m := by
  induction m with
  | nil => rw [Store.insert, Store.erase, if_pos rfl, Store.erase]
  | cons e rest ih =>
    obtain ⟨k', v'⟩ := e
    rw [Store.insert]
    split
    · rw [Store.erase, if_pos rfl, Store.erase_of_absent h]
    · rw [Store.erase, if_neg (h (k', v') (by simp)), ih fun e he => h e (List.mem_cons_of_mem _ he)]

theorem Store.put_put {κ α : Type} [DecidableEq κ] [DecidableEq α] (lt : κ → κ → Bool) (dflt : κ → α)
    (m : List (κ × α)) (k : κ) (v w : α) :
    Store.put lt dflt (Store.put lt dflt m k v) k w = Store.put lt dflt m k w := by
  have herase : Store.erase (Store.put lt dflt m k v) k = Store.erase m k := by
    unfold Store.put
    split
    · exact Store.erase_of_absent (Store.absent_erase m k)
    · exact Store.erase_insert_of_absent lt v (Store.absent_erase m k)
  rw [Store.put, herase]
  rfl

theorem modLink_modLink (s : State) (p : Nat) (f g : Link → Link) :
    modLink (modLink s p f) p g = modLink s p (fun l => g (f l)) := by
  have hputs : Tab.put {} (Tab.put {} s.links p (f (link s p))) p (g (f (link s p))) =
      Tab.put {} s.links p (g (f (link s p))) := Store.put_put ..
  conv_lhs => rw [modLink, link_modLink_self]
  exact congrArg (fun m => { s with links := m }) hputs

theorem modLink_congr {s : State} {p : Nat} {f g : Link → Link} (h : f (link s p) = g (link s p)) :
    modLink s p f = modLink s p g := by
  unfold modLink
  rw [h]

/-! ## A slot of a port that has room -/

/-- What every slot of a port does first: it is counted, and adds to the fill that is due (R92, R94). -/
def slotBegun (p n : Nat) (s : State) : State :=
  modLink s p (fun l => { l with slots := n, fillDue := l.fillDue + 223 * 8192 })

theorem slotBegun_eq {p n : Nat} {s : State} (h : (link s p).fillDue + 223 * 8192 < 1184033 * 64) :
    paceFill p (modLink s p (fun l => { l with slots := n })) = slotBegun p n s := by
  have hlink : (link (modLink s p (fun l => { l with slots := n })) p).fillDue = (link s p).fillDue := by
    rw [link_modLink_self]
  rw [paceFill_room (by rwa [hlink]), modLink_modLink]
  exact modLink_congr (by rw [hlink])

theorem doFlitSlot_eq {p n : Nat} {s : State} (hstate : rd s (Reg.PORT_STATE p) = 4 ∨ rd s (Reg.PORT_STATE p) = 5)
    (hn : ((link s p).slots + 1) % 17 = n) : doFlitSlot p false s =
      nakSent p (if n = 0 then controlSlot p (paceFill p (modLink s p (fun l => { l with slots := n })))
        else dataSlot p (paceFill p (modLink s p (fun l => { l with slots := n })))) := by
  subst hn
  unfold doFlitSlot
  extract_lets st next u v w
  have hw : w = v := if_neg Bool.false_ne_true
  rw [if_neg (fun h => hstate.elim h.1 h.2.1), hw]

theorem controlSlot_eq (p : Nat) (s : State) {u : State}
    (hu : setCmdBit p 28 (portEmpty s p && (link s p).sending.isEmpty && (link s p).retry.isEmpty) s = u) :
    controlSlot p s = putFlit p (controlFlit u p) u := by
  subst hu
  rfl

theorem dataSlot_null {p : Nat} {s : State} (hresend : (link s p).resend = []) (hsending : (link s p).sending = []) :
    dataSlot p s = putFlit p (nullFlit (link s p)) s := by
  unfold dataSlot
  extract_lets l null cap g n starting u g' f
  have hg : g.1 = [] := by
    change (gather s (link s p).sending 63 [] 63 []).1 = []
    rw [hsending, gather]
  split
  · rfl
  · rw [show l.resend = [] from hresend]
    exact if_pos (.inr hg)

theorem dataSlot_replay {p : Nat} {f : Flit} {rest : List Flit} {s : State} (hstate : rd s (Reg.PORT_STATE p) = 5)
    (hsleep : (link s p).sleep ≠ .settling) (hresend : (link s p).resend = f :: rest) :
    dataSlot p s = putFlit p (replayFlit (link s p) f)
      (modLink s p (fun l => { l with resend := rest, lastData := now s })) := by
  unfold dataSlot
  extract_lets l null cap g n starting u g' f'
  rw [if_neg (fun h => h.elim (· hstate) hsleep), show l.resend = f :: rest from hresend]

/-! ## Slots that send no block of a frame -/

theorem nak_setCmdBit (p b : Nat) (on : Bool) (s : State) :
    (link (setCmdBit p b on s) p).nak = (link s p).nak := by
  unfold setCmdBit
  exact proj_setCmd (·.nak) (fun _ _ _ _ => rfl) ..

theorem link_slotBegun (p n : Nat) (s : State) :
    link (slotBegun p n s) p = { link s p with slots := n, fillDue := (link s p).fillDue + 223 * 8192 } :=
  link_modLink_self ..

theorem exec_controlSlot {p : Port} {s : State} (hstate : rd s (Reg.PORT_STATE p) = 4 ∨ rd s (Reg.PORT_STATE p) = 5)
    (hslots : (link s p).slots = 16) (hnak : (link s p).nak = false)
    (hroom : (link s p).fillDue + 223 * 8192 < 1184033 * 64) {u : State}
    (hu : setCmdBit p 28 (portEmpty s p && (link s p).sending.isEmpty && (link s p).retry.isEmpty)
      (slotBegun p 0 s) = u) :
    exec (.flitSlot (p, false)) s = .next (concluded s (putFlit p (controlFlit u p) u)) := by
  have hcontrol : controlSlot p (slotBegun p 0 s) = putFlit p (controlFlit u p) u := by
    refine controlSlot_eq p (slotBegun p 0 s) (Eq.trans ?_ hu)
    rw [link_slotBegun]
    rfl
  have hnaku : (link u p).nak = false := by rw [← hu, nak_setCmdBit, link_slotBegun, hnak]
  refine finish_eq ((doFlitSlot_eq hstate (n := 0) (by rw [hslots])).trans ?_)
  rw [if_pos rfl, slotBegun_eq hroom, hcontrol, nakSent_putFlit hnaku]

theorem exec_nullSlot {p : Port} {s : State} (hstate : rd s (Reg.PORT_STATE p) = 5) (hslots : (link s p).slots < 16)
    (hnak : (link s p).nak = false) (hroom : (link s p).fillDue + 223 * 8192 < 1184033 * 64)
    (hresend : (link s p).resend = []) (hsending : (link s p).sending = []) :
    exec (.flitSlot (p, false)) s = .next (concluded s
      (putFlit p (nullFlit (link s p)) (slotBegun p ((link s p).slots + 1) s))) := by
  have hnull : nullFlit (link (slotBegun p ((link s p).slots + 1) s) p) = nullFlit (link s p) := by
    rw [link_slotBegun]; rfl
  refine finish_eq ((doFlitSlot_eq (.inr hstate) (Nat.mod_eq_of_lt (by omega))).trans ?_)
  rw [if_neg (by omega), slotBegun_eq hroom, dataSlot_null (by rw [link_slotBegun]; exact hresend)
    (by rw [link_slotBegun]; exact hsending), hnull, nakSent_putFlit (by rw [link_slotBegun]; exact hnak)]

theorem exec_replaySlot {p : Port} {f : Flit} {rest : List Flit} {s : State} (hstate : rd s (Reg.PORT_STATE p) = 5)
    (hslots : (link s p).slots < 16) (hsleep : (link s p).sleep ≠ .settling) (hnak : (link s p).nak = false)
    (hroom : (link s p).fillDue + 223 * 8192 < 1184033 * 64) (hresend : (link s p).resend = f :: rest) :
    exec (.flitSlot (p, false)) s = .next (concluded s (putFlit p (replayFlit (link s p) f)
      (modLink (slotBegun p ((link s p).slots + 1) s) p (fun l => { l with resend := rest, lastData := now s })))) := by
  have hreplay : replayFlit (link (slotBegun p ((link s p).slots + 1) s) p) f = replayFlit (link s p) f := by
    rw [link_slotBegun]; rfl
  refine finish_eq ((doFlitSlot_eq (.inr hstate) (Nat.mod_eq_of_lt (by omega))).trans ?_)
  rw [if_neg (by omega), slotBegun_eq hroom, dataSlot_replay (s := slotBegun p ((link s p).slots + 1) s) hstate
      (by rw [link_slotBegun]; exact hsleep) (by rw [link_slotBegun]; exact hresend), hreplay,
    nakSent_putFlit (by rw [link_modLink_self, link_slotBegun]; exact hnak)]
  rfl

/-! ## The blocks that a slot gathers -/

/-- What the gathering of blocks reads of a frame. -/
def frameShape (f : Frame) : Nat × Nat := (hdrLen f.hdr, (linkBlocks f).length)

/-- The same frames as far as the gathering of blocks can tell. -/
def SameShapes (s t : State) : Prop := ∀ id, (findFrame t id).map frameShape = (findFrame s id).map frameShape

theorem SameShapes.trans {s t u : State} (h : SameShapes s t) (g : SameShapes t u) : SameShapes s u :=
  fun id => (g id).trans (h id)

theorem sameShapes_of_frames {s t : State} (h : t.frames = s.frames) : SameShapes s t := fun id => by
  rw [findFrame_congr h]

theorem gather_length_congr {s t : State} (h : SameShapes s t) (l : List Sending) :
    ∀ (room fst : Nat) (acc acc' : List Block) (done done' : List Sending) (fst' : Nat), acc'.length = acc.length →
      (gather t l room acc' fst' done').1.length = (gather s l room acc fst done).1.length := by
  induction l with
  | nil => intro room fst acc acc' done done' fst' hacc; simpa [gather] using hacc
  | cons e rest ih =>
    intro room fst acc acc' done done' fst' hacc
    have hshape := h e.frame
    rw [gather, gather]
    cases hs : findFrame s e.frame with
    | none =>
      have ht : findFrame t e.frame = none := by simpa [hs] using hshape
      rw [ht]
      exact ih _ _ _ _ _ _ _ hacc
    | some f =>
      obtain ⟨f', ht, hf'⟩ : ∃ f', findFrame t e.frame = some f' ∧ frameShape f' = frameShape f := by
        simpa [hs] using hshape
      obtain ⟨hlen, hblocks⟩ := Prod.mk.inj hf'
      have htake : (((linkBlocks f').drop e.sent).take room).length =
          (((linkBlocks f).drop e.sent).take room).length := by
        simp only [List.length_take, List.length_drop, hblocks]
      rw [ht]
      dsimp only
      rw [htake, hlen]
      split
      · exact ih _ _ _ _ _ _ _ (by rw [List.length_append, List.length_append, hacc, htake])
      · rw [List.length_append, List.length_append, hacc, htake]

theorem gather_congr {s t : State} (h : t.frames = s.frames) (l : List Sending) :
    ∀ (room fst : Nat) (acc : List Block) (done : List Sending),
      gather t l room acc fst done = gather s l room acc fst done := by
  induction l with
  | nil => intro room fst acc done; rfl
  | cons e rest ih =>
    intro room fst acc done
    rw [gather, gather, findFrame_congr h]
    simp only [ih]

theorem gather_length_le (s : State) (l : List Sending) :
    ∀ (room fst : Nat) (acc : List Block) (done : List Sending),
      (gather s l room acc fst done).1.length ≤ acc.length + room := by
  induction l with
  | nil => intro room fst acc done; simp [gather]
  | cons e rest ih =>
    intro room fst acc done
    rw [gather]
    cases findFrame s e.frame with
    | none => exact ih _ _ _ _
    | some f =>
      have htake : (((linkBlocks f).drop e.sent).take room).length ≤ room := List.length_take_le ..
      dsimp only
      split
      · refine (ih _ _ _ _).trans ?_
        rw [List.length_append]
        omega
      · rw [List.length_append]
        omega

/-! ## A header's type and number -/

theorem flitHeader_fields (ftype fseq ack : Nat) (ackv nak replay : Bool) (fstart fidle : Nat) :
    field (BitVec.ofNat 96 (flitHeader ftype fseq ack ackv nak replay fstart fidle)).toNat 92 4 = ftype % 2 ^ 4 ∧
      field (BitVec.ofNat 96 (flitHeader ftype fseq ack ackv nak replay fstart fidle)).toNat 76 16 = fseq % 2 ^ 16 := by
  have hlt : flitHeader ftype fseq ack ackv nak replay fstart fidle < 2 ^ 96 := joinFields_lt _
  have hseq : flitHeader ftype fseq ack ackv nak replay fstart fidle / 2 ^ 76 = joinFields [(4, ftype), (16, fseq)] :=
    joinFields_append_div [(4, ftype), (16, fseq)] [(16, ack), (1, boolBit ackv), (1, boolBit nak),
      (1, boolBit replay), (1, 0), (6, fstart), (6, fidle), (44, 0)]
  have htype : flitHeader ftype fseq ack ackv nak replay fstart fidle / 2 ^ 92 = joinFields [(4, ftype)] :=
    joinFields_append_div [(4, ftype)] [(16, fseq), (16, ack), (1, boolBit ackv), (1, boolBit nak),
      (1, boolBit replay), (1, 0), (6, fstart), (6, fidle), (44, 0)]
  unfold field
  rw [BitVec.toNat_ofNat, Nat.mod_eq_of_lt hlt, htype, hseq]
  simp only [joinFields, List.foldl]
  omega

/-! ## A first block -/

theorem SameShapes.refl (s : State) : SameShapes s s := fun _ => rfl

theorem RegsOnly.sameShapes {s t : State} (h : RegsOnly s t) : SameShapes s t := sameShapes_of_frames h.frames

theorem sameShapes_stampOffset (s : State) (id : Nat) : SameShapes s (stampOffset s id) := fun j => by
  unfold stampOffset
  rw [findFrame_modFrame]
  split
  · rw [Option.map_map]
    congr 1
    funext f
    change frameShape (if hdrKind f.hdr = KindCode.EPOCH then _ else f) = frameShape f
    split
    · simp only [frameShape, linkBlocks]
      split
      · simp
      split <;> simp
    · rfl
  · rfl

/-- What a first block counts before its frame is mirrored. -/
def firstCounted (s : State) (p : Nat) (f : Frame) : State :=
  let s := countFrame (countFrame s p (0x0120 + hdrKind f.hdr) f.hdr) p 0x0130 f.hdr
  let s := incBy (inc s (Reg.PORTSTAT_TX_FRAMES p) 64) (Reg.PORTSTAT_TX_BYTES p) 64 (hdrBytes f.hdr)
  let s := countIn s (vertexBank p) 0x3009
    { frameEvent (some (p % 16)) f.hdr with events := now s - f.admitted, bytes := 0 }
  let s := if f.whole then countFrame s p 0x300A f.hdr else s
  if f.repinHere then countFrame s p 0x300E f.hdr else s

theorem regsOnly_firstCounted (s : State) (p : Nat) (f : Frame) : RegsOnly s (firstCounted s p f) := by
  have hif : ∀ (u : State) (b : Bool) (sel : Nat), RegsOnly u (if b then countFrame u p sel f.hdr else u) := by
    intro u b sel
    split
    · exact regsOnly_countFrame ..
    · exact .refl u
  unfold firstCounted
  extract_lets t1 t2 e t3 t4
  have h1 : RegsOnly s t1 := (regsOnly_countFrame ..).trans (regsOnly_countFrame ..)
  have h2 : RegsOnly t1 t2 := (RegsOnly.inc ..).trans (.incBy ..)
  have h3 : RegsOnly t2 t3 := regsOnly_countIn ..
  exact (h1.trans h2).trans (h3.trans ((hif ..).trans (hif ..)))

theorem firstBlockSent_eq {s : State} {p id : Nat} {f : Frame} (hf : findFrame (stampOffset s id) id = some f) :
    firstBlockSent s p id = mirrorEgress (firstCounted (stampOffset s id) p f) id p f.hdr := by
  unfold firstBlockSent
  extract_lets t
  rw [show findFrame t id = some f from hf]
  rfl

theorem firstBlockSent_none {s : State} {p id : Nat} (hf : findFrame (stampOffset s id) id = none) :
    firstBlockSent s p id = stampOffset s id := by
  unfold firstBlockSent
  extract_lets t
  rw [show findFrame t id = none from hf]

/-- No copy is made while the copy rate of its facet is exceeded. -/
theorem sameShapes_mirrorCopy (hover : ∀ n, Config.mirrorOverRate n = true) (s : State) (i dir p id : Nat)
    (f : Frame) (h : Block) (ten : Nat) : SameShapes s (mirrorCopy s i dir p id f h ten) := by
  unfold mirrorCopy
  extract_lets cten facet
  split
  · exact .refl _
  split
  · exact (sameShapes_of_frames (raise_frames ..)).trans (regsOnly_discardAt ..).sameShapes
  rw [if_pos (hover s.nextFrame)]
  exact (regsOnly_discardAt ..).sameShapes

theorem sameShapes_firstBlockSent (hover : ∀ n, Config.mirrorOverRate n = true) (s : State) (p id : Nat) :
    SameShapes s (firstBlockSent s p id) := by
  have hstamp := sameShapes_stampOffset s id
  cases hf : findFrame (stampOffset s id) id with
  | none => rwa [firstBlockSent_none hf]
  | some f =>
    rw [firstBlockSent_eq hf]
    refine (hstamp.trans (regsOnly_firstCounted _ p f).sameShapes).trans ?_
    unfold mirrorEgress mirrorAt
    split
    · exact .refl _
    · exact List.foldlRecOn (motive := SameShapes _) _ _ (.refl _)
        fun t ht i _ => ht.trans (sameShapes_mirrorCopy hover t i _ _ _ _ _ _)

theorem beside_regsOnly {s t : State} (h : RegsOnly s t) : beside t = beside s := by
  obtain ⟨r, rfl⟩ := h; rfl

theorem beside_mirrorCopy (s : State) (i dir p id : Nat) (f : Frame) (h : Block) (ten : Nat) :
    beside (mirrorCopy s i dir p id f h ten) = beside s := by
  have hdiscard : ∀ u why, beside (discardAt u p why h) = beside u := fun u why =>
    beside_regsOnly (regsOnly_discardAt u p why h)
  unfold mirrorCopy
  extract_lets cten facet olen n d blocks hdr s1 s2 r
  have hcount : beside s2 = beside s := by simp [s2, s1]
  split
  · rfl
  split
  · exact (hdiscard ..).trans (beside_raise ..)
  split
  · exact hdiscard ..
  · exact (beside_lookup ..).trans ((beside_newFrame ..).trans hcount)

theorem beside_firstBlockSent (s : State) (p id : Nat) : beside (firstBlockSent s p id) = beside s := by
  have hstamp : beside (stampOffset s id) = beside s := by simp [stampOffset]
  cases hf : findFrame (stampOffset s id) id with
  | none => rwa [firstBlockSent_none hf]
  | some f =>
    rw [firstBlockSent_eq hf]
    refine Eq.trans ?_ ((beside_regsOnly (regsOnly_firstCounted _ p f)).trans hstamp)
    unfold mirrorEgress mirrorAt
    split
    · rfl
    · exact beside_foldl _ _ (fun s i => beside_mirrorCopy s i ..) _

/-! ## The first blocks of a DATA flit -/

/-- What a port notes of a frame whose first block leaves. -/
def firstBlock (p : Nat) (s : State) (e : Sending) : State :=
  let s := firstBlockSent s p e.frame
  match findFrame s e.frame with
  | some f => noteCharged s p f.hdr
  | none => s

/-- The flits that a port keeps, and the number of its next. -/
def flitsKept (p : Nat) (s : State) : List Flit × Nat := ((link s p).retry, (link s p).seq)

theorem flitsKept_of_beside {p : Nat} {s t : State} (h : beside t = beside s) : flitsKept p t = flitsKept p s := by
  have hflits : ((beside t p).retry, (beside t p).seq) = ((beside s p).retry, (beside s p).seq) := by rw [h]
  exact hflits

theorem flitsKept_noteCharged (s : State) (p : Nat) (h : Block) : flitsKept p (noteCharged s p h) = flitsKept p s := by
  unfold flitsKept noteCharged
  dsimp only
  rw [link_modLink_self]

theorem flitsKept_firstBlock (p : Nat) (s : State) (e : Sending) : flitsKept p (firstBlock p s e) = flitsKept p s := by
  have hsent := flitsKept_of_beside (p := p) (beside_firstBlockSent s p e.frame)
  unfold firstBlock
  extract_lets t
  split
  · exact (flitsKept_noteCharged ..).trans hsent
  · exact hsent

theorem flitsKept_firstBlocks (p : Nat) (s : State) (l : List Sending) :
    flitsKept p (l.foldl (firstBlock p) s) = flitsKept p s :=
  proj_foldl_of_keep (flitsKept p) (flitsKept_firstBlock p) s

theorem frames_firstBlock (p : Nat) (s : State) (e : Sending) :
    (firstBlock p s e).frames = (firstBlockSent s p e.frame).frames := by
  unfold firstBlock
  extract_lets t
  split <;> rfl

theorem sameShapes_firstBlocks (hover : ∀ n, Config.mirrorOverRate n = true) (p : Nat) (s : State) (l : List Sending) :
    SameShapes s (l.foldl (firstBlock p) s) :=
  List.foldlRecOn (motive := SameShapes s) _ _ (.refl s) fun t ht e _ =>
    (ht.trans (sameShapes_firstBlockSent hover t p e.frame)).trans (sameShapes_of_frames (frames_firstBlock p t e))

/-- The frames whose first block the gathered blocks hold. -/
def starting (s : State) (l : List Sending) : List Sending :=
  l.filter (fun e => decide (e.sent = 0) &&
    (gather s l 63 [] 63 []).2.2.any (fun e' => decide (e'.frame = e.frame) && decide (0 < e'.sent)))

/-- The DATA flit of `p` with the blocks gathered at `u`, where `n` were gathered before. -/
def dataFlit (l : Link) (u : State) (n : Nat) : Flit :=
  mkFlit (ackHeader l 0 l.seq false (gather u l.sending 63 [] 63 []).2.1 (if n = 63 then 63 else n))
    ((gather u l.sending 63 [] 63 []).1 ++ idleBlocks (63 - n))

theorem dataSlot_data {p : Nat} {s : State} (hstate : rd s (Reg.PORT_STATE p) = 5)
    (hsleep : (link s p).sleep ≠ .settling) (hresend : (link s p).resend = []) (hretry : (link s p).retry.length < 96)
    (hg : (gather s (link s p).sending 63 [] 63 []).1 ≠ []) {u : State} {f : Flit}
    (hu : (starting s (link s p).sending).foldl (firstBlock p) s = u)
    (hf : dataFlit (link s p) u (gather s (link s p).sending 63 [] 63 []).1.length = f) :
    dataSlot p s = putFlit p f (modLink u p (fun l => { l with
      seq := (l.seq + 1) % 2 ^ 16, retry := l.retry ++ [f],
      sending := (gather u (link s p).sending 63 [] 63 []).2.2, lastData := now u,
      unacked := l.unacked ++
        carried u l.seq l.sending (gather u (link s p).sending 63 [] 63 []).2.2 })) := by
  subst hu hf
  unfold dataSlot
  extract_lets l null cap g n st u g' f
  have hu : u = (starting s (link s p).sending).foldl (firstBlock p) s := rfl
  have hf : f = dataFlit (link s p) ((starting s (link s p).sending).foldl (firstBlock p) s)
      (gather s (link s p).sending 63 [] 63 []).1.length := rfl
  have hcap : ¬ (cap ≤ l.retry.length ∨ g.1 = []) := by
    rintro (h | h)
    · have h96 : 96 ≤ cap := by unfold cap; split <;> omega
      exact absurd (h96.trans h) (not_le.mpr hretry)
    · exact hg h
  rw [if_neg (fun h => h.elim (· hstate) hsleep), show l.resend = [] from hresend]
  change (if cap ≤ l.retry.length ∨ g.1 = [] then null else _) = _
  rw [if_neg hcap, ← hf, ← hu]

/-! ## A DATA flit's slot -/

theorem dataFlit_hdr (l : Link) (u : State) (n : Nat) : field (dataFlit l u n).hdr.toNat 92 4 = 0 ∧
    field (dataFlit l u n).hdr.toNat 76 16 = l.seq % 2 ^ 16 := flitHeader_fields 0 l.seq ..

/-- The state after the first blocks of the frames that a DATA flit begins. -/
def framesBegun (p : Nat) (s : State) : State := (starting s (link s p).sending).foldl (firstBlock p) s

theorem dataFlit_length (l : Link) (u : State) (n : Nat) :
    (dataFlit l u n).payload.length = (gather u l.sending 63 [] 63 []).1.length + (63 - n) := by
  change (_ ++ idleBlocks _).length = _
  rw [List.length_append, idleBlocks, List.length_replicate]

theorem regsOnly_countPort (s : State) (p sel : Nat) : RegsOnly s (countPort s p sel) := by
  unfold countPort countPortN
  exact regsOnly_countIn ..

theorem RegsOnly.outputs {s t : State} (h : RegsOnly s t) : t.outputs = s.outputs := by
  obtain ⟨r, rfl⟩ := h; rfl

theorem nakSent_kept (p : Nat) (s : State) :
    flitsKept p (nakSent p s) = flitsKept p s ∧ (nakSent p s).outputs = s.outputs := by
  unfold nakSent
  extract_lets n
  generalize 0x2006 = sel
  split
  · refine ⟨?_, (regsOnly_countPort ..).outputs⟩
    unfold flitsKept
    rw [link_countPort, link_modLink_self]
  · exact ⟨rfl, rfl⟩

theorem frames_sendStream (p w x : Nat) (s : State) : (sendStream p w x s).frames = s.frames := by
  unfold sendStream
  extract_lets t y n v left words mask u
  split <;> rfl

/-- The fill that is due touches neither the frames nor, of a link, what its flits are made of. -/
theorem paceFill_kept (p : Nat) (s : State) : (paceFill p s).frames = s.frames ∧
    rd (paceFill p s) (Reg.PORT_STATE p) = rd s (Reg.PORT_STATE p) ∧
    ∃ d y, link (paceFill p s) p = { link s p with fillDue := d, lineTx := y } := by
  unfold paceFill
  extract_lets due u
  generalize 0x2009 = sel, 0xF000000000000000 = word
  split
  · refine ⟨(regsOnly_countPort ..).frames.trans (frames_sendStream ..), ?_, ?_⟩
    · rw [rd_countPort _ _ _ (by simp)]
      exact rd_of_besides (kept := [.obj 0x0300]) (by simp [u]) (by simp)
    · obtain ⟨y, hy⟩ := link_sendStream p 64 word (emit u (.fill p))
      refine ⟨due - 1184033 * 64, y, ?_⟩
      have hu : link u p = { link s p with fillDue := due - 1184033 * 64 } := link_modLink_self s p _
      rw [link_countPort, hy, show link (emit u (.fill p)) p = link u p from rfl, hu]
  · exact ⟨rfl, rfl, due, _, link_modLink_self ..⟩

/-- A port that sends blocks of frames sends them in a DATA flit with the next number, which the retry buffer
keeps. The flit holds the blocks that are gathered once the first blocks are noted. -/
theorem dataSlot_sent {p : Nat} {s : State} (hstate : rd s (Reg.PORT_STATE p) = 5)
    (hsleep : (link s p).sleep ≠ .settling) (hresend : (link s p).resend = []) (hretry : (link s p).retry.length < 96)
    (hg : (gather s (link s p).sending 63 [] 63 []).1 ≠ []) :
    ∃ u f, dataSlot p s = putFlit p f u ∧
      field f.hdr.toNat 92 4 = 0 ∧ field f.hdr.toNat 76 16 = (link s p).seq % 2 ^ 16 ∧
      f.payload.length = (gather (framesBegun p s) (link s p).sending 63 [] 63 []).1.length +
        (63 - (gather s (link s p).sending 63 [] 63 []).1.length) ∧
      flitsKept p u = ((link s p).retry ++ [f], ((link s p).seq + 1) % 2 ^ 16) := by
  have hkept : flitsKept p (framesBegun p s) = flitsKept p s := flitsKept_firstBlocks ..
  have hdata := dataSlot_data hstate hsleep hresend hretry hg (u := framesBegun p s) rfl rfl
  generalize framesBegun p s = u at hkept hdata ⊢
  have hlength := dataFlit_length (link s p) u (gather s (link s p).sending 63 [] 63 []).1.length
  obtain ⟨htype, hseq⟩ := dataFlit_hdr (link s p) u (gather s (link s p).sending 63 [] 63 []).1.length
  generalize dataFlit (link s p) u (gather s (link s p).sending 63 [] 63 []).1.length = f
    at hdata hlength htype hseq
  refine ⟨_, f, hdata, htype, hseq, hlength, ?_⟩
  obtain ⟨hr, hs⟩ := Prod.mk.inj hkept
  unfold flitsKept
  rw [link_modLink_self, hr, hs]

/-- The state in which a slot's flit is made: the slot counted, and a fill word sent where it is due. -/
def slotPaced (p n : Nat) (s : State) : State := paceFill p (modLink s p (fun l => { l with slots := n }))

theorem slotPaced_kept (p n : Nat) (s : State) : (slotPaced p n s).frames = s.frames ∧
    rd (slotPaced p n s) (Reg.PORT_STATE p) = rd s (Reg.PORT_STATE p) ∧
    ∃ d y, link (slotPaced p n s) p = { link s p with slots := n, fillDue := d, lineTx := y } := by
  obtain ⟨hframes, hport, d, y, hlink⟩ := paceFill_kept p (modLink s p (fun l => { l with slots := n }))
  rw [link_modLink_self] at hlink
  exact ⟨hframes, hport, d, y, hlink⟩

theorem doFlitSlot_data {p : Nat} {s : State} (hstate : rd s (Reg.PORT_STATE p) = 5) (hslots : (link s p).slots < 16) :
    doFlitSlot p false s = nakSent p (dataSlot p (slotPaced p ((link s p).slots + 1) s)) := by
  have hslot := doFlitSlot_eq (.inr hstate) (Nat.mod_eq_of_lt (show (link s p).slots + 1 < 17 by omega))
  rwa [if_neg (Nat.succ_ne_zero _)] at hslot

theorem doFlitSlot_sent {p : Nat} {s : State} (hstate : rd s (Reg.PORT_STATE p) = 5) (hslots : (link s p).slots < 16)
    (hsleep : (link s p).sleep ≠ .settling) (hresend : (link s p).resend = []) (hretry : (link s p).retry.length < 96)
    (hg : (gather s (link s p).sending 63 [] 63 []).1 ≠ []) :
    ∃ f, .flit p f ∈ (doFlitSlot p false s).outputs ∧
      field f.hdr.toNat 92 4 = 0 ∧ field f.hdr.toNat 76 16 = (link s p).seq % 2 ^ 16 ∧
      f.payload.length =
        (gather (framesBegun p (slotPaced p ((link s p).slots + 1) s)) (link s p).sending 63 [] 63 []).1.length +
          (63 - (gather s (link s p).sending 63 [] 63 []).1.length) ∧
      flitsKept p (doFlitSlot p false s) = ((link s p).retry ++ [f], ((link s p).seq + 1) % 2 ^ 16) := by
  rw [doFlitSlot_data hstate hslots]
  obtain ⟨hframes, hport, d, y, hlink⟩ := slotPaced_kept p ((link s p).slots + 1) s
  generalize slotPaced p ((link s p).slots + 1) s = w at hframes hport hlink ⊢
  have hsending : (link w p).sending = (link s p).sending := by rw [hlink]
  have hgather : gather w (link w p).sending 63 [] 63 [] = gather s (link s p).sending 63 [] 63 [] := by
    rw [hsending]
    exact gather_congr hframes ..
  obtain ⟨u, f, hdata, htype, hseq, hlength, hkept⟩ := dataSlot_sent (hport.trans hstate)
    (by rw [hlink]; exact hsleep) (by rw [hlink]; exact hresend) (by rw [hlink]; exact hretry)
    (by rw [hgather]; exact hg)
  obtain ⟨z, hz⟩ := link_putFlit p f u
  rw [hgather, hsending] at hlength
  rw [hdata]
  refine ⟨f, ?_, htype, ?_, hlength, ?_⟩
  · rw [(nakSent_kept ..).2]
    exact mem_outputs_putFlit ..
  · rw [hseq, hlink]
  · have hput : flitsKept p (putFlit p f u) = flitsKept p u := by unfold flitsKept; rw [hz]
    rw [(nakSent_kept ..).1, hput, hkept, hlink]

/-- Where no copy of a frame is made, the blocks gathered before and after the first blocks are noted are as many. -/
theorem length_gather_framesBegun (hover : ∀ n, Config.mirrorOverRate n = true) {p : Nat} {s w : State}
    (hframes : w.frames = s.frames) (l : List Sending) :
    (gather (framesBegun p w) l 63 [] 63 []).1.length + (63 - (gather s l 63 [] 63 []).1.length) = 63 := by
  have hsame := gather_length_congr (sameShapes_firstBlocks hover p w (starting w (link w p).sending)) l 63 63 [] []
    [] [] 63 rfl
  have hle := gather_length_le s l 63 63 [] []
  rw [gather_congr hframes] at hsame
  unfold framesBegun
  rw [hsame]
  exact Nat.add_sub_cancel' (by simpa using hle)

theorem paceFill_due {p : Nat} {s : State} (h : 1184033 * 64 ≤ (link s p).fillDue + 223 * 8192) :
    let u := modLink s p (fun l => { l with fillDue := l.fillDue + 223 * 8192 - 1184033 * 64 })
    paceFill p s = countPort (sendStream p 64 0xF000000000000000 (emit u (.fill p))) p 0x2009 := by
  unfold paceFill
  extract_lets u due v
  have hv : v = u := modLink_congr rfl
  rw [if_pos h, hv]

/-- All of O14 holds where no copy of a frame is ever made. -/
theorem flitsSent_of_mirrorOverRate (hover : ∀ n, Config.mirrorOverRate n = true) : Obligations.FlitsSent := by
  unfold Obligations.FlitsSent
  refine ⟨fun p s hstate hslots hnak hroom => ?_, fun p s hstate hslots hnak hroom hresend hsending => ?_,
    fun p f rest s hstate hslots hsleep hnak hroom hresend => ?_,
    fun p s hstate hslots hsleep _ hresend hretry hg => ?_, fun p s h => paceFill_due h, fun p f s => rfl⟩
  · exact exec_controlSlot hstate hslots hnak hroom rfl
  · refine (exec_nullSlot hstate hslots hnak hroom hresend hsending).trans ?_
    rw [nullFlit, ackHeader, hnak]
    rfl
  · refine (exec_replaySlot hstate hslots hsleep hnak hroom hresend).trans ?_
    rw [replayFlit, ackHeader, hnak, slotBegun, modLink_modLink]
    rfl
  · obtain ⟨f, hout, htype, hseq, hlength, hkept⟩ := doFlitSlot_sent hstate hslots hsleep hresend hretry hg
    obtain ⟨hr, hs⟩ := Prod.mk.inj hkept
    exact ⟨_, f, finish_eq rfl, hout, htype, hseq,
      hlength.trans (length_gather_framesBegun hover (slotPaced_kept ..).1 _), hr, hs⟩

end Sys2Proof.Machine

/-! # Slots and the end of a command: what they touch (O14) -/

namespace Sys2Proof.Machine

section
variable {P : Piece → Bool}

/-! ## A first block, and the copies of its frame -/

@[simp] theorem aside_incBy (s : State) (a : Addr) (w n : Nat) (h : P (.obj a.obj) = true) :
    aside P (incBy s a w n) = aside P s := aside_wr s h _

@[simp] theorem aside_stampOffset (s : State) (id : Nat) (hframes : P .frames = true) :
    aside P (stampOffset s id) = aside P s := by simp [stampOffset, hframes]

@[simp] theorem aside_mirrorCopy (s : State) (i dir p id : Nat) (f : Frame) (h : Block) (ten : Nat) (hP : Traffic P)
    (h0705 : P (.obj 0x0705) = true) (hten : P (.record Code.MIRROR_TEN) = true) :
    aside P (mirrorCopy s i dir p id f h ten) = aside P s := by
  unfold mirrorCopy
  extract_lets cten facet olen n d blocks hdr s1 s2 r
  have hcount : aside P s2 = aside P s := by simp [s2, s1, hP.all, h0705]
  split
  · rfl
  split
  · simp [hP.all, hten]
  split
  · simp [hP.all]
  · rw [aside_lookup _ _ _ hP]
    simp [r, hP.all, hcount]

@[simp] theorem aside_mirrorEgress (s : State) (id p : Nat) (h : Block) (hP : Traffic P)
    (h0705 : P (.obj 0x0705) = true) (hten : P (.record Code.MIRROR_TEN) = true) :
    aside P (mirrorEgress s id p h) = aside P s := by
  unfold mirrorEgress mirrorAt
  split
  · rfl
  · exact aside_foldl P s _ (fun s i => aside_mirrorCopy s i _ _ _ _ _ _ hP h0705 hten) _

@[simp] theorem aside_firstBlockSent (s : State) (p id : Nat) (hP : Traffic P) (h0705 : P (.obj 0x0705) = true)
    (hten : P (.record Code.MIRROR_TEN) = true) : aside P (firstBlockSent s p id) = aside P s := by
  simp only [firstBlockSent]
  (repeat' split) <;> simp [hP, hP.all, h0705, hten]

@[simp] theorem aside_firstBlock (p : Nat) (s : State) (e : Sending) (hP : Traffic P) (h0705 : P (.obj 0x0705) = true)
    (hten : P (.record Code.MIRROR_TEN) = true) : aside P (firstBlock p s e) = aside P s := by
  simp only [firstBlock, noteCharged]
  split <;> simp [hP, hP.all, h0705, hten]

/-! ## The slot -/

@[simp] theorem aside_paceFill (p : Nat) (s : State) (hlinks : P .links = true) (h0F00 : P (.obj 0x0F00) = true) :
    aside P (paceFill p s) = aside P s := by
  unfold paceFill
  extract_lets due u
  split <;> simp [hlinks, h0F00, u]

@[simp] theorem aside_nakSent (p : Nat) (s : State) (hlinks : P .links = true) (h0F00 : P (.obj 0x0F00) = true) :
    aside P (nakSent p s) = aside P s := by
  unfold nakSent
  split <;> simp [hlinks, h0F00]

@[simp] theorem aside_dataSlot (p : Nat) (s : State) (hP : Traffic P) (h0705 : P (.obj 0x0705) = true)
    (hten : P (.record Code.MIRROR_TEN) = true) : aside P (dataSlot p s) = aside P s := by
  unfold dataSlot
  extract_lets l null cap g n st u g' f
  have hnull : aside P null = aside P s := by simp [null, hP.all]
  have hu : aside P u = aside P s := aside_foldl P s _ (fun s e => aside_firstBlock p s e hP h0705 hten) _
  (repeat' split) <;> simp [hnull, hu, hP.all]

/-! ## The end of a command -/

@[simp] theorem aside_answerStale (s : State) (t src gen chunk : Nat) (hP : Traffic P)
    (h0902 : P (.obj 0x0902) = true) (h0A00 : P (.obj 0x0A00) = true) (hcoll : P .coll = true) :
    aside P (answerStale s t src gen chunk) = aside P s := by
  unfold answerStale
  split <;> simp [hP, h0902, h0A00, hcoll]

@[simp] theorem aside_routeTraces (s : State) (hP : Traffic P)
    (h0902 : P (.obj 0x0902) = true) (h0A00 : P (.obj 0x0A00) = true) (hcoll : P .coll = true) :
    aside P (routeTraces s) = aside P s := by
  refine aside_foldl P s _ (fun s id => ?_) _
  simp only [routeTrace, refuseTrace]
  (repeat' split) <;> simp [hP, hP.all, h0902, h0A00, hcoll]

@[simp] theorem aside_mirrorChanges (before after : State) (h0D05 : P (.obj 0x0D05) = true) :
    aside P (mirrorChanges before after) = aside P after := by
  have hsend : ∀ ms, aside P (sendTwin after ms) = aside P after := fun ms =>
    aside_foldl P after _ (fun s m => aside_emit P s (.twin m)) ms
  unfold mirrorChanges noteLag
  (repeat' split) <;> simp [h0D05, hsend]

end

/-! ## The end of a command and the flits that a port keeps -/

theorem beside_sendTeamNotify (s : State) (facet t entry cause gen chunk missing tries : Nat) :
    beside (sendTeamNotify s facet t entry cause gen chunk missing tries) = beside s := by
  have hbucket : ∀ u (g : NotifyBucket → NotifyBucket), beside (modBucket u facet g) = beside u := fun _ _ => rfl
  simp [sendTeamNotify, sendNotify, hbucket]

theorem beside_flushAllNotices (s : State) : beside (flushAllNotices s) = beside s := by
  refine beside_foldl s _ (fun s f => beside_foldl s _ (fun s d => ?_) _) _
  unfold sendDue
  split
  · rfl
  split
  · exact beside_sendTeamNotify ..
  · exact beside_sendTeamNotify ..

theorem beside_answerStale (s : State) (t src gen chunk : Nat) : beside (answerStale s t src gen chunk) = beside s := by
  unfold answerStale
  split
  · refine (beside_flushAllNotices _).trans ?_
    unfold pendNotice
    split <;> rfl
  · rfl

theorem beside_routeTraces (s : State) : beside (routeTraces s) = beside s := by
  refine beside_foldl s _ (fun s id => ?_) _
  simp only [routeTrace, refuseTrace]
  (repeat' split) <;> simp [beside_answerStale]

/-- A swap that was triggered leaves its mark in SWAP_STATE or in SWAP_ERROR. -/
theorem applySwap_marks (cleared : List Nat) (s : State) :
    rd (applySwap cleared s) Reg.SWAP_STATE = 5 ∨ rd (applySwap cleared s) Reg.SWAP_ERROR = 5 := by
  unfold applySwap
  split
  · exact .inr (noteRefusal_error ..)
  · refine .inl ?_
    extract_lets s1 old held s2 d s3 s4 s5
    have hend : ∀ u, rd (endHolds held u) Reg.SWAP_STATE = rd u Reg.SWAP_STATE := by
      intro u
      refine (rd_of_besides (kept := [.obj 0x0D01]) (aside_releaseLists _ _ (by simp)) (by simp)).trans ?_
      exact proj_foldl_of_keep (rd · Reg.SWAP_STATE) (fun s g => rd_wr_ne _ _ (by simp)) u
    rw [hend, rd_wr_self]

theorem triggerSwap_cases (s : State) :
    triggerSwap s = s ∨ ∃ cleared u, triggerSwap s = applySwap cleared u := by
  unfold triggerSwap
  extract_lets g d
  split
  · split
    · exact .inr ⟨_, _, rfl⟩
    · exact .inr ⟨_, _, rfl⟩
  · exact .inl rfl

theorem rd_mirrorChanges (before after : State) {a : Addr} (ha : a.obj ≠ 0x0D05) :
    rd (mirrorChanges before after) a = rd after a :=
  rd_of_besides (kept := [.obj a.obj]) (aside_mirrorChanges _ _ (by simp [ha.symm])) (by simp)

theorem rd_routeTraces (s : State) {a : Addr} (ha : a.obj = 0x0D01) : rd (routeTraces s) a = rd s a :=
  rd_of_besides (kept := [.obj 0x0D01]) (aside_routeTraces _ (by simp) (by simp) (by simp) (by simp)) (by simp [ha])

/-- A command's end that leaves no mark of a swap leaves the flits of every port. -/
theorem flitsKept_concluded {p : Nat} {before after : State} (hstate : rd (concluded before after) Reg.SWAP_STATE = 0)
    (herror : rd (concluded before after) Reg.SWAP_ERROR = 0) :
    flitsKept p (concluded before after) = flitsKept p after := by
  unfold concluded at hstate herror ⊢
  rw [rd_mirrorChanges _ _ (by simp)] at hstate herror
  have hmirror : flitsKept p (mirrorChanges before (triggerSwap (routeTraces after))) =
      flitsKept p (triggerSwap (routeTraces after)) :=
    flitsKept_of_beside (beside_of_links (links_of_aside (P := besides [.links]) (by simp) (by simp)))
  have hidle : triggerSwap (routeTraces after) = routeTraces after := by
    obtain hnone | ⟨cleared, u, hswap⟩ := triggerSwap_cases (routeTraces after)
    · exact hnone
    · have hmarks := applySwap_marks cleared u
      rw [← hswap, hstate, herror] at hmarks
      omega
  rw [hmirror, hidle]
  exact flitsKept_of_beside (beside_routeTraces after)

theorem rd_concluded_idle {before after : State} (hstate : rd after Reg.SWAP_STATE = 0) {a : Addr}
    (ha : a.obj = 0x0D01) :
    rd (concluded before after) a = rd after a := by
  have hroute : rd (routeTraces after) Reg.SWAP_STATE ≠ 2 := by rw [rd_routeTraces _ rfl, hstate]; decide
  unfold concluded
  rw [rd_mirrorChanges _ _ (by rw [ha]; decide), triggerSwap_eq_self (.inl hroute), rd_routeTraces _ ha]

end Sys2Proof.Machine

/-! # What O14 turns on: whether a copy of a frame may be made

`Config.mirrorOverRate` is a parameter of the model (log entry 23). Clause 4 of O14 holds where it refuses every copy,
and fails where it admits one: the copy takes a number that the port's list of frames in the course of being sent
already names, and the flit is made of other blocks than were counted for it. -/

namespace Sys2Proof.Machine

/-! ## The copy that replaces a frame -/

/-- A frame of one block, its header. -/
def oneBlock : Frame := { whole := true }

/-- A port whose two frames are both about to begin, the first one mirrored, and the next new frame to take the
second one's number. -/
def twoFrames (n : Nat) : State :=
  { wr (wr State.reset (Reg.PORT_STATE 0) 5) (Reg.MIRROR_TYPE 0) 2 with
    frames := [(n, oneBlock), (n + 1, oneBlock)], nextFrame := n,
    links := [(0, { sending := [⟨n + 1, 0⟩, ⟨n, 0⟩] })] }

theorem rd_twoFrames (n : Nat) (a : Addr) :
    rd (twoFrames n) a = if a = Reg.MIRROR_TYPE 0 then 2 else if a = Reg.PORT_STATE 0 then 5 else regDefault a := by
  change rd (wr (wr State.reset (Reg.PORT_STATE 0) 5) (Reg.MIRROR_TYPE 0) 2) a = _
  rw [rd_wr, rd_wr]
  rfl

theorem chordHeld_of_none {s : State} (h : s.light.chords = []) : chordHeld s 0 = false := by
  unfold chordHeld
  rw [List.any_eq_false]
  intro c _
  unfold chordOf
  rw [h]
  change ¬ ofChord {} 0 = true
  decide

theorem gather_oneBlock {s : State} {id : Nat} (h : findFrame s id = some oneBlock) (rest : List Sending) (room : Nat)
    (acc : List Block) (fst : Nat) (done : List Sending) :
    gather s (⟨id, 0⟩ :: rest) (room + 1) acc fst done =
      gather s rest room (acc ++ [0]) (if fst = 63 then acc.length else fst) (⟨id, 1⟩ :: done) := by
  rw [gather, h]
  simp [oneBlock, linkBlocks, hdrLen, field]

theorem gather_missing {s : State} {e : Sending} (h : findFrame s e.frame = none) (rest : List Sending) (room : Nat)
    (acc : List Block) (fst : Nat) (done : List Sending) :
    gather s (e :: rest) room acc fst done = gather s rest room acc fst done := by
  rw [gather, h]

/-- A copy whose rate is not exceeded is a new frame, looked up. -/
theorem mirrorCopy_made {s : State} {i p id : Nat} {f : Frame} {h : Block} {ten : Nat} (hmirr : hdrMirr h ≠ 1)
    (hchord : chordHeld s p = false) (hten : ten = rd s (Reg.MIRROR_C_TEN i))
    (hover : Config.mirrorOverRate s.nextFrame = false) :
    ∃ u g, mirrorCopy s i 1 p id f h ten = lookup (newFrame u g).1 s.nextFrame ∧ RegsOnly s u ∧
      (∀ a : Addr, a.obj = 0x0600 → rd u a = rd s a) ∧ g.stamp = s.sets.stamp ∧ g.place = .staging ∧ g.mirror = i := by
  unfold mirrorCopy
  extract_lets cten facet olen n d blocks hdr s1 s2 r
  have hregs : RegsOnly s s2 :=
    (RegsOnly.inc ..).trans ((regsOnly_countIn ..).trans (regsOnly_countIn ..))
  rw [if_neg (by simp [hmirr, hchord]), if_neg (by simp [hten, cten]), if_neg (by simp [hover])]
  have hdst : ∀ a : Addr, a.obj = 0x0600 → rd s2 a = rd s a := fun a ha =>
    rd_of_besides (kept := [.obj 0x0600]) (by simp [s2, s1]) (by simp [ha])
  clear_value s2
  obtain ⟨g, hr, hstamp, hplace, hmirror⟩ :
      ∃ g : Frame, r = newFrame s2 g ∧ g.stamp = s2.sets.stamp ∧ g.place = .staging ∧ g.mirror = i :=
    ⟨_, rfl, rfl, rfl, rfl⟩
  refine ⟨s2, g, ?_, hregs, hdst, ?_, hplace, hmirror⟩
  · have hid : r.2 = s.nextFrame := hregs.nextFrame
    rw [hid, hr]
  · rw [hstamp]
    obtain ⟨x, hx⟩ := hregs
    rw [hx]

theorem findFrame_newFrame_eq (s : State) (f : Frame) (j : Nat) :
    findFrame (newFrame s f).1 j = if j = s.nextFrame then some f else findFrame s j :=
  Tab.find_set s.frames s.nextFrame j f

theorem removeFrame_staging {s : State} {id : Nat} {f : Frame} (hf : findFrame s id = some f)
    (hplace : f.place = .staging) (hmirror : f.mirror ≠ 0xFF) :
    removeFrame s id = delFrame (freeCredits s f) id := by
  unfold removeFrame
  rw [hf]
  simp [hplace, hmirror]

/-- A frame whose destination has no action is dropped, and no other frame with it. -/
theorem lookup_dropped {s : State} {id : Nat} {f : Frame} (hf : findFrame s id = some f)
    (hstamp : f.stamp = s.sets.stamp) (haction : ∀ d, rd s (Reg.DEST_ACTION d) = 0) (hplace : f.place = .staging)
    (hmirror : f.mirror ≠ 0xFF) :
    findFrame (lookup s id) id = none ∧ ∀ j, j ≠ id → findFrame (lookup s id) j = findFrame s j := by
  have hdrop : lookup s id = removeFrame (discardIn s f 0x12 f.hdr) id := by
    unfold lookup dropIn
    rw [hf]
    dsimp only
    rw [if_pos (.inl (by rw [cfgAt, if_pos hstamp, haction]))]
  have hdiscard : (discardIn s f 0x12 f.hdr).frames = s.frames := by
    generalize 0x12 = why
    unfold discardIn
    split
    · exact (regsOnly_discardAt ..).frames
    · exact (regsOnly_countIn ..).frames
  rw [hdrop]
  refine ⟨findFrame_removeFrame_self .., fun j hj => ?_⟩
  generalize discardIn s f 0x12 f.hdr = u at hdiscard ⊢
  have hcredits : (freeCredits u f).frames = u.frames := by
    unfold freeCredits
    split <;> rfl
  rw [removeFrame_staging ((findFrame_congr hdiscard id).trans hf) hplace hmirror, findFrame_delFrame, if_neg hj,
    findFrame_congr (hcredits.trans hdiscard)]

/-! ## What the two frames' slot gathers -/

section
variable {n : Nat}

/-- The state in which the first frame is mirrored. -/
def mirroredAt (n : Nat) : State := firstCounted (stampOffset (slotPaced 0 1 (twoFrames n)) (n + 1)) 0 oneBlock

theorem slotPaced_twoFrames (n : Nat) : slotPaced 0 1 (twoFrames n) = slotBegun 0 1 (twoFrames n) :=
  slotBegun_eq (show 0 + 223 * 8192 < 1184033 * 64 by decide)

theorem findFrame_twoFrames (n : Nat) : findFrame (twoFrames n) n = some oneBlock ∧
    findFrame (twoFrames n) (n + 1) = some oneBlock := by
  constructor <;> simp [findFrame, Tab.find, twoFrames]

theorem findFrame_stampOffset_oneBlock {s : State} {id j : Nat} (h : findFrame s id = some oneBlock) :
    findFrame (stampOffset s id) j = findFrame s j := by
  unfold stampOffset
  rw [findFrame_modFrame]
  split
  · next hj =>
    subst hj
    rw [h]
    rfl
  · rfl

theorem mirroredAt_frames (n : Nat) (j : Nat) : findFrame (mirroredAt n) j = findFrame (twoFrames n) j := by
  unfold mirroredAt
  rw [findFrame_congr (regsOnly_firstCounted ..).frames, slotPaced_twoFrames,
    findFrame_stampOffset_oneBlock (s := slotBegun 0 1 (twoFrames n)) (findFrame_twoFrames n).2]
  rfl

theorem firstBlockSent_twoFrames (n : Nat) :
    firstBlockSent (slotPaced 0 1 (twoFrames n)) 0 (n + 1) = mirrorEgress (mirroredAt n) (n + 1) 0 0 := by
  refine firstBlockSent_eq ?_
  rw [slotPaced_twoFrames, findFrame_stampOffset_oneBlock (s := slotBegun 0 1 (twoFrames n)) (findFrame_twoFrames n).2]
  exact (findFrame_twoFrames n).2

theorem mirroredAt_kept (n : Nat) : (mirroredAt n).nextFrame = n ∧ (mirroredAt n).light.chords = [] ∧
    (mirroredAt n).sets.stamp = (twoFrames n).sets.stamp := by
  have hstamp : ∀ s id, (stampOffset s id).nextFrame = s.nextFrame ∧ (stampOffset s id).light = s.light ∧
      (stampOffset s id).sets = s.sets := by
    intro s id
    unfold stampOffset modFrame
    split <;> exact ⟨rfl, rfl, rfl⟩
  obtain ⟨hnext, hlight, hsets⟩ := hstamp (slotPaced 0 1 (twoFrames n)) (n + 1)
  obtain ⟨r, hr⟩ := regsOnly_firstCounted (stampOffset (slotPaced 0 1 (twoFrames n)) (n + 1)) 0 oneBlock
  rw [slotPaced_twoFrames] at hnext hlight hsets hr
  unfold mirroredAt
  rw [slotPaced_twoFrames, hr]
  exact ⟨hnext, congrArg Light.chords hlight, congrArg Sets.stamp hsets⟩

theorem rd_mirroredAt {a : Addr} (ha : a.obj = 0x0600 ∨ a.obj = 0x0705) :
    rd (mirroredAt n) a = rd (twoFrames n) a := by
  have haside : aside (besides [.obj 0x0600, .obj 0x0705]) (mirroredAt n) =
      aside (besides [.obj 0x0600, .obj 0x0705]) (twoFrames n) := by
    unfold mirroredAt firstCounted slotPaced
    dsimp only
    (repeat' split) <;> simp
  exact rd_of_besides haside (by rcases ha with h | h <;> simp [h])

theorem mirrorEgress_mirroredAt :
    mirrorEgress (mirroredAt n) (n + 1) 0 0 = mirrorCopy (mirroredAt n) 0 1 0 (n + 1) oneBlock 0 0 := by
  have hsessions : (List.range 16).filter (fun i => decide (rd (mirroredAt n) (Reg.MIRROR_TYPE i) = 2) &&
      decide (rd (mirroredAt n) (Reg.MIRROR_PORT i) = 0)) = [0] := by
    have htest : ∀ i, (decide (rd (mirroredAt n) (Reg.MIRROR_TYPE i) = 2) &&
        decide (rd (mirroredAt n) (Reg.MIRROR_PORT i) = 0)) = decide (i = 0) := by
      intro i
      rw [rd_mirroredAt (.inr rfl), rd_mirroredAt (.inr rfl), rd_twoFrames, rd_twoFrames]
      by_cases hi : i = 0 <;> simp [hi, regDefault]
    simp only [htest]
    decide
  unfold mirrorEgress mirrorAt
  rw [mirroredAt_frames, (findFrame_twoFrames n).2]
  dsimp only
  rw [hsessions, List.foldl_cons, List.foldl_nil, show hdrTen 0 = 0 by decide]

/-- The copy takes the second frame's number, and is dropped with it. -/
theorem firstBlock_twoFrames (hover : Config.mirrorOverRate n = false) :
    findFrame (firstBlock 0 (slotPaced 0 1 (twoFrames n)) ⟨n + 1, 0⟩) n = none ∧
      findFrame (firstBlock 0 (slotPaced 0 1 (twoFrames n)) ⟨n + 1, 0⟩) (n + 1) = some oneBlock := by
  obtain ⟨hnext, hchords, -⟩ := mirroredAt_kept n
  obtain ⟨u, g, hcopy, hregs, hdst, hstamp, hplace, hmirror⟩ := mirrorCopy_made (s := mirroredAt n) (i := 0) (p := 0)
    (id := n + 1) (f := oneBlock) (h := 0) (ten := 0) (by decide) (chordHeld_of_none hchords)
    (by rw [rd_mirroredAt (.inr rfl), rd_twoFrames]; simp [regDefault]) (by rw [hnext]; exact hover)
  rw [hnext] at hcopy
  have hnew : ∀ j, findFrame (newFrame u g).1 j = if j = n then some g else findFrame u j := by
    intro j
    have hid : u.nextFrame = n := hregs.nextFrame.trans hnext
    rw [findFrame_newFrame_eq, hid]
  have hstampNew : g.stamp = (newFrame u g).1.sets.stamp := by
    have hsets : u.sets = (mirroredAt n).sets := by
      obtain ⟨r, hr⟩ := hregs
      rw [hr]
    exact hstamp.trans (congrArg Sets.stamp hsets.symm)
  have haction : ∀ d, rd (newFrame u g).1 (Reg.DEST_ACTION d) = 0 := by
    intro d
    refine (hdst _ rfl).trans ?_
    rw [rd_mirroredAt (.inl rfl), rd_twoFrames]
    simp [regDefault]
  obtain ⟨hgone, hkept⟩ := lookup_dropped ((hnew n).trans (if_pos rfl)) hstampNew haction hplace
    (by rw [hmirror]; decide)
  have hsent : ∀ j, findFrame (firstBlock 0 (slotPaced 0 1 (twoFrames n)) ⟨n + 1, 0⟩) j =
      findFrame (lookup (newFrame u g).1 n) j := by
    intro j
    rw [findFrame_congr (frames_firstBlock ..), firstBlockSent_twoFrames, mirrorEgress_mirroredAt, hcopy]
  refine ⟨(hsent n).trans hgone, ?_⟩
  rw [hsent, hkept _ (Nat.succ_ne_self n), hnew, if_neg (Nat.succ_ne_self n), findFrame_congr hregs.frames,
    mirroredAt_frames]
  exact (findFrame_twoFrames n).2

theorem starting_twoFrames : starting (slotPaced 0 1 (twoFrames n)) [⟨n + 1, 0⟩, ⟨n, 0⟩] = [⟨n + 1, 0⟩, ⟨n, 0⟩] := by
  have hfind : ∀ j, findFrame (slotPaced 0 1 (twoFrames n)) j = findFrame (twoFrames n) j := by
    intro j
    rw [slotPaced_twoFrames]
    rfl
  unfold starting
  rw [gather_oneBlock ((hfind _).trans (findFrame_twoFrames n).2),
    gather_oneBlock ((hfind _).trans (findFrame_twoFrames n).1)]
  simp [gather]

/-- Two blocks are counted for the flit, and one is left to be sent in it. -/
theorem gather_twoFrames (hover : Config.mirrorOverRate n = false) :
    (gather (twoFrames n) [⟨n + 1, 0⟩, ⟨n, 0⟩] 63 [] 63 []).1 = [0, 0] ∧
      (gather (framesBegun 0 (slotPaced 0 1 (twoFrames n))) [⟨n + 1, 0⟩, ⟨n, 0⟩] 63 [] 63 []).1 = [0] := by
  obtain ⟨hgone, hfirst⟩ := firstBlock_twoFrames hover
  constructor
  · rw [gather_oneBlock (findFrame_twoFrames n).2, gather_oneBlock (findFrame_twoFrames n).1]
    simp [gather]
  · have hsending : (link (slotPaced 0 1 (twoFrames n)) 0).sending = [⟨n + 1, 0⟩, ⟨n, 0⟩] := by
      obtain ⟨-, -, d, y, hlink⟩ := slotPaced_kept 0 1 (twoFrames n)
      rw [hlink]
      rfl
    unfold framesBegun
    rw [hsending, starting_twoFrames]
    rw [List.foldl_cons, List.foldl_cons, List.foldl_nil]
    generalize firstBlock 0 (slotPaced 0 1 (twoFrames n)) ⟨n + 1, 0⟩ = u at hgone hfirst
    have hstamp : ∀ j, findFrame (stampOffset u n) j = findFrame u j := by
      intro j
      unfold stampOffset
      rw [findFrame_modFrame]
      split
      · next hj => rw [hj, hgone]; rfl
      · rfl
    have hlast : ∀ j, findFrame (firstBlock 0 u ⟨n, 0⟩) j = findFrame u j := by
      intro j
      rw [findFrame_congr (frames_firstBlock ..), firstBlockSent_none ((hstamp n).trans hgone), hstamp]
    rw [gather_oneBlock ((hlast _).trans hfirst), gather_missing ((hlast _).trans hgone)]
    rfl

/-- With no swap in hand, a slot leaves none (O14). -/
theorem rd_doFlitSlot {p : Nat} {s : State} (hstate : rd s (Reg.PORT_STATE p) = 5) (hslots : (link s p).slots < 16)
    {a : Addr} (ha : a.obj = 0x0D01) : rd (doFlitSlot p false s) a = rd s a := by
  have haside : aside (besides [.obj 0x0D01]) (doFlitSlot p false s) = aside (besides [.obj 0x0D01]) s := by
    rw [doFlitSlot_data hstate hslots]
    simp [slotPaced]
  exact rd_of_besides haside (by simp [ha])

/-- A copy that may be made takes the place of a frame that a DATA flit is to hold: the flit has 62 blocks. -/
theorem mirrorOverRate_of_flitsSent (h : Obligations.FlitsSent) (n : Nat) : Config.mirrorOverRate n = true := by
  by_contra hfalse
  have hover : Config.mirrorOverRate n = false := by simpa using hfalse
  obtain ⟨-, -, -, hdata, -⟩ := h
  have hstate : rd (twoFrames n) (Reg.PORT_STATE 0) = 5 := by rw [rd_twoFrames]; simp
  obtain ⟨hbefore, hafter⟩ := gather_twoFrames hover
  have hg : (gather (twoFrames n) (link (twoFrames n) 0).sending 63 [] 63 []).1 ≠ [] := by
    rw [show (link (twoFrames n) 0).sending = [⟨n + 1, 0⟩, ⟨n, 0⟩] from rfl, hbefore]
    simp
  have hslots : (link (twoFrames n) 0).slots < 16 := show 0 < 16 by decide
  have hsleep : (link (twoFrames n) 0).sleep ≠ .settling := show SleepState.none ≠ SleepState.settling by decide
  have hretry : (link (twoFrames n) 0).retry.length < 96 := show 0 < 96 by decide
  obtain ⟨f', -, -, -, hlength', hkept'⟩ := doFlitSlot_sent hstate hslots hsleep rfl hretry hg
  obtain ⟨t, f, hexec, -, -, -, hlength, hretryT, -⟩ := hdata 0 (twoFrames n) hstate hslots hsleep rfl rfl hretry hg
  have hsame : concluded (twoFrames n) t = concluded (twoFrames n) (doFlitSlot 0 false (twoFrames n)) :=
    (Host.Outcome.next.inj hexec).symm
  have hswap : ∀ a : Addr, a.obj = 0x0D01 → rd (doFlitSlot 0 false (twoFrames n)) a = rd (twoFrames n) a := fun a ha =>
    rd_doFlitSlot hstate hslots ha
  have hswapState : rd (twoFrames n) Reg.SWAP_STATE = 0 := by rw [rd_twoFrames]; rfl
  have hswapError : rd (twoFrames n) Reg.SWAP_ERROR = 0 := by rw [rd_twoFrames]; rfl
  have hidle := (hswap _ rfl).trans hswapState
  have hend : flitsKept 0 t = flitsKept 0 (doFlitSlot 0 false (twoFrames n)) := by
    have hzero : ∀ u, concluded (twoFrames n) u = concluded (twoFrames n) (doFlitSlot 0 false (twoFrames n)) →
        flitsKept 0 (concluded (twoFrames n) u) = flitsKept 0 u := by
      intro u hu
      refine flitsKept_concluded ?_ ?_
      · rw [hu, rd_concluded_idle hidle rfl, hidle]
      · rw [hu, rd_concluded_idle hidle rfl, hswap _ rfl, hswapError]
    rw [← hzero t hsame, ← hzero _ rfl, hsame]
  have hretries : (link t 0).retry = [f'] := (Prod.mk.inj (hend.trans hkept')).1
  have hff : f = f' := by
    have hone : [f] = [f'] := hretryT.symm.trans hretries
    simpa using hone
  rw [← hff, show (link (twoFrames n) 0).sending = [⟨n + 1, 0⟩, ⟨n, 0⟩] from rfl, hbefore] at hlength'
  rw [show (link (twoFrames n) 0).slots + 1 = 1 from rfl, hafter, hlength] at hlength'
  simp at hlength'

end

/-- O14 says of the model just what it asks of a parameter: that no copy of a frame is within its facet's copy rate.
The model leaves the parameter open, so neither O14 nor its negation follows. -/
theorem flitsSent_iff : Obligations.FlitsSent ↔ ∀ n, Config.mirrorOverRate n = true :=
  ⟨mirrorOverRate_of_flitsSent, flitsSent_of_mirrorOverRate⟩

end Sys2Proof.Machine
